-- ==== Sys2Proof/Word.lean ====
section
/-! DEFINITION. The smallest data the block carries: bytes, and the fixed unit numbers of the device. -/

namespace Sys2Proof

/-- One byte of a record, a memory or a frame (00 R5: little-endian, bit 0 least significant). -/
abbrev Byte := BitVec 8

/-- An axis, feedback port or command port number, 0 to 47 (00 R4, 03 R88, 04 R142). -/
abbrev Axis := Fin 48

/-- A motion group number, 0 to 7 (06 R225). -/
abbrev Group := Fin 8

/-- An event channel number, 0 to 31 (07 R274). -/
abbrev Channel := Fin 32

/-- A compare or capture unit of one port, 0 to 15 (07 R279, R292). -/
abbrev Unit16 := Fin 16

end Sys2Proof
end

