-- ==== Sys2Proof/Syntax.lean ====
section
/-! DEFINITION. The commands of the block: one constructor of Instr per row of spec/opcode_table.json, with the
operands that the rule of the row names. What the world does to the block (a level, a sample, a frame, an instant)
stands in operands. -/

namespace Sys2Proof

/-- A host path (02 R43), numbered as in STAGE_OWNER (02 R75), or the factory test port (17 R604, 18 R646). -/
inductive Path where
  | hpi | fn | can0 | can1 | test
deriving DecidableEq, Repr

/-- How a request came: over SDO or CoE, as a tagged record, or as process data (02 R44, R65, R73, R74). -/
inductive Origin where
  | sdo
  | tag (t : Fin 256)
  | pdo
deriving DecidableEq, Repr

/-- A host request: its path and how it came. -/
structure Req where
  path : Path
  org : Origin
deriving DecidableEq, Repr

/-- The fields of a request record but OPCODE, which the row names (02 R44). -/
structure Rec where
  tag : Fin 256
  index : BitVec 16
  sub : BitVec 8
  flags : BitVec 8
  length : BitVec 16
  offset : BitVec 32
  check : BitVec 32
  payload : List Byte
deriving DecidableEq, Repr

/-- The functions that have an enable entry by 02 R79. -/
inductive Func where
  | group (g : Group)
  | axis (n : Axis)
  | dma (g : Group)
  | port (p : Fin 8)
  | user
  | reel
  | queue (q : Fin 8)
  | check (k : Fin 8)
  | mirror
  | link
deriving DecidableEq, Repr

/-- The states of the field network (02 R65). -/
inductive AlState where
  | init | preOp | safeOp | op
deriving DecidableEq, Repr

/-- The synchronisation of the field network asked with a state request (02 R65, R69). -/
inductive FnSync where
  | freeRun
  | sm
  | dc (cycleNs : Nat)
deriving DecidableEq, Repr

/-- An SDO or CoE download step (02 R65, R73, R77): a whole value, a start or a segment; by complete access an object's
sub-indices from 0 or 1 on, in one transfer; or a command specifier that the device does not know. -/
inductive SdoDown where
  | whole (index : BitVec 16) (sub : BitVec 8) (data : List Byte)
  | complete (index : BitVec 16) (fromOne : Bool) (data : List Byte)
  | start (index : BitVec 16) (sub : BitVec 8)
  | segment (toggle : Bool) (last : Bool) (data : List Byte)
  | unknown
deriving DecidableEq, Repr

/-- A request of the SDO information service (02 R65): the list of objects, an object, or an entry. -/
inductive SdoInfo where
  | list
  | object (index : BitVec 16)
  | entry (index : BitVec 16) (sub : BitVec 8)
deriving DecidableEq, Repr

/-- An SDO or CoE upload step (02 R65, R73, R77): a whole value, a start or a segment, complete access from sub-index 0 or
1 on, or SDO information. -/
inductive SdoUp where
  | whole (index : BitVec 16) (sub : BitVec 8)
  | complete (index : BitVec 16) (fromOne : Bool)
  | info (q : SdoInfo)
  | start (index : BitVec 16) (sub : BitVec 8)
  | segment (toggle : Bool)
  | unknown
deriving DecidableEq, Repr

/-- An NMT command to a CANopen node (02 R71, R72). -/
inductive NmtCmd where
  | start | stop | preOp | resetNode | resetComm
deriving DecidableEq, Repr

/-- What a CAN FD controller reports (02 R76). -/
inductive CanEvent where
  | overrun | passive | busOffRecovered
deriving DecidableEq, Repr

/-- The two FEEDBACK entries that change the mode of a port (03 R96). -/
inductive FbCfg where
  | mode | dirInvert
deriving DecidableEq, Repr

/-- The two biquads of an engine (05 R187). -/
inductive Bq where
  | one | two
deriving DecidableEq, Repr

/-- The edge that a capture unit sees (07 R292, R293). -/
inductive CapEdge where
  | rising | falling | index
deriving DecidableEq, Repr

/-- Who commands the flash (10 R394). -/
inductive FlashMaster where
  | sc0 | sc1 | sc2 | sc3 | fabric | island
deriving DecidableEq, Repr

/-- Whose protection session it is (10 R413, R417). -/
inductive SessionOf where
  | path (p : Path)
  | master (m : FlashMaster)
deriving DecidableEq, Repr

/-- The two entries of a protected range (11 R441). -/
inductive RangeField where
  | base | size
deriving DecidableEq, Repr

/-- How one read of a DRAM line went: its hallmark verifies, or not, or a beat was uncorrectable (12 R460). -/
inductive LineRead where
  | good | altered | beatError
deriving DecidableEq, Repr

/-- How the read of a protected sector went: its hallmark verifies; no copy does; the copy on one drive of a mirror does;
or the hallmark reads as all zeros (12 R463, R469, R479). -/
inductive SectorRead where
  | good | altered | oneCopy | zeroed
deriving DecidableEq, Repr

/-- Who drives the fabric configuration port (09 R375): a host path, or a region of the fabric. -/
inductive FcpSource where
  | host (r : Req)
  | fabric (region : Fin 16)
deriving DecidableEq, Repr

/-- A memory request of a fabric port (08 R315): its tag, whether it writes, whether it goes to DRAM, the address in units
of 32 bytes, the length less one in the same units, the key index and the bytes of a write; `fault` says whether a
scratchpad word it reads is corrected (1) or has two bad bits (2) (11 R424). -/
structure FabMem where
  tag : Fin 64
  write : Bool
  dram : Bool
  word : BitVec 32
  more : Fin 64
  key : BitVec 8
  data : List Byte
  fault : Fin 3
deriving DecidableEq, Repr

/-- By how much a unit's result in a tick is wrong (05 R216): DEMAND in its LSB, y_I and the outputs of the three filters in
units in the last place, and whether the EN request is wrong. -/
structure UnitErr where
  demand : Int := 0
  en : Bool := false
  yI : Int := 0
  bq1 : Int := 0
  bq2 : Int := 0
  notch : Int := 0
deriving DecidableEq, Repr

/-- What the ECC of a configuration frame finds (08 R326): nothing, one bit, or more. -/
inductive FrameRead where
  | good | single | double
deriving DecidableEq, Repr

/-- An input that counts edges of two tracks: a feedback port, or a length input of the assay island (03 R103; 14 R507). -/
inductive IncInput where
  | port (n : Axis)
  | am (i : Fin 2)
deriving DecidableEq, Repr

/-- What the assay island finds at a start beside its firmware (14 R513, R529, R534): all good, no valid page in the seal
store, a link of the chain that fails at a SEQ, or log flash that cannot be read. -/
inductive IslandCheck where
  | good
  | store
  | chain (seq : BitVec 32)
  | log
deriving DecidableEq, Repr

/-- The entries of a PLL output (15 R548, R551). -/
inductive PllField where
  | div | phase | en
deriving DecidableEq, Repr

/-- An entry of an AXIS frame (15 R561; 19 R663). -/
structure AxisEntry where
  axis : Axis
  servo : Bool
  sp : BitVec 64
deriving DecidableEq, Repr

/-- What a STATUS frame tells of a member (15 R561; 19 R652 to R656). -/
structure StatusFrame where
  id : Fin 8
  uid : BitVec 32
  level : BitVec 16
  done : Bool
  locked : Bool
  eligible : Bool
  rate : BitVec 8
  priority : BitVec 8
  seq : BitVec 16
deriving DecidableEq, Repr

/-- What ends a lower state, beside the RTC alarm and a cell wake (16 R574, R579, R601). -/
inductive WakeSource where
  | pin
  | can (c : Fin 2)
  | hpi
  | reset
deriving DecidableEq, Repr

/-- A block that a test finds failed: its class, unit and index (18 R632, R639). -/
structure Finding where
  cls : BitVec 8
  unit : BitVec 8
  index : BitVec 16
deriving DecidableEq, Repr

/-- The stage of a wake that is ready (16 R580): VCC_AON good, every rail good, the clocks with the crystals that are good,
or the memory stage with the calibration row (10 R392), what the gating part of the roll check has found (18 R634), and
the microseconds since the wake trigger. -/
inductive WakeStage where
  | aon
  | rails
  | clocks (xa xb : Bool)
  | memory (calOk : Bool) (found : List Finding) (wakeTime : BitVec 32)
deriving DecidableEq, Repr

/-- How a PMBus transaction ended, arbitration apart (16 R592, R595). -/
inductive PmbResult where
  | good | nack | pecError
deriving DecidableEq, Repr

/-- The commands. -/
inductive Instr where
  /-- A write to a dictionary entry that has no row of its own is checked in the fixed order and, if accepted, stored with the effect its table gives. (R698) -/
  | objectWrite (r : Req) (index : BitVec 16) (sub : BitVec 8) (data : List Byte)
  /-- A whole request record with OPCODE READ reads one entry and queues a completion with the value. (R44) -/
  | taggedRead (p : Path) (rec : Rec)
  /-- A whole request record with OPCODE WRITE writes one entry and queues a completion with its status. (R44) -/
  | taggedWrite (p : Path) (rec : Rec)
  /-- A whole request record with OPCODE DOMAIN_READ returns up to 4,096 bytes of a DOMAIN from OFFSET. (R44) -/
  | domainRead (p : Path) (rec : Rec)
  /-- A whole request record with OPCODE DOMAIN_WRITE writes payload bytes into a DOMAIN at OFFSET. (R44) -/
  | domainWrite (p : Path) (rec : Rec)
  /-- A CANCEL record cancels a named tag that has not started and completes with 0, 1 or 2. (R51) -/
  | cancel (p : Path) (rec : Rec)
  /-- A read of COMPLETION_PORT removes and returns as many whole completion records as fit in 4,096 bytes. (R53) -/
  | completionPortRead (r : Req)
  /-- A write of the save signature to a STORE sub-index snapshots the chosen range and writes the older store copy. (R39) -/
  | storeParameters (r : Req) (which : Fin 4)
  /-- The store copy is read back and verified, and the store request completes. (R40) -/
  | storeVerified
  /-- A write of the load signature marks the chosen ranges to start on defaults at the next reset. (R41) -/
  | restoreDefaults (r : Req) (which : Fin 4)
  /-- A write of 1 to ERROR_RESET clears the error register and sends emergency 0x0000 on every host path. (R697) -/
  | errorReset (r : Req)
  /-- A write of 1 to a function's enable entry enables it, or joins an enable already running. (R79) -/
  | functionEnable (r : Req) (f : Func)
  /-- A write of 0 to an enable entry refuses new work and lets accepted work complete. (R80) -/
  | functionDisableDrain (r : Req) (f : Func)
  /-- A write of 2 to an enable entry refuses new work and aborts accepted work not yet past its point of no return. (R80) -/
  | functionDisableAbort (r : Req) (f : Func)
  /-- A function reaches state 0, and every disable request waiting on it completes with OK. (R81) -/
  | disableComplete (f : Func)
  /-- RESET# falls and, once qualified, clamps every port and resets the device. (R685) -/
  | resetFall
  /-- RESET# has stayed low long enough to be taken, and the front-end die clamps every port. (R685) -/
  | resetQualified (dt : Nat)
  /-- RESET# rises; every port restarts at step 2 of R166 and the device starts from reset. (R179) -/
  | resetRise
  /-- A word written to HPI_REQ joins the request record being assembled, or is ignored with PROTO_ERR while HPI_RB is busy. (R58) -/
  | hpiReqWrite (w : BitVec 16)
  /-- A read of HPI_CPL removes the next 16-bit word of the output queue, or returns 0xFFFF when empty. (R55) -/
  | hpiCplRead
  /-- HPI_CTRL bit 3 written 1 clears RESET_SEEN. (R57) -/
  | clrResetSeen
  /-- HPI_CTRL bit 2 written 1 clears PROTO_ERR. (R57) -/
  | clrProtoErr
  /-- HPI_CTRL bit 1 written 1 discards a partly written request record. (R59) -/
  | abortRecord
  /-- HPI_CTRL bit 0 enables or disables attention pulses on HPI_RB. (R57) -/
  | attnEnWrite (on : Bool)
  /-- A request record left incomplete for 10 ms is discarded and PROTO_ERR is set. (R59) -/
  | hpiRecordTimeout
  /-- After the queue went non-empty and HPI_RB has been ready for 100 ns, one low pulse of 200 to 400 ns is sent. (R62) -/
  | hpiAttentionPulse
  /-- A field-network state request moves the SubDevice between INIT, PRE-OP, SAFE-OP and OP, refusing SAFE-OP when the SYNC0 cycle does not match. (R65) -/
  | escStateChange (goal : AlState) (sync : FnSync)
  /-- An RxPDO frame ends and its set-points, overrides, targets and arms move to their entries for the coming tick. (R296) -/
  | processDataFrame (image : List Byte)
  /-- At T + 4.0 µs the TxPDO image of the tick is frozen for the next frame. (R296) -/
  | txpdoFreeze
  /-- Process data missing for two ticks in OP is a loss of set-point source, with emergency 0xFF24. (R70) -/
  | processDataLoss
  /-- An SDO or CoE download writes an entry, as expedited, normal or segmented transfer. (R73) -/
  | sdoDownload (p : Path) (d : SdoDown)
  /-- An SDO or CoE upload returns an entry's value. (R73) -/
  | sdoUpload (p : Path) (u : SdoUp)
  /-- A segmented SDO transfer left unfinished ends with abort 0x05040000. (R77) -/
  | sdoTimeout (p : Path)
  /-- An NMT command changes the CANopen node's state; reset communication applies a new node ID. (R71) -/
  | nmtCommand (c : Fin 2) (cmd : NmtCmd)
  /-- A SYNC frame received by a CAN FD node triggers its synchronous PDOs. (R71) -/
  | canSync (c : Fin 2)
  /-- A received CAN FD PDO writes its mapped entries as class C2 object writes. (R74) -/
  | canRpdo (c : Fin 2) (k : Fin 8) (data : List Byte)
  /-- A consumed heartbeat fails to arrive in time and emergency 0x8130 is raised. (R76) -/
  | heartbeatTimeout (c : Fin 2)
  /-- A 32-byte challenge written to 0x2008:01 starts an attestation signature for that path. (R85) -/
  | attestChallenge (r : Req) (data : List Byte)
  /-- The attestation signature is ready; the response is stored, the counter advances and the challenge write completes. (R85) -/
  | attestResponseReady (p : Path)
  /-- A 128-bit flit arrives at the die bridge and is checked by its CRC. (R10) -/
  | bridgeFlit (crcGood : Bool)
  /-- Sixteen consecutive failed replays of one flit declare the bridge down, and the logic die enters SAFE state. (R12) -/
  | bridgeDown
  /-- An enabled CM port has applied no received update by I + 2P and clamps with CLAMP_CAUSE 4. (R13) -/
  | commandWatchdogExpiry (n : Axis)
  /-- A tick latches all feedback ports, publishes captures and starts the fixed order of the tick. (R21) -/
  | servoTick (t : Nat)
  /-- At T + 1.0 µs engines sample set-points, corrections and overrides and compute their loops; the path engine plans tick k+1. (R21) -/
  | setpointSampleInstant (faults : List (Nat × UnitErr))
  /-- At T + 5.0 µs every DAC and step generator takes its new value and EN changes take effect. (R21) -/
  | outputInstant
  /-- A write to TICK_SOURCE selects the internal generator or starts waiting to join an external source. (R699) -/
  | tickSourceWrite (r : Req) (v : BitVec 8)
  /-- Once the source delivered two ticks and no group moves and no ENABLE is active, the device follows it. (R699) -/
  | tickSourceJoin
  /-- A joined external source misses two ticks; the internal generator continues and emergency 0xFF01 is raised. (R20) -/
  | tickHoldover
  /-- A write of MODE or DIR_INVERT clears VALID and HOMED and enters the new mode at the next tick. (R96) -/
  | feedbackModeWrite (r : Req) (n : Axis) (e : FbCfg) (v : BitVec 8)
  /-- A write to feedback CLEAR clears at the next tick each flag whose condition is absent. (R131) -/
  | feedbackClear (r : Req) (n : Axis)
  /-- An edge of track A or B, after deglitch, counts up or down and is checked for QUAD and OVERSPEED. (R103) -/
  | incEdge (i : IncInput) (a b fast : Bool)
  /-- A gated index is checked against INDEX_DIST and may serve as a reference event. (R106) -/
  | indexPulse (n : Axis)
  /-- A sin/cos converter sample is corrected and interpolated into POS64, with quadrant and amplitude checks. (R108) -/
  | scSample (n : Axis) (a b : Int) (quarters : Int) (freq : Nat) (mark : Int)
  /-- The resolver tracking converter updates its angle and checks tracking, amplitude and speed. (R115) -/
  | resTrackerUpdate (n : Axis) (angle : BitVec 24) (err : Nat) (radius : Nat) (fullScale : Bool) (speed : Nat) (excLimit : Bool)
  /-- After 32 excitation periods of small tracking error LOCKED is set. (R119) -/
  | resLocked (n : Axis)
  /-- A write of 1 to PHASE_LEARN starts a 64-period measurement of the carrier phase. (R121) -/
  | phaseLearn (r : Req) (n : Axis)
  /-- The 64 periods end and EXC_PHASE is set, or the request aborts if RADIUS fell too low. (R121) -/
  | phaseLearnDone (n : Axis) (phase : BitVec 16)
  /-- The latch edge of an SSI frame falls at a tick or when the previous monoflop ends. (R124) -/
  | ssiFrameStart (n : Axis) (t : Nat) (dataHigh : Bool)
  /-- An SSI frame is decoded and accepted, or discarded on SSI_FRAME, PARITY or JUMP. (R127) -/
  | ssiFrameEnd (n : Axis) (bits : Nat) (delay : Nat) (returned : Bool)
  /-- A pair reads below 200 mV differential for 2 µs and WIRE is set. (R130) -/
  | wireFault (i : IncInput) (present : Bool)
  /-- A write to REF_ARM arms or disarms the port's reference latch. (R137) -/
  | refArm (r : Req) (n : Axis) (arm : Bool)
  /-- With REF_AUTO 1, POS_ORIGIN is set from the latch at the first tick at which the group is at rest. (R137) -/
  | refOriginApply (n : Axis)
  /-- A write to POS_ORIGIN shifts user coordinates at the next tick and sets HOMED. (R135) -/
  | posOriginWrite (r : Req) (n : Axis) (v : BitVec 64)
  /-- An accepted RANGE write ramps AOUT to 0 V with RANGE_BUSY set. (R169) -/
  | rangeChange (r : Req) (n : Axis) (v : BitVec 8)
  /-- AOUT reaches 0 V; the clamp closes and the range network switches. (R169) -/
  | rangeRampDone (n : Axis)
  /-- The 20 µs wait ends and the clamp opens at the new zero code. (R169) -/
  | rangeSettleDone (n : Axis)
  /-- A write of 1 to CLAMP_RELEASE opens a port clamp from the command watchdog or FAULT. (R177) -/
  | clampRelease (r : Req) (n : Axis)
  /-- A write to the command port CLEAR clears its sticky flags. (R161) -/
  | cmStatusClear (r : Req) (n : Axis)
  /-- ENABLE_SETTLE runs out after EN rose; SETTLED is set and the port follows DEMAND. (R157) -/
  | enableSettled (n : Axis)
  /-- The FLT ball changes level and starts the fault filter. (R158) -/
  | faultInputEdge (n : Axis) (level : Bool)
  /-- A fault level held for FAULT_FILTER sets FAULT, raises 0xFF21 and clamps by FAULT_ACTION. (R158) -/
  | faultQualified (n : Axis) (dt : Nat)
  /-- 10 µs after the output instant the AO voltage is compared with the code and AOUT_CHECK may be set. (R163) -/
  | aoutReadback (n : Axis) (microvolts : Int)
  /-- VCC_ANA18 and VCC_ANA50 both become good and the ports are driven at the BIP zero code with EN low. (R166) -/
  | analogRailsGood
  /-- VCC_ANA50 falls out of range; every clamp closes with cause 8 and every engine is disabled. (R167) -/
  | ana50Loss (dt : Nat)
  /-- VCC_ANA50 has been in range for 1 ms and every port restarts at step 2 of R166. (R167) -/
  | ana50Restored
  /-- SAFE_STOP# crosses 0.8 V going down and starts qualification. (R174) -/
  | safeStopFall
  /-- A qualified SAFE_STOP# low clamps every port within 1 µs and gates event outputs. (R174) -/
  | safeStopQualified (dt : Nat)
  /-- SAFE_STOP# goes high and the 1 ms release condition starts. (R176) -/
  | safeStopRise
  /-- Both release conditions have held for 1 ms and SAFE_STOP_STATE becomes 2. (R176) -/
  | safeStopReleasable
  /-- A write of 1 to SAFE_STOP_RELEASE opens the device-wide clamp. (R176) -/
  | safeStopRelease (r : Req)
  /-- SC3 has not served the watchdog for 5 ms, and every port is clamped. (R644) -/
  | deviceWatchdogExpiry (dt : Nat)
  /-- A new servo rate takes effect at a tick boundary, bypasses the biquads and redesigns the notches. (R181) -/
  | servoRateWrite (r : Req) (v : BitVec 8)
  /-- A write of 1 to AXIS_ENABLE drives EN high and closes the loop on the present position after settling. (R200) -/
  | axisEnable (r : Req) (n : Axis)
  /-- A drain-form axis disable waits for the set-point to rest and then disables. (R201) -/
  | axisDisableDrain (r : Req) (n : Axis)
  /-- An abort-form axis disable enters hold and disables when the set-point is at rest. (R201) -/
  | axisDisableAbort (r : Req) (n : Axis)
  /-- DISABLE_DELAY runs out; DEMAND becomes 0, EN falls and the axis reads disabled. (R203) -/
  | disableDelayEnd (n : Axis)
  /-- A write of 1 to a biquad ENABLE commits its staged coefficients from the next tick. (R187) -/
  | biquadCommit (r : Req) (n : Axis) (q : Bq)
  /-- A write of 0 to a biquad ENABLE bypasses it and clears its history. (R187) -/
  | biquadBypass (r : Req) (n : Axis) (q : Bq)
  /-- A write of 1 to NOTCH_ENABLE designs and commits the notch from CENTRE, WIDTH and DEPTH. (R188) -/
  | notchCommit (r : Req) (n : Axis)
  /-- A write of 0 to NOTCH_ENABLE bypasses the notch. (R188) -/
  | notchBypass (r : Req) (n : Axis)
  /-- The following error exceeds FE_LIMIT for FE_TIME ticks; FE_FAULT is set and FE_ACTION applies. (R196) -/
  | feFault (n : Axis)
  /-- A set-point missing for two ticks enters hold with SOURCE_LOST and emergency 0xFF28. (R206) -/
  | sourceLost (n : Axis)
  /-- A write to SOURCE applies at once on a disabled axis or sets JOIN_PENDING on an enabled one. (R207) -/
  | sourceWrite (r : Req) (n : Axis) (v : BitVec 8)
  /-- The new source's set-point lies within JOIN_WINDOW of the held one and the engine follows it. (R207) -/
  | sourceJoin (n : Axis)
  /-- Fabric DEMAND missing for two ticks switches the engine to FALLBACK_LOOP with emergency 0xFF2B. (R212) -/
  | fabricDemandLost (n : Axis)
  /-- A write of 1 to the engine CLEAR clears its sticky flags on a disabled axis. (R213) -/
  | engineClear (r : Req) (n : Axis)
  /-- A write of 1 to GROUP_ENABLE claims the queue bank and enables the group. (R233) -/
  | groupEnable (r : Req) (g : Group)
  /-- A drain-form group disable runs every accepted segment to its end. (R233) -/
  | groupDisableDrain (r : Req) (g : Group)
  /-- An abort-form group disable makes a controlled stop and flushes with ABORTED_BY_DISABLE. (R233) -/
  | groupDisableAbort (r : Req) (g : Group)
  /-- STOP 1 decelerates the group on the path within its limits. (R267) -/
  | controlledStop (r : Req) (g : Group)
  /-- STOP 2 decelerates the group on the path at QUICK_DECEL and QUICK_JERK. (R267) -/
  | quickStop (r : Req) (g : Group)
  /-- A stopping group reaches rest, flushes its unfinished segments and enters its end state. (R269) -/
  | stopComplete (g : Group)
  /-- A write of 1 to ACK_FAULT returns a group from state 6 to state 1. (R234) -/
  | ackFault (r : Req) (g : Group)
  /-- A write to a segment stream checks its records and appends them to the group queue. (R262) -/
  | segmentWrite (r : Req) (g : Group) (data : List Byte)
  /-- Room appears in the queue within FULL_WAIT and a waiting segment write is appended. (R261) -/
  | queueRoomAppend (g : Group)
  /-- FULL_WAIT runs out without room; the write ends with 0x05040005 and QUEUE_FULL is set. (R261) -/
  | queueFullTimeout (g : Group)
  /-- A dwell's DURATION runs out and the group goes on. (R243) -/
  | dwellEnd (g : Group)
  /-- The condition of a WAIT segment is met and motion resumes. (R245) -/
  | waitMet (g : Group)
  /-- A wait's TIMEOUT runs out and TIMEOUT_ACTION applies. (R251) -/
  | waitTimeout (g : Group)
  /-- A new OVERRIDE is taken in at step 3 and changes the target velocity or enters feed hold at 0. (R266) -/
  | feedOverrideWrite (r : Req) (g : Group) (v : BitVec 16)
  /-- Queue DMA reads records from DRAM as room appears and appends them, stopping on a bad record. (R263) -/
  | queueDmaFetch (g : Group)
  /-- An event ball changes level and, once filtered, changes the channel level. (R278) -/
  | eventInputEdge (k : Channel) (level : Bool)
  /-- The filtered level has held for DEBOUNCE and the debounced output changes. (R278) -/
  | debounceExpiry (k : Channel)
  /-- A write of 1 to ARM commits the staged compare set and arms the unit. (R280) -/
  | compareArm (r : Req) (n : Axis) (u : Unit16)
  /-- A write of 0 to ARM disarms the compare unit. (R280) -/
  | compareDisarm (r : Req) (n : Axis) (u : Unit16)
  /-- An evaluation finds an admitted crossing and the unit fires to its channel, waits and FIRE_COUNT. (R282) -/
  | compareFire (n : Axis) (u : Unit16) (x : Int)
  /-- An event pulse's PULSE_WIDTH runs out and the channel level falls. (R277) -/
  | eventPulseEnd (k : Channel)
  /-- A write of 1 to CAP_ARM arms a capture unit and clears its sticky bits. (R292) -/
  | captureArm (r : Req) (n : Axis) (u : Unit16)
  /-- A write of 0 to CAP_ARM disarms a capture unit. (R292) -/
  | captureDisarm (r : Req) (n : Axis) (u : Unit16)
  /-- A trigger edge latches POS64 and cell time into an armed capture unit. (R293) -/
  | captureTrigger (n : Axis) (u : Unit16) (e : CapEdge) (t : Nat) (interp : Int)
  /-- Every 10 µs the quadrant rails are sampled and seams forced to FIFO where they differ by more than 50 mV. (R308) -/
  | railMonitorSample (vccq : List Nat) (vccSys : Nat)
  /-- A seam has emptied and changes mode between SYNC and FIFO. (R309) -/
  | seamSwitchDone (k : Fin 24)
  /-- Every 1 ms the sensors are read, seam gradients checked and Tj limits applied. (R682) -/
  | temperatureSample (sensors : List Int)
  /-- A fabric port issues a memory read or write to scratchpad or DRAM. (R315) -/
  | fabricMemoryRequest (p : Fin 8) (q : FabMem)
  /-- A memory response returns by tag with its status. (R317) -/
  | fabricMemoryResponse (p : Fin 8) (tag : Fin 64)
  /-- The fabric delivers a correction, set-point or DEMAND word for an axis. (R318) -/
  | fabricAxisWord (p : Fin 8) (axis : BitVec 6) (w : BitVec 256) (late : Bool)
  /-- The fabric writes a fabric flag through the flags channel. (R319) -/
  | fabricFlagWrite (p f : Fin 8) (v : Bool)
  /-- SC0 passes a request to a published entry to the fabric port. (R321) -/
  | fabricObjectRequest (p : Fin 8)
  /-- The fabric answers a published-entry request with OK or an abort code. (R321) -/
  | fabricObjectAnswer (p : Fin 8) (abort : BitVec 32) (data : List Byte)
  /-- No fabric answer arrives within 10 ms and the request ends with 0x06060000. (R321) -/
  | fabricObjectTimeout (p : Fin 8)
  /-- The scrubber reads a configuration frame and corrects a single-bit error in place. (R326) -/
  | scrubFrameRead (frame : Fin 22528) (how : FrameRead)
  /-- An uncorrectable frame has been rewritten from flash and its column runs again. (R327) -/
  | frameRewriteDone (frame : Fin 22528)
  /-- A region's last bundle is written; an early region is released at once. (R350) -/
  | regionLoaded (kHz : Nat) (bad : Option (Fin 22)) (uses : Bool)
  /-- The done condition is met and the remaining regions and the device are released. (R384) -/
  | doneConditionMet (ball : Bool) (loadTime waited wakeTime : BitVec 32)
  /-- DONE_TIMEOUT runs out and the device releases alone with emergency 0xFF44. (R384) -/
  | doneTimeout (loadTime wakeTime : BitVec 32)
  /-- STAGE_COMMAND 1 claims and erases the staging slot. (R363) -/
  | stageOpen (r : Req)
  /-- STAGE_COMMAND 2 verifies the staged image and ends the claim. (R365) -/
  | stageClose (r : Req)
  /-- STAGE_COMMAND 3 marks the staging slot invalid and gives up the claim. (R362) -/
  | stageDiscard (r : Req)
  /-- A STAGE_DATA write programs image bytes at STAGE_WRITTEN. (R364) -/
  | stageData (r : Req) (offset : BitVec 32) (data : List Byte)
  /-- CUTOVER 1 rechecks the staging slate and makes a cutover pending for the next tick. (R367) -/
  | cutoverNextTick (r : Req)
  /-- CUTOVER 2 makes a cutover pending for CUTOVER_AT. (R367) -/
  | cutoverAtTime (r : Req)
  /-- CUTOVER 0 cancels a pending cutover. (R367) -/
  | cutoverCancel (r : Req)
  /-- At the chosen output instant pins take the new hold states and the old regions are unloaded. (R368) -/
  | cutoverBegin
  /-- The directory roles are swapped and the cutover completes, or fails back by R370. (R368) -/
  | cutoverDone
  /-- A write of 1 copies the staging ingot to the golden slot and verifies it. (R373) -/
  | promoteGolden (r : Req)
  /-- A write raises the ingot rollback floor. (R345) -/
  | rollbackCommit (r : Req) (v : BitVec 32)
  /-- Partial image bytes arrive at the FCP, checked and loaded as slate and bundles complete. (R375) -/
  | fcpStreamData (src : FcpSource) (offset : BitVec 32) (data : List Byte)
  /-- A partial stream delivers no data for 100 ms and fails with STALLED. (R377) -/
  | fcpStalled
  /-- A write to RELOAD reloads named regions from the active slot. (R377) -/
  | reload (r : Req) (m : BitVec 16)
  /-- An addressed CFG OPEN section opens the target slot for the CFG port. (R381) -/
  | cfgOpen (x : List Byte)
  /-- An addressed CFG DATA section writes image bytes to the target slot. (R381) -/
  | cfgData (x : List Byte)
  /-- An addressed CFG CLOSE section verifies the target slot. (R381) -/
  | cfgClose (x : List Byte)
  /-- The page-program sequence with 128 data words programs one page. (R401) -/
  | pageProgram (m : FlashMaster) (k : BitVec 8) (page : BitVec 9) (words : List (BitVec 32))
  /-- The block-erase sequence marks the block incomplete and erases it. (R403) -/
  | blockErase (m : FlashMaster) (k : BitVec 8) (named : BitVec 32)
  /-- 0x5E requests suspension of the running erase. (R406) -/
  | eraseSuspend (m : FlashMaster) (b : Fin 4)
  /-- 0xE5 resumes a suspended erase within 20 µs. (R406) -/
  | eraseResume (m : FlashMaster) (b : Fin 4)
  /-- The info-read sequence makes reads of the block return its valid info row. (R395) -/
  | infoRead (m : FlashMaster) (k : BitVec 8)
  /-- The sequence with the 64-bit password opens a protection session or counts a failure. (R413) -/
  | openProtectionSession (m : FlashMaster) (b : Fin 4) (pw : BitVec 64)
  /-- In an open session, protects a user block. (R412) -/
  | protectBlock (m : FlashMaster) (k : BitVec 8)
  /-- In an open session, removes protection from a user block. (R412) -/
  | unprotectBlock (m : FlashMaster) (k : BitVec 8)
  /-- In an open session, writes a new password in two copies. (R414) -/
  | changePassword (m : FlashMaster) (b : Fin 4) (pw : BitVec 64)
  /-- 0x3C discards a partial sequence, leaves info read and closes the session. (R395) -/
  | resetSequence (m : FlashMaster) (b : Fin 4)
  /-- A gap of 100 µs between words, or 1 ms for a page's data, discards the sequence. (R396) -/
  | flashSequenceTimeout (m : FlashMaster) (b : Fin 4)
  /-- A page program finishes its verify and the bank becomes idle. (R400) -/
  | programDone (b : Fin 4) (good : Bool)
  /-- An erase verifies, its info row is written clean and the bank becomes idle. (R403) -/
  | eraseDone (b : Fin 4) (good : Bool)
  /-- The erase has run 1 ms and the requested suspend takes effect. (R406) -/
  | suspendEffective (b : Fin 4)
  /-- 20 µs after the last priority access an automatically suspended erase resumes. (R407) -/
  | eraseAutoResume (b : Fin 4)
  /-- An array read returns data with a corrected-bit code and marks early warning or uncorrectable lines. (R402) -/
  | flashArrayRead (m : FlashMaster) (addr : BitVec 32) (bad : Nat)
  /-- SC2 copies a marked block to the refresh buffer, erases it and programs it back. (R410) -/
  | blockRefresh (k : BitVec 8)
  /-- After release SC2 erases blocks left ERASE_INCOMPLETE. (R409) -/
  | autoFinishErase (k : BitVec 8)
  /-- A session without a protection command for 10 s closes. (R413) -/
  | protectionSessionTimeout (o : SessionOf)
  /-- A write to PASSWORD opens the host path's protection session. (R417) -/
  | flashPassword (r : Req) (pw : BitVec 64)
  /-- A write to NEW_PASSWORD changes the password in an open session. (R417) -/
  | flashNewPassword (r : Req) (pw : BitVec 64)
  /-- A write to PROTECT_MAP sets protection of the user blocks in an open session. (R417) -/
  | protectMapWrite (r : Req) (v : BitVec 64)
  /-- A write of 1 to CLOSE closes the host path's session. (R417) -/
  | flashSessionClose (r : Req)
  /-- A USER_DATA write programs user-area pages in ascending order, stopping at a failing page. (R420) -/
  | userDataWrite (r : Req) (offset : BitVec 32) (data : List Byte)
  /-- A USER_DATA read returns user-area bytes and advances USER_OFFSET over SDO. (R419) -/
  | userDataRead (r : Req) (offset : BitVec 32) (length : Nat)
  /-- A write to USER_ERASE erases one user block. (R419) -/
  | userErase (r : Req) (v : BitVec 8)
  /-- A write to OWNER drains the old owner's accesses and optionally zeroes the bank. (R429) -/
  | bankHandover (r : Req) (b : Fin 16) (owner : BitVec 8)
  /-- The bank is drained and zeroed and is given to the new owner. (R429) -/
  | handoverDone (b : Fin 16)
  /-- DRAM training finishes and the user region is written under the new key, or DRAM is marked unavailable. (R434) -/
  | dramTrained (good : Bool) (step : Nat)
  /-- The initial pass over the user region ends and DRAM_STATE becomes 3. (R436) -/
  | dramInitDone
  /-- The patrol scrub reads DRAM lines once in every 24 h. (R436) -/
  | dramPatrolScrub (rows : List (Nat × Nat × Bool))
  /-- A write of 1 to RANGE_LOCK locks ranges 4 to 15 until the next reset. (R441) -/
  | rangeLock (r : Req)
  /-- A range write applies to later requests and completes when earlier ones end. (R442) -/
  | protectedRangeWrite (r : Req) (i : Fin 16) (f : RangeField) (v : BitVec 64)
  /-- The drive completes a 1 MiB reel chunk and the chunk is freed. (R446) -/
  | reelChunkDone (good : Bool)
  /-- A wrapped record written to KEY_RECORD is unwrapped into a free crucible slot. (R452) -/
  | keyLoad (r : Req) (data : List Byte)
  /-- A write to GENERATE draws a key from the TRNG into a free slot. (R454) -/
  | keyGenerate (r : Req) (v : BitVec 16)
  /-- A DRAM line write raises its minor counter, re-encrypting the page or remelting the region when counters run out. (R458) -/
  | dramLineWrite (line : Nat) (key : BitVec 8) (data : List Byte)
  /-- A DRAM line read is decrypted and checked against its hallmark. (R460) -/
  | dramLineRead (line : Nat) (key : BitVec 8) (first : LineRead) (second : LineRead)
  /-- A DRAM region remelt ends and emergency 0xFF65 is raised. (R459) -/
  | dramRemeltDone (region : Nat)
  /-- A storage sector write takes a new counter, encrypts and writes data and hallmark. (R465) -/
  | sectorWrite (q : Fin 8)
  /-- A storage sector read is decrypted and checked against its hallmark. (R463) -/
  | sectorRead (q : Fin 8) (how : SectorRead)
  /-- The drive completes a command and the storage request completes when all its sectors have. (R468) -/
  | driveCompletion (d : Fin 2) (q : Fin 9) (status : BitVec 16) (count : Nat)
  /-- A command not completed in 30 s resets the drive controller and is reissued. (R479) -/
  | driveCommandTimeout (d : Fin 2) (q : Fin 8)
  /-- A storage region is chosen for remelt and REGION_START is journalled. (R470) -/
  | remeltRegionStart
  /-- A chunk's sectors are rewritten under the new epoch, flushed and journalled NEW. (R470) -/
  | remeltChunkDone (bad : List Nat)
  /-- REKEY_CONTROL 1 queues every region bound to REKEY_INDEX for remelt. (R473) -/
  | rekeyStart (r : Req)
  /-- REKEY_CONTROL 2 pauses the re-key at the next chunk boundary. (R473) -/
  | rekeyPause (r : Req)
  /-- REKEY_CONTROL 3 resumes a paused re-key. (R473) -/
  | rekeyResume (r : Req)
  /-- A write to RETIRE stops the index and waits for its requests to end. (R475) -/
  | keyRetire (r : Req) (v : BitVec 8)
  /-- Nothing carries the retiring index; caches are flushed, keys zeroised and the slot freed. (R475) -/
  | retireDrained
  /-- A write of 1 copies the healthy mirror drive to the replaced one. (R479) -/
  | rebuild (r : Req)
  /-- A DATA write sends whole sectors to the protected space through a queue. (R480) -/
  | storageDataWrite (r : Req) (q : Fin 8) (offset : BitVec 32) (data : List Byte)
  /-- A DATA read returns whole sectors from the protected space. (R480) -/
  | storageDataRead (r : Req) (q : Fin 8) (offset : BitVec 32) (length : Nat)
  /-- A TRANSFER command moves sectors between storage and DRAM by DMA. (R482) -/
  | storageTransfer (r : Req) (q : Fin 8) (data : List Byte)
  /-- A write of 1 to FLUSH issues Flush to every drive. (R480) -/
  | storageFlush (r : Req) (q : Fin 8)
  /-- A write to PRESET loads all six CRC parameters at once. (R489) -/
  | ckPreset (r : Req) (k : Fin 8) (v : BitVec 8)
  /-- A write of 1 to START runs the descriptor chain from CHAIN_ADDR. (R497) -/
  | ckStart (r : Req) (k : Fin 8) (v : BitVec 8)
  /-- A descriptor finishes, its status and result are written back, and the chain goes on or stops. (R495) -/
  | ckDescriptorDone (k : Fin 8)
  /-- The trigger channel's active edge latches the measuring input for the island. (R509) -/
  | assayTrigger (k : Channel) (rising : Bool) (t : Nat) (interp : Int)
  /-- A signed SET request changes legally relevant parameters together. (R515) -/
  | set (r : Req) (data : List Byte)
  /-- A signed FIRMWARE request starts the staged island image naming its digest. (R518) -/
  | firmware (r : Req) (data : List Byte)
  /-- A FIRST_SEAL request seals the island under the maker key. (R520) -/
  | firstSeal (r : Req) (data : List Byte)
  /-- A NEW_KEY request replaces the maker key. (R515) -/
  | newKey (r : Req) (data : List Byte)
  /-- A CHAIN_BREAK request writes EVENT 6 and lets the island leave state 4. (R529) -/
  | chainBreak (r : Req) (data : List Byte)
  /-- A FW_IMAGE write stages island firmware bytes while ASEAL is high. (R518) -/
  | fwImage (r : Req) (offset : BitVec 32) (data : List Byte)
  /-- JOB_COMMAND 1 starts a job and writes JOB_START. (R521) -/
  | jobStart (r : Req)
  /-- JOB_COMMAND 2 ends the job and writes JOB_END. (R524) -/
  | jobStop (r : Req)
  /-- The open log page is programmed when full, 1 ms after its first record, or on PWR_DOWN#. (R527) -/
  | assayPageProgram
  /-- The log page verifies; its records are sealed and LAST_LEGAL updates. (R527) -/
  | assayRecordSealed
  /-- Flash programs become possible again and unsealed records are sealed in SEQ order. (R506) -/
  | assayDeferredSeal
  /-- A write of SEQ and HASH acknowledges an export and writes an EXPORT record. (R531) -/
  | exportAck (r : Req) (data : List Byte)
  /-- A read of RECORDS returns up to 32 sealed records and advances READ_SEQ. (R535) -/
  | assayRecordsRead (r : Req)
  /-- ASEAL rises; a running job ends with reason 2 and the island enters state 3. (R537) -/
  | asealRise
  /-- ASEAL falls and the island closes its seal. (R520) -/
  | asealFall
  /-- VAS powers up; the island runs the sealed copy, verifies its chain and writes POWER. (R519) -/
  | islandStart (check : IslandCheck)
  /-- The crystal in use is lost; PLLs hold over and the reference moves to the other crystal. (R543) -/
  | crystalLoss (x : Fin 2)
  /-- Both crystals are lost; PLLs hold over and moving groups quick-stop. (R544) -/
  | bothCrystalsLost
  /-- All groups at rest or 1 s passed; the device enters LIMP on the RC oscillator. (R544) -/
  | limpEntry (waited : Bool)
  /-- A write to XO_SELECT switches the reference crystal. (R545) -/
  | xoSelect (r : Req) (v : BitVec 8)
  /-- A write to a free PLL output's divider, phase or enable changes it glitch-free. (R548) -/
  | pllOutputWrite (r : Req) (p : Fin 8) (e : PllField) (o : Fin 7) (v : BitVec 16)
  /-- A PLL locks by hop or search and its band slot is recorded. (R549) -/
  | pllLocked (p : Fin 8) (temp : Int) (band : Nat)
  /-- A PLL loses lock, gates its outputs and relocks. (R550) -/
  | pllLockLoss (p : Fin 8) (again : Bool)
  /-- A write to RTC_SECONDS sets the count and RTC_VALID. (R554) -/
  | rtcSecondsWrite (r : Req) (v : BitVec 64)
  /-- A write to RTC_CALENDAR sets the count from a checked calendar date. (R554) -/
  | rtcCalendarWrite (r : Req) (data : List Byte)
  /-- The RTC counts one second, stopping at the end of its range. (R552) -/
  | rtcSecond
  /-- The RTC reaches ALARM and wakes the device. (R579) -/
  | rtcAlarm
  /-- A TICK frame arrives and the member ticks at its aligned instant; 16 in order lock the link. (R563) -/
  | clapperTickFrame (seq : BitVec 8)
  /-- A TIME frame updates cell time and the scheduled wake. (R564) -/
  | clapperTimeFrame (good : Bool) (t : BitVec 64) (wake : Option (BitVec 64 × BitVec 32))
  /-- An AXIS frame delivers published set-points and FOLLOWER_STOP notices. (R565) -/
  | clapperAxisFrame (good : Bool) (src : Fin 8) (entries : List AxisEntry) (stops : List (Fin 8 × Axis)) (late : Bool)
  /-- A STATUS frame reports a member's presence, level and state flags. (R653) -/
  | clapperStatusFrame (good : Bool) (m : StatusFrame)
  /-- Three consecutive STATUS frames of a member are missing and it counts as absent. (R653) -/
  | memberAbsent (m : Fin 8)
  /-- A BEACON heard after a sleep sets cell time and the member wakes and locks. (R568) -/
  | clapperBeacon (good : Bool) (t : BitVec 64) (period : BitVec 32) (own : BitVec 64)
  /-- A round-trip probe measures each neighbour hop, refusing hops over 100 ns. (R560) -/
  | clapperDelayProbe (good : Bool) (side : Fin 2) (ns path : BitVec 16)
  /-- A neighbour link fails and the ring runs as a chain. (R566) -/
  | ringBroken (side : Fin 2)
  /-- An election chooses the eligible member of highest priority as time source. (R656) -/
  | timeSourceElection
  /-- A sleeping member opens a beacon listening window on its own RTC. (R568) -/
  | wakeWindowOpen (w : Fin 4)
  /-- Continuous search ends without a beacon and the member wakes on its internal tick. (R568) -/
  | wakeSearchTimeout
  /-- POWER_REQUEST 2 accepts entry to SLEEP. (R576) -/
  | sleepRequest (r : Req)
  /-- POWER_REQUEST 3 accepts entry to DEEP SLEEP. (R577) -/
  | deepSleepRequest (r : Req)
  /-- POWER_REQUEST 4 accepts entry to OFF. (R577) -/
  | offRequest (r : Req)
  /-- 2 ms after the completion, the device refuses new requests and waits for flash, storage and remelts. (R576) -/
  | powerEntryBegin
  /-- Flash, drives and remelts are idle; links go down, the tick stops and the lower state is entered. (R576) -/
  | powerEntryDrained
  /-- An enabled wake source ends a lower state and starts the wake sequence. (R579) -/
  | wakeEvent (src : WakeSource)
  /-- Power is applied and the wake sequence runs from step 1. (R580) -/
  | powerApplied
  /-- A stage of the wake sequence reports ready and the next stage begins. (R580) -/
  | wakeStageReady (what : WakeStage)
  /-- The late part of the roll check ends after release. (R634) -/
  | rollCheckLateDone (found : List Finding) (rollTime : BitVec 32)
  /-- The regulator stage is not ready in time; rails are switched off and retried, then a wake fault is recorded. (R582) -/
  | regulatorStageTimeout
  /-- The oscillator stage is not ready within 10 ms and the device runs in LIMP. (R584) -/
  | oscillatorStageTimeout
  /-- The memory stage is not ready within 5 ms and the device enters SAFE state. (R585) -/
  | memoryStageTimeout
  /-- A write of 1 clears the wake-fault record and releases PWR_FAULT#. (R583) -/
  | faultClear (r : Req)
  /-- PWR_DOWN# falls; flash work stops, the island seals and moving groups quick-stop. (R586) -/
  | pwrDownFall
  /-- PWR_DOWN# rises before VCC_SYS falls and the device runs on. (R586) -/
  | pwrDownRise
  /-- A power-good input falls and the device acts by input. (R587) -/
  | powerGoodLost (i : Fin 6)
  /-- The PMBus master sends a command to a regulator with PEC. (R588) -/
  | pmbusTransaction (rail : Fin 12) (addr : BitVec 7) (losses : Fin 9) (how : PmbResult)
  /-- SCL held low for 25 ms makes the master free the bus and fail the transaction. (R593) -/
  | pmbusSclTimeout (rail : Fin 12) (addr : BitVec 7)
  /-- Every 500 µs the master polls STATUS_WORD and READ_VOUT to acknowledge a rail request. (R589) -/
  | pmbusAckPoll (rail : Fin 12) (status mv : BitVec 16)
  /-- No acknowledgement within 5 ms raises emergency 0xFFA0. (R589) -/
  | pmbusAckTimeout (rail : Fin 12)
  /-- PMB_ALERT# low makes the master read the alert address and the regulator's status. (R594) -/
  | pmbusAlert (addr : BitVec 7) (status : BitVec 16)
  /-- Once per second the master reads current and temperature. (R588) -/
  | pmbusTelemetry (rail : Fin 12)
  /-- A write to a VCCQ set value runs the seam and PMBus sequence of R309. (R590) -/
  | vccqSet (r : Req) (q : Fin 4) (mv : BitVec 16)
  /-- BBRAM and RTC switch between VBAT and VCC_AON and the canary is checked. (R596) -/
  | backupSupplySwitch (toAon canaryOk : Bool)
  /-- Every 60 s VBAT is measured and VBAT_LOW set below 2.2 V. (R598) -/
  | vbatMeasure (mv : BitVec 16)
  /-- A signed lifecycle transition request is checked, erases secrets and blows fuses. (R614) -/
  | transitionRequest (r : Req) (data : List Byte) (margin : Fin 32)
  /-- 2 ms after the transition completes, the device resets into the new state. (R614) -/
  | transitionReset
  /-- A read of DEBUG_CHALLENGE draws a new nonce and returns the 64-byte challenge. (R619) -/
  | debugChallenge (r : Req)
  /-- A signed grant opens debug scopes until the next reset. (R620) -/
  | debugGrant (r : Req) (data : List Byte)
  /-- A write of 1 closes the debug grant. (R616) -/
  | debugClose (r : Req)
  /-- A wrapped record loads the battery-backed key BK in OWNED. (R621) -/
  | bkRecord (r : Req) (data : List Byte)
  /-- A write of 1 zeroises BK at once. (R621) -/
  | bkClear (r : Req)
  /-- TAMPER# low for 10 µs zeroises BK and the crucible and closes debug. (R623) -/
  | tamper
  /-- A write of 1 clears TAMPER_STATE once TAMPER# has been high 1 s and S5 is clean. (R624) -/
  | tamperClear (r : Req) (high : Bool)
  /-- A write schedules or cancels a wrap test at the next entry to OFF. (R635) -/
  | wrapNext (r : Req) (v : BitVec 8)
  /-- The wrap test ends and its record is committed to S4. (R633) -/
  | wrapTestDone (found : List Finding) (margins : List (Fin 256 × Fin 256)) (ms : BitVec 32)
  /-- The wrap test reaches 3 s and commits with WRAP_RESULT 4. (R633) -/
  | wrapTestLimit (found : List Finding) (margins : List (Fin 256 × Fin 256))
  /-- A write of 1 resets the device as RESET# does, 2 ms after the completion. (R642) -/
  | safeReset (r : Req)
  /-- Each hour with VCC_SYS good advances SERVICE_HOURS and the estimates. (R649) -/
  | serviceHour
  /-- FW_COMMAND 1 claims and erases the copy that is not running. (R665) -/
  | fwOpen (r : Req)
  /-- FW_COMMAND 2 checks the staged firmware image. (R666) -/
  | fwClose (r : Req)
  /-- FW_COMMAND 3 marks the staged copy invalid and gives up the claim. (R665) -/
  | fwDiscard (r : Req)
  /-- FW_COMMAND 4 records the other copy as on trial. (R667) -/
  | fwSwitch (r : Req)
  /-- FW_COMMAND 5 makes the running copy confirmed. (R668) -/
  | fwConfirm (r : Req)
  /-- A FW_DATA write programs firmware image bytes at OFFSET. (R665) -/
  | fwData (r : Req) (offset : BitVec 32) (data : List Byte)
  /-- 2 ms after the switch the cores stop and restart on the new copy. (R667) -/
  | fwSwitchRestart
  /-- TRIAL_TIMEOUT runs out and the former copy is started. (R668) -/
  | fwTrialTimeout
  /-- A write raises the firmware rollback floor. (R665) -/
  | fwFloorCommit (r : Req) (v : BitVec 32)
  /-- The read-through verification of a closed, broadcast or promoted ingot ends; the slot becomes verified or invalid and the long request completes. (R365) -/
  | imageVerifyDone (slot : Fin 3)
  /-- An info or protection write of up to 200 µs finishes and the bank leaves OP 3 and becomes idle. (R400) -/
  | infoRowWriteDone (b : Fin 4)
  /-- SC1 finishes enumerating the drives; STORAGE_STATE becomes ready and an unfinished remelt or re-key is resumed from the journal. (R472) -/
  | storageReady (drive0 drive1 : Option Nat)
  /-- A crystal that was lost runs good again and its XO_HEALTH bit returns to 1, so XO_SELECT may choose it. (R542) -/
  | crystalRestored (x : Fin 2)
  /-- A CAN FD controller overruns, enters error passive, or recovers from bus-off, and raises 0x8110, 0x8120 or 0x8140. (R76) -/
  | canErrorStateChange (c : Fin 2) (e : CanEvent)
  /-- The heartbeat producer time of a CANopen node runs out and the node sends its heartbeat. (R71) -/
  | heartbeatProducer (c : Fin 2)
  /-- The time source, woken at WAKE_AT, sends a 1 ms BEACON burst at W + k·P until all members lock or 640 s pass. (R568) -/
  | beaconBurst
  /-- A member's listening window ends without a beacon and the member returns to its sleep state until its next window or search. (R568) -/
  | wakeWindowClose
  /-- A failed clapper neighbour link comes back up, the side's up flag is set and the chain closes into a ring again. (R566) -/
  | neighbourLinkRestored (side : Fin 2)
  /-- Every 1 ms the island updates LIVE_LENGTH with the length since the present piece began. (R534) -/
  | liveLengthUpdate
deriving DecidableEq, Repr

end Sys2Proof
end

