-- ==== Sys2Proof/Machine/Bits.lean ====
section
/-! DEFINITION. Bit fields, byte order and sign extension, used by every other file (00 R5, R6). -/

namespace Sys2Proof.Machine

/-- `v` with bit `i` standing at `b`. -/
def setBitTo (v i : Nat) (b : Bool) : Nat := if v.testBit i = b then v else v ^^^ 2 ^ i

/-- Bits `lo + w - 1` to `lo` of `v`. -/
def field (v lo w : Nat) : Nat := (v >>> lo) % 2 ^ w

/-- `v` with the bits of `m` cleared. -/
def clearMask (v m : Nat) : Nat := v ^^^ (v &&& m)

/-- 1 for true, 0 for false. -/
def b2n (b : Bool) : Nat := if b then 1 else 0

/-- 1 for true, 0 for false, as an entry's value. -/
def b2i (b : Bool) : Int := if b then 1 else 0

/-- The `n` lowest bytes of `v`, least significant first (00 R5). -/
def leBytes (n v : Nat) : List Byte := (List.range n).map fun i => BitVec.ofNat 8 (v >>> (8 * i))

/-- The number that bytes spell, least significant first (00 R5). -/
def leNat (bs : List Byte) : Nat := bs.foldr (fun b acc => b.toNat + 256 * acc) 0

/-- `n` bytes from offset `o`, as a number. -/
def leAt (bs : List Byte) (o n : Nat) : Nat := leNat ((bs.drop o).take n)

/-- The value of a `w`-bit two's complement field. -/
def toSigned (w v : Nat) : Int := if v % 2 ^ w < 2 ^ (w - 1) then (v % 2 ^ w : Nat) else (v % 2 ^ w : Nat) - (2 ^ w : Nat)

/-- The `w`-bit two's complement field of a value. -/
def ofSigned (w : Nat) (v : Int) : Nat := (v % (2 ^ w : Nat)).toNat

/-- A value wrapped to 64 bits, signed (00 R6: POS64). -/
def wrap64 (v : Int) : Int := toSigned 64 (ofSigned 64 v)

/-- A count that stays at its largest value. -/
def satAdd (max a b : Nat) : Nat := min max (a + b)

/-- `n` zero bytes. -/
def zeros (n : Nat) : List Byte := List.replicate n 0

/-- Bytes written over a byte string at an offset; a gap is filled with zeros. -/
def overwrite (old : List Byte) (o : Nat) (new : List Byte) : List Byte :=
  (old.take o ++ zeros (o - old.length)) ++ new ++ old.drop (o + new.length)

/-- The set bits of a number below `n`, lowest first. -/
def bitsOf (v n : Nat) : List Nat := (List.range n).filter v.testBit

/-- The number of set bits among the lowest `n`. -/
def popCount (v n : Nat) : Nat := (bitsOf v n).length

theorem testBit_setBitTo_self (v i : Nat) (b : Bool) : (setBitTo v i b).testBit i = b := by
  unfold setBitTo
  split
  · assumption
  · rename_i h
    rw [Nat.testBit_xor, Nat.testBit_two_pow_self]
    cases hb : v.testBit i <;> cases b <;> simp_all

theorem testBit_setBitTo_ne (v i j : Nat) (b : Bool) (h : j ≠ i) : (setBitTo v i b).testBit j = v.testBit j := by
  unfold setBitTo
  split
  · rfl
  · rw [Nat.testBit_xor, Nat.testBit_two_pow_of_ne (Ne.symm h)]
    simp

theorem testBit_clearMask (v m j : Nat) : (clearMask v m).testBit j = (v.testBit j && !m.testBit j) := by
  unfold clearMask
  rw [Nat.testBit_xor, Nat.testBit_and]
  cases v.testBit j <;> cases m.testBit j <;> rfl

theorem leNat_leBytes (n v : Nat) : leNat (leBytes n v) = v % 256 ^ n := by
  induction n generalizing v with
  | zero => simp [leNat, leBytes, Nat.mod_one]
  | succ n ih =>
    have h : leBytes (n + 1) v = BitVec.ofNat 8 v :: leBytes n (v / 256) := by
      simp [leBytes, List.range_succ_eq_map, List.map_map, Function.comp_def, Nat.shiftRight_eq_div_pow,
        Nat.div_div_eq_div_mul]
      intro a _
      rw [show 2 ^ (8 * (a + 1)) = 256 * 2 ^ (8 * a) by rw [Nat.mul_add, Nat.pow_add]; omega]
    rw [h]
    simp only [leNat, List.foldr_cons, BitVec.toNat_ofNat]
    have := ih (v / 256)
    simp only [leNat] at this
    rw [this, show 256 ^ (n + 1) = 256 * 256 ^ n by rw [Nat.pow_succ, Nat.mul_comm], Nat.mod_mul]

end Sys2Proof.Machine
end

