-- ==== Sys2Proof/Machine/Aes.lean ====
section
/-! DEFINITION. AES-256 (FIPS 197) and AES-256-GCM with 96-bit IVs (SP 800-38D), and the key derivation of 12 R455.
Bytes are numbers below 256; a block is a list of sixteen, column by column. -/

namespace Sys2Proof.Machine

/-- Doubling in the field of AES. -/
def aesX (b : Nat) : Nat := if b < 128 then 2 * b else (2 * b) ^^^ 0x11B

/-- Product in the field of AES: the first `n` bits of `b`. -/
def aesMulN : Nat → Nat → Nat → Nat
  | 0, _, _ => 0
  | n + 1, a, b => (if b % 2 = 1 then a else 0) ^^^ aesMulN n (aesX a) (b / 2)

def aesMul (a b : Nat) : Nat := aesMulN 8 a b

/-- The inverse, a to the power 254; 0 for 0. -/
def aesInv (a : Nat) : Nat :=
  let a2 := aesMul a a
  let a4 := aesMul a2 a2
  let a8 := aesMul a4 a4
  let a16 := aesMul a8 a8
  let a32 := aesMul a16 a16
  let a64 := aesMul a32 a32
  let a128 := aesMul a64 a64
  aesMul a2 (aesMul a4 (aesMul a8 (aesMul a16 (aesMul a32 (aesMul a64 a128)))))

def rot8 (b k : Nat) : Nat := (b * 2 ^ k) % 256 + b / 2 ^ (8 - k)

/-- The substitution of one byte. -/
def aesSub (a : Nat) : Nat :=
  let b := aesInv a
  b ^^^ rot8 b 1 ^^^ rot8 b 2 ^^^ rot8 b 3 ^^^ rot8 b 4 ^^^ 0x63

def xorList (a b : List Nat) : List Nat := (a.zip b).map fun x => x.1 ^^^ x.2

/-- Words of the key schedule from the `i`-th on, newest first in `acc`. -/
def aesExpand : Nat → Nat → Nat → List (List Nat) → List (List Nat)
  | 0, _, _, acc => acc
  | fuel + 1, i, rcon, acc =>
    let prev := acc.headD []
    let old := acc.getD 7 []
    let t := if i % 8 = 0 then xorList ((prev.drop 1 ++ prev.take 1).map aesSub) [rcon, 0, 0, 0]
      else if i % 8 = 4 then prev.map aesSub else prev
    aesExpand fuel (i + 1) (if i % 8 = 0 then aesX rcon else rcon) (xorList old t :: acc)

/-- Consecutive pieces of `n` elements. -/
def chunks {α : Type} (n : Nat) : Nat → List α → List (List α)
  | 0, _ => []
  | fuel + 1, l => if l.isEmpty then [] else l.take n :: chunks n fuel (l.drop n)

/-- The fifteen round keys of a 32-byte key. -/
def aesKeys (key : List Nat) : List (List Nat) :=
  let ws := (aesExpand 52 8 1 (chunks 4 8 key).reverse).reverse
  (chunks 4 15 ws).map List.flatten

def aesShift (b : List Nat) : List Nat := (List.range 16).map fun i => b.getD ((i + 4 * (i % 4)) % 16) 0

def aesMixCol (c : List Nat) : List Nat :=
  let g := fun i => c.getD (i % 4) 0
  (List.range 4).map fun i => aesMul 2 (g i) ^^^ aesMul 3 (g (i + 1)) ^^^ g (i + 2) ^^^ g (i + 3)

def aesMix (b : List Nat) : List Nat := (chunks 4 4 b).flatMap aesMixCol

/-- One block under expanded keys. -/
def aesRounds : List (List Nat) → List Nat → List Nat
  | [], b => b
  | [k], b => xorList (aesShift (b.map aesSub)) k
  | k :: ks, b => aesRounds ks (xorList (aesMix (aesShift (b.map aesSub))) k)

def aesBlock (keys : List (List Nat)) (b : List Nat) : List Nat := aesRounds (keys.drop 1) (xorList b (keys.headD []))

/-! ## GCM -/

/-- The number that bytes spell, most significant first. -/
def beNat (b : List Nat) : Nat := b.foldl (fun acc x => acc * 256 + x) 0

/-- The `n` bytes of a number, most significant first. -/
def beNats (n v : Nat) : List Nat := (List.range n).map fun i => v / 256 ^ (n - 1 - i) % 256

/-- Product in the field of GCM, of 128-bit numbers whose top bit is the first. -/
def ghashMul : Nat → Nat → Nat → Nat → Nat
  | 0, _, _, z => z
  | n + 1, x, v, z =>
    ghashMul n x (if v % 2 = 1 then v / 2 ^^^ 0xE1000000000000000000000000000000 else v / 2) (if x.testBit n then z ^^^ v else z)

/-- Bytes filled up with zeros to whole blocks, as numbers. -/
def gcmBlocks (b : List Nat) : List Nat :=
  (chunks 16 (b.length / 16 + 1) b).map fun c => beNat (c ++ List.replicate (16 - c.length) 0)

/-- The 16-byte tag of a ciphertext with additional data. -/
def gcmTag (keys : List (List Nat)) (iv aad ct : List Nat) : List Nat :=
  let h := beNat (aesBlock keys (List.replicate 16 0))
  let bs := gcmBlocks aad ++ gcmBlocks ct ++ [aad.length * 8 * 2 ^ 64 + ct.length * 8]
  let g := bs.foldl (fun y b => ghashMul 128 (y ^^^ b) h 0) 0
  xorList (beNats 16 g) (aesBlock keys (iv ++ [0, 0, 0, 1]))

/-- Encryption and decryption of the counter mode. -/
def gcmCrypt (keys : List (List Nat)) (iv : List Nat) (data : List Nat) : List Nat :=
  let cs := chunks 16 (data.length / 16 + 1) data
  ((List.range cs.length).zip cs).flatMap fun ic => xorList ic.2 (aesBlock keys (iv ++ beNats 4 (ic.1 + 2)))

/-- The number list of bytes, and back. -/
def natsOf (b : List Byte) : List Nat := b.map BitVec.toNat
def bytesOfNats (b : List Nat) : List Byte := b.map (BitVec.ofNat 8)

/-- A ciphertext and its tag are genuine under a key. -/
def gcmOk (key iv aad ct tag : List Byte) : Bool :=
  gcmTag (aesKeys (natsOf key)) (natsOf iv) (natsOf aad) (natsOf ct) == natsOf tag

/-- The plaintext of a ciphertext, or the other way round. -/
def gcmText (key iv ct : List Byte) : List Byte := bytesOfNats (gcmCrypt (aesKeys (natsOf key)) (natsOf iv) (natsOf ct))

/-- The tag over a ciphertext. -/
def gcmSeal (key iv aad ct : List Byte) : List Byte :=
  bytesOfNats (gcmTag (aesKeys (natsOf key)) (natsOf iv) (natsOf aad) (natsOf ct))

/-- KDF(K, L, R, E) (12 R455): `label` as four ASCII bytes. -/
def kdf (key label : List Byte) (r e : Nat) : List Byte :=
  let keys := aesKeys (natsOf key)
  let blk := fun i : Nat => aesBlock keys (natsOf (label ++ leBytes 8 r ++ leBytes 2 e) ++ [0, i])
  bytesOfNats (blk 1 ++ blk 2)

end Sys2Proof.Machine
end

