-- ==== Sys2Proof/Machine/Float64.lean ====
section
/-! DEFINITION. IEEE 754 binary64 numbers as 64-bit patterns, computed exactly on integers and rounded to nearest,
ties to even (05 R183, 03 R134). -/

namespace Sys2Proof.Machine

/-- A REAL64 value: its 64-bit pattern. -/
abbrev F64 := Nat

def fPosInf : F64 := 0x7FF0000000000000
def fNaN : F64 := 0x7FF8000000000000
def fZero : F64 := 0
def fOne : F64 := 0x3FF0000000000000
def fTwo : F64 := 0x4000000000000000
def fThree : F64 := 0x4008000000000000

def fSign (x : F64) : Bool := x.testBit 63
def fExp (x : F64) : Nat := field x 52 11
def fFrac (x : F64) : Nat := x % 2 ^ 52

/-- Neither an infinity nor a NaN (02 R35). -/
def fFinite (x : F64) : Bool := fExp x != 2047

def fIsNaN (x : F64) : Bool := fExp x == 2047 && fFrac x != 0

/-- The significand of a finite value, without its sign. -/
def fMant (x : F64) : Nat := if fExp x = 0 then fFrac x else fFrac x + 2 ^ 52

/-- The power of two that goes with the significand. -/
def fPow (x : F64) : Int := if fExp x = 0 then -1074 else (fExp x : Int) - 1075

/-- The significand with its sign. -/
def fSMant (x : F64) : Int := if fSign x then -(fMant x : Int) else (fMant x : Int)

def fWithSign (neg : Bool) (m : Nat) : F64 := if neg then m + 2 ^ 63 else m

/-- `n / d` rounded to nearest, ties to even. -/
def divRne (n d : Nat) : Nat :=
  let q := n / d
  let r := n % d
  if 2 * r < d then q else if d < 2 * r then q + 1 else if q % 2 = 0 then q else q + 1

/-- `2 ^ max k 0`. -/
def pow2 (k : Int) : Nat := 2 ^ k.toNat

/-- The binary64 value nearest to `(n / d) * 2 ^ e`, with a sign. -/
def fRound (neg : Bool) (n d : Nat) (e : Int) : F64 :=
  if n = 0 then fWithSign neg 0 else
  let l0 : Int := (Nat.log2 n : Int) - (Nat.log2 d : Int)
  let l : Int := if d * pow2 l0 ≤ n * pow2 (-l0) then l0 else l0 - 1
  let u : Int := max (l + e - 52) (-1074)
  let k := e - u
  let q := divRne (n * pow2 k) (d * pow2 (-k))
  let m := if q < 2 ^ 52 then q else (u + 1074).toNat * 2 ^ 52 + q
  fWithSign neg (if fPosInf ≤ m then fPosInf else m)

/-- The binary64 value nearest to `(n / d) * 2 ^ e` for a signed numerator. -/
def fOfRat (n : Int) (d : Nat) (e : Int) : F64 := fRound (decide (n < 0)) n.natAbs d e

/-- The binary64 value nearest to an integer. -/
def fOfInt (n : Int) : F64 := fOfRat n 1 0

def fNeg (x : F64) : F64 := if fSign x then x - 2 ^ 63 else x + 2 ^ 63
def fAbs (x : F64) : F64 := if fSign x then x - 2 ^ 63 else x

def fAdd (x y : F64) : F64 :=
  if fIsNaN x || fIsNaN y then fNaN
  else if !fFinite x then (if !fFinite y && fSign x != fSign y then fNaN else x)
  else if !fFinite y then y
  else
    let e := min (fPow x) (fPow y)
    let s := fSMant x * (pow2 (fPow x - e) : Nat) + fSMant y * (pow2 (fPow y - e) : Nat)
    if s = 0 then fWithSign (fSign x && fSign y) 0 else fOfRat s 1 e

def fSub (x y : F64) : F64 := fAdd x (fNeg y)

def fMul (x y : F64) : F64 :=
  let neg := fSign x != fSign y
  if fIsNaN x || fIsNaN y then fNaN
  else if !fFinite x || !fFinite y then
    (if fAbs x = 0 || fAbs y = 0 then fNaN else fWithSign neg fPosInf)
  else fRound neg (fMant x * fMant y) 1 (fPow x + fPow y)

def fDiv (x y : F64) : F64 :=
  let neg := fSign x != fSign y
  if fIsNaN x || fIsNaN y then fNaN
  else if !fFinite x then (if !fFinite y then fNaN else fWithSign neg fPosInf)
  else if !fFinite y then fWithSign neg 0
  else if fMant y = 0 then (if fMant x = 0 then fNaN else fWithSign neg fPosInf)
  else fRound neg (fMant x) (fMant y) (fPow x - fPow y)

/-- Order of two values that are not NaN: `x < y`. -/
def fLt (x y : F64) : Bool :=
  if fIsNaN x || fIsNaN y then false
  else
    let key := fun z : F64 => if fSign z then -((fAbs z : Nat) : Int) else (z : Int)
    decide (key x < key y)

def fLe (x y : F64) : Bool := !fIsNaN x && !fIsNaN y && !fLt y x
def fMin (x y : F64) : F64 := if fLt y x then y else x
def fMax (x y : F64) : F64 := if fLt x y then y else x

/-- `x` held between `-m` and `m`. -/
def fClamp (x m : F64) : F64 := fMax (fNeg m) (fMin x m)

/-- `x * 2 ^ k` for a finite `x`, as a signed numerator over a positive denominator. -/
def fRatNum (x : F64) (k : Int) : Int := fSMant x * (pow2 (fPow x + k) : Nat)
def fRatDen (x : F64) (k : Int) : Nat := pow2 (-(fPow x + k))

/-- `n / d` rounded to the nearest integer, ties to even. -/
def ratRne (n : Int) (d : Nat) : Int := if n < 0 then -(divRne n.natAbs d : Int) else (divRne n.natAbs d : Int)

/-- `n / d` rounded to the nearest integer, ties away from zero. -/
def ratRna (n : Int) (d : Nat) : Int :=
  if n < 0 then -(((2 * n.natAbs + d) / (2 * d) : Nat) : Int) else (((2 * n.natAbs + d) / (2 * d) : Nat) : Int)

/-- `x * 2 ^ k` as an integer, rounded to nearest, ties to even. -/
def fToIntRne (x : F64) (k : Int) : Int := ratRne (fRatNum x k) (fRatDen x k)

/-- `x * 2 ^ k` as an integer, rounded towards zero. -/
def fToIntTrunc (x : F64) (k : Int) : Int := Int.tdiv (fRatNum x k) (fRatDen x k)

end Sys2Proof.Machine
end

