-- ==== Sys2Proof/Machine/Keys.lean ====
section
/-! DEFINITION. The keys of the object dictionary: one name per entry of the spec's object tables. A key is index * 256 + sub-index. -/

namespace Sys2Proof.Machine.K

/-! Entries of spec/01_architecture.md. -/

/-! 0x2210, R18 -/
def tickSource : Nat := 0x2210 * 256 + 0x01
def tickState : Nat := 0x2210 * 256 + 0x02
def tickCount : Nat := 0x2210 * 256 + 0x03

/-! Entries of spec/02_object_dictionary.md. -/

/-! 0x1010, R38 -/
def storeAll : Nat := 0x1010 * 256 + 0x01
def storeComm : Nat := 0x1010 * 256 + 0x02
def storeApp : Nat := 0x1010 * 256 + 0x03
def storeFabric : Nat := 0x1010 * 256 + 0x04
/-! 0x1011, R38 -/
def restoreAll : Nat := 0x1011 * 256 + 0x01
def restoreComm : Nat := 0x1011 * 256 + 0x02
def restoreApp : Nat := 0x1011 * 256 + 0x03
def restoreFabric : Nat := 0x1011 * 256 + 0x04
/-! 0x2010, R53 -/
def reqPortRequestPort : Nat := 0x2010 * 256 + 0x00
/-! 0x2011, R53 -/
def cplPortCompletionPort : Nat := 0x2011 * 256 + 0x00
/-! 0x2012, R53 -/
def tagDroppedRecords : Nat := 0x2012 * 256 + 0x01
def tagEmcyOverflow : Nat := 0x2012 * 256 + 0x02
def tagInFlight : Nat := 0x2012 * 256 + 0x03
def tagErrorReset : Nat := 0x2012 * 256 + 0x04
/-! 0x1018, R84 -/
def identVendorId : Nat := 0x1018 * 256 + 0x01
def identProductCode : Nat := 0x1018 * 256 + 0x02
def identRevision : Nat := 0x1018 * 256 + 0x03
def identSerial : Nat := 0x1018 * 256 + 0x04
/-! 0x2000, R84 -/
def unitPartCode : Nat := 0x2000 * 256 + 0x01
def unitDieRevision : Nat := 0x2000 * 256 + 0x02
def unitUid : Nat := 0x2000 * 256 + 0x03
def unitFirmwareVersion : Nat := 0x2000 * 256 + 0x04
/-! 0x1001, R697 -/
def errRegErrorRegister : Nat := 0x1001 * 256 + 0x00
/-! 0x2008, R85 -/
def attestChallenge : Nat := 0x2008 * 256 + 0x01
def attestResponse : Nat := 0x2008 * 256 + 0x02
/-! 0x2008, R86 -/
def attestCertificate : Nat := 0x2008 * 256 + 0x03
/-! 0x2020, R72 -/
def canNodeId0 : Nat := 0x2020 * 256 + 0x01
def canNodeId1 : Nat := 0x2020 * 256 + 0x02
/-! 0x2020, R73 -/
def canBitRate : Nat := 0x2020 * 256 + 0x03
def canDataBitRate : Nat := 0x2020 * 256 + 0x04
/-! 0x1C12, R66 -/
def rxAssignCount : Nat := 0x1C12 * 256 + 0x00
/-! 0x1C13, R66 -/
def txAssignCount : Nat := 0x1C13 * 256 + 0x00
/-! 0x1600, R66 -/
def rxMapCount (n : Nat) : Nat := (0x1600 + n) * 256 + 0x00
/-! 0x1A00, R66 -/
def txMapCount (n : Nat) : Nat := (0x1A00 + n) * 256 + 0x00
/-! 0x1600, R66 -/
def rxMapMap (n : Nat) (i : Nat) : Nat := (0x1600 + n) * 256 + 0x01 + i
/-! 0x1A00, R66 -/
def txMapMap (n : Nat) (i : Nat) : Nat := (0x1A00 + n) * 256 + 0x01 + i
/-! 0x1C12, R66 -/
def rxAssignPdo (i : Nat) : Nat := 0x1C12 * 256 + 0x01 + i
/-! 0x1C13, R66 -/
def txAssignPdo (i : Nat) : Nat := 0x1C13 * 256 + 0x01 + i

/-! Entries of spec/03_feedback_ports.md. -/

/-! 0x4000, R95 -/
def fbMode (n : Nat) : Nat := (0x4000 + 0x40 * n) * 256 + 0x01
def fbDirInvert (n : Nat) : Nat := (0x4000 + 0x40 * n) * 256 + 0x02
def fbTermination (n : Nat) : Nat := (0x4000 + 0x40 * n) * 256 + 0x03
def fbDeglitch (n : Nat) : Nat := (0x4000 + 0x40 * n) * 256 + 0x04
def fbClear (n : Nat) : Nat := (0x4000 + 0x40 * n) * 256 + 0x05
def fbErrorCount (n : Nat) : Nat := (0x4000 + 0x40 * n) * 256 + 0x06
/-! 0x4002, R105 -/
def incZGate (n : Nat) : Nat := (0x4002 + 0x40 * n) * 256 + 0x01
def incIndexDist (n : Nat) : Nat := (0x4002 + 0x40 * n) * 256 + 0x02
def incIndexTol (n : Nat) : Nat := (0x4002 + 0x40 * n) * 256 + 0x03
/-! 0x4003, R109 -/
def scOffsetA (n : Nat) : Nat := (0x4003 + 0x40 * n) * 256 + 0x01
def scOffsetB (n : Nat) : Nat := (0x4003 + 0x40 * n) * 256 + 0x02
def scGainA (n : Nat) : Nat := (0x4003 + 0x40 * n) * 256 + 0x03
def scGainB (n : Nat) : Nat := (0x4003 + 0x40 * n) * 256 + 0x04
def scPhase (n : Nat) : Nat := (0x4003 + 0x40 * n) * 256 + 0x05
def scAutoCorr (n : Nat) : Nat := (0x4003 + 0x40 * n) * 256 + 0x06
def scRadius (n : Nat) : Nat := (0x4003 + 0x40 * n) * 256 + 0x07
def scRefThreshold (n : Nat) : Nat := (0x4003 + 0x40 * n) * 256 + 0x08
/-! 0x4004, R115 -/
def resExcFreq (n : Nat) : Nat := (0x4004 + 0x40 * n) * 256 + 0x01
def resExcAmpl (n : Nat) : Nat := (0x4004 + 0x40 * n) * 256 + 0x02
def resExcSource (n : Nat) : Nat := (0x4004 + 0x40 * n) * 256 + 0x03
def resTrackBw (n : Nat) : Nat := (0x4004 + 0x40 * n) * 256 + 0x04
def resExcPhase (n : Nat) : Nat := (0x4004 + 0x40 * n) * 256 + 0x05
def resPhaseLearn (n : Nat) : Nat := (0x4004 + 0x40 * n) * 256 + 0x06
def resRadius (n : Nat) : Nat := (0x4004 + 0x40 * n) * 256 + 0x07
/-! 0x4005, R123 -/
def ssiClock (n : Nat) : Nat := (0x4005 + 0x40 * n) * 256 + 0x01
def ssiFrameBits (n : Nat) : Nat := (0x4005 + 0x40 * n) * 256 + 0x02
def ssiLeadBits (n : Nat) : Nat := (0x4005 + 0x40 * n) * 256 + 0x03
def ssiPosLsb (n : Nat) : Nat := (0x4005 + 0x40 * n) * 256 + 0x04
def ssiPosWidth (n : Nat) : Nat := (0x4005 + 0x40 * n) * 256 + 0x05
def ssiCode (n : Nat) : Nat := (0x4005 + 0x40 * n) * 256 + 0x06
def ssiSigned (n : Nat) : Nat := (0x4005 + 0x40 * n) * 256 + 0x07
def ssiParity (n : Nat) : Nat := (0x4005 + 0x40 * n) * 256 + 0x08
def ssiMonoflop (n : Nat) : Nat := (0x4005 + 0x40 * n) * 256 + 0x09
def ssiTrigger (n : Nat) : Nat := (0x4005 + 0x40 * n) * 256 + 0x0A
def ssiWrap (n : Nat) : Nat := (0x4005 + 0x40 * n) * 256 + 0x0B
def ssiMaxStep (n : Nat) : Nat := (0x4005 + 0x40 * n) * 256 + 0x0C
def ssiLineDelay (n : Nat) : Nat := (0x4005 + 0x40 * n) * 256 + 0x0D
/-! 0x4001, R129 -/
def fbsPosition (n : Nat) : Nat := (0x4001 + 0x40 * n) * 256 + 0x01
def fbsStatus (n : Nat) : Nat := (0x4001 + 0x40 * n) * 256 + 0x02
def fbsFrameAge (n : Nat) : Nat := (0x4001 + 0x40 * n) * 256 + 0x03
def fbsRefLatch (n : Nat) : Nat := (0x4001 + 0x40 * n) * 256 + 0x04
def fbsRefState (n : Nat) : Nat := (0x4001 + 0x40 * n) * 256 + 0x05
/-! 0x4006, R133 -/
def refUnitPerPeriod (n : Nat) : Nat := (0x4006 + 0x40 * n) * 256 + 0x01
def refPosOrigin (n : Nat) : Nat := (0x4006 + 0x40 * n) * 256 + 0x02
def refMode (n : Nat) : Nat := (0x4006 + 0x40 * n) * 256 + 0x03
def refHomePin (n : Nat) : Nat := (0x4006 + 0x40 * n) * 256 + 0x04
def refValue (n : Nat) : Nat := (0x4006 + 0x40 * n) * 256 + 0x05
def refAuto (n : Nat) : Nat := (0x4006 + 0x40 * n) * 256 + 0x06
def refArm (n : Nat) : Nat := (0x4006 + 0x40 * n) * 256 + 0x07

/-! Entries of spec/04_command_ports.md. -/

/-! 0x4008, R146 -/
def cmOutputMode (n : Nat) : Nat := (0x4008 + 0x40 * n) * 256 + 0x01
def cmRange (n : Nat) : Nat := (0x4008 + 0x40 * n) * 256 + 0x02
def cmRampSlew (n : Nat) : Nat := (0x4008 + 0x40 * n) * 256 + 0x03
def cmAoutOffset (n : Nat) : Nat := (0x4008 + 0x40 * n) * 256 + 0x04
def cmAoutInvert (n : Nat) : Nat := (0x4008 + 0x40 * n) * 256 + 0x05
def cmDemand (n : Nat) : Nat := (0x4008 + 0x40 * n) * 256 + 0x06
def cmDacCode (n : Nat) : Nat := (0x4008 + 0x40 * n) * 256 + 0x07
def cmClampRelease (n : Nat) : Nat := (0x4008 + 0x40 * n) * 256 + 0x08
/-! 0x4009, R151 -/
def stepPulseWidth (n : Nat) : Nat := (0x4009 + 0x40 * n) * 256 + 0x01
def stepMinLow (n : Nat) : Nat := (0x4009 + 0x40 * n) * 256 + 0x02
def stepDirSetup (n : Nat) : Nat := (0x4009 + 0x40 * n) * 256 + 0x03
def stepMax (n : Nat) : Nat := (0x4009 + 0x40 * n) * 256 + 0x04
def stepPolarity (n : Nat) : Nat := (0x4009 + 0x40 * n) * 256 + 0x05
def stepsEmitted (n : Nat) : Nat := (0x4009 + 0x40 * n) * 256 + 0x06
def stepRemainder (n : Nat) : Nat := (0x4009 + 0x40 * n) * 256 + 0x07
/-! 0x400A, R156 -/
def drvEnableSettle (n : Nat) : Nat := (0x400A + 0x40 * n) * 256 + 0x01
def drvFaultPolarity (n : Nat) : Nat := (0x400A + 0x40 * n) * 256 + 0x02
def drvFaultFilter (n : Nat) : Nat := (0x400A + 0x40 * n) * 256 + 0x03
def drvFaultAction (n : Nat) : Nat := (0x400A + 0x40 * n) * 256 + 0x04
/-! 0x400B, R161 -/
def clampCmStatus (n : Nat) : Nat := (0x400B + 0x40 * n) * 256 + 0x01
def clampCause (n : Nat) : Nat := (0x400B + 0x40 * n) * 256 + 0x02
def clampCount (n : Nat) : Nat := (0x400B + 0x40 * n) * 256 + 0x03
def clampClear (n : Nat) : Nat := (0x400B + 0x40 * n) * 256 + 0x04
/-! 0x2940, R176 -/
def safeStopState : Nat := 0x2940 * 256 + 0x01
def safeStopRelease : Nat := 0x2940 * 256 + 0x02
def safeStopCount : Nat := 0x2940 * 256 + 0x03
def safeLastSource : Nat := 0x2940 * 256 + 0x04

/-! Entries of spec/05_axis_engines.md. -/

/-! 0x2211, R180 -/
def rateServoRate : Nat := 0x2211 * 256 + 0x01
def rateTickPeriod : Nat := 0x2211 * 256 + 0x02
/-! 0x4010, R190 -/
def axisEnable (n : Nat) : Nat := (0x4010 + 0x40 * n) * 256 + 0x01
def axLoopMode (n : Nat) : Nat := (0x4010 + 0x40 * n) * 256 + 0x02
def axSource (n : Nat) : Nat := (0x4010 + 0x40 * n) * 256 + 0x03
def axHoldMode (n : Nat) : Nat := (0x4010 + 0x40 * n) * 256 + 0x04
def axHoldDecel (n : Nat) : Nat := (0x4010 + 0x40 * n) * 256 + 0x05
def axJoinWindow (n : Nat) : Nat := (0x4010 + 0x40 * n) * 256 + 0x06
def axDisableDelay (n : Nat) : Nat := (0x4010 + 0x40 * n) * 256 + 0x07
def axFallbackLoop (n : Nat) : Nat := (0x4010 + 0x40 * n) * 256 + 0x08
/-! 0x4012, R191 -/
def loopKp (n : Nat) : Nat := (0x4012 + 0x40 * n) * 256 + 0x01
def loopKvff (n : Nat) : Nat := (0x4012 + 0x40 * n) * 256 + 0x02
def loopKaff (n : Nat) : Nat := (0x4012 + 0x40 * n) * 256 + 0x03
def loopVFs (n : Nat) : Nat := (0x4012 + 0x40 * n) * 256 + 0x04
def loopKi (n : Nat) : Nat := (0x4012 + 0x40 * n) * 256 + 0x05
def loopIntLimit (n : Nat) : Nat := (0x4012 + 0x40 * n) * 256 + 0x06
/-! 0x4013, R191 -/
def velKv (n : Nat) : Nat := (0x4013 + 0x40 * n) * 256 + 0x01
def velTau (n : Nat) : Nat := (0x4013 + 0x40 * n) * 256 + 0x02
/-! 0x4014, R192 -/
def stpStepsPerPeriod (n : Nat) : Nat := (0x4014 + 0x40 * n) * 256 + 0x01
/-! 0x4015, R192 -/
def bq1Enable (n : Nat) : Nat := (0x4015 + 0x40 * n) * 256 + 0x01
def bq1B0 (n : Nat) : Nat := (0x4015 + 0x40 * n) * 256 + 0x02
def bq1B1 (n : Nat) : Nat := (0x4015 + 0x40 * n) * 256 + 0x03
def bq1B2 (n : Nat) : Nat := (0x4015 + 0x40 * n) * 256 + 0x04
def bq1A1 (n : Nat) : Nat := (0x4015 + 0x40 * n) * 256 + 0x05
def bq1A2 (n : Nat) : Nat := (0x4015 + 0x40 * n) * 256 + 0x06
def bq2Enable (n : Nat) : Nat := (0x4015 + 0x40 * n) * 256 + 0x07
def bq2B0 (n : Nat) : Nat := (0x4015 + 0x40 * n) * 256 + 0x08
def bq2B1 (n : Nat) : Nat := (0x4015 + 0x40 * n) * 256 + 0x09
def bq2B2 (n : Nat) : Nat := (0x4015 + 0x40 * n) * 256 + 0x0A
def bq2A1 (n : Nat) : Nat := (0x4015 + 0x40 * n) * 256 + 0x0B
def bq2A2 (n : Nat) : Nat := (0x4015 + 0x40 * n) * 256 + 0x0C
/-! 0x4016, R192 -/
def notchEnable (n : Nat) : Nat := (0x4016 + 0x40 * n) * 256 + 0x01
def notchCentre (n : Nat) : Nat := (0x4016 + 0x40 * n) * 256 + 0x02
def notchWidth (n : Nat) : Nat := (0x4016 + 0x40 * n) * 256 + 0x03
def notchDepth (n : Nat) : Nat := (0x4016 + 0x40 * n) * 256 + 0x04
/-! 0x4017, R195 -/
def limOutLimit (n : Nat) : Nat := (0x4017 + 0x40 * n) * 256 + 0x01
def limVelLimit (n : Nat) : Nat := (0x4017 + 0x40 * n) * 256 + 0x02
def limSoftEnable (n : Nat) : Nat := (0x4017 + 0x40 * n) * 256 + 0x03
def limSoftMin (n : Nat) : Nat := (0x4017 + 0x40 * n) * 256 + 0x04
def limSoftMax (n : Nat) : Nat := (0x4017 + 0x40 * n) * 256 + 0x05
/-! 0x4018, R195 -/
def feWarn (n : Nat) : Nat := (0x4018 + 0x40 * n) * 256 + 0x01
def feLimit (n : Nat) : Nat := (0x4018 + 0x40 * n) * 256 + 0x02
def feTime (n : Nat) : Nat := (0x4018 + 0x40 * n) * 256 + 0x03
def feAction (n : Nat) : Nat := (0x4018 + 0x40 * n) * 256 + 0x04
/-! 0x4011, R208 -/
def axspPdSetpoint (n : Nat) : Nat := (0x4011 + 0x40 * n) * 256 + 0x01
def axspCellAxis (n : Nat) : Nat := (0x4011 + 0x40 * n) * 256 + 0x02
def axspCellOffset (n : Nat) : Nat := (0x4011 + 0x40 * n) * 256 + 0x03
/-! 0x4019, R209 -/
def tapEnable (n : Nat) : Nat := (0x4019 + 0x40 * n) * 256 + 0x01
def tapPort (n : Nat) : Nat := (0x4019 + 0x40 * n) * 256 + 0x02
def tapCorrEnable (n : Nat) : Nat := (0x4019 + 0x40 * n) * 256 + 0x03
def tapCorrMax (n : Nat) : Nat := (0x4019 + 0x40 * n) * 256 + 0x04
def tapCorrStep (n : Nat) : Nat := (0x4019 + 0x40 * n) * 256 + 0x05
def tapCorrection (n : Nat) : Nat := (0x4019 + 0x40 * n) * 256 + 0x06
/-! 0x401A, R213 -/
def engineState (n : Nat) : Nat := (0x401A + 0x40 * n) * 256 + 0x01
def engStatus (n : Nat) : Nat := (0x401A + 0x40 * n) * 256 + 0x02
def engSetpoint (n : Nat) : Nat := (0x401A + 0x40 * n) * 256 + 0x03
def engFollowingError (n : Nat) : Nat := (0x401A + 0x40 * n) * 256 + 0x04
def engVelActual (n : Nat) : Nat := (0x401A + 0x40 * n) * 256 + 0x05
def engServedBy (n : Nat) : Nat := (0x401A + 0x40 * n) * 256 + 0x06
def engClear (n : Nat) : Nat := (0x401A + 0x40 * n) * 256 + 0x07
/-! 0x4C00, R223 -/
def siFreeCount : Nat := 0x4C00 * 256 + 0x01
def siCheckInterval : Nat := 0x4C00 * 256 + 0x02
def siTransients : Nat := 0x4C00 * 256 + 0x03
def siTakeovers : Nat := 0x4C00 * 256 + 0x04
def siChecks : Nat := 0x4C00 * 256 + 0x05
/-! 0x4C01, R223 -/
def sijSiState (n : Nat) : Nat := (0x4C01 + n) * 256 + 0x01
def sijSiAxis (n : Nat) : Nat := (0x4C01 + n) * 256 + 0x02
def sijBlockFirst (n : Nat) : Nat := (0x4C01 + n) * 256 + 0x03
def sijBlockLast (n : Nat) : Nat := (0x4C01 + n) * 256 + 0x04
/-! 0x4C10, R223 -/
def retiredEngines : Nat := 0x4C10 * 256 + 0x00

/-! Entries of spec/06_path_engine.md. -/

/-! 0x3001, R225 -/
def slotsSlotCount (n : Nat) : Nat := (0x3001 + 0x20 * n) * 256 + 0x01
def slotsSlot0Axis (n : Nat) : Nat := (0x3001 + 0x20 * n) * 256 + 0x02
def slotsSlot1Axis (n : Nat) : Nat := (0x3001 + 0x20 * n) * 256 + 0x03
def slotsSlot2Axis (n : Nat) : Nat := (0x3001 + 0x20 * n) * 256 + 0x04
def slotsSlot3Axis (n : Nat) : Nat := (0x3001 + 0x20 * n) * 256 + 0x05
def slotsSlot4Axis (n : Nat) : Nat := (0x3001 + 0x20 * n) * 256 + 0x06
def slotsSlot5Axis (n : Nat) : Nat := (0x3001 + 0x20 * n) * 256 + 0x07
def slotsSlot6Axis (n : Nat) : Nat := (0x3001 + 0x20 * n) * 256 + 0x08
def slotsSlot7Axis (n : Nat) : Nat := (0x3001 + 0x20 * n) * 256 + 0x09
def slotsSlot8Axis (n : Nat) : Nat := (0x3001 + 0x20 * n) * 256 + 0x0A
def slotsSlot9Axis (n : Nat) : Nat := (0x3001 + 0x20 * n) * 256 + 0x0B
def slotsSlot10Axis (n : Nat) : Nat := (0x3001 + 0x20 * n) * 256 + 0x0C
def slotsSlot11Axis (n : Nat) : Nat := (0x3001 + 0x20 * n) * 256 + 0x0D
def slotsPathMask (n : Nat) : Nat := (0x3001 + 0x20 * n) * 256 + 0x0E
/-! 0x401C, R227 -/
def axlimAxVmax (n : Nat) : Nat := (0x401C + 0x40 * n) * 256 + 0x01
def axlimAxAmax (n : Nat) : Nat := (0x401C + 0x40 * n) * 256 + 0x02
def axlimAxJmax (n : Nat) : Nat := (0x401C + 0x40 * n) * 256 + 0x03
/-! 0x3000, R231 -/
def grpGroupEnable (n : Nat) : Nat := (0x3000 + 0x20 * n) * 256 + 0x01
def grpStop (n : Nat) : Nat := (0x3000 + 0x20 * n) * 256 + 0x02
def grpAckFault (n : Nat) : Nat := (0x3000 + 0x20 * n) * 256 + 0x03
def grpFullWait (n : Nat) : Nat := (0x3000 + 0x20 * n) * 256 + 0x04
def grpQueueBank (n : Nat) : Nat := (0x3000 + 0x20 * n) * 256 + 0x05
/-! 0x3006, R263 -/
def dmaAddr (n : Nat) : Nat := (0x3006 + 0x20 * n) * 256 + 0x01
def dmaBytes (n : Nat) : Nat := (0x3006 + 0x20 * n) * 256 + 0x02
def dmaEnable (n : Nat) : Nat := (0x3006 + 0x20 * n) * 256 + 0x03
def dmaDone (n : Nat) : Nat := (0x3006 + 0x20 * n) * 256 + 0x04
def dmaWaitFlags (n : Nat) : Nat := (0x3006 + 0x20 * n) * 256 + 0x05
/-! 0x3003, R264 -/
def ovrOverride (n : Nat) : Nat := (0x3003 + 0x20 * n) * 256 + 0x01
def ovrOverrideInUse (n : Nat) : Nat := (0x3003 + 0x20 * n) * 256 + 0x02
/-! 0x3002, R268 -/
def glimVMax (n : Nat) : Nat := (0x3002 + 0x20 * n) * 256 + 0x01
def glimAMax (n : Nat) : Nat := (0x3002 + 0x20 * n) * 256 + 0x02
def glimJMax (n : Nat) : Nat := (0x3002 + 0x20 * n) * 256 + 0x03
def glimStopDecel (n : Nat) : Nat := (0x3002 + 0x20 * n) * 256 + 0x04
def glimStopJerk (n : Nat) : Nat := (0x3002 + 0x20 * n) * 256 + 0x05
def glimQuickDecel (n : Nat) : Nat := (0x3002 + 0x20 * n) * 256 + 0x06
def glimQuickJerk (n : Nat) : Nat := (0x3002 + 0x20 * n) * 256 + 0x07
def glimArcTol (n : Nat) : Nat := (0x3002 + 0x20 * n) * 256 + 0x08
/-! 0x3005, R269 -/
def flushStatus (n : Nat) : Nat := (0x3005 + 0x20 * n) * 256 + 0x01
def flushFirstId (n : Nat) : Nat := (0x3005 + 0x20 * n) * 256 + 0x02
def flushLastId (n : Nat) : Nat := (0x3005 + 0x20 * n) * 256 + 0x03
def flushCount (n : Nat) : Nat := (0x3005 + 0x20 * n) * 256 + 0x04
def flushCause (n : Nat) : Nat := (0x3005 + 0x20 * n) * 256 + 0x05
/-! 0x3004, R271 -/
def gstGroupState (n : Nat) : Nat := (0x3004 + 0x20 * n) * 256 + 0x01
def gstGrpStatus (n : Nat) : Nat := (0x3004 + 0x20 * n) * 256 + 0x02
def gstSegIdActive (n : Nat) : Nat := (0x3004 + 0x20 * n) * 256 + 0x03
def gstSegIdDone (n : Nat) : Nat := (0x3004 + 0x20 * n) * 256 + 0x04
def gstQueueSegments (n : Nat) : Nat := (0x3004 + 0x20 * n) * 256 + 0x05
def gstQueueFree (n : Nat) : Nat := (0x3004 + 0x20 * n) * 256 + 0x06
def gstWindowSegments (n : Nat) : Nat := (0x3004 + 0x20 * n) * 256 + 0x07
def gstPathVelocity (n : Nat) : Nat := (0x3004 + 0x20 * n) * 256 + 0x08
def gstDistToGo (n : Nat) : Nat := (0x3004 + 0x20 * n) * 256 + 0x09
def gstSegError (n : Nat) : Nat := (0x3004 + 0x20 * n) * 256 + 0x0A
def gstRunIn (n : Nat) : Nat := (0x3004 + 0x20 * n) * 256 + 0x0B
/-! 0x3100, R262 -/
def segmentStream (n : Nat) : Nat := (0x3100 + n) * 256 + 0x00

/-! Entries of spec/07_position_events.md. -/

/-! 0x400C, R276 -/
def evMode (n : Nat) : Nat := (0x400C + 0x40 * n) * 256 + 0x01
def evPolarity (n : Nat) : Nat := (0x400C + 0x40 * n) * 256 + 0x02
def evPulseWidth (n : Nat) : Nat := (0x400C + 0x40 * n) * 256 + 0x03
def evFilter (n : Nat) : Nat := (0x400C + 0x40 * n) * 256 + 0x04
def evDebounce (n : Nat) : Nat := (0x400C + 0x40 * n) * 256 + 0x05
def evSafeGate (n : Nat) : Nat := (0x400C + 0x40 * n) * 256 + 0x06
def evState (n : Nat) : Nat := (0x400C + 0x40 * n) * 256 + 0x07
def evCount (n : Nat) : Nat := (0x400C + 0x40 * n) * 256 + 0x08
def evMerged (n : Nat) : Nat := (0x400C + 0x40 * n) * 256 + 0x09
/-! 0x4020, R279 -/
def cmpMode (n u : Nat) : Nat := (0x4020 + u + 0x40 * n) * 256 + 0x01
def cmpDirCond (n u : Nat) : Nat := (0x4020 + u + 0x40 * n) * 256 + 0x02
def cmpTarget (n u : Nat) : Nat := (0x4020 + u + 0x40 * n) * 256 + 0x03
def cmpTarget2 (n u : Nat) : Nat := (0x4020 + u + 0x40 * n) * 256 + 0x04
def cmpRepeat (n u : Nat) : Nat := (0x4020 + u + 0x40 * n) * 256 + 0x05
def cmpHysteresis (n u : Nat) : Nat := (0x4020 + u + 0x40 * n) * 256 + 0x06
def cmpChannel (n u : Nat) : Nat := (0x4020 + u + 0x40 * n) * 256 + 0x07
def cmpArm (n u : Nat) : Nat := (0x4020 + u + 0x40 * n) * 256 + 0x08
def cmpStatus (n u : Nat) : Nat := (0x4020 + u + 0x40 * n) * 256 + 0x09
def cmpFireCount (n u : Nat) : Nat := (0x4020 + u + 0x40 * n) * 256 + 0x0A
def cmpNextTarget (n u : Nat) : Nat := (0x4020 + u + 0x40 * n) * 256 + 0x0B
/-! 0x4030, R292 -/
def capMode (n u : Nat) : Nat := (0x4030 + u + 0x40 * n) * 256 + 0x01
def capTrigger (n u : Nat) : Nat := (0x4030 + u + 0x40 * n) * 256 + 0x02
def capChannel (n u : Nat) : Nat := (0x4030 + u + 0x40 * n) * 256 + 0x03
def capArm (n u : Nat) : Nat := (0x4030 + u + 0x40 * n) * 256 + 0x04
def capValue (n u : Nat) : Nat := (0x4030 + u + 0x40 * n) * 256 + 0x05
def capSeq (n u : Nat) : Nat := (0x4030 + u + 0x40 * n) * 256 + 0x06
def capStatus (n u : Nat) : Nat := (0x4030 + u + 0x40 * n) * 256 + 0x07
def capTime (n u : Nat) : Nat := (0x4030 + u + 0x40 * n) * 256 + 0x08

/-! Entries of spec/08_fabric.md. -/

/-! 0x2450, R312 -/
def seamRequested (n : Nat) : Nat := (0x2450 + n) * 256 + 0x01
def seamMode (n : Nat) : Nat := (0x2450 + n) * 256 + 0x02
def seamFlags (n : Nat) : Nat := (0x2450 + n) * 256 + 0x03
def seamGradientNow (n : Nat) : Nat := (0x2450 + n) * 256 + 0x04
def seamRailDiff (n : Nat) : Nat := (0x2450 + n) * 256 + 0x05
/-! 0x2440, R313 -/
def regionState (n : Nat) : Nat := (0x2440 + n) * 256 + 0x01
def regionSpares (n : Nat) : Nat := (0x2440 + n) * 256 + 0x02
def regionClockSource (n : Nat) : Nat := (0x2440 + n) * 256 + 0x03
def regionClockFreq (n : Nat) : Nat := (0x2440 + n) * 256 + 0x04
def regionTemperature (n : Nat) : Nat := (0x2440 + n) * 256 + 0x05
def regionFrameErrors (n : Nat) : Nat := (0x2440 + n) * 256 + 0x06
/-! 0x2470, R323 -/
def portEnable (n : Nat) : Nat := (0x2470 + n) * 256 + 0x01
def portHostRegion (n : Nat) : Nat := (0x2470 + n) * 256 + 0x02
def portTagsInUse (n : Nat) : Nat := (0x2470 + n) * 256 + 0x03
def portAxes (n : Nat) : Nat := (0x2470 + n) * 256 + 0x04
def portErrors (n : Nat) : Nat := (0x2470 + n) * 256 + 0x05
def portObjectFirst (n : Nat) : Nat := (0x2470 + n) * 256 + 0x06
def portObjectCount (n : Nat) : Nat := (0x2470 + n) * 256 + 0x07
/-! 0x2478, R329 -/
def scrubPasses : Nat := 0x2478 * 256 + 0x01
def scrubCorrected : Nat := 0x2478 * 256 + 0x02
def scrubRewritten : Nat := 0x2478 * 256 + 0x03
def scrubUnrecovered : Nat := 0x2478 * 256 + 0x04
def scrubLastFrame : Nat := 0x2478 * 256 + 0x05
/-! 0x2479, R332 -/
def hpiAttach : Nat := 0x2479 * 256 + 0x01
def hpiAttachInUse : Nat := 0x2479 * 256 + 0x02

/-! Entries of spec/09_ingots_and_loading.md. -/

/-! 0x2400, R359 -/
def ingotRunningSlot : Nat := 0x2400 * 256 + 0x01
def ingotRunningId : Nat := 0x2400 * 256 + 0x02
def ingotRunningVersion : Nat := 0x2400 * 256 + 0x03
def ingotLoadedMap : Nat := 0x2400 * 256 + 0x04
def ingotFallbackCause : Nat := 0x2400 * 256 + 0x05
def ingotFallbackSlot : Nat := 0x2400 * 256 + 0x06
def ingotFallbackWhere : Nat := 0x2400 * 256 + 0x07
def ingotLoadTime : Nat := 0x2400 * 256 + 0x08
def ingotReleaseState : Nat := 0x2400 * 256 + 0x09
/-! 0x2401, R360 -/
def slotRole (n : Nat) : Nat := (0x2401 + n) * 256 + 0x01
def slotState (n : Nat) : Nat := (0x2401 + n) * 256 + 0x02
def slotId (n : Nat) : Nat := (0x2401 + n) * 256 + 0x03
def slotVersion (n : Nat) : Nat := (0x2401 + n) * 256 + 0x04
def slotRollback (n : Nat) : Nat := (0x2401 + n) * 256 + 0x05
def slotResult (n : Nat) : Nat := (0x2401 + n) * 256 + 0x06
/-! 0x2404, R362 -/
def stageCommand : Nat := 0x2404 * 256 + 0x01
def stageData : Nat := 0x2404 * 256 + 0x02
def stageWritten : Nat := 0x2404 * 256 + 0x03
def stageOwner : Nat := 0x2404 * 256 + 0x04
/-! 0x2405, R366 -/
def cutover : Nat := 0x2405 * 256 + 0x01
def cutoverAt : Nat := 0x2405 * 256 + 0x02
def cutoverState : Nat := 0x2405 * 256 + 0x03
def cutPromoteGolden : Nat := 0x2405 * 256 + 0x04
def cutRollbackFloor : Nat := 0x2405 * 256 + 0x05
def cutRollbackCommit : Nat := 0x2405 * 256 + 0x06
/-! 0x2406, R376 -/
def fcpStream : Nat := 0x2406 * 256 + 0x01
def fcpState : Nat := 0x2406 * 256 + 0x02
def fcpResult : Nat := 0x2406 * 256 + 0x03
def fcpReload : Nat := 0x2406 * 256 + 0x04
/-! 0x2407, R385 -/
def cfgId : Nat := 0x2407 * 256 + 0x01
def cfgDoneLine : Nat := 0x2407 * 256 + 0x02
def cfgDoneWaited : Nat := 0x2407 * 256 + 0x03
def cfgSections : Nat := 0x2407 * 256 + 0x04
def cfgErrors : Nat := 0x2407 * 256 + 0x05

/-! Entries of spec/10_flash.md. -/

/-! 0x2300, R415 -/
def flBankState : Nat := 0x2300 * 256 + 0x01
def flOperations : Nat := 0x2300 * 256 + 0x02
def flCorrected : Nat := 0x2300 * 256 + 0x03
def flUncorrectable : Nat := 0x2300 * 256 + 0x04
def flEwBlocks : Nat := 0x2300 * 256 + 0x05
def flIncompleteBlocks : Nat := 0x2300 * 256 + 0x06
/-! 0x2301, R416 -/
def flcEwThreshold : Nat := 0x2301 * 256 + 0x01
def flcAutoFinish : Nat := 0x2301 * 256 + 0x02
def flcAutoRefreshUser : Nat := 0x2301 * 256 + 0x03
/-! 0x2302, R417 -/
def protPassword : Nat := 0x2302 * 256 + 0x01
def protSession : Nat := 0x2302 * 256 + 0x02
def protFails : Nat := 0x2302 * 256 + 0x03
def protNewPassword : Nat := 0x2302 * 256 + 0x04
def protectMap : Nat := 0x2302 * 256 + 0x05
def protClose : Nat := 0x2302 * 256 + 0x06
/-! 0x2303, R418 -/
def blkBlockSelect : Nat := 0x2303 * 256 + 0x01
def blkEraseCount : Nat := 0x2303 * 256 + 0x02
def blkBlockFlags : Nat := 0x2303 * 256 + 0x03
def blkMaxCorrected : Nat := 0x2303 * 256 + 0x04
def blkLastErase : Nat := 0x2303 * 256 + 0x05
def blkRefreshCount : Nat := 0x2303 * 256 + 0x06
/-! 0x2304, R419 -/
def userEnable : Nat := 0x2304 * 256 + 0x01
def userData : Nat := 0x2304 * 256 + 0x02
def userErase : Nat := 0x2304 * 256 + 0x03
def userOffset : Nat := 0x2304 * 256 + 0x04

/-! Entries of spec/11_scratchpad_and_dram.md. -/

/-! 0x2700, R427 -/
def bankOwner (n : Nat) : Nat := (0x2700 + n) * 256 + 0x01
def bankHandoverState (n : Nat) : Nat := (0x2700 + n) * 256 + 0x02
def bankHandoverZero (n : Nat) : Nat := (0x2700 + n) * 256 + 0x03
def bankStartOwner (n : Nat) : Nat := (0x2700 + n) * 256 + 0x04
def bankRetain (n : Nat) : Nat := (0x2700 + n) * 256 + 0x05
def bankCorrected (n : Nat) : Nat := (0x2700 + n) * 256 + 0x06
def bankDmaWaits (n : Nat) : Nat := (0x2700 + n) * 256 + 0x07
/-! 0x2720, R439 -/
def dramCapacity : Nat := 0x2720 * 256 + 0x01
def dramDeviceWidth : Nat := 0x2720 * 256 + 0x02
def dramRanks : Nat := 0x2720 * 256 + 0x03
def dramState : Nat := 0x2720 * 256 + 0x04
def dramUserBytes : Nat := 0x2720 * 256 + 0x05
def dramCorrected : Nat := 0x2720 * 256 + 0x06
def dramUncorrectable : Nat := 0x2720 * 256 + 0x07
def dramRetiredRows : Nat := 0x2720 * 256 + 0x08
def dramSpareRows : Nat := 0x2720 * 256 + 0x09
/-! 0x2730, R441 -/
def rangeBase (n : Nat) : Nat := (0x2730 + n) * 256 + 0x01
def rangeSize (n : Nat) : Nat := (0x2730 + n) * 256 + 0x02
/-! 0x2D00, R443 -/
def reelEnable : Nat := 0x2D00 * 256 + 0x01
def reelMode : Nat := 0x2D00 * 256 + 0x02
def reelRingBase : Nat := 0x2D00 * 256 + 0x03
def reelRingSize : Nat := 0x2D00 * 256 + 0x04
def reelDecimate : Nat := 0x2D00 * 256 + 0x05
def reelTakeId : Nat := 0x2D00 * 256 + 0x06
def reelTakeRecords : Nat := 0x2D00 * 256 + 0x07
def reelLostTicks : Nat := 0x2D00 * 256 + 0x08
def reelRingFill : Nat := 0x2D00 * 256 + 0x09
def reelKeyIndex : Nat := 0x2D00 * 256 + 0x0A
/-! 0x2740, R441 -/
def rangeLockRangeLock : Nat := 0x2740 * 256 + 0x01
/-! 0x2D01, R444 -/
def signal (i : Nat) : Nat := 0x2D01 * 256 + 0x01 + i

/-! Entries of spec/12_inline_cipher_and_storage.md. -/

/-! 0x2500, R450 -/
def ciDramKeyMode : Nat := 0x2500 * 256 + 0x01
def ciStorageKeyMode : Nat := 0x2500 * 256 + 0x02
def ciPageReencrypts : Nat := 0x2500 * 256 + 0x03
def ciDramRemelts : Nat := 0x2500 * 256 + 0x04
def ciDramIntegrityFails : Nat := 0x2500 * 256 + 0x05
def ciStorageIntegrityFails : Nat := 0x2500 * 256 + 0x06
/-! 0x2501, R454 -/
def slotSelect : Nat := 0x2501 * 256 + 0x01
def slotSelSlotState : Nat := 0x2501 * 256 + 0x02
def slotSelGeneration : Nat := 0x2501 * 256 + 0x03
def slotSelFreeSlots : Nat := 0x2501 * 256 + 0x04
/-! 0x2502, R454 -/
def keyRecord : Nat := 0x2502 * 256 + 0x01
def keyGenerate : Nat := 0x2502 * 256 + 0x02
/-! 0x2602, R473 -/
def rekeyIndex : Nat := 0x2602 * 256 + 0x01
def rekeyControl : Nat := 0x2602 * 256 + 0x02
def rekeyState : Nat := 0x2602 * 256 + 0x03
def rekeyRegionsTotal : Nat := 0x2602 * 256 + 0x04
def rekeyRegionsDone : Nat := 0x2602 * 256 + 0x05
def rekeyCurrent : Nat := 0x2602 * 256 + 0x06
def rekeyRemeltQueue : Nat := 0x2602 * 256 + 0x07
/-! 0x2510, R474 -/
def retire : Nat := 0x2510 * 256 + 0x01
def retiring : Nat := 0x2510 * 256 + 0x02
/-! 0x2600, R478 -/
def storageMode : Nat := 0x2600 * 256 + 0x01
def storageState : Nat := 0x2600 * 256 + 0x02
def stoProtectedSectors : Nat := 0x2600 * 256 + 0x03
def stoDriveState : Nat := 0x2600 * 256 + 0x04
def stoWriteCache : Nat := 0x2600 * 256 + 0x05
def stoRebuild : Nat := 0x2600 * 256 + 0x06
def stoRebuildDone : Nat := 0x2600 * 256 + 0x07
/-! 0x2610, R480 -/
def queueEnable (n : Nat) : Nat := (0x2610 + n) * 256 + 0x01
def qKeyIndex (n : Nat) : Nat := (0x2610 + n) * 256 + 0x02
def queueGen (n : Nat) : Nat := (0x2610 + n) * 256 + 0x03
def qLbaBase (n : Nat) : Nat := (0x2610 + n) * 256 + 0x04
def qData (n : Nat) : Nat := (0x2610 + n) * 256 + 0x05
def qTransfer (n : Nat) : Nat := (0x2610 + n) * 256 + 0x06
def qFlush (n : Nat) : Nat := (0x2610 + n) * 256 + 0x07
def qWaiting (n : Nat) : Nat := (0x2610 + n) * 256 + 0x08
def qAtDrive (n : Nat) : Nat := (0x2610 + n) * 256 + 0x09
/-! 0x2620, R483 -/
def reelSReelLbaFirst : Nat := 0x2620 * 256 + 0x01
def reelSectors : Nat := 0x2620 * 256 + 0x02
def reelSReelNext : Nat := 0x2620 * 256 + 0x03
def reelSTakeStart : Nat := 0x2620 * 256 + 0x04

/-! Entries of spec/13_check_units.md. -/

/-! 0x2800, R490 -/
def ckEnable (n : Nat) : Nat := (0x2800 + n) * 256 + 0x01
def ckPreset (n : Nat) : Nat := (0x2800 + n) * 256 + 0x02
def ckWidth (n : Nat) : Nat := (0x2800 + n) * 256 + 0x03
def ckPoly (n : Nat) : Nat := (0x2800 + n) * 256 + 0x04
def ckInit (n : Nat) : Nat := (0x2800 + n) * 256 + 0x05
def ckReflect (n : Nat) : Nat := (0x2800 + n) * 256 + 0x06
def ckXorout (n : Nat) : Nat := (0x2800 + n) * 256 + 0x07
def ckRunning (n : Nat) : Nat := (0x2800 + n) * 256 + 0x08
def ckChainAddr (n : Nat) : Nat := (0x2800 + n) * 256 + 0x09
def ckChainKey (n : Nat) : Nat := (0x2800 + n) * 256 + 0x0A
def ckStart (n : Nat) : Nat := (0x2800 + n) * 256 + 0x0B
def ckState (n : Nat) : Nat := (0x2800 + n) * 256 + 0x0C
def ckChainNext (n : Nat) : Nat := (0x2800 + n) * 256 + 0x0D
def ckDescriptors (n : Nat) : Nat := (0x2800 + n) * 256 + 0x0E
def ckBytes (n : Nat) : Nat := (0x2800 + n) * 256 + 0x0F

/-! Entries of spec/14_assay_island.md. -/

/-! 0x5000, R534 -/
def islandState : Nat := 0x5000 * 256 + 0x01
def islFwVersion : Nat := 0x5000 * 256 + 0x02
def islSealCount : Nat := 0x5000 * 256 + 0x03
def islSealKeyHash : Nat := 0x5000 * 256 + 0x04
def islNonce : Nat := 0x5000 * 256 + 0x05
def islFaultCause : Nat := 0x5000 * 256 + 0x06
def islAseal : Nat := 0x5000 * 256 + 0x07
/-! 0x5001, R534 -/
def jobCommand : Nat := 0x5001 * 256 + 0x01
def jobId : Nat := 0x5001 * 256 + 0x02
def jobState : Nat := 0x5001 * 256 + 0x03
def jobPieces : Nat := 0x5001 * 256 + 0x04
def jobLiveLength : Nat := 0x5001 * 256 + 0x05
def jobLastLegal : Nat := 0x5001 * 256 + 0x06
def jobLastSeq : Nat := 0x5001 * 256 + 0x07
/-! 0x5002, R535 -/
def logHeadSeq : Nat := 0x5002 * 256 + 0x01
def logHeadHash : Nat := 0x5002 * 256 + 0x02
def logOldestSeq : Nat := 0x5002 * 256 + 0x03
def logAckSeq : Nat := 0x5002 * 256 + 0x04
def logFree : Nat := 0x5002 * 256 + 0x05
def logReadSeq : Nat := 0x5002 * 256 + 0x06
def logRecords : Nat := 0x5002 * 256 + 0x07
def logExportAck : Nat := 0x5002 * 256 + 0x08
/-! 0x5003, R535 -/
def sreqSignedRequest : Nat := 0x5003 * 256 + 0x01
def sreqFwImage : Nat := 0x5003 * 256 + 0x02
def sreqLastResult : Nat := 0x5003 * 256 + 0x03
def sreqFwWritten : Nat := 0x5003 * 256 + 0x04
/-! 0x5004, R535 -/
def paramSelect : Nat := 0x5004 * 256 + 0x01
def paramValue : Nat := 0x5004 * 256 + 0x02
/-! 0x2621, R536 -/
def mirrorEnable : Nat := 0x2621 * 256 + 0x01
def mirrorQueue : Nat := 0x2621 * 256 + 0x02
def mirrorLbaFirst : Nat := 0x2621 * 256 + 0x03
def mirrorSectors : Nat := 0x2621 * 256 + 0x04
def mirrorSeq : Nat := 0x2621 * 256 + 0x05

/-! Entries of spec/15_clocks_and_time.md. -/

/-! 0x2200, R545 -/
def xoPreferred : Nat := 0x2200 * 256 + 0x01
def xoSelect : Nat := 0x2200 * 256 + 0x02
def xoInUse : Nat := 0x2200 * 256 + 0x03
def xoHealth : Nat := 0x2200 * 256 + 0x04
def xoSwitchovers : Nat := 0x2200 * 256 + 0x05
def xoXbOffset : Nat := 0x2200 * 256 + 0x06
/-! 0x2220, R551 -/
def pllVcoPlan (n : Nat) : Nat := (0x2220 + n) * 256 + 0x01
def pllVcoInUse (n : Nat) : Nat := (0x2220 + n) * 256 + 0x02
def pllState (n : Nat) : Nat := (0x2220 + n) * 256 + 0x03
def pllBandSlot (n : Nat) : Nat := (0x2220 + n) * 256 + 0x04
def pllLockLosses (n : Nat) : Nat := (0x2220 + n) * 256 + 0x05
def pllSearches (n : Nat) : Nat := (0x2220 + n) * 256 + 0x06
def pllHops (n : Nat) : Nat := (0x2220 + n) * 256 + 0x07
def pllOut0Div (n : Nat) : Nat := (0x2220 + n) * 256 + 0x08
def pllOut1Div (n : Nat) : Nat := (0x2220 + n) * 256 + 0x09
def pllOut2Div (n : Nat) : Nat := (0x2220 + n) * 256 + 0x0A
def pllOut3Div (n : Nat) : Nat := (0x2220 + n) * 256 + 0x0B
def pllOut4Div (n : Nat) : Nat := (0x2220 + n) * 256 + 0x0C
def pllOut5Div (n : Nat) : Nat := (0x2220 + n) * 256 + 0x0D
def pllOut6Div (n : Nat) : Nat := (0x2220 + n) * 256 + 0x0E
def pllOut0Phase (n : Nat) : Nat := (0x2220 + n) * 256 + 0x0F
def pllOut1Phase (n : Nat) : Nat := (0x2220 + n) * 256 + 0x10
def pllOut2Phase (n : Nat) : Nat := (0x2220 + n) * 256 + 0x11
def pllOut3Phase (n : Nat) : Nat := (0x2220 + n) * 256 + 0x12
def pllOut4Phase (n : Nat) : Nat := (0x2220 + n) * 256 + 0x13
def pllOut5Phase (n : Nat) : Nat := (0x2220 + n) * 256 + 0x14
def pllOut6Phase (n : Nat) : Nat := (0x2220 + n) * 256 + 0x15
def pllOut0En (n : Nat) : Nat := (0x2220 + n) * 256 + 0x16
def pllOut1En (n : Nat) : Nat := (0x2220 + n) * 256 + 0x17
def pllOut2En (n : Nat) : Nat := (0x2220 + n) * 256 + 0x18
def pllOut3En (n : Nat) : Nat := (0x2220 + n) * 256 + 0x19
def pllOut4En (n : Nat) : Nat := (0x2220 + n) * 256 + 0x1A
def pllOut5En (n : Nat) : Nat := (0x2220 + n) * 256 + 0x1B
def pllOut6En (n : Nat) : Nat := (0x2220 + n) * 256 + 0x1C
def pllOutUse (n : Nat) : Nat := (0x2220 + n) * 256 + 0x1D
/-! 0x2A00, R559 -/
def rtcSeconds : Nat := 0x2A00 * 256 + 0x01
def rtcCalendar : Nat := 0x2A00 * 256 + 0x02
def rtcValid : Nat := 0x2A00 * 256 + 0x03
def rtcTrim : Nat := 0x2A00 * 256 + 0x04
def rtcSubsec : Nat := 0x2A00 * 256 + 0x05
def rtcWrites : Nat := 0x2A00 * 256 + 0x06
/-! 0x2C00, R567 -/
def linkEnable : Nat := 0x2C00 * 256 + 0x01
def linkState : Nat := 0x2C00 * 256 + 0x02
def linkFlags : Nat := 0x2C00 * 256 + 0x03
def linkHopDelay0 : Nat := 0x2C00 * 256 + 0x04
def linkHopDelay1 : Nat := 0x2C00 * 256 + 0x05
def linkPathDelay : Nat := 0x2C00 * 256 + 0x06
def linkMembers : Nat := 0x2C00 * 256 + 0x07
def linkCrcErrors : Nat := 0x2C00 * 256 + 0x08
def linkCellTime : Nat := 0x2C00 * 256 + 0x09
def linkWakeAt : Nat := 0x2C00 * 256 + 0x0A
def linkBurstPeriod : Nat := 0x2C00 * 256 + 0x0B
def linkWakeResult : Nat := 0x2C00 * 256 + 0x0C
def linkWakeError : Nat := 0x2C00 * 256 + 0x0D
def linkTimeJumps : Nat := 0x2C00 * 256 + 0x0E

/-! Entries of spec/16_power.md. -/

/-! 0x2100, R574 -/
def powerState : Nat := 0x2100 * 256 + 0x01
def powerRequest : Nat := 0x2100 * 256 + 0x02
def powLastWake : Nat := 0x2100 * 256 + 0x03
def powLastState : Nat := 0x2100 * 256 + 0x04
def powWakeTime : Nat := 0x2100 * 256 + 0x05
/-! 0x2101, R579 -/
def wakeEnable : Nat := 0x2101 * 256 + 0x01
def wakeAlarm : Nat := 0x2101 * 256 + 0x02
def wakeCellWake : Nat := 0x2101 * 256 + 0x03
/-! 0x2104, R583 -/
def pfaultFaultStage : Nat := 0x2104 * 256 + 0x01
def pfaultFaultRail : Nat := 0x2104 * 256 + 0x02
def pfaultFaultAttempts : Nat := 0x2104 * 256 + 0x03
def pfaultFaultTime : Nat := 0x2104 * 256 + 0x04
def pfaultFaultClear : Nat := 0x2104 * 256 + 0x05
/-! 0x2102, R590 -/
def railVccq0Set : Nat := 0x2102 * 256 + 0x01
def railVccq1Set : Nat := 0x2102 * 256 + 0x02
def railVccq2Set : Nat := 0x2102 * 256 + 0x03
def railVccq3Set : Nat := 0x2102 * 256 + 0x04
def railVccq0Meas : Nat := 0x2102 * 256 + 0x05
def railVccq1Meas : Nat := 0x2102 * 256 + 0x06
def railVccq2Meas : Nat := 0x2102 * 256 + 0x07
def railVccq3Meas : Nat := 0x2102 * 256 + 0x08
def railVccSysMeas : Nat := 0x2102 * 256 + 0x09
/-! 0x2B02, R595 -/
def pmbTransactions : Nat := 0x2B02 * 256 + 0x01
def pmbArbLost : Nat := 0x2B02 * 256 + 0x02
def pmbFailed : Nat := 0x2B02 * 256 + 0x03
def pmbPecErrors : Nat := 0x2B02 * 256 + 0x04
def pmbForeign : Nat := 0x2B02 * 256 + 0x05
def pmbLastAlert : Nat := 0x2B02 * 256 + 0x06
/-! 0x2103, R599 -/
def batVbatMv : Nat := 0x2103 * 256 + 0x01
def batSupplyInUse : Nat := 0x2103 * 256 + 0x02
def batBackupStatus : Nat := 0x2103 * 256 + 0x03
def batUserBbram : Nat := 0x2103 * 256 + 0x04
def batSwitches : Nat := 0x2103 * 256 + 0x05
/-! 0x2B01, R591 -/
def railMapRail (i : Nat) : Nat := 0x2B01 * 256 + 0x01 + i

/-! Entries of spec/17_lifecycle_and_keys.md. -/

/-! 0x2030, R626 -/
def lifeState : Nat := 0x2030 * 256 + 0x01
def lifeTokensLeft : Nat := 0x2030 * 256 + 0x02
def lifeOwnerRecord : Nat := 0x2030 * 256 + 0x03
def lifeRecordsLeft : Nat := 0x2030 * 256 + 0x04
def lifeImageKeyHash : Nat := 0x2030 * 256 + 0x05
def lifeConsentKeyHash : Nat := 0x2030 * 256 + 0x06
/-! 0x2031, R626 -/
def transDeviceNonce : Nat := 0x2031 * 256 + 0x01
def transitionRequest : Nat := 0x2031 * 256 + 0x02
def transLastResult : Nat := 0x2031 * 256 + 0x03
def transitionState : Nat := 0x2031 * 256 + 0x04
def transMargin : Nat := 0x2031 * 256 + 0x05
/-! 0x2032, R626 -/
def dbgDebugChallenge : Nat := 0x2032 * 256 + 0x01
def dbgDebugGrant : Nat := 0x2032 * 256 + 0x02
def dbgDebugScope : Nat := 0x2032 * 256 + 0x03
def dbgDebugClose : Nat := 0x2032 * 256 + 0x04
/-! 0x2033, R626 -/
def tamperState : Nat := 0x2033 * 256 + 0x01
def tamperClear : Nat := 0x2033 * 256 + 0x02
def tamperCount : Nat := 0x2033 * 256 + 0x03
def tamperTime : Nat := 0x2033 * 256 + 0x04
/-! 0x2034, R626 -/
def bkRecord : Nat := 0x2034 * 256 + 0x01
def bkState : Nat := 0x2034 * 256 + 0x02
def bkClear : Nat := 0x2034 * 256 + 0x03

/-! Entries of spec/18_self_test_and_reserve.md. -/

/-! 0x2900, R635 -/
def wrapAtOff : Nat := 0x2900 * 256 + 0x01
def wrapNext : Nat := 0x2900 * 256 + 0x02
def wrapScheduled : Nat := 0x2900 * 256 + 0x03
def wrapLastRoll : Nat := 0x2900 * 256 + 0x04
def wrapRollReason : Nat := 0x2900 * 256 + 0x05
def wrapRollTime : Nat := 0x2900 * 256 + 0x06
def wrapRollFailures : Nat := 0x2900 * 256 + 0x07
/-! 0x2901, R635 -/
def wrecWrapSeq : Nat := 0x2901 * 256 + 0x01
def wrecWrapTime : Nat := 0x2901 * 256 + 0x02
def wrecWrapResult : Nat := 0x2901 * 256 + 0x03
def wrecWrapData : Nat := 0x2901 * 256 + 0x04
/-! 0x2920, R642 -/
def safeStSafeCause : Nat := 0x2920 * 256 + 0x01
def safeStSafeUnit : Nat := 0x2920 * 256 + 0x02
def safeStSafeTime : Nat := 0x2920 * 256 + 0x03
def safeStSafeCount : Nat := 0x2920 * 256 + 0x04
def safeStSafeReset : Nat := 0x2920 * 256 + 0x05
/-! 0x2910, R649 -/
def resvReserveFigure : Nat := 0x2910 * 256 + 0x01
def resvReserveLow : Nat := 0x2910 * 256 + 0x02
def resvServiceHours : Nat := 0x2910 * 256 + 0x03
def resvLeft1 : Nat := 0x2910 * 256 + 0x04
def resvLeft2 : Nat := 0x2910 * 256 + 0x05
def resvLeft3 : Nat := 0x2910 * 256 + 0x06
def resvLeft4 : Nat := 0x2910 * 256 + 0x07
def resvLeft5 : Nat := 0x2910 * 256 + 0x08
def resvLeft6 : Nat := 0x2910 * 256 + 0x09
def resvLeft7 : Nat := 0x2910 * 256 + 0x0A
def resvYearsLeft : Nat := 0x2910 * 256 + 0x0B

/-! Entries of spec/19_cells_and_upgrades.md. -/

/-! 0x2C01, R654 -/
def cellExpected : Nat := 0x2C01 * 256 + 0x01
def cellPresent : Nat := 0x2C01 * 256 + 0x02
def cellTimePriority : Nat := 0x2C01 * 256 + 0x03
def cellTimeSource : Nat := 0x2C01 * 256 + 0x04
def cellOwnLevel : Nat := 0x2C01 * 256 + 0x05
def cellLevel : Nat := 0x2C01 * 256 + 0x06
def cellLevels : Nat := 0x2C01 * 256 + 0x07
def cellElections : Nat := 0x2C01 * 256 + 0x08
/-! 0x2C02, R661 -/
def pub0 : Nat := 0x2C02 * 256 + 0x01
def pub1 : Nat := 0x2C02 * 256 + 0x02
def pub2 : Nat := 0x2C02 * 256 + 0x03
def pub3 : Nat := 0x2C02 * 256 + 0x04
def pub4 : Nat := 0x2C02 * 256 + 0x05
def pub5 : Nat := 0x2C02 * 256 + 0x06
def pub6 : Nat := 0x2C02 * 256 + 0x07
def pub7 : Nat := 0x2C02 * 256 + 0x08
def pub8 : Nat := 0x2C02 * 256 + 0x09
def pub9 : Nat := 0x2C02 * 256 + 0x0A
def pub10 : Nat := 0x2C02 * 256 + 0x0B
def pub11 : Nat := 0x2C02 * 256 + 0x0C
/-! 0x2C20, R665 -/
def fwCommand : Nat := 0x2C20 * 256 + 0x01
def fwData : Nat := 0x2C20 * 256 + 0x02
def fwRunning : Nat := 0x2C20 * 256 + 0x03
def fwTrial : Nat := 0x2C20 * 256 + 0x04
def fwOtherState : Nat := 0x2C20 * 256 + 0x05
def fwOtherVersion : Nat := 0x2C20 * 256 + 0x06
def fwResult : Nat := 0x2C20 * 256 + 0x07
def fwFloor : Nat := 0x2C20 * 256 + 0x08
def fwFloorCommit : Nat := 0x2C20 * 256 + 0x09
def fwTrialTimeout : Nat := 0x2C20 * 256 + 0x0A

/-! Entries of spec/20_pins_and_electrical.md. -/

/-! 0x2105, R682 -/
def thermTjNow : Nat := 0x2105 * 256 + 0x01
def thermTjPeak : Nat := 0x2105 * 256 + 0x02
def thermGradeLimit : Nat := 0x2105 * 256 + 0x03
def thermTjAverage : Nat := 0x2105 * 256 + 0x04
def thermHoursHot : Nat := 0x2105 * 256 + 0x05

end Sys2Proof.Machine.K
end

