-- ==== Sys2Proof/Machine/Dict.lean ====
section
/-! DEFINITION. The object tables of the spec: type, access, qualifiers, range and default of every dictionary entry
(02 R31 to R37), and the checks of a value that need nothing but its entry (02 R33, R35, R698 steps 1, 2, 3 and 6). -/

namespace Sys2Proof.Machine

/-- The data types of 02 R33, with sizes in bytes. -/
inductive Ty where
  | bool
  | int (bytes : Nat)
  | uint (bytes : Nat)
  | real
  | vstr
  | ostr
  | dom
deriving DecidableEq, Repr

/-- The access attributes of 02 R34; const entries are read-only. -/
inductive Acc where
  | ro | rw | wo
deriving DecidableEq, Repr

/-- The values that an entry's Meaning column admits. -/
inductive Rng where
  | any
  | span (lo hi : Int)
  | code (lo hi : Int)
  | enum (vs : List Int)
  | mask (m : Nat)
  | mult (k : Nat)
  | either (lo1 hi1 lo2 hi2 : Int)
  | finite
  | realPos
  | realNonneg
  | realSpan (hi : F64)
  | len (n : Nat)
deriving DecidableEq, Repr

/-- One line of an object table: it stands for index base + s1 * i + s2 * j, i < c1, j < c2, and sub-indices sub to
sub + subs - 1. The default of unit number i is dflt + dfltStep * i. -/
structure Row where
  base : Nat
  s1 : Nat
  c1 : Nat
  s2 : Nat
  c2 : Nat
  sub : Nat
  subs : Nat
  ty : Ty
  acc : Acc
  stored : Bool
  map : Bool
  still : Bool
  rng : Rng
  dflt : Int
  dfltStep : Int
deriving DecidableEq, Repr

/-- The rows of spec/01_architecture.md, in the order of its tables. -/
def rows01_0 : List Row := [
  ⟨0x2210, 1, 1, 1, 1, 0x00, 1, .uint 1, .ro, false, false, false, .any, 3, 0⟩,
  ⟨0x2210, 1, 1, 1, 1, 0x01, 1, .uint 1, .rw, true, false, false, .code 0 2, 0, 0⟩,
  ⟨0x2210, 1, 1, 1, 1, 0x02, 1, .uint 1, .ro, false, false, false, .any, 0, 0⟩,
  ⟨0x2210, 1, 1, 1, 1, 0x03, 1, .uint 8, .ro, false, false, false, .any, 0, 0⟩]

def rows01 : List Row := rows01_0

/-- The rows of spec/02_object_dictionary.md, in the order of its tables. -/
def rows02_0 : List Row := [
  ⟨0x1010, 1, 1, 1, 1, 0x00, 1, .uint 1, .ro, false, false, false, .any, 4, 0⟩,
  ⟨0x1010, 1, 1, 1, 1, 0x01, 1, .uint 4, .rw, false, false, false, .any, 1, 0⟩,
  ⟨0x1010, 1, 1, 1, 1, 0x02, 1, .uint 4, .rw, false, false, false, .any, 1, 0⟩,
  ⟨0x1010, 1, 1, 1, 1, 0x03, 1, .uint 4, .rw, false, false, false, .any, 1, 0⟩,
  ⟨0x1010, 1, 1, 1, 1, 0x04, 1, .uint 4, .rw, false, false, false, .any, 1, 0⟩,
  ⟨0x1011, 1, 1, 1, 1, 0x00, 1, .uint 1, .ro, false, false, false, .any, 4, 0⟩,
  ⟨0x1011, 1, 1, 1, 1, 0x01, 1, .uint 4, .rw, false, false, false, .any, 1, 0⟩,
  ⟨0x1011, 1, 1, 1, 1, 0x02, 1, .uint 4, .rw, false, false, false, .any, 1, 0⟩,
  ⟨0x1011, 1, 1, 1, 1, 0x03, 1, .uint 4, .rw, false, false, false, .any, 1, 0⟩,
  ⟨0x1011, 1, 1, 1, 1, 0x04, 1, .uint 4, .rw, false, false, false, .any, 1, 0⟩,
  ⟨0x2010, 1, 1, 1, 1, 0x00, 1, .dom, .wo, false, false, false, .any, 0, 0⟩,
  ⟨0x2011, 1, 1, 1, 1, 0x00, 1, .dom, .ro, false, false, false, .any, 0, 0⟩,
  ⟨0x2012, 1, 1, 1, 1, 0x00, 1, .uint 1, .ro, false, false, false, .any, 4, 0⟩,
  ⟨0x2012, 1, 1, 1, 1, 0x01, 1, .uint 4, .ro, false, false, false, .any, 0, 0⟩,
  ⟨0x2012, 1, 1, 1, 1, 0x02, 1, .uint 4, .ro, false, false, false, .any, 0, 0⟩,
  ⟨0x2012, 1, 1, 1, 1, 0x03, 1, .uint 2, .ro, false, false, false, .any, 0, 0⟩,
  ⟨0x2012, 1, 1, 1, 1, 0x04, 1, .uint 1, .wo, false, false, false, .enum [1], 0, 0⟩,
  ⟨0x1018, 1, 1, 1, 1, 0x01, 1, .uint 4, .ro, false, false, false, .any, 51825, 0⟩,
  ⟨0x1018, 1, 1, 1, 1, 0x02, 1, .uint 4, .ro, false, false, false, .any, 18582, 0⟩,
  ⟨0x1018, 1, 1, 1, 1, 0x03, 1, .uint 4, .ro, false, false, false, .any, 0, 0⟩,
  ⟨0x1018, 1, 1, 1, 1, 0x04, 1, .uint 4, .ro, false, false, false, .any, 0, 0⟩,
  ⟨0x2000, 1, 1, 1, 1, 0x01, 1, .vstr, .ro, false, false, false, .any, 0, 0⟩,
  ⟨0x2000, 1, 1, 1, 1, 0x02, 1, .uint 1, .ro, false, false, false, .any, 66, 0⟩,
  ⟨0x2000, 1, 1, 1, 1, 0x03, 1, .ostr, .ro, false, false, false, .any, 0, 0⟩,
  ⟨0x2000, 1, 1, 1, 1, 0x04, 1, .uint 4, .ro, false, false, false, .any, 0, 0⟩]

def rows02_1 : List Row := [
  ⟨0x1001, 1, 1, 1, 1, 0x00, 1, .uint 1, .ro, false, false, false, .any, 0, 0⟩,
  ⟨0x2008, 1, 1, 1, 1, 0x01, 1, .ostr, .wo, false, false, false, .len 32, 0, 0⟩,
  ⟨0x2008, 1, 1, 1, 1, 0x02, 1, .dom, .ro, false, false, false, .any, 0, 0⟩,
  ⟨0x2008, 1, 1, 1, 1, 0x03, 1, .dom, .ro, false, false, false, .any, 0, 0⟩,
  ⟨0x2020, 1, 1, 1, 1, 0x01, 1, .uint 1, .rw, true, false, false, .span (1) 127, 32, 0⟩,
  ⟨0x2020, 1, 1, 1, 1, 0x02, 1, .uint 1, .rw, true, false, false, .span (1) 127, 40, 0⟩,
  ⟨0x2020, 1, 1, 1, 1, 0x03, 1, .uint 4, .rw, true, false, false, .span (125000) 1000000, 125000, 0⟩,
  ⟨0x2020, 1, 1, 1, 1, 0x04, 1, .uint 4, .rw, true, false, false, .span (0) 8000000, 0, 0⟩,
  ⟨0x1C12, 1, 1, 1, 1, 0x00, 1, .uint 1, .rw, true, false, false, .span (0) 8, 0, 0⟩,
  ⟨0x1C13, 1, 1, 1, 1, 0x00, 1, .uint 1, .rw, true, false, false, .span (0) 8, 0, 0⟩,
  ⟨0x1600, 1, 8, 1, 1, 0x00, 1, .uint 1, .rw, true, false, false, .span (0) 64, 0, 0⟩,
  ⟨0x1A00, 1, 8, 1, 1, 0x00, 1, .uint 1, .rw, true, false, false, .span (0) 64, 0, 0⟩,
  ⟨0x1600, 1, 8, 1, 1, 0x01, 64, .uint 4, .rw, true, false, false, .any, 0, 0⟩,
  ⟨0x1A00, 1, 8, 1, 1, 0x01, 64, .uint 4, .rw, true, false, false, .any, 0, 0⟩,
  ⟨0x1C12, 1, 1, 1, 1, 0x01, 8, .uint 2, .rw, true, false, false, .any, 0, 0⟩,
  ⟨0x1C13, 1, 1, 1, 1, 0x01, 8, .uint 2, .rw, true, false, false, .any, 0, 0⟩]

def rows02 : List Row := rows02_0 ++ rows02_1

/-- The rows of spec/03_feedback_ports.md, in the order of its tables. -/
def rows03_0 : List Row := [
  ⟨0x4000, 64, 48, 1, 1, 0x00, 1, .uint 1, .ro, false, false, false, .any, 6, 0⟩,
  ⟨0x4000, 64, 48, 1, 1, 0x01, 1, .uint 1, .rw, true, false, true, .code 0 4, 0, 0⟩,
  ⟨0x4000, 64, 48, 1, 1, 0x02, 1, .bool, .rw, true, false, true, .enum [0, 1], 0, 0⟩,
  ⟨0x4000, 64, 48, 1, 1, 0x03, 1, .uint 1, .rw, true, false, true, .mask 7, 7, 0⟩,
  ⟨0x4000, 64, 48, 1, 1, 0x04, 1, .uint 1, .rw, true, false, true, .span (0) 4, 2, 0⟩,
  ⟨0x4000, 64, 48, 1, 1, 0x05, 1, .uint 1, .wo, false, false, false, .enum [1], 0, 0⟩,
  ⟨0x4000, 64, 48, 1, 1, 0x06, 1, .uint 4, .ro, false, false, false, .any, 0, 0⟩,
  ⟨0x4002, 64, 48, 1, 1, 0x00, 1, .uint 1, .ro, false, false, false, .any, 3, 0⟩,
  ⟨0x4002, 64, 48, 1, 1, 0x01, 1, .uint 1, .rw, true, false, true, .code 0 4, 1, 0⟩,
  ⟨0x4002, 64, 48, 1, 1, 0x02, 1, .uint 4, .rw, true, false, true, .any, 0, 0⟩,
  ⟨0x4002, 64, 48, 1, 1, 0x03, 1, .uint 2, .rw, true, false, true, .any, 4, 0⟩,
  ⟨0x4003, 64, 48, 1, 1, 0x00, 1, .uint 1, .ro, false, false, false, .any, 8, 0⟩,
  ⟨0x4003, 64, 48, 1, 1, 0x01, 1, .int 2, .rw, true, false, false, .any, 0, 0⟩,
  ⟨0x4003, 64, 48, 1, 1, 0x02, 1, .int 2, .rw, true, false, false, .any, 0, 0⟩,
  ⟨0x4003, 64, 48, 1, 1, 0x03, 1, .uint 2, .rw, true, false, false, .span (16384) 65535, 32768, 0⟩,
  ⟨0x4003, 64, 48, 1, 1, 0x04, 1, .uint 2, .rw, true, false, false, .span (16384) 65535, 32768, 0⟩,
  ⟨0x4003, 64, 48, 1, 1, 0x05, 1, .int 2, .rw, true, false, false, .any, 0, 0⟩,
  ⟨0x4003, 64, 48, 1, 1, 0x06, 1, .uint 1, .rw, true, false, false, .code 0 2, 0, 0⟩,
  ⟨0x4003, 64, 48, 1, 1, 0x07, 1, .uint 2, .ro, false, true, false, .any, 0, 0⟩,
  ⟨0x4003, 64, 48, 1, 1, 0x08, 1, .int 2, .rw, true, false, true, .any, 4369, 0⟩,
  ⟨0x4004, 64, 48, 1, 1, 0x00, 1, .uint 1, .ro, false, false, false, .any, 7, 0⟩,
  ⟨0x4004, 64, 48, 1, 1, 0x01, 1, .uint 2, .rw, true, false, true, .span (2000) 20000, 5000, 0⟩,
  ⟨0x4004, 64, 48, 1, 1, 0x02, 1, .uint 2, .rw, true, false, true, .span (200) 2500, 1000, 0⟩,
  ⟨0x4004, 64, 48, 1, 1, 0x03, 1, .uint 1, .rw, true, false, true, .either (0) 47 (255) 255, 255, 0⟩,
  ⟨0x4004, 64, 48, 1, 1, 0x04, 1, .uint 1, .rw, true, false, true, .code 0 3, 1, 0⟩]

def rows03_1 : List Row := [
  ⟨0x4004, 64, 48, 1, 1, 0x05, 1, .int 2, .rw, true, false, false, .any, 0, 0⟩,
  ⟨0x4004, 64, 48, 1, 1, 0x06, 1, .uint 1, .wo, false, false, false, .enum [1], 0, 0⟩,
  ⟨0x4004, 64, 48, 1, 1, 0x07, 1, .uint 2, .ro, false, true, false, .any, 0, 0⟩,
  ⟨0x4005, 64, 48, 1, 1, 0x00, 1, .uint 1, .ro, false, false, false, .any, 13, 0⟩,
  ⟨0x4005, 64, 48, 1, 1, 0x01, 1, .uint 2, .rw, true, false, true, .span (100) 4000, 1000, 0⟩,
  ⟨0x4005, 64, 48, 1, 1, 0x02, 1, .uint 1, .rw, true, false, true, .span (10) 48, 25, 0⟩,
  ⟨0x4005, 64, 48, 1, 1, 0x03, 1, .uint 1, .rw, true, false, true, .span (0) 3, 0, 0⟩,
  ⟨0x4005, 64, 48, 1, 1, 0x04, 1, .uint 1, .rw, true, false, true, .any, 0, 0⟩,
  ⟨0x4005, 64, 48, 1, 1, 0x05, 1, .uint 1, .rw, true, false, true, .span (8) 40, 25, 0⟩,
  ⟨0x4005, 64, 48, 1, 1, 0x06, 1, .uint 1, .rw, true, false, true, .enum [0, 1], 1, 0⟩,
  ⟨0x4005, 64, 48, 1, 1, 0x07, 1, .bool, .rw, true, false, true, .enum [0, 1], 0, 0⟩,
  ⟨0x4005, 64, 48, 1, 1, 0x08, 1, .uint 1, .rw, true, false, true, .code 0 2, 0, 0⟩,
  ⟨0x4005, 64, 48, 1, 1, 0x09, 1, .uint 1, .rw, true, false, true, .span (1) 64, 20, 0⟩,
  ⟨0x4005, 64, 48, 1, 1, 0x0A, 1, .uint 1, .rw, true, false, true, .enum [0, 1], 0, 0⟩,
  ⟨0x4005, 64, 48, 1, 1, 0x0B, 1, .uint 1, .rw, true, false, true, .enum [0, 1], 0, 0⟩,
  ⟨0x4005, 64, 48, 1, 1, 0x0C, 1, .uint 4, .rw, true, false, true, .any, 0, 0⟩,
  ⟨0x4005, 64, 48, 1, 1, 0x0D, 1, .uint 2, .ro, false, false, false, .any, 0, 0⟩,
  ⟨0x4001, 64, 48, 1, 1, 0x00, 1, .uint 1, .ro, false, false, false, .any, 5, 0⟩,
  ⟨0x4001, 64, 48, 1, 1, 0x01, 1, .int 8, .ro, false, true, false, .any, 0, 0⟩,
  ⟨0x4001, 64, 48, 1, 1, 0x02, 1, .uint 4, .ro, false, true, false, .any, 0, 0⟩,
  ⟨0x4001, 64, 48, 1, 1, 0x03, 1, .uint 4, .ro, false, true, false, .any, 0, 0⟩,
  ⟨0x4001, 64, 48, 1, 1, 0x04, 1, .int 8, .ro, false, false, false, .any, 0, 0⟩,
  ⟨0x4001, 64, 48, 1, 1, 0x05, 1, .uint 1, .ro, false, false, false, .any, 0, 0⟩,
  ⟨0x4006, 64, 48, 1, 1, 0x00, 1, .uint 1, .ro, false, false, false, .any, 7, 0⟩,
  ⟨0x4006, 64, 48, 1, 1, 0x01, 1, .real, .rw, true, false, true, .realPos, 4607182418800017408, 0⟩]

def rows03_2 : List Row := [
  ⟨0x4006, 64, 48, 1, 1, 0x02, 1, .int 8, .rw, true, false, false, .any, 0, 0⟩,
  ⟨0x4006, 64, 48, 1, 1, 0x03, 1, .uint 1, .rw, true, false, true, .code 0 2, 0, 0⟩,
  ⟨0x4006, 64, 48, 1, 1, 0x04, 1, .uint 1, .rw, true, false, true, .mask 159, 0, 0⟩,
  ⟨0x4006, 64, 48, 1, 1, 0x05, 1, .real, .rw, true, false, false, .finite, 0, 0⟩,
  ⟨0x4006, 64, 48, 1, 1, 0x06, 1, .bool, .rw, true, false, false, .enum [0, 1], 0, 0⟩,
  ⟨0x4006, 64, 48, 1, 1, 0x07, 1, .uint 1, .wo, false, false, false, .enum [0, 1], 0, 0⟩]

def rows03 : List Row := rows03_0 ++ rows03_1 ++ rows03_2

/-- The rows of spec/04_command_ports.md, in the order of its tables. -/
def rows04_0 : List Row := [
  ⟨0x4008, 64, 48, 1, 1, 0x00, 1, .uint 1, .ro, false, false, false, .any, 8, 0⟩,
  ⟨0x4008, 64, 48, 1, 1, 0x01, 1, .uint 1, .rw, true, false, true, .code 0 3, 0, 0⟩,
  ⟨0x4008, 64, 48, 1, 1, 0x02, 1, .uint 1, .rw, true, false, false, .code 0 2, 0, 0⟩,
  ⟨0x4008, 64, 48, 1, 1, 0x03, 1, .uint 2, .rw, true, false, false, .span (100) 25000, 1000, 0⟩,
  ⟨0x4008, 64, 48, 1, 1, 0x04, 1, .int 4, .rw, true, false, false, .span (-16384) 16383, 0, 0⟩,
  ⟨0x4008, 64, 48, 1, 1, 0x05, 1, .bool, .rw, true, false, true, .enum [0, 1], 0, 0⟩,
  ⟨0x4008, 64, 48, 1, 1, 0x06, 1, .int 4, .ro, false, true, false, .any, 0, 0⟩,
  ⟨0x4008, 64, 48, 1, 1, 0x07, 1, .uint 4, .ro, false, false, false, .any, 524288, 0⟩,
  ⟨0x4008, 64, 48, 1, 1, 0x08, 1, .uint 1, .wo, false, false, false, .enum [1], 0, 0⟩,
  ⟨0x4009, 64, 48, 1, 1, 0x00, 1, .uint 1, .ro, false, false, false, .any, 7, 0⟩,
  ⟨0x4009, 64, 48, 1, 1, 0x01, 1, .uint 2, .rw, true, false, true, .span (20) 10000, 400, 0⟩,
  ⟨0x4009, 64, 48, 1, 1, 0x02, 1, .uint 2, .rw, true, false, true, .span (20) 10000, 400, 0⟩,
  ⟨0x4009, 64, 48, 1, 1, 0x03, 1, .uint 2, .rw, true, false, true, .span (0) 10000, 800, 0⟩,
  ⟨0x4009, 64, 48, 1, 1, 0x04, 1, .uint 4, .rw, true, false, true, .span (1) 10000000, 200000, 0⟩,
  ⟨0x4009, 64, 48, 1, 1, 0x05, 1, .uint 1, .rw, true, false, true, .mask 3, 0, 0⟩,
  ⟨0x4009, 64, 48, 1, 1, 0x06, 1, .int 8, .ro, false, true, false, .any, 0, 0⟩,
  ⟨0x4009, 64, 48, 1, 1, 0x07, 1, .int 4, .ro, false, false, false, .any, 0, 0⟩,
  ⟨0x400A, 64, 48, 1, 1, 0x00, 1, .uint 1, .ro, false, false, false, .any, 4, 0⟩,
  ⟨0x400A, 64, 48, 1, 1, 0x01, 1, .uint 2, .rw, true, false, true, .span (0) 2000, 100, 0⟩,
  ⟨0x400A, 64, 48, 1, 1, 0x02, 1, .bool, .rw, true, false, true, .enum [0, 1], 0, 0⟩,
  ⟨0x400A, 64, 48, 1, 1, 0x03, 1, .uint 1, .rw, true, false, true, .any, 10, 0⟩,
  ⟨0x400A, 64, 48, 1, 1, 0x04, 1, .uint 1, .rw, true, false, true, .code 0 2, 2, 0⟩,
  ⟨0x400B, 64, 48, 1, 1, 0x00, 1, .uint 1, .ro, false, false, false, .any, 4, 0⟩,
  ⟨0x400B, 64, 48, 1, 1, 0x01, 1, .uint 4, .ro, false, true, false, .any, 0, 0⟩,
  ⟨0x400B, 64, 48, 1, 1, 0x02, 1, .uint 1, .ro, false, false, false, .any, 0, 0⟩]

def rows04_1 : List Row := [
  ⟨0x400B, 64, 48, 1, 1, 0x03, 1, .uint 4, .ro, false, false, false, .any, 0, 0⟩,
  ⟨0x400B, 64, 48, 1, 1, 0x04, 1, .uint 1, .wo, false, false, false, .enum [1], 0, 0⟩,
  ⟨0x2940, 1, 1, 1, 1, 0x00, 1, .uint 1, .ro, false, false, false, .any, 4, 0⟩,
  ⟨0x2940, 1, 1, 1, 1, 0x01, 1, .uint 1, .ro, false, false, false, .any, 0, 0⟩,
  ⟨0x2940, 1, 1, 1, 1, 0x02, 1, .uint 1, .wo, false, false, false, .enum [1], 0, 0⟩,
  ⟨0x2940, 1, 1, 1, 1, 0x03, 1, .uint 4, .ro, false, false, false, .any, 0, 0⟩,
  ⟨0x2940, 1, 1, 1, 1, 0x04, 1, .uint 1, .ro, false, false, false, .any, 0, 0⟩]

def rows04 : List Row := rows04_0 ++ rows04_1

/-- The rows of spec/05_axis_engines.md, in the order of its tables. -/
def rows05_0 : List Row := [
  ⟨0x2211, 1, 1, 1, 1, 0x00, 1, .uint 1, .ro, false, false, false, .any, 2, 0⟩,
  ⟨0x2211, 1, 1, 1, 1, 0x01, 1, .uint 1, .rw, true, false, true, .code 0 3, 1, 0⟩,
  ⟨0x2211, 1, 1, 1, 1, 0x02, 1, .uint 4, .ro, false, false, false, .any, 62500, 0⟩,
  ⟨0x4010, 64, 48, 1, 1, 0x00, 1, .uint 1, .ro, false, false, false, .any, 8, 0⟩,
  ⟨0x4010, 64, 48, 1, 1, 0x01, 1, .uint 1, .rw, false, false, false, .code 0 2, 0, 0⟩,
  ⟨0x4010, 64, 48, 1, 1, 0x02, 1, .uint 1, .rw, true, false, true, .code 0 3, 0, 0⟩,
  ⟨0x4010, 64, 48, 1, 1, 0x03, 1, .uint 1, .rw, true, false, false, .code 0 4, 0, 0⟩,
  ⟨0x4010, 64, 48, 1, 1, 0x04, 1, .uint 1, .rw, true, false, false, .enum [0, 1], 1, 0⟩,
  ⟨0x4010, 64, 48, 1, 1, 0x05, 1, .real, .rw, true, false, false, .realPos, 4636737291354636288, 0⟩,
  ⟨0x4010, 64, 48, 1, 1, 0x06, 1, .int 8, .rw, true, false, false, .span (0) 4611686018427387904, 1048576, 0⟩,
  ⟨0x4010, 64, 48, 1, 1, 0x07, 1, .uint 2, .rw, true, false, false, .span (0) 2000, 0, 0⟩,
  ⟨0x4010, 64, 48, 1, 1, 0x08, 1, .uint 1, .rw, true, false, true, .enum [0, 1], 0, 0⟩,
  ⟨0x4012, 64, 48, 1, 1, 0x00, 1, .uint 1, .ro, false, false, false, .any, 6, 0⟩,
  ⟨0x4012, 64, 48, 1, 1, 0x01, 1, .real, .rw, true, false, false, .realSpan 4666723172467343360, 4621819117588971520, 0⟩,
  ⟨0x4012, 64, 48, 1, 1, 0x02, 1, .real, .rw, true, false, false, .realSpan 4611686018427387904, 0, 0⟩,
  ⟨0x4012, 64, 48, 1, 1, 0x03, 1, .real, .rw, true, false, false, .realSpan 4607182418800017408, 0, 0⟩,
  ⟨0x4012, 64, 48, 1, 1, 0x04, 1, .real, .rw, true, false, false, .realPos, 4607182418800017408, 0⟩,
  ⟨0x4012, 64, 48, 1, 1, 0x05, 1, .real, .rw, true, false, false, .realSpan 4652007308841189376, 0, 0⟩,
  ⟨0x4012, 64, 48, 1, 1, 0x06, 1, .real, .rw, true, false, false, .realSpan 4607182418800017408, 4591870180066957722, 0⟩,
  ⟨0x4013, 64, 48, 1, 1, 0x00, 1, .uint 1, .ro, false, false, false, .any, 2, 0⟩,
  ⟨0x4013, 64, 48, 1, 1, 0x01, 1, .real, .rw, true, false, false, .realSpan 4652007308841189376, 0, 0⟩,
  ⟨0x4013, 64, 48, 1, 1, 0x02, 1, .uint 2, .rw, true, false, false, .span (0) 10000, 0, 0⟩,
  ⟨0x4014, 64, 48, 1, 1, 0x00, 1, .uint 1, .ro, false, false, false, .any, 1, 0⟩,
  ⟨0x4014, 64, 48, 1, 1, 0x01, 1, .real, .rw, true, false, true, .realPos, 4607182418800017408, 0⟩,
  ⟨0x4015, 64, 48, 1, 1, 0x00, 1, .uint 1, .ro, false, false, false, .any, 12, 0⟩]

def rows05_1 : List Row := [
  ⟨0x4015, 64, 48, 1, 1, 0x01, 1, .uint 1, .rw, false, false, false, .enum [0, 1], 0, 0⟩,
  ⟨0x4015, 64, 48, 1, 1, 0x02, 1, .real, .rw, true, false, false, .finite, 4607182418800017408, 0⟩,
  ⟨0x4015, 64, 48, 1, 1, 0x03, 1, .real, .rw, true, false, false, .finite, 0, 0⟩,
  ⟨0x4015, 64, 48, 1, 1, 0x04, 1, .real, .rw, true, false, false, .finite, 0, 0⟩,
  ⟨0x4015, 64, 48, 1, 1, 0x05, 1, .real, .rw, true, false, false, .finite, 0, 0⟩,
  ⟨0x4015, 64, 48, 1, 1, 0x06, 1, .real, .rw, true, false, false, .finite, 0, 0⟩,
  ⟨0x4015, 64, 48, 1, 1, 0x07, 1, .uint 1, .rw, false, false, false, .enum [0, 1], 0, 0⟩,
  ⟨0x4015, 64, 48, 1, 1, 0x08, 1, .real, .rw, true, false, false, .finite, 4607182418800017408, 0⟩,
  ⟨0x4015, 64, 48, 1, 1, 0x09, 1, .real, .rw, true, false, false, .finite, 0, 0⟩,
  ⟨0x4015, 64, 48, 1, 1, 0x0A, 1, .real, .rw, true, false, false, .finite, 0, 0⟩,
  ⟨0x4015, 64, 48, 1, 1, 0x0B, 1, .real, .rw, true, false, false, .finite, 0, 0⟩,
  ⟨0x4015, 64, 48, 1, 1, 0x0C, 1, .real, .rw, true, false, false, .finite, 0, 0⟩,
  ⟨0x4016, 64, 48, 1, 1, 0x00, 1, .uint 1, .ro, false, false, false, .any, 4, 0⟩,
  ⟨0x4016, 64, 48, 1, 1, 0x01, 1, .uint 1, .rw, false, false, false, .enum [0, 1], 0, 0⟩,
  ⟨0x4016, 64, 48, 1, 1, 0x02, 1, .real, .rw, true, false, false, .finite, 4647503709213818880, 0⟩,
  ⟨0x4016, 64, 48, 1, 1, 0x03, 1, .real, .rw, true, false, false, .finite, 4636737291354636288, 0⟩,
  ⟨0x4016, 64, 48, 1, 1, 0x04, 1, .real, .rw, true, false, false, .finite, 4626322717216342016, 0⟩,
  ⟨0x4017, 64, 48, 1, 1, 0x00, 1, .uint 1, .ro, false, false, false, .any, 5, 0⟩,
  ⟨0x4017, 64, 48, 1, 1, 0x01, 1, .real, .rw, true, false, false, .realSpan 4607182418800017408, 4607182418800017408, 0⟩,
  ⟨0x4017, 64, 48, 1, 1, 0x02, 1, .real, .rw, true, false, false, .realNonneg, 0, 0⟩,
  ⟨0x4017, 64, 48, 1, 1, 0x03, 1, .bool, .rw, true, false, false, .enum [0, 1], 0, 0⟩,
  ⟨0x4017, 64, 48, 1, 1, 0x04, 1, .int 8, .rw, true, false, false, .any, -4611686018427387904, 0⟩,
  ⟨0x4017, 64, 48, 1, 1, 0x05, 1, .int 8, .rw, true, false, false, .any, 4611686018427387904, 0⟩,
  ⟨0x4018, 64, 48, 1, 1, 0x00, 1, .uint 1, .ro, false, false, false, .any, 4, 0⟩,
  ⟨0x4018, 64, 48, 1, 1, 0x01, 1, .int 8, .rw, true, false, false, .span (0) 4611686018427387904, 8388608, 0⟩]

def rows05_2 : List Row := [
  ⟨0x4018, 64, 48, 1, 1, 0x02, 1, .int 8, .rw, true, false, false, .span (1) 4611686018427387904, 16777216, 0⟩,
  ⟨0x4018, 64, 48, 1, 1, 0x03, 1, .uint 2, .rw, true, false, false, .span (1) 1000, 2, 0⟩,
  ⟨0x4018, 64, 48, 1, 1, 0x04, 1, .uint 1, .rw, true, false, false, .code 0 2, 2, 0⟩,
  ⟨0x4011, 64, 48, 1, 1, 0x00, 1, .uint 1, .ro, false, false, false, .any, 3, 0⟩,
  ⟨0x4011, 64, 48, 1, 1, 0x01, 1, .int 8, .rw, false, true, false, .any, 0, 0⟩,
  ⟨0x4011, 64, 48, 1, 1, 0x02, 1, .uint 2, .rw, true, false, false, .mask 2047, 0, 0⟩,
  ⟨0x4011, 64, 48, 1, 1, 0x03, 1, .int 8, .rw, true, false, false, .any, 0, 0⟩,
  ⟨0x4019, 64, 48, 1, 1, 0x00, 1, .uint 1, .ro, false, false, false, .any, 6, 0⟩,
  ⟨0x4019, 64, 48, 1, 1, 0x01, 1, .bool, .rw, true, false, false, .enum [0, 1], 0, 0⟩,
  ⟨0x4019, 64, 48, 1, 1, 0x02, 1, .uint 1, .rw, true, false, true, .span (0) 7, 0, 0⟩,
  ⟨0x4019, 64, 48, 1, 1, 0x03, 1, .bool, .rw, true, false, false, .enum [0, 1], 0, 0⟩,
  ⟨0x4019, 64, 48, 1, 1, 0x04, 1, .int 8, .rw, true, false, false, .span (0) 4611686018427387904, 16777216, 0⟩,
  ⟨0x4019, 64, 48, 1, 1, 0x05, 1, .int 8, .rw, true, false, false, .span (1) 9223372036854775807, 65536, 0⟩,
  ⟨0x4019, 64, 48, 1, 1, 0x06, 1, .int 8, .ro, false, true, false, .any, 0, 0⟩,
  ⟨0x401A, 64, 48, 1, 1, 0x00, 1, .uint 1, .ro, false, false, false, .any, 7, 0⟩,
  ⟨0x401A, 64, 48, 1, 1, 0x01, 1, .uint 1, .ro, false, true, false, .any, 0, 0⟩,
  ⟨0x401A, 64, 48, 1, 1, 0x02, 1, .uint 4, .ro, false, true, false, .any, 0, 0⟩,
  ⟨0x401A, 64, 48, 1, 1, 0x03, 1, .int 8, .ro, false, true, false, .any, 0, 0⟩,
  ⟨0x401A, 64, 48, 1, 1, 0x04, 1, .int 8, .ro, false, true, false, .any, 0, 0⟩,
  ⟨0x401A, 64, 48, 1, 1, 0x05, 1, .real, .ro, false, true, false, .finite, 0, 0⟩,
  ⟨0x401A, 64, 48, 1, 1, 0x06, 1, .uint 1, .ro, false, false, false, .any, 255, 0⟩,
  ⟨0x401A, 64, 48, 1, 1, 0x07, 1, .uint 1, .wo, false, false, false, .enum [1], 0, 0⟩,
  ⟨0x4C00, 1, 1, 1, 1, 0x00, 1, .uint 1, .ro, false, false, false, .any, 5, 0⟩,
  ⟨0x4C00, 1, 1, 1, 1, 0x01, 1, .uint 1, .ro, false, false, false, .any, 4, 0⟩,
  ⟨0x4C00, 1, 1, 1, 1, 0x02, 1, .uint 1, .ro, false, false, false, .any, 12, 0⟩]

def rows05_3 : List Row := [
  ⟨0x4C00, 1, 1, 1, 1, 0x03, 1, .uint 4, .ro, false, false, false, .any, 0, 0⟩,
  ⟨0x4C00, 1, 1, 1, 1, 0x04, 1, .uint 1, .ro, false, false, false, .any, 0, 0⟩,
  ⟨0x4C00, 1, 1, 1, 1, 0x05, 1, .uint 8, .ro, false, false, false, .any, 0, 0⟩,
  ⟨0x4C01, 1, 4, 1, 1, 0x01, 1, .uint 1, .ro, false, false, false, .any, 0, 0⟩,
  ⟨0x4C01, 1, 4, 1, 1, 0x02, 1, .uint 1, .ro, false, false, false, .any, 255, 0⟩,
  ⟨0x4C01, 1, 4, 1, 1, 0x03, 1, .uint 1, .ro, false, false, false, .any, 0, 12⟩,
  ⟨0x4C01, 1, 4, 1, 1, 0x04, 1, .uint 1, .ro, false, false, false, .any, 11, 12⟩,
  ⟨0x4C10, 1, 1, 1, 1, 0x00, 1, .uint 8, .ro, false, false, false, .any, 0, 0⟩]

def rows05 : List Row := rows05_0 ++ rows05_1 ++ rows05_2 ++ rows05_3

/-- The rows of spec/06_path_engine.md, in the order of its tables. -/
def rows06_0 : List Row := [
  ⟨0x3001, 32, 8, 1, 1, 0x00, 1, .uint 1, .ro, false, false, false, .any, 14, 0⟩,
  ⟨0x3001, 32, 8, 1, 1, 0x01, 1, .uint 1, .rw, true, false, true, .span (0) 12, 0, 0⟩,
  ⟨0x3001, 32, 8, 1, 1, 0x02, 1, .uint 1, .rw, true, false, true, .either (0) 47 (255) 255, 255, 0⟩,
  ⟨0x3001, 32, 8, 1, 1, 0x03, 1, .uint 1, .rw, true, false, true, .either (0) 47 (255) 255, 255, 0⟩,
  ⟨0x3001, 32, 8, 1, 1, 0x04, 1, .uint 1, .rw, true, false, true, .either (0) 47 (255) 255, 255, 0⟩,
  ⟨0x3001, 32, 8, 1, 1, 0x05, 1, .uint 1, .rw, true, false, true, .either (0) 47 (255) 255, 255, 0⟩,
  ⟨0x3001, 32, 8, 1, 1, 0x06, 1, .uint 1, .rw, true, false, true, .either (0) 47 (255) 255, 255, 0⟩,
  ⟨0x3001, 32, 8, 1, 1, 0x07, 1, .uint 1, .rw, true, false, true, .either (0) 47 (255) 255, 255, 0⟩,
  ⟨0x3001, 32, 8, 1, 1, 0x08, 1, .uint 1, .rw, true, false, true, .either (0) 47 (255) 255, 255, 0⟩,
  ⟨0x3001, 32, 8, 1, 1, 0x09, 1, .uint 1, .rw, true, false, true, .either (0) 47 (255) 255, 255, 0⟩,
  ⟨0x3001, 32, 8, 1, 1, 0x0A, 1, .uint 1, .rw, true, false, true, .either (0) 47 (255) 255, 255, 0⟩,
  ⟨0x3001, 32, 8, 1, 1, 0x0B, 1, .uint 1, .rw, true, false, true, .either (0) 47 (255) 255, 255, 0⟩,
  ⟨0x3001, 32, 8, 1, 1, 0x0C, 1, .uint 1, .rw, true, false, true, .either (0) 47 (255) 255, 255, 0⟩,
  ⟨0x3001, 32, 8, 1, 1, 0x0D, 1, .uint 1, .rw, true, false, true, .either (0) 47 (255) 255, 255, 0⟩,
  ⟨0x3001, 32, 8, 1, 1, 0x0E, 1, .uint 2, .rw, true, false, true, .mask 4095, 7, 0⟩,
  ⟨0x401C, 64, 48, 1, 1, 0x00, 1, .uint 1, .ro, false, false, false, .any, 3, 0⟩,
  ⟨0x401C, 64, 48, 1, 1, 0x01, 1, .real, .rw, true, false, true, .realNonneg, 0, 0⟩,
  ⟨0x401C, 64, 48, 1, 1, 0x02, 1, .real, .rw, true, false, true, .realNonneg, 0, 0⟩,
  ⟨0x401C, 64, 48, 1, 1, 0x03, 1, .real, .rw, true, false, true, .realNonneg, 0, 0⟩,
  ⟨0x3000, 32, 8, 1, 1, 0x00, 1, .uint 1, .ro, false, false, false, .any, 5, 0⟩,
  ⟨0x3000, 32, 8, 1, 1, 0x01, 1, .uint 1, .rw, false, false, false, .code 0 2, 0, 0⟩,
  ⟨0x3000, 32, 8, 1, 1, 0x02, 1, .uint 1, .wo, false, false, false, .enum [1, 2], 0, 0⟩,
  ⟨0x3000, 32, 8, 1, 1, 0x03, 1, .uint 1, .wo, false, false, false, .enum [1], 0, 0⟩,
  ⟨0x3000, 32, 8, 1, 1, 0x04, 1, .uint 2, .rw, true, false, false, .span (0) 10000, 0, 0⟩,
  ⟨0x3000, 32, 8, 1, 1, 0x05, 1, .uint 1, .rw, true, false, true, .span (0) 15, 8, 1⟩]

def rows06_1 : List Row := [
  ⟨0x3006, 32, 8, 1, 1, 0x00, 1, .uint 1, .ro, false, false, false, .any, 5, 0⟩,
  ⟨0x3006, 32, 8, 1, 1, 0x01, 1, .uint 8, .rw, false, false, false, .mult 64, 0, 0⟩,
  ⟨0x3006, 32, 8, 1, 1, 0x02, 1, .uint 4, .rw, false, false, false, .mult 64, 0, 0⟩,
  ⟨0x3006, 32, 8, 1, 1, 0x03, 1, .uint 1, .rw, false, false, false, .code 0 2, 0, 0⟩,
  ⟨0x3006, 32, 8, 1, 1, 0x04, 1, .uint 4, .ro, false, false, false, .any, 0, 0⟩,
  ⟨0x3006, 32, 8, 1, 1, 0x05, 1, .uint 4, .rw, false, true, false, .any, 0, 0⟩,
  ⟨0x3003, 32, 8, 1, 1, 0x00, 1, .uint 1, .ro, false, false, false, .any, 2, 0⟩,
  ⟨0x3003, 32, 8, 1, 1, 0x01, 1, .uint 2, .rw, false, true, false, .span (0) 2000, 1000, 0⟩,
  ⟨0x3003, 32, 8, 1, 1, 0x02, 1, .uint 2, .ro, false, true, false, .any, 1000, 0⟩,
  ⟨0x3002, 32, 8, 1, 1, 0x00, 1, .uint 1, .ro, false, false, false, .any, 8, 0⟩,
  ⟨0x3002, 32, 8, 1, 1, 0x01, 1, .real, .rw, true, false, true, .realPos, 4636737291354636288, 0⟩,
  ⟨0x3002, 32, 8, 1, 1, 0x02, 1, .real, .rw, true, false, true, .realPos, 4652007308841189376, 0⟩,
  ⟨0x3002, 32, 8, 1, 1, 0x03, 1, .real, .rw, true, false, true, .realPos, 4666723172467343360, 0⟩,
  ⟨0x3002, 32, 8, 1, 1, 0x04, 1, .real, .rw, true, false, false, .realPos, 4652007308841189376, 0⟩,
  ⟨0x3002, 32, 8, 1, 1, 0x05, 1, .real, .rw, true, false, false, .realPos, 4666723172467343360, 0⟩,
  ⟨0x3002, 32, 8, 1, 1, 0x06, 1, .real, .rw, true, false, false, .realPos, 4661014508095930368, 0⟩,
  ⟨0x3002, 32, 8, 1, 1, 0x07, 1, .real, .rw, true, false, false, .realPos, 4681608360884174848, 0⟩,
  ⟨0x3002, 32, 8, 1, 1, 0x08, 1, .real, .rw, true, false, false, .realPos, 4562254508917369340, 0⟩,
  ⟨0x3005, 32, 8, 1, 1, 0x00, 1, .uint 1, .ro, false, false, false, .any, 5, 0⟩,
  ⟨0x3005, 32, 8, 1, 1, 0x01, 1, .uint 1, .ro, false, false, false, .any, 0, 0⟩,
  ⟨0x3005, 32, 8, 1, 1, 0x02, 1, .uint 4, .ro, false, false, false, .any, 0, 0⟩,
  ⟨0x3005, 32, 8, 1, 1, 0x03, 1, .uint 4, .ro, false, false, false, .any, 0, 0⟩,
  ⟨0x3005, 32, 8, 1, 1, 0x04, 1, .uint 4, .ro, false, false, false, .any, 0, 0⟩,
  ⟨0x3005, 32, 8, 1, 1, 0x05, 1, .uint 1, .ro, false, false, false, .any, 0, 0⟩,
  ⟨0x3004, 32, 8, 1, 1, 0x00, 1, .uint 1, .ro, false, false, false, .any, 11, 0⟩]

def rows06_2 : List Row := [
  ⟨0x3004, 32, 8, 1, 1, 0x01, 1, .uint 1, .ro, false, true, false, .any, 0, 0⟩,
  ⟨0x3004, 32, 8, 1, 1, 0x02, 1, .uint 4, .ro, false, true, false, .any, 0, 0⟩,
  ⟨0x3004, 32, 8, 1, 1, 0x03, 1, .uint 4, .ro, false, true, false, .any, 0, 0⟩,
  ⟨0x3004, 32, 8, 1, 1, 0x04, 1, .uint 4, .ro, false, true, false, .any, 0, 0⟩,
  ⟨0x3004, 32, 8, 1, 1, 0x05, 1, .uint 2, .ro, false, true, false, .any, 0, 0⟩,
  ⟨0x3004, 32, 8, 1, 1, 0x06, 1, .uint 2, .ro, false, true, false, .any, 4096, 0⟩,
  ⟨0x3004, 32, 8, 1, 1, 0x07, 1, .uint 2, .ro, false, false, false, .any, 0, 0⟩,
  ⟨0x3004, 32, 8, 1, 1, 0x08, 1, .real, .ro, false, true, false, .finite, 0, 0⟩,
  ⟨0x3004, 32, 8, 1, 1, 0x09, 1, .real, .ro, false, false, false, .finite, 0, 0⟩,
  ⟨0x3004, 32, 8, 1, 1, 0x0A, 1, .uint 1, .ro, false, false, false, .any, 0, 0⟩,
  ⟨0x3004, 32, 8, 1, 1, 0x0B, 1, .real, .ro, false, false, false, .finite, 0, 0⟩,
  ⟨0x3100, 1, 8, 1, 1, 0x00, 1, .dom, .wo, false, false, false, .any, 0, 0⟩]

def rows06 : List Row := rows06_0 ++ rows06_1 ++ rows06_2

/-- The rows of spec/07_position_events.md, in the order of its tables. -/
def rows07_0 : List Row := [
  ⟨0x400C, 64, 32, 1, 1, 0x00, 1, .uint 1, .ro, false, false, false, .any, 9, 0⟩,
  ⟨0x400C, 64, 32, 1, 1, 0x01, 1, .uint 1, .rw, true, false, true, .code 0 3, 0, 0⟩,
  ⟨0x400C, 64, 32, 1, 1, 0x02, 1, .bool, .rw, true, false, true, .enum [0, 1], 0, 0⟩,
  ⟨0x400C, 64, 32, 1, 1, 0x03, 1, .uint 4, .rw, true, false, false, .span (10) 1000000000, 1000, 0⟩,
  ⟨0x400C, 64, 32, 1, 1, 0x04, 1, .uint 1, .rw, true, false, false, .span (0) 4, 0, 0⟩,
  ⟨0x400C, 64, 32, 1, 1, 0x05, 1, .uint 2, .rw, true, false, false, .span (0) 10000, 0, 0⟩,
  ⟨0x400C, 64, 32, 1, 1, 0x06, 1, .bool, .rw, true, false, false, .enum [0, 1], 1, 0⟩,
  ⟨0x400C, 64, 32, 1, 1, 0x07, 1, .uint 1, .ro, false, true, false, .any, 0, 0⟩,
  ⟨0x400C, 64, 32, 1, 1, 0x08, 1, .uint 4, .ro, false, false, false, .any, 0, 0⟩,
  ⟨0x400C, 64, 32, 1, 1, 0x09, 1, .uint 4, .ro, false, false, false, .any, 0, 0⟩,
  ⟨0x4020, 1, 16, 64, 48, 0x00, 1, .uint 1, .ro, false, false, false, .any, 11, 0⟩,
  ⟨0x4020, 1, 16, 64, 48, 0x01, 1, .uint 1, .rw, true, false, false, .code 0 4, 0, 0⟩,
  ⟨0x4020, 1, 16, 64, 48, 0x02, 1, .uint 1, .rw, true, false, false, .code 0 2, 0, 0⟩,
  ⟨0x4020, 1, 16, 64, 48, 0x03, 1, .int 8, .rw, true, true, false, .any, 0, 0⟩,
  ⟨0x4020, 1, 16, 64, 48, 0x04, 1, .int 8, .rw, true, true, false, .any, 0, 0⟩,
  ⟨0x4020, 1, 16, 64, 48, 0x05, 1, .uint 4, .rw, true, false, false, .any, 0, 0⟩,
  ⟨0x4020, 1, 16, 64, 48, 0x06, 1, .uint 4, .rw, true, false, false, .any, 4194304, 0⟩,
  ⟨0x4020, 1, 16, 64, 48, 0x07, 1, .uint 1, .rw, true, false, false, .either (0) 31 (255) 255, 255, 0⟩,
  ⟨0x4020, 1, 16, 64, 48, 0x08, 1, .uint 1, .wo, false, true, false, .enum [0, 1], 0, 0⟩,
  ⟨0x4020, 1, 16, 64, 48, 0x09, 1, .uint 4, .ro, false, true, false, .any, 0, 0⟩,
  ⟨0x4020, 1, 16, 64, 48, 0x0A, 1, .uint 4, .ro, false, true, false, .any, 0, 0⟩,
  ⟨0x4020, 1, 16, 64, 48, 0x0B, 1, .int 8, .ro, false, true, false, .any, 0, 0⟩,
  ⟨0x4030, 1, 16, 64, 48, 0x00, 1, .uint 1, .ro, false, false, false, .any, 8, 0⟩,
  ⟨0x4030, 1, 16, 64, 48, 0x01, 1, .uint 1, .rw, true, false, false, .code 0 2, 0, 0⟩,
  ⟨0x4030, 1, 16, 64, 48, 0x02, 1, .uint 1, .rw, true, false, false, .code 0 3, 0, 0⟩]

def rows07_1 : List Row := [
  ⟨0x4030, 1, 16, 64, 48, 0x03, 1, .uint 1, .rw, true, false, false, .span (0) 31, 0, 0⟩,
  ⟨0x4030, 1, 16, 64, 48, 0x04, 1, .uint 1, .wo, false, true, false, .enum [0, 1], 0, 0⟩,
  ⟨0x4030, 1, 16, 64, 48, 0x05, 1, .int 8, .ro, false, true, false, .any, 0, 0⟩,
  ⟨0x4030, 1, 16, 64, 48, 0x06, 1, .uint 4, .ro, false, true, false, .any, 0, 0⟩,
  ⟨0x4030, 1, 16, 64, 48, 0x07, 1, .uint 1, .ro, false, true, false, .any, 0, 0⟩,
  ⟨0x4030, 1, 16, 64, 48, 0x08, 1, .uint 8, .ro, false, true, false, .any, 0, 0⟩]

def rows07 : List Row := rows07_0 ++ rows07_1

/-- The rows of spec/08_fabric.md, in the order of its tables. -/
def rows08_0 : List Row := [
  ⟨0x2450, 1, 24, 1, 1, 0x00, 1, .uint 1, .ro, false, false, false, .any, 5, 0⟩,
  ⟨0x2450, 1, 24, 1, 1, 0x01, 1, .uint 1, .ro, false, false, false, .any, 0, 0⟩,
  ⟨0x2450, 1, 24, 1, 1, 0x02, 1, .uint 1, .ro, false, false, false, .any, 0, 0⟩,
  ⟨0x2450, 1, 24, 1, 1, 0x03, 1, .uint 1, .ro, false, false, false, .any, 0, 0⟩,
  ⟨0x2450, 1, 24, 1, 1, 0x04, 1, .int 2, .ro, false, false, false, .any, 0, 0⟩,
  ⟨0x2450, 1, 24, 1, 1, 0x05, 1, .int 2, .ro, false, false, false, .any, 0, 0⟩,
  ⟨0x2440, 1, 16, 1, 1, 0x00, 1, .uint 1, .ro, false, false, false, .any, 6, 0⟩,
  ⟨0x2440, 1, 16, 1, 1, 0x01, 1, .uint 1, .ro, false, false, false, .any, 0, 0⟩,
  ⟨0x2440, 1, 16, 1, 1, 0x02, 1, .uint 1, .ro, false, false, false, .any, 0, 0⟩,
  ⟨0x2440, 1, 16, 1, 1, 0x03, 1, .uint 1, .ro, false, false, false, .any, 255, 0⟩,
  ⟨0x2440, 1, 16, 1, 1, 0x04, 1, .uint 4, .ro, false, false, false, .any, 0, 0⟩,
  ⟨0x2440, 1, 16, 1, 1, 0x05, 1, .int 2, .ro, false, false, false, .any, 0, 0⟩,
  ⟨0x2440, 1, 16, 1, 1, 0x06, 1, .uint 4, .ro, false, false, false, .any, 0, 0⟩,
  ⟨0x2470, 1, 8, 1, 1, 0x00, 1, .uint 1, .ro, false, false, false, .any, 7, 0⟩,
  ⟨0x2470, 1, 8, 1, 1, 0x01, 1, .uint 1, .rw, false, false, false, .code 0 2, 0, 0⟩,
  ⟨0x2470, 1, 8, 1, 1, 0x02, 1, .uint 1, .ro, false, false, false, .any, 0, 0⟩,
  ⟨0x2470, 1, 8, 1, 1, 0x03, 1, .uint 1, .ro, false, false, false, .any, 0, 0⟩,
  ⟨0x2470, 1, 8, 1, 1, 0x04, 1, .uint 8, .ro, false, false, false, .any, 0, 0⟩,
  ⟨0x2470, 1, 8, 1, 1, 0x05, 1, .uint 4, .ro, false, false, false, .any, 0, 0⟩,
  ⟨0x2470, 1, 8, 1, 1, 0x06, 1, .uint 2, .ro, false, false, false, .any, 0, 0⟩,
  ⟨0x2470, 1, 8, 1, 1, 0x07, 1, .uint 2, .ro, false, false, false, .any, 0, 0⟩,
  ⟨0x2478, 1, 1, 1, 1, 0x00, 1, .uint 1, .ro, false, false, false, .any, 5, 0⟩,
  ⟨0x2478, 1, 1, 1, 1, 0x01, 1, .uint 4, .ro, false, false, false, .any, 0, 0⟩,
  ⟨0x2478, 1, 1, 1, 1, 0x02, 1, .uint 4, .ro, false, false, false, .any, 0, 0⟩,
  ⟨0x2478, 1, 1, 1, 1, 0x03, 1, .uint 4, .ro, false, false, false, .any, 0, 0⟩]

def rows08_1 : List Row := [
  ⟨0x2478, 1, 1, 1, 1, 0x04, 1, .uint 2, .ro, false, false, false, .any, 0, 0⟩,
  ⟨0x2478, 1, 1, 1, 1, 0x05, 1, .uint 2, .ro, false, false, false, .any, 65535, 0⟩,
  ⟨0x2479, 1, 1, 1, 1, 0x00, 1, .uint 1, .ro, false, false, false, .any, 2, 0⟩,
  ⟨0x2479, 1, 1, 1, 1, 0x01, 1, .uint 1, .rw, true, false, false, .enum [0, 1], 0, 0⟩,
  ⟨0x2479, 1, 1, 1, 1, 0x02, 1, .uint 1, .ro, false, false, false, .any, 0, 0⟩]

def rows08 : List Row := rows08_0 ++ rows08_1

/-- The rows of spec/09_ingots_and_loading.md, in the order of its tables. -/
def rows09_0 : List Row := [
  ⟨0x2400, 1, 1, 1, 1, 0x00, 1, .uint 1, .ro, false, false, false, .any, 9, 0⟩,
  ⟨0x2400, 1, 1, 1, 1, 0x01, 1, .uint 1, .ro, false, false, false, .any, 255, 0⟩,
  ⟨0x2400, 1, 1, 1, 1, 0x02, 1, .uint 4, .ro, false, false, false, .any, 0, 0⟩,
  ⟨0x2400, 1, 1, 1, 1, 0x03, 1, .uint 4, .ro, false, false, false, .any, 0, 0⟩,
  ⟨0x2400, 1, 1, 1, 1, 0x04, 1, .uint 2, .ro, false, false, false, .any, 0, 0⟩,
  ⟨0x2400, 1, 1, 1, 1, 0x05, 1, .uint 1, .ro, false, false, false, .any, 0, 0⟩,
  ⟨0x2400, 1, 1, 1, 1, 0x06, 1, .uint 1, .ro, false, false, false, .any, 255, 0⟩,
  ⟨0x2400, 1, 1, 1, 1, 0x07, 1, .uint 2, .ro, false, false, false, .any, 65535, 0⟩,
  ⟨0x2400, 1, 1, 1, 1, 0x08, 1, .uint 4, .ro, false, false, false, .any, 0, 0⟩,
  ⟨0x2400, 1, 1, 1, 1, 0x09, 1, .uint 1, .ro, false, false, false, .any, 0, 0⟩,
  ⟨0x2401, 1, 3, 1, 1, 0x00, 1, .uint 1, .ro, false, false, false, .any, 6, 0⟩,
  ⟨0x2401, 1, 3, 1, 1, 0x01, 1, .uint 1, .ro, false, false, false, .any, 0, 1⟩,
  ⟨0x2401, 1, 3, 1, 1, 0x02, 1, .uint 1, .ro, false, false, false, .any, 0, 0⟩,
  ⟨0x2401, 1, 3, 1, 1, 0x03, 1, .uint 4, .ro, false, false, false, .any, 0, 0⟩,
  ⟨0x2401, 1, 3, 1, 1, 0x04, 1, .uint 4, .ro, false, false, false, .any, 0, 0⟩,
  ⟨0x2401, 1, 3, 1, 1, 0x05, 1, .uint 4, .ro, false, false, false, .any, 0, 0⟩,
  ⟨0x2401, 1, 3, 1, 1, 0x06, 1, .uint 1, .ro, false, false, false, .any, 0, 0⟩,
  ⟨0x2404, 1, 1, 1, 1, 0x00, 1, .uint 1, .ro, false, false, false, .any, 4, 0⟩,
  ⟨0x2404, 1, 1, 1, 1, 0x01, 1, .uint 1, .wo, false, false, false, .code 1 3, 0, 0⟩,
  ⟨0x2404, 1, 1, 1, 1, 0x02, 1, .dom, .wo, false, false, false, .any, 0, 0⟩,
  ⟨0x2404, 1, 1, 1, 1, 0x03, 1, .uint 4, .ro, false, false, false, .any, 0, 0⟩,
  ⟨0x2404, 1, 1, 1, 1, 0x04, 1, .uint 1, .ro, false, false, false, .any, 0, 0⟩,
  ⟨0x2405, 1, 1, 1, 1, 0x00, 1, .uint 1, .ro, false, false, false, .any, 6, 0⟩,
  ⟨0x2405, 1, 1, 1, 1, 0x01, 1, .uint 1, .wo, false, false, false, .code 0 2, 0, 0⟩,
  ⟨0x2405, 1, 1, 1, 1, 0x02, 1, .uint 8, .rw, false, false, false, .any, 0, 0⟩]

def rows09_1 : List Row := [
  ⟨0x2405, 1, 1, 1, 1, 0x03, 1, .uint 1, .ro, false, false, false, .any, 0, 0⟩,
  ⟨0x2405, 1, 1, 1, 1, 0x04, 1, .uint 1, .wo, false, false, false, .enum [1], 0, 0⟩,
  ⟨0x2405, 1, 1, 1, 1, 0x05, 1, .uint 4, .ro, false, false, false, .any, 0, 0⟩,
  ⟨0x2405, 1, 1, 1, 1, 0x06, 1, .uint 4, .wo, false, false, false, .any, 0, 0⟩,
  ⟨0x2406, 1, 1, 1, 1, 0x00, 1, .uint 1, .ro, false, false, false, .any, 4, 0⟩,
  ⟨0x2406, 1, 1, 1, 1, 0x01, 1, .dom, .wo, false, false, false, .any, 0, 0⟩,
  ⟨0x2406, 1, 1, 1, 1, 0x02, 1, .uint 1, .ro, false, false, false, .any, 0, 0⟩,
  ⟨0x2406, 1, 1, 1, 1, 0x03, 1, .uint 1, .ro, false, false, false, .any, 0, 0⟩,
  ⟨0x2406, 1, 1, 1, 1, 0x04, 1, .uint 2, .wo, false, false, false, .any, 0, 0⟩,
  ⟨0x2407, 1, 1, 1, 1, 0x00, 1, .uint 1, .ro, false, false, false, .any, 5, 0⟩,
  ⟨0x2407, 1, 1, 1, 1, 0x01, 1, .uint 1, .ro, false, false, false, .any, 0, 0⟩,
  ⟨0x2407, 1, 1, 1, 1, 0x02, 1, .uint 1, .ro, false, false, false, .any, 0, 0⟩,
  ⟨0x2407, 1, 1, 1, 1, 0x03, 1, .uint 4, .ro, false, false, false, .any, 0, 0⟩,
  ⟨0x2407, 1, 1, 1, 1, 0x04, 1, .uint 4, .ro, false, false, false, .any, 0, 0⟩,
  ⟨0x2407, 1, 1, 1, 1, 0x05, 1, .uint 4, .ro, false, false, false, .any, 0, 0⟩]

def rows09 : List Row := rows09_0 ++ rows09_1

/-- The rows of spec/10_flash.md, in the order of its tables. -/
def rows10_0 : List Row := [
  ⟨0x2300, 1, 1, 1, 1, 0x00, 1, .uint 1, .ro, false, false, false, .any, 6, 0⟩,
  ⟨0x2300, 1, 1, 1, 1, 0x01, 1, .uint 2, .ro, false, true, false, .any, 0, 0⟩,
  ⟨0x2300, 1, 1, 1, 1, 0x02, 1, .uint 4, .ro, false, false, false, .any, 0, 0⟩,
  ⟨0x2300, 1, 1, 1, 1, 0x03, 1, .uint 4, .ro, false, false, false, .any, 0, 0⟩,
  ⟨0x2300, 1, 1, 1, 1, 0x04, 1, .uint 4, .ro, false, false, false, .any, 0, 0⟩,
  ⟨0x2300, 1, 1, 1, 1, 0x05, 1, .uint 2, .ro, false, false, false, .any, 0, 0⟩,
  ⟨0x2300, 1, 1, 1, 1, 0x06, 1, .uint 2, .ro, false, false, false, .any, 0, 0⟩,
  ⟨0x2301, 1, 1, 1, 1, 0x00, 1, .uint 1, .ro, false, false, false, .any, 3, 0⟩,
  ⟨0x2301, 1, 1, 1, 1, 0x01, 1, .uint 1, .rw, true, false, false, .span (1) 4, 2, 0⟩,
  ⟨0x2301, 1, 1, 1, 1, 0x02, 1, .bool, .rw, true, false, false, .enum [0, 1], 0, 0⟩,
  ⟨0x2301, 1, 1, 1, 1, 0x03, 1, .bool, .rw, true, false, false, .enum [0, 1], 0, 0⟩,
  ⟨0x2302, 1, 1, 1, 1, 0x00, 1, .uint 1, .ro, false, false, false, .any, 6, 0⟩,
  ⟨0x2302, 1, 1, 1, 1, 0x01, 1, .uint 8, .wo, false, false, false, .any, 0, 0⟩,
  ⟨0x2302, 1, 1, 1, 1, 0x02, 1, .uint 1, .ro, false, false, false, .any, 0, 0⟩,
  ⟨0x2302, 1, 1, 1, 1, 0x03, 1, .uint 1, .ro, false, false, false, .any, 0, 0⟩,
  ⟨0x2302, 1, 1, 1, 1, 0x04, 1, .uint 8, .wo, false, false, false, .any, 0, 0⟩,
  ⟨0x2302, 1, 1, 1, 1, 0x05, 1, .uint 8, .rw, false, false, false, .any, 0, 0⟩,
  ⟨0x2302, 1, 1, 1, 1, 0x06, 1, .uint 1, .wo, false, false, false, .enum [1], 0, 0⟩,
  ⟨0x2303, 1, 1, 1, 1, 0x00, 1, .uint 1, .ro, false, false, false, .any, 6, 0⟩,
  ⟨0x2303, 1, 1, 1, 1, 0x01, 1, .uint 1, .rw, false, false, false, .any, 0, 0⟩,
  ⟨0x2303, 1, 1, 1, 1, 0x02, 1, .uint 4, .ro, false, false, false, .any, 0, 0⟩,
  ⟨0x2303, 1, 1, 1, 1, 0x03, 1, .uint 1, .ro, false, false, false, .any, 0, 0⟩,
  ⟨0x2303, 1, 1, 1, 1, 0x04, 1, .uint 1, .ro, false, false, false, .any, 0, 0⟩,
  ⟨0x2303, 1, 1, 1, 1, 0x05, 1, .uint 8, .ro, false, false, false, .any, 0, 0⟩,
  ⟨0x2303, 1, 1, 1, 1, 0x06, 1, .uint 4, .ro, false, false, false, .any, 0, 0⟩]

def rows10_1 : List Row := [
  ⟨0x2304, 1, 1, 1, 1, 0x00, 1, .uint 1, .ro, false, false, false, .any, 4, 0⟩,
  ⟨0x2304, 1, 1, 1, 1, 0x01, 1, .uint 1, .rw, false, false, false, .code 0 2, 1, 0⟩,
  ⟨0x2304, 1, 1, 1, 1, 0x02, 1, .dom, .rw, false, false, false, .any, 0, 0⟩,
  ⟨0x2304, 1, 1, 1, 1, 0x03, 1, .uint 1, .wo, false, false, false, .span (0) 63, 0, 0⟩,
  ⟨0x2304, 1, 1, 1, 1, 0x04, 1, .uint 4, .rw, false, false, false, .any, 0, 0⟩]

def rows10 : List Row := rows10_0 ++ rows10_1

/-- The rows of spec/11_scratchpad_and_dram.md, in the order of its tables. -/
def rows11_0 : List Row := [
  ⟨0x2700, 1, 16, 1, 1, 0x00, 1, .uint 1, .ro, false, false, false, .any, 7, 0⟩,
  ⟨0x2700, 1, 16, 1, 1, 0x01, 1, .uint 1, .rw, false, false, false, .any, 0, 0⟩,
  ⟨0x2700, 1, 16, 1, 1, 0x02, 1, .uint 1, .ro, false, false, false, .any, 0, 0⟩,
  ⟨0x2700, 1, 16, 1, 1, 0x03, 1, .bool, .rw, true, false, false, .enum [0, 1], 1, 0⟩,
  ⟨0x2700, 1, 16, 1, 1, 0x04, 1, .uint 1, .rw, true, false, false, .either (0) 0 (48) 55, 0, 0⟩,
  ⟨0x2700, 1, 16, 1, 1, 0x05, 1, .bool, .rw, true, false, false, .enum [0, 1], 0, 0⟩,
  ⟨0x2700, 1, 16, 1, 1, 0x06, 1, .uint 4, .ro, false, false, false, .any, 0, 0⟩,
  ⟨0x2700, 1, 16, 1, 1, 0x07, 1, .uint 4, .ro, false, false, false, .any, 0, 0⟩,
  ⟨0x2720, 1, 1, 1, 1, 0x00, 1, .uint 1, .ro, false, false, false, .any, 9, 0⟩,
  ⟨0x2720, 1, 1, 1, 1, 0x01, 1, .uint 1, .rw, true, false, false, .code 0 4, 0, 0⟩,
  ⟨0x2720, 1, 1, 1, 1, 0x02, 1, .uint 1, .rw, true, false, false, .enum [8, 16], 8, 0⟩,
  ⟨0x2720, 1, 1, 1, 1, 0x03, 1, .uint 1, .rw, true, false, false, .enum [1, 2], 1, 0⟩,
  ⟨0x2720, 1, 1, 1, 1, 0x04, 1, .uint 1, .ro, false, false, false, .any, 0, 0⟩,
  ⟨0x2720, 1, 1, 1, 1, 0x05, 1, .uint 8, .ro, false, false, false, .any, 0, 0⟩,
  ⟨0x2720, 1, 1, 1, 1, 0x06, 1, .uint 4, .ro, false, false, false, .any, 0, 0⟩,
  ⟨0x2720, 1, 1, 1, 1, 0x07, 1, .uint 4, .ro, false, false, false, .any, 0, 0⟩,
  ⟨0x2720, 1, 1, 1, 1, 0x08, 1, .uint 2, .ro, false, false, false, .any, 0, 0⟩,
  ⟨0x2720, 1, 1, 1, 1, 0x09, 1, .uint 2, .ro, false, false, false, .any, 4096, 0⟩,
  ⟨0x2730, 1, 16, 1, 1, 0x00, 1, .uint 1, .ro, false, false, false, .any, 2, 0⟩,
  ⟨0x2730, 1, 16, 1, 1, 0x01, 1, .uint 8, .rw, true, false, false, .mult 4096, 0, 0⟩,
  ⟨0x2730, 1, 16, 1, 1, 0x02, 1, .uint 8, .rw, true, false, false, .mult 4096, 0, 0⟩,
  ⟨0x2D00, 1, 1, 1, 1, 0x00, 1, .uint 1, .ro, false, false, false, .any, 10, 0⟩,
  ⟨0x2D00, 1, 1, 1, 1, 0x01, 1, .uint 1, .rw, false, false, false, .code 0 2, 0, 0⟩,
  ⟨0x2D00, 1, 1, 1, 1, 0x02, 1, .uint 1, .rw, true, false, false, .enum [0, 1], 0, 0⟩,
  ⟨0x2D00, 1, 1, 1, 1, 0x03, 1, .uint 8, .rw, true, false, false, .mult 1048576, 0, 0⟩]

def rows11_1 : List Row := [
  ⟨0x2D00, 1, 1, 1, 1, 0x04, 1, .uint 4, .rw, true, false, false, .span (1) 4096, 64, 0⟩,
  ⟨0x2D00, 1, 1, 1, 1, 0x05, 1, .uint 2, .rw, true, false, false, .span (1) 65535, 1, 0⟩,
  ⟨0x2D00, 1, 1, 1, 1, 0x06, 1, .uint 4, .ro, false, false, false, .any, 0, 0⟩,
  ⟨0x2D00, 1, 1, 1, 1, 0x07, 1, .uint 8, .ro, false, false, false, .any, 0, 0⟩,
  ⟨0x2D00, 1, 1, 1, 1, 0x08, 1, .uint 8, .ro, false, false, false, .any, 0, 0⟩,
  ⟨0x2D00, 1, 1, 1, 1, 0x09, 1, .uint 4, .ro, false, false, false, .any, 0, 0⟩,
  ⟨0x2D00, 1, 1, 1, 1, 0x0A, 1, .uint 1, .rw, true, false, false, .any, 0, 0⟩,
  ⟨0x2740, 1, 1, 1, 1, 0x01, 1, .bool, .rw, false, false, false, .enum [0, 1], 0, 0⟩,
  ⟨0x2D01, 1, 1, 1, 1, 0x01, 63, .uint 2, .rw, true, false, false, .any, 0, 0⟩]

def rows11 : List Row := rows11_0 ++ rows11_1

/-- The rows of spec/12_inline_cipher_and_storage.md, in the order of its tables. -/
def rows12_0 : List Row := [
  ⟨0x2500, 1, 1, 1, 1, 0x00, 1, .uint 1, .ro, false, false, false, .any, 6, 0⟩,
  ⟨0x2500, 1, 1, 1, 1, 0x01, 1, .uint 1, .rw, true, false, false, .enum [0, 1], 0, 0⟩,
  ⟨0x2500, 1, 1, 1, 1, 0x02, 1, .uint 1, .rw, true, false, false, .enum [0, 1], 1, 0⟩,
  ⟨0x2500, 1, 1, 1, 1, 0x03, 1, .uint 8, .ro, false, false, false, .any, 0, 0⟩,
  ⟨0x2500, 1, 1, 1, 1, 0x04, 1, .uint 4, .ro, false, false, false, .any, 0, 0⟩,
  ⟨0x2500, 1, 1, 1, 1, 0x05, 1, .uint 4, .ro, false, false, false, .any, 0, 0⟩,
  ⟨0x2500, 1, 1, 1, 1, 0x06, 1, .uint 4, .ro, false, false, false, .any, 0, 0⟩,
  ⟨0x2501, 1, 1, 1, 1, 0x00, 1, .uint 1, .ro, false, false, false, .any, 4, 0⟩,
  ⟨0x2501, 1, 1, 1, 1, 0x01, 1, .uint 1, .rw, false, false, false, .span (1) 255, 1, 0⟩,
  ⟨0x2501, 1, 1, 1, 1, 0x02, 1, .uint 1, .ro, false, false, false, .any, 0, 0⟩,
  ⟨0x2501, 1, 1, 1, 1, 0x03, 1, .uint 2, .ro, false, false, false, .any, 0, 0⟩,
  ⟨0x2501, 1, 1, 1, 1, 0x04, 1, .uint 1, .ro, false, false, false, .any, 255, 0⟩,
  ⟨0x2502, 1, 1, 1, 1, 0x00, 1, .uint 1, .ro, false, false, false, .any, 2, 0⟩,
  ⟨0x2502, 1, 1, 1, 1, 0x01, 1, .dom, .wo, false, false, false, .len 64, 0, 0⟩,
  ⟨0x2502, 1, 1, 1, 1, 0x02, 1, .uint 2, .wo, false, false, false, .mask 511, 0, 0⟩,
  ⟨0x2602, 1, 1, 1, 1, 0x00, 1, .uint 1, .ro, false, false, false, .any, 7, 0⟩,
  ⟨0x2602, 1, 1, 1, 1, 0x01, 1, .uint 1, .rw, false, false, false, .span (1) 255, 1, 0⟩,
  ⟨0x2602, 1, 1, 1, 1, 0x02, 1, .uint 1, .wo, false, false, false, .code 1 3, 0, 0⟩,
  ⟨0x2602, 1, 1, 1, 1, 0x03, 1, .uint 1, .ro, false, false, false, .any, 0, 0⟩,
  ⟨0x2602, 1, 1, 1, 1, 0x04, 1, .uint 4, .ro, false, false, false, .any, 0, 0⟩,
  ⟨0x2602, 1, 1, 1, 1, 0x05, 1, .uint 4, .ro, false, false, false, .any, 0, 0⟩,
  ⟨0x2602, 1, 1, 1, 1, 0x06, 1, .uint 4, .ro, false, false, false, .any, 4294967295, 0⟩,
  ⟨0x2602, 1, 1, 1, 1, 0x07, 1, .uint 2, .ro, false, false, false, .any, 0, 0⟩,
  ⟨0x2510, 1, 1, 1, 1, 0x00, 1, .uint 1, .ro, false, false, false, .any, 2, 0⟩,
  ⟨0x2510, 1, 1, 1, 1, 0x01, 1, .uint 1, .wo, false, false, false, .code 1 255, 0, 0⟩]

def rows12_1 : List Row := [
  ⟨0x2510, 1, 1, 1, 1, 0x02, 1, .uint 1, .ro, false, false, false, .any, 0, 0⟩,
  ⟨0x2600, 1, 1, 1, 1, 0x00, 1, .uint 1, .ro, false, false, false, .any, 7, 0⟩,
  ⟨0x2600, 1, 1, 1, 1, 0x01, 1, .uint 1, .rw, true, false, false, .code 0 3, 0, 0⟩,
  ⟨0x2600, 1, 1, 1, 1, 0x02, 1, .uint 1, .ro, false, false, false, .any, 0, 0⟩,
  ⟨0x2600, 1, 1, 1, 1, 0x03, 1, .uint 8, .ro, false, false, false, .any, 0, 0⟩,
  ⟨0x2600, 1, 1, 1, 1, 0x04, 1, .uint 1, .ro, false, false, false, .any, 0, 0⟩,
  ⟨0x2600, 1, 1, 1, 1, 0x05, 1, .bool, .rw, true, false, false, .enum [0, 1], 0, 0⟩,
  ⟨0x2600, 1, 1, 1, 1, 0x06, 1, .uint 1, .wo, false, false, false, .enum [1], 0, 0⟩,
  ⟨0x2600, 1, 1, 1, 1, 0x07, 1, .uint 8, .ro, false, false, false, .any, 0, 0⟩,
  ⟨0x2610, 1, 8, 1, 1, 0x00, 1, .uint 1, .ro, false, false, false, .any, 9, 0⟩,
  ⟨0x2610, 1, 8, 1, 1, 0x01, 1, .uint 1, .rw, false, false, false, .code 0 2, 0, 0⟩,
  ⟨0x2610, 1, 8, 1, 1, 0x02, 1, .uint 1, .rw, true, false, false, .any, 1, 0⟩,
  ⟨0x2610, 1, 8, 1, 1, 0x03, 1, .uint 2, .ro, false, false, false, .any, 0, 0⟩,
  ⟨0x2610, 1, 8, 1, 1, 0x04, 1, .uint 8, .rw, false, false, false, .any, 0, 0⟩,
  ⟨0x2610, 1, 8, 1, 1, 0x05, 1, .dom, .rw, false, false, false, .any, 0, 0⟩,
  ⟨0x2610, 1, 8, 1, 1, 0x06, 1, .dom, .wo, false, false, false, .any, 0, 0⟩,
  ⟨0x2610, 1, 8, 1, 1, 0x07, 1, .uint 1, .wo, false, false, false, .enum [1], 0, 0⟩,
  ⟨0x2610, 1, 8, 1, 1, 0x08, 1, .uint 2, .ro, false, false, false, .any, 0, 0⟩,
  ⟨0x2610, 1, 8, 1, 1, 0x09, 1, .uint 1, .ro, false, false, false, .any, 0, 0⟩,
  ⟨0x2620, 1, 1, 1, 1, 0x00, 1, .uint 1, .ro, false, false, false, .any, 4, 0⟩,
  ⟨0x2620, 1, 1, 1, 1, 0x01, 1, .uint 8, .rw, true, false, false, .mult 256, 0, 0⟩,
  ⟨0x2620, 1, 1, 1, 1, 0x02, 1, .uint 8, .rw, true, false, false, .mult 256, 0, 0⟩,
  ⟨0x2620, 1, 1, 1, 1, 0x03, 1, .uint 8, .ro, false, false, false, .any, 0, 0⟩,
  ⟨0x2620, 1, 1, 1, 1, 0x04, 1, .uint 8, .ro, false, false, false, .any, 0, 0⟩]

def rows12 : List Row := rows12_0 ++ rows12_1

/-- The rows of spec/13_check_units.md, in the order of its tables. -/
def rows13_0 : List Row := [
  ⟨0x2800, 1, 8, 1, 1, 0x00, 1, .uint 1, .ro, false, false, false, .any, 15, 0⟩,
  ⟨0x2800, 1, 8, 1, 1, 0x01, 1, .uint 1, .rw, false, false, false, .code 0 2, 1, 0⟩,
  ⟨0x2800, 1, 8, 1, 1, 0x02, 1, .uint 1, .wo, false, false, false, .code 1 5, 0, 0⟩,
  ⟨0x2800, 1, 8, 1, 1, 0x03, 1, .uint 1, .rw, true, false, false, .span (1) 64, 32, 0⟩,
  ⟨0x2800, 1, 8, 1, 1, 0x04, 1, .uint 8, .rw, true, false, false, .any, 517762881, 0⟩,
  ⟨0x2800, 1, 8, 1, 1, 0x05, 1, .uint 8, .rw, true, false, false, .any, 4294967295, 0⟩,
  ⟨0x2800, 1, 8, 1, 1, 0x06, 1, .uint 1, .rw, true, false, false, .mask 3, 3, 0⟩,
  ⟨0x2800, 1, 8, 1, 1, 0x07, 1, .uint 8, .rw, true, false, false, .any, 4294967295, 0⟩,
  ⟨0x2800, 1, 8, 1, 1, 0x08, 1, .uint 8, .rw, false, false, false, .any, 0, 0⟩,
  ⟨0x2800, 1, 8, 1, 1, 0x09, 1, .uint 8, .rw, false, false, false, .mult 32, 0, 0⟩,
  ⟨0x2800, 1, 8, 1, 1, 0x0A, 1, .uint 1, .rw, false, false, false, .any, 0, 0⟩,
  ⟨0x2800, 1, 8, 1, 1, 0x0B, 1, .uint 1, .wo, false, false, false, .enum [1], 0, 0⟩,
  ⟨0x2800, 1, 8, 1, 1, 0x0C, 1, .uint 1, .ro, false, false, false, .any, 0, 0⟩,
  ⟨0x2800, 1, 8, 1, 1, 0x0D, 1, .uint 8, .ro, false, false, false, .any, 0, 0⟩,
  ⟨0x2800, 1, 8, 1, 1, 0x0E, 1, .uint 4, .ro, false, false, false, .any, 0, 0⟩,
  ⟨0x2800, 1, 8, 1, 1, 0x0F, 1, .uint 8, .ro, false, false, false, .any, 0, 0⟩]

def rows13 : List Row := rows13_0

/-- The rows of spec/14_assay_island.md, in the order of its tables. -/
def rows14_0 : List Row := [
  ⟨0x5000, 1, 1, 1, 1, 0x00, 1, .uint 1, .ro, false, false, false, .any, 7, 0⟩,
  ⟨0x5000, 1, 1, 1, 1, 0x01, 1, .uint 1, .ro, false, true, false, .any, 0, 0⟩,
  ⟨0x5000, 1, 1, 1, 1, 0x02, 1, .uint 4, .ro, false, false, false, .any, 0, 0⟩,
  ⟨0x5000, 1, 1, 1, 1, 0x03, 1, .uint 4, .ro, false, false, false, .any, 0, 0⟩,
  ⟨0x5000, 1, 1, 1, 1, 0x04, 1, .ostr, .ro, false, false, false, .any, 0, 0⟩,
  ⟨0x5000, 1, 1, 1, 1, 0x05, 1, .ostr, .ro, false, false, false, .any, 0, 0⟩,
  ⟨0x5000, 1, 1, 1, 1, 0x06, 1, .uint 1, .ro, false, false, false, .any, 0, 0⟩,
  ⟨0x5000, 1, 1, 1, 1, 0x07, 1, .bool, .ro, false, true, false, .enum [0, 1], 0, 0⟩,
  ⟨0x5001, 1, 1, 1, 1, 0x00, 1, .uint 1, .ro, false, false, false, .any, 7, 0⟩,
  ⟨0x5001, 1, 1, 1, 1, 0x01, 1, .uint 1, .wo, false, false, false, .enum [1, 2], 0, 0⟩,
  ⟨0x5001, 1, 1, 1, 1, 0x02, 1, .uint 4, .rw, false, false, false, .any, 1, 0⟩,
  ⟨0x5001, 1, 1, 1, 1, 0x03, 1, .uint 1, .ro, false, true, false, .any, 0, 0⟩,
  ⟨0x5001, 1, 1, 1, 1, 0x04, 1, .uint 4, .ro, false, true, false, .any, 0, 0⟩,
  ⟨0x5001, 1, 1, 1, 1, 0x05, 1, .int 8, .ro, false, true, false, .any, 0, 0⟩,
  ⟨0x5001, 1, 1, 1, 1, 0x06, 1, .int 8, .ro, false, true, false, .any, 0, 0⟩,
  ⟨0x5001, 1, 1, 1, 1, 0x07, 1, .uint 4, .ro, false, true, false, .any, 0, 0⟩,
  ⟨0x5002, 1, 1, 1, 1, 0x00, 1, .uint 1, .ro, false, false, false, .any, 8, 0⟩,
  ⟨0x5002, 1, 1, 1, 1, 0x01, 1, .uint 4, .ro, false, false, false, .any, 0, 0⟩,
  ⟨0x5002, 1, 1, 1, 1, 0x02, 1, .ostr, .ro, false, false, false, .any, 0, 0⟩,
  ⟨0x5002, 1, 1, 1, 1, 0x03, 1, .uint 4, .ro, false, false, false, .any, 0, 0⟩,
  ⟨0x5002, 1, 1, 1, 1, 0x04, 1, .uint 4, .ro, false, false, false, .any, 0, 0⟩,
  ⟨0x5002, 1, 1, 1, 1, 0x05, 1, .uint 2, .ro, false, true, false, .any, 4096, 0⟩,
  ⟨0x5002, 1, 1, 1, 1, 0x06, 1, .uint 4, .rw, false, false, false, .any, 1, 0⟩,
  ⟨0x5002, 1, 1, 1, 1, 0x07, 1, .dom, .ro, false, false, false, .any, 0, 0⟩,
  ⟨0x5002, 1, 1, 1, 1, 0x08, 1, .ostr, .wo, false, false, false, .len 36, 0, 0⟩]

def rows14_1 : List Row := [
  ⟨0x5003, 1, 1, 1, 1, 0x00, 1, .uint 1, .ro, false, false, false, .any, 4, 0⟩,
  ⟨0x5003, 1, 1, 1, 1, 0x01, 1, .dom, .wo, false, false, false, .any, 0, 0⟩,
  ⟨0x5003, 1, 1, 1, 1, 0x02, 1, .dom, .wo, false, false, false, .any, 0, 0⟩,
  ⟨0x5003, 1, 1, 1, 1, 0x03, 1, .uint 1, .ro, false, false, false, .any, 0, 0⟩,
  ⟨0x5003, 1, 1, 1, 1, 0x04, 1, .uint 4, .ro, false, false, false, .any, 0, 0⟩,
  ⟨0x5004, 1, 1, 1, 1, 0x00, 1, .uint 1, .ro, false, false, false, .any, 2, 0⟩,
  ⟨0x5004, 1, 1, 1, 1, 0x01, 1, .uint 2, .rw, false, false, false, .any, 1, 0⟩,
  ⟨0x5004, 1, 1, 1, 1, 0x02, 1, .uint 8, .ro, false, false, false, .any, 0, 0⟩,
  ⟨0x2621, 1, 1, 1, 1, 0x00, 1, .uint 1, .ro, false, false, false, .any, 5, 0⟩,
  ⟨0x2621, 1, 1, 1, 1, 0x01, 1, .uint 1, .rw, true, false, false, .code 0 2, 0, 0⟩,
  ⟨0x2621, 1, 1, 1, 1, 0x02, 1, .uint 1, .rw, true, false, false, .span (0) 5, 0, 0⟩,
  ⟨0x2621, 1, 1, 1, 1, 0x03, 1, .uint 8, .rw, true, false, false, .any, 0, 0⟩,
  ⟨0x2621, 1, 1, 1, 1, 0x04, 1, .uint 8, .rw, true, false, false, .mult 512, 512, 0⟩,
  ⟨0x2621, 1, 1, 1, 1, 0x05, 1, .uint 4, .ro, false, false, false, .any, 0, 0⟩]

def rows14 : List Row := rows14_0 ++ rows14_1

/-- The rows of spec/15_clocks_and_time.md, in the order of its tables. -/
def rows15_0 : List Row := [
  ⟨0x2200, 1, 1, 1, 1, 0x00, 1, .uint 1, .ro, false, false, false, .any, 6, 0⟩,
  ⟨0x2200, 1, 1, 1, 1, 0x01, 1, .uint 1, .rw, true, false, false, .enum [0, 1], 0, 0⟩,
  ⟨0x2200, 1, 1, 1, 1, 0x02, 1, .uint 1, .wo, false, false, false, .enum [0, 1], 0, 0⟩,
  ⟨0x2200, 1, 1, 1, 1, 0x03, 1, .uint 1, .ro, false, false, false, .any, 0, 0⟩,
  ⟨0x2200, 1, 1, 1, 1, 0x04, 1, .uint 1, .ro, false, false, false, .any, 0, 0⟩,
  ⟨0x2200, 1, 1, 1, 1, 0x05, 1, .uint 4, .ro, false, false, false, .any, 0, 0⟩,
  ⟨0x2200, 1, 1, 1, 1, 0x06, 1, .int 4, .ro, false, false, false, .any, 0, 0⟩,
  ⟨0x2220, 1, 8, 1, 1, 0x00, 1, .uint 1, .ro, false, false, false, .any, 29, 0⟩,
  ⟨0x2220, 1, 8, 1, 1, 0x01, 1, .uint 4, .rw, true, false, false, .any, 0, 0⟩,
  ⟨0x2220, 1, 8, 1, 1, 0x02, 1, .uint 4, .ro, false, false, false, .any, 0, 0⟩,
  ⟨0x2220, 1, 8, 1, 1, 0x03, 1, .uint 1, .ro, false, false, false, .any, 0, 0⟩,
  ⟨0x2220, 1, 8, 1, 1, 0x04, 1, .uint 1, .ro, false, false, false, .any, 0, 0⟩,
  ⟨0x2220, 1, 8, 1, 1, 0x05, 1, .uint 4, .ro, false, false, false, .any, 0, 0⟩,
  ⟨0x2220, 1, 8, 1, 1, 0x06, 1, .uint 4, .ro, false, false, false, .any, 0, 0⟩,
  ⟨0x2220, 1, 8, 1, 1, 0x07, 1, .uint 4, .ro, false, false, false, .any, 0, 0⟩,
  ⟨0x2220, 1, 8, 1, 1, 0x08, 1, .uint 2, .rw, false, false, false, .span (1) 512, 16, 0⟩,
  ⟨0x2220, 1, 8, 1, 1, 0x09, 1, .uint 2, .rw, false, false, false, .span (1) 512, 16, 0⟩,
  ⟨0x2220, 1, 8, 1, 1, 0x0A, 1, .uint 2, .rw, false, false, false, .span (1) 512, 16, 0⟩,
  ⟨0x2220, 1, 8, 1, 1, 0x0B, 1, .uint 2, .rw, false, false, false, .span (1) 512, 16, 0⟩,
  ⟨0x2220, 1, 8, 1, 1, 0x0C, 1, .uint 2, .rw, false, false, false, .span (1) 512, 16, 0⟩,
  ⟨0x2220, 1, 8, 1, 1, 0x0D, 1, .uint 2, .rw, false, false, false, .span (1) 512, 16, 0⟩,
  ⟨0x2220, 1, 8, 1, 1, 0x0E, 1, .uint 2, .rw, false, false, false, .span (1) 512, 16, 0⟩,
  ⟨0x2220, 1, 8, 1, 1, 0x0F, 1, .uint 1, .rw, false, false, false, .any, 0, 0⟩,
  ⟨0x2220, 1, 8, 1, 1, 0x10, 1, .uint 1, .rw, false, false, false, .any, 0, 0⟩,
  ⟨0x2220, 1, 8, 1, 1, 0x11, 1, .uint 1, .rw, false, false, false, .any, 0, 0⟩]

def rows15_1 : List Row := [
  ⟨0x2220, 1, 8, 1, 1, 0x12, 1, .uint 1, .rw, false, false, false, .any, 0, 0⟩,
  ⟨0x2220, 1, 8, 1, 1, 0x13, 1, .uint 1, .rw, false, false, false, .any, 0, 0⟩,
  ⟨0x2220, 1, 8, 1, 1, 0x14, 1, .uint 1, .rw, false, false, false, .any, 0, 0⟩,
  ⟨0x2220, 1, 8, 1, 1, 0x15, 1, .uint 1, .rw, false, false, false, .any, 0, 0⟩,
  ⟨0x2220, 1, 8, 1, 1, 0x16, 1, .bool, .rw, false, false, false, .enum [0, 1], 0, 0⟩,
  ⟨0x2220, 1, 8, 1, 1, 0x17, 1, .bool, .rw, false, false, false, .enum [0, 1], 0, 0⟩,
  ⟨0x2220, 1, 8, 1, 1, 0x18, 1, .bool, .rw, false, false, false, .enum [0, 1], 0, 0⟩,
  ⟨0x2220, 1, 8, 1, 1, 0x19, 1, .bool, .rw, false, false, false, .enum [0, 1], 0, 0⟩,
  ⟨0x2220, 1, 8, 1, 1, 0x1A, 1, .bool, .rw, false, false, false, .enum [0, 1], 0, 0⟩,
  ⟨0x2220, 1, 8, 1, 1, 0x1B, 1, .bool, .rw, false, false, false, .enum [0, 1], 0, 0⟩,
  ⟨0x2220, 1, 8, 1, 1, 0x1C, 1, .bool, .rw, false, false, false, .enum [0, 1], 0, 0⟩,
  ⟨0x2220, 1, 8, 1, 1, 0x1D, 1, .uint 1, .ro, false, false, false, .any, 0, 0⟩,
  ⟨0x2A00, 1, 1, 1, 1, 0x00, 1, .uint 1, .ro, false, false, false, .any, 6, 0⟩,
  ⟨0x2A00, 1, 1, 1, 1, 0x01, 1, .uint 8, .rw, false, false, false, .any, 0, 0⟩,
  ⟨0x2A00, 1, 1, 1, 1, 0x02, 1, .ostr, .rw, false, false, false, .len 8, 0, 0⟩,
  ⟨0x2A00, 1, 1, 1, 1, 0x03, 1, .bool, .ro, false, true, false, .enum [0, 1], 0, 0⟩,
  ⟨0x2A00, 1, 1, 1, 1, 0x04, 1, .int 2, .rw, true, false, false, .span (-2000) 2000, 0, 0⟩,
  ⟨0x2A00, 1, 1, 1, 1, 0x05, 1, .uint 2, .ro, false, false, false, .any, 0, 0⟩,
  ⟨0x2A00, 1, 1, 1, 1, 0x06, 1, .uint 4, .ro, false, false, false, .any, 0, 0⟩,
  ⟨0x2C00, 1, 1, 1, 1, 0x00, 1, .uint 1, .ro, false, false, false, .any, 14, 0⟩,
  ⟨0x2C00, 1, 1, 1, 1, 0x01, 1, .uint 1, .rw, true, false, false, .code 0 2, 0, 0⟩,
  ⟨0x2C00, 1, 1, 1, 1, 0x02, 1, .uint 1, .ro, false, true, false, .any, 0, 0⟩,
  ⟨0x2C00, 1, 1, 1, 1, 0x03, 1, .uint 1, .ro, false, false, false, .any, 0, 0⟩,
  ⟨0x2C00, 1, 1, 1, 1, 0x04, 1, .uint 2, .ro, false, false, false, .any, 0, 0⟩,
  ⟨0x2C00, 1, 1, 1, 1, 0x05, 1, .uint 2, .ro, false, false, false, .any, 0, 0⟩]

def rows15_2 : List Row := [
  ⟨0x2C00, 1, 1, 1, 1, 0x06, 1, .uint 2, .ro, false, false, false, .any, 0, 0⟩,
  ⟨0x2C00, 1, 1, 1, 1, 0x07, 1, .uint 1, .ro, false, false, false, .any, 1, 0⟩,
  ⟨0x2C00, 1, 1, 1, 1, 0x08, 1, .uint 4, .ro, false, false, false, .any, 0, 0⟩,
  ⟨0x2C00, 1, 1, 1, 1, 0x09, 1, .uint 8, .ro, false, true, false, .any, 0, 0⟩,
  ⟨0x2C00, 1, 1, 1, 1, 0x0A, 1, .uint 8, .rw, false, false, false, .any, 0, 0⟩,
  ⟨0x2C00, 1, 1, 1, 1, 0x0B, 1, .uint 4, .ro, false, false, false, .any, 0, 0⟩,
  ⟨0x2C00, 1, 1, 1, 1, 0x0C, 1, .uint 1, .ro, false, false, false, .any, 0, 0⟩,
  ⟨0x2C00, 1, 1, 1, 1, 0x0D, 1, .int 4, .ro, false, false, false, .any, 0, 0⟩,
  ⟨0x2C00, 1, 1, 1, 1, 0x0E, 1, .uint 4, .ro, false, false, false, .any, 0, 0⟩]

def rows15 : List Row := rows15_0 ++ rows15_1 ++ rows15_2

/-- The rows of spec/16_power.md, in the order of its tables. -/
def rows16_0 : List Row := [
  ⟨0x2100, 1, 1, 1, 1, 0x00, 1, .uint 1, .ro, false, false, false, .any, 5, 0⟩,
  ⟨0x2100, 1, 1, 1, 1, 0x01, 1, .uint 1, .ro, false, true, false, .any, 0, 0⟩,
  ⟨0x2100, 1, 1, 1, 1, 0x02, 1, .uint 1, .wo, false, false, false, .code 2 4, 0, 0⟩,
  ⟨0x2100, 1, 1, 1, 1, 0x03, 1, .uint 1, .ro, false, false, false, .any, 0, 0⟩,
  ⟨0x2100, 1, 1, 1, 1, 0x04, 1, .uint 1, .ro, false, false, false, .any, 0, 0⟩,
  ⟨0x2100, 1, 1, 1, 1, 0x05, 1, .uint 4, .ro, false, false, false, .any, 0, 0⟩,
  ⟨0x2101, 1, 1, 1, 1, 0x00, 1, .uint 1, .ro, false, false, false, .any, 3, 0⟩,
  ⟨0x2101, 1, 1, 1, 1, 0x01, 1, .uint 1, .rw, true, false, false, .mask 31, 3, 0⟩,
  ⟨0x2101, 1, 1, 1, 1, 0x02, 1, .uint 8, .rw, false, false, false, .any, 0, 0⟩,
  ⟨0x2101, 1, 1, 1, 1, 0x03, 1, .bool, .rw, true, false, false, .enum [0, 1], 1, 0⟩,
  ⟨0x2104, 1, 1, 1, 1, 0x00, 1, .uint 1, .ro, false, false, false, .any, 5, 0⟩,
  ⟨0x2104, 1, 1, 1, 1, 0x01, 1, .uint 1, .ro, false, false, false, .any, 0, 0⟩,
  ⟨0x2104, 1, 1, 1, 1, 0x02, 1, .uint 1, .ro, false, false, false, .any, 0, 0⟩,
  ⟨0x2104, 1, 1, 1, 1, 0x03, 1, .uint 1, .ro, false, false, false, .any, 0, 0⟩,
  ⟨0x2104, 1, 1, 1, 1, 0x04, 1, .uint 8, .ro, false, false, false, .any, 0, 0⟩,
  ⟨0x2104, 1, 1, 1, 1, 0x05, 1, .uint 1, .wo, false, false, false, .enum [1], 0, 0⟩,
  ⟨0x2102, 1, 1, 1, 1, 0x00, 1, .uint 1, .ro, false, false, false, .any, 9, 0⟩,
  ⟨0x2102, 1, 1, 1, 1, 0x01, 1, .uint 2, .rw, true, false, false, .span (720) 900, 850, 0⟩,
  ⟨0x2102, 1, 1, 1, 1, 0x02, 1, .uint 2, .rw, true, false, false, .span (720) 900, 850, 0⟩,
  ⟨0x2102, 1, 1, 1, 1, 0x03, 1, .uint 2, .rw, true, false, false, .span (720) 900, 850, 0⟩,
  ⟨0x2102, 1, 1, 1, 1, 0x04, 1, .uint 2, .rw, true, false, false, .span (720) 900, 850, 0⟩,
  ⟨0x2102, 1, 1, 1, 1, 0x05, 1, .uint 2, .ro, false, false, false, .any, 0, 0⟩,
  ⟨0x2102, 1, 1, 1, 1, 0x06, 1, .uint 2, .ro, false, false, false, .any, 0, 0⟩,
  ⟨0x2102, 1, 1, 1, 1, 0x07, 1, .uint 2, .ro, false, false, false, .any, 0, 0⟩,
  ⟨0x2102, 1, 1, 1, 1, 0x08, 1, .uint 2, .ro, false, false, false, .any, 0, 0⟩]

def rows16_1 : List Row := [
  ⟨0x2102, 1, 1, 1, 1, 0x09, 1, .uint 2, .ro, false, false, false, .any, 0, 0⟩,
  ⟨0x2B02, 1, 1, 1, 1, 0x00, 1, .uint 1, .ro, false, false, false, .any, 6, 0⟩,
  ⟨0x2B02, 1, 1, 1, 1, 0x01, 1, .uint 4, .ro, false, false, false, .any, 0, 0⟩,
  ⟨0x2B02, 1, 1, 1, 1, 0x02, 1, .uint 4, .ro, false, false, false, .any, 0, 0⟩,
  ⟨0x2B02, 1, 1, 1, 1, 0x03, 1, .uint 4, .ro, false, false, false, .any, 0, 0⟩,
  ⟨0x2B02, 1, 1, 1, 1, 0x04, 1, .uint 4, .ro, false, false, false, .any, 0, 0⟩,
  ⟨0x2B02, 1, 1, 1, 1, 0x05, 1, .uint 2, .ro, false, false, false, .any, 0, 0⟩,
  ⟨0x2B02, 1, 1, 1, 1, 0x06, 1, .uint 1, .ro, false, false, false, .any, 255, 0⟩,
  ⟨0x2103, 1, 1, 1, 1, 0x00, 1, .uint 1, .ro, false, false, false, .any, 5, 0⟩,
  ⟨0x2103, 1, 1, 1, 1, 0x01, 1, .uint 2, .ro, false, false, false, .any, 0, 0⟩,
  ⟨0x2103, 1, 1, 1, 1, 0x02, 1, .uint 1, .ro, false, false, false, .any, 1, 0⟩,
  ⟨0x2103, 1, 1, 1, 1, 0x03, 1, .uint 1, .ro, false, false, false, .any, 0, 0⟩,
  ⟨0x2103, 1, 1, 1, 1, 0x04, 1, .dom, .rw, false, false, false, .any, 0, 0⟩,
  ⟨0x2103, 1, 1, 1, 1, 0x05, 1, .uint 4, .ro, false, false, false, .any, 0, 0⟩,
  ⟨0x2B01, 1, 1, 1, 1, 0x01, 11, .uint 2, .rw, true, false, false, .any, 0, 0⟩]

def rows16 : List Row := rows16_0 ++ rows16_1

/-- The rows of spec/17_lifecycle_and_keys.md, in the order of its tables. -/
def rows17_0 : List Row := [
  ⟨0x2030, 1, 1, 1, 1, 0x00, 1, .uint 1, .ro, false, false, false, .any, 6, 0⟩,
  ⟨0x2030, 1, 1, 1, 1, 0x01, 1, .uint 1, .ro, false, false, false, .any, 0, 0⟩,
  ⟨0x2030, 1, 1, 1, 1, 0x02, 1, .uint 1, .ro, false, false, false, .any, 16, 0⟩,
  ⟨0x2030, 1, 1, 1, 1, 0x03, 1, .uint 1, .ro, false, false, false, .any, 255, 0⟩,
  ⟨0x2030, 1, 1, 1, 1, 0x04, 1, .uint 1, .ro, false, false, false, .any, 4, 0⟩,
  ⟨0x2030, 1, 1, 1, 1, 0x05, 1, .ostr, .ro, false, false, false, .any, 0, 0⟩,
  ⟨0x2030, 1, 1, 1, 1, 0x06, 1, .ostr, .ro, false, false, false, .any, 0, 0⟩,
  ⟨0x2031, 1, 1, 1, 1, 0x00, 1, .uint 1, .ro, false, false, false, .any, 5, 0⟩,
  ⟨0x2031, 1, 1, 1, 1, 0x01, 1, .ostr, .ro, false, false, false, .any, 0, 0⟩,
  ⟨0x2031, 1, 1, 1, 1, 0x02, 1, .dom, .wo, false, false, false, .any, 0, 0⟩,
  ⟨0x2031, 1, 1, 1, 1, 0x03, 1, .uint 1, .ro, false, false, false, .any, 0, 0⟩,
  ⟨0x2031, 1, 1, 1, 1, 0x04, 1, .uint 1, .ro, false, false, false, .any, 0, 0⟩,
  ⟨0x2031, 1, 1, 1, 1, 0x05, 1, .uint 1, .ro, false, false, false, .any, 0, 0⟩,
  ⟨0x2032, 1, 1, 1, 1, 0x00, 1, .uint 1, .ro, false, false, false, .any, 4, 0⟩,
  ⟨0x2032, 1, 1, 1, 1, 0x01, 1, .dom, .ro, false, false, false, .any, 0, 0⟩,
  ⟨0x2032, 1, 1, 1, 1, 0x02, 1, .dom, .wo, false, false, false, .len 352, 0, 0⟩,
  ⟨0x2032, 1, 1, 1, 1, 0x03, 1, .uint 4, .ro, false, false, false, .any, 0, 0⟩,
  ⟨0x2032, 1, 1, 1, 1, 0x04, 1, .uint 1, .wo, false, false, false, .enum [1], 0, 0⟩,
  ⟨0x2033, 1, 1, 1, 1, 0x00, 1, .uint 1, .ro, false, false, false, .any, 4, 0⟩,
  ⟨0x2033, 1, 1, 1, 1, 0x01, 1, .uint 1, .ro, false, false, false, .any, 0, 0⟩,
  ⟨0x2033, 1, 1, 1, 1, 0x02, 1, .uint 1, .wo, false, false, false, .enum [1], 0, 0⟩,
  ⟨0x2033, 1, 1, 1, 1, 0x03, 1, .uint 4, .ro, false, false, false, .any, 0, 0⟩,
  ⟨0x2033, 1, 1, 1, 1, 0x04, 1, .uint 8, .ro, false, false, false, .any, 0, 0⟩,
  ⟨0x2034, 1, 1, 1, 1, 0x00, 1, .uint 1, .ro, false, false, false, .any, 3, 0⟩,
  ⟨0x2034, 1, 1, 1, 1, 0x01, 1, .dom, .wo, false, false, false, .len 64, 0, 0⟩]

def rows17_1 : List Row := [
  ⟨0x2034, 1, 1, 1, 1, 0x02, 1, .uint 1, .ro, false, false, false, .any, 0, 0⟩,
  ⟨0x2034, 1, 1, 1, 1, 0x03, 1, .uint 1, .wo, false, false, false, .enum [1], 0, 0⟩]

def rows17 : List Row := rows17_0 ++ rows17_1

/-- The rows of spec/18_self_test_and_reserve.md, in the order of its tables. -/
def rows18_0 : List Row := [
  ⟨0x2900, 1, 1, 1, 1, 0x00, 1, .uint 1, .ro, false, false, false, .any, 7, 0⟩,
  ⟨0x2900, 1, 1, 1, 1, 0x01, 1, .bool, .rw, true, false, false, .enum [0, 1], 1, 0⟩,
  ⟨0x2900, 1, 1, 1, 1, 0x02, 1, .uint 1, .wo, false, false, false, .enum [0, 1], 0, 0⟩,
  ⟨0x2900, 1, 1, 1, 1, 0x03, 1, .bool, .ro, false, false, false, .enum [0, 1], 0, 0⟩,
  ⟨0x2900, 1, 1, 1, 1, 0x04, 1, .uint 1, .ro, false, false, false, .any, 0, 0⟩,
  ⟨0x2900, 1, 1, 1, 1, 0x05, 1, .uint 1, .ro, false, false, false, .any, 0, 0⟩,
  ⟨0x2900, 1, 1, 1, 1, 0x06, 1, .uint 4, .ro, false, false, false, .any, 0, 0⟩,
  ⟨0x2900, 1, 1, 1, 1, 0x07, 1, .uint 2, .ro, false, false, false, .any, 0, 0⟩,
  ⟨0x2901, 1, 1, 1, 1, 0x00, 1, .uint 1, .ro, false, false, false, .any, 4, 0⟩,
  ⟨0x2901, 1, 1, 1, 1, 0x01, 1, .uint 4, .ro, false, false, false, .any, 0, 0⟩,
  ⟨0x2901, 1, 1, 1, 1, 0x02, 1, .uint 8, .ro, false, false, false, .any, 0, 0⟩,
  ⟨0x2901, 1, 1, 1, 1, 0x03, 1, .uint 1, .ro, false, false, false, .any, 0, 0⟩,
  ⟨0x2901, 1, 1, 1, 1, 0x04, 1, .dom, .ro, false, false, false, .any, 0, 0⟩,
  ⟨0x2920, 1, 1, 1, 1, 0x00, 1, .uint 1, .ro, false, false, false, .any, 5, 0⟩,
  ⟨0x2920, 1, 1, 1, 1, 0x01, 1, .uint 1, .ro, false, false, false, .any, 0, 0⟩,
  ⟨0x2920, 1, 1, 1, 1, 0x02, 1, .uint 1, .ro, false, false, false, .any, 255, 0⟩,
  ⟨0x2920, 1, 1, 1, 1, 0x03, 1, .uint 8, .ro, false, false, false, .any, 0, 0⟩,
  ⟨0x2920, 1, 1, 1, 1, 0x04, 1, .uint 4, .ro, false, false, false, .any, 0, 0⟩,
  ⟨0x2920, 1, 1, 1, 1, 0x05, 1, .uint 1, .wo, false, false, false, .enum [1], 0, 0⟩,
  ⟨0x2910, 1, 1, 1, 1, 0x00, 1, .uint 1, .ro, false, false, false, .any, 11, 0⟩,
  ⟨0x2910, 1, 1, 1, 1, 0x01, 1, .uint 1, .ro, false, true, false, .any, 100, 0⟩,
  ⟨0x2910, 1, 1, 1, 1, 0x02, 1, .uint 1, .rw, true, false, false, .span (26) 99, 50, 0⟩,
  ⟨0x2910, 1, 1, 1, 1, 0x03, 1, .uint 4, .ro, false, false, false, .any, 0, 0⟩,
  ⟨0x2910, 1, 1, 1, 1, 0x04, 1, .uint 2, .ro, false, false, false, .any, 0, 0⟩,
  ⟨0x2910, 1, 1, 1, 1, 0x05, 1, .uint 2, .ro, false, false, false, .any, 0, 0⟩]

def rows18_1 : List Row := [
  ⟨0x2910, 1, 1, 1, 1, 0x06, 1, .uint 2, .ro, false, false, false, .any, 0, 0⟩,
  ⟨0x2910, 1, 1, 1, 1, 0x07, 1, .uint 2, .ro, false, false, false, .any, 0, 0⟩,
  ⟨0x2910, 1, 1, 1, 1, 0x08, 1, .uint 2, .ro, false, false, false, .any, 0, 0⟩,
  ⟨0x2910, 1, 1, 1, 1, 0x09, 1, .uint 2, .ro, false, false, false, .any, 0, 0⟩,
  ⟨0x2910, 1, 1, 1, 1, 0x0A, 1, .uint 2, .ro, false, false, false, .any, 0, 0⟩,
  ⟨0x2910, 1, 1, 1, 1, 0x0B, 1, .uint 2, .ro, false, false, false, .any, 65535, 0⟩]

def rows18 : List Row := rows18_0 ++ rows18_1

/-- The rows of spec/19_cells_and_upgrades.md, in the order of its tables. -/
def rows19_0 : List Row := [
  ⟨0x2C01, 1, 1, 1, 1, 0x00, 1, .uint 1, .ro, false, false, false, .any, 8, 0⟩,
  ⟨0x2C01, 1, 1, 1, 1, 0x01, 1, .uint 1, .rw, true, false, false, .any, 1, 0⟩,
  ⟨0x2C01, 1, 1, 1, 1, 0x02, 1, .uint 1, .ro, false, false, false, .any, 0, 0⟩,
  ⟨0x2C01, 1, 1, 1, 1, 0x03, 1, .uint 1, .rw, true, false, false, .any, 1, 0⟩,
  ⟨0x2C01, 1, 1, 1, 1, 0x04, 1, .uint 1, .ro, false, false, false, .any, 255, 0⟩,
  ⟨0x2C01, 1, 1, 1, 1, 0x05, 1, .uint 2, .ro, false, false, false, .any, 0, 0⟩,
  ⟨0x2C01, 1, 1, 1, 1, 0x06, 1, .uint 2, .ro, false, false, false, .any, 0, 0⟩,
  ⟨0x2C01, 1, 1, 1, 1, 0x07, 1, .ostr, .ro, false, false, false, .any, 0, 0⟩,
  ⟨0x2C01, 1, 1, 1, 1, 0x08, 1, .uint 4, .ro, false, false, false, .any, 0, 0⟩,
  ⟨0x2C02, 1, 1, 1, 1, 0x00, 1, .uint 1, .ro, false, false, false, .any, 12, 0⟩,
  ⟨0x2C02, 1, 1, 1, 1, 0x01, 1, .uint 2, .rw, true, false, true, .mask 1023, 255, 0⟩,
  ⟨0x2C02, 1, 1, 1, 1, 0x02, 1, .uint 2, .rw, true, false, true, .mask 1023, 255, 0⟩,
  ⟨0x2C02, 1, 1, 1, 1, 0x03, 1, .uint 2, .rw, true, false, true, .mask 1023, 255, 0⟩,
  ⟨0x2C02, 1, 1, 1, 1, 0x04, 1, .uint 2, .rw, true, false, true, .mask 1023, 255, 0⟩,
  ⟨0x2C02, 1, 1, 1, 1, 0x05, 1, .uint 2, .rw, true, false, true, .mask 1023, 255, 0⟩,
  ⟨0x2C02, 1, 1, 1, 1, 0x06, 1, .uint 2, .rw, true, false, true, .mask 1023, 255, 0⟩,
  ⟨0x2C02, 1, 1, 1, 1, 0x07, 1, .uint 2, .rw, true, false, true, .mask 1023, 255, 0⟩,
  ⟨0x2C02, 1, 1, 1, 1, 0x08, 1, .uint 2, .rw, true, false, true, .mask 1023, 255, 0⟩,
  ⟨0x2C02, 1, 1, 1, 1, 0x09, 1, .uint 2, .rw, true, false, true, .mask 1023, 255, 0⟩,
  ⟨0x2C02, 1, 1, 1, 1, 0x0A, 1, .uint 2, .rw, true, false, true, .mask 1023, 255, 0⟩,
  ⟨0x2C02, 1, 1, 1, 1, 0x0B, 1, .uint 2, .rw, true, false, true, .mask 1023, 255, 0⟩,
  ⟨0x2C02, 1, 1, 1, 1, 0x0C, 1, .uint 2, .rw, true, false, true, .mask 1023, 255, 0⟩,
  ⟨0x2C20, 1, 1, 1, 1, 0x00, 1, .uint 1, .ro, false, false, false, .any, 10, 0⟩,
  ⟨0x2C20, 1, 1, 1, 1, 0x01, 1, .uint 1, .wo, false, false, false, .code 1 5, 0, 0⟩,
  ⟨0x2C20, 1, 1, 1, 1, 0x02, 1, .dom, .wo, false, false, false, .any, 0, 0⟩]

def rows19_1 : List Row := [
  ⟨0x2C20, 1, 1, 1, 1, 0x03, 1, .uint 1, .ro, false, false, false, .any, 0, 0⟩,
  ⟨0x2C20, 1, 1, 1, 1, 0x04, 1, .bool, .ro, false, false, false, .enum [0, 1], 0, 0⟩,
  ⟨0x2C20, 1, 1, 1, 1, 0x05, 1, .uint 1, .ro, false, false, false, .any, 0, 0⟩,
  ⟨0x2C20, 1, 1, 1, 1, 0x06, 1, .uint 4, .ro, false, false, false, .any, 0, 0⟩,
  ⟨0x2C20, 1, 1, 1, 1, 0x07, 1, .uint 1, .ro, false, false, false, .any, 0, 0⟩,
  ⟨0x2C20, 1, 1, 1, 1, 0x08, 1, .uint 4, .ro, false, false, false, .any, 0, 0⟩,
  ⟨0x2C20, 1, 1, 1, 1, 0x09, 1, .uint 4, .wo, false, false, false, .any, 0, 0⟩,
  ⟨0x2C20, 1, 1, 1, 1, 0x0A, 1, .uint 2, .rw, true, false, false, .span (60) 65535, 600, 0⟩]

def rows19 : List Row := rows19_0 ++ rows19_1

/-- The rows of spec/20_pins_and_electrical.md, in the order of its tables. -/
def rows20_0 : List Row := [
  ⟨0x2105, 1, 1, 1, 1, 0x00, 1, .uint 1, .ro, false, false, false, .any, 5, 0⟩,
  ⟨0x2105, 1, 1, 1, 1, 0x01, 1, .int 2, .ro, false, true, false, .any, 0, 0⟩,
  ⟨0x2105, 1, 1, 1, 1, 0x02, 1, .int 2, .ro, false, false, false, .any, 0, 0⟩,
  ⟨0x2105, 1, 1, 1, 1, 0x03, 1, .int 2, .ro, false, false, false, .any, 0, 0⟩,
  ⟨0x2105, 1, 1, 1, 1, 0x04, 1, .int 2, .ro, false, false, false, .any, 0, 0⟩,
  ⟨0x2105, 1, 1, 1, 1, 0x05, 1, .uint 4, .ro, false, false, false, .any, 0, 0⟩]

def rows20 : List Row := rows20_0
/-- The unit number that an index has within a row, if the row covers it. -/
def Row.unit (r : Row) (index : Nat) : Option Nat :=
  if index < r.base then none
  else
    let o := index - r.base
    let j := o / r.s2
    let i := o % r.s2
    if r.c2 = 1 then (if o % r.s1 = 0 ∧ o / r.s1 < r.c1 then some (o / r.s1) else none)
    else if j < r.c2 ∧ i % r.s1 = 0 ∧ i / r.s1 < r.c1 then some (i / r.s1) else none

/-- Whether a row covers an index. -/
def Row.hasIndex (r : Row) (index : Nat) : Bool := (r.unit index).isSome

/-- Whether a row covers an index and sub-index. -/
def Row.has (r : Row) (index sub : Nat) : Bool :=
  decide (r.sub ≤ sub ∧ sub < r.sub + r.subs) && r.hasIndex index

/-- The axis rows by object of the axis range: 03 for 00 to 06, 04 for 08 to 0B, 07 for 0C and 20 to 3F,
05 for 10 to 1A, 06 for 1C. -/
def axisRows (obj : Nat) : List Row :=
  if obj < 0x08 then rows03 else if obj < 0x0C then rows04 else if obj < 0x10 then rows07
  else if obj < 0x1C then rows05 else if obj < 0x20 then rows06 else rows07

/-- The rows of an index, by the index map of 02 R31. -/
def rowsOf (index : Nat) : List Row :=
  if index < 0x2000 then rows02
  else if index < 0x2030 then rows02
  else if index < 0x2100 then rows17
  else if index < 0x2105 then rows16
  else if index < 0x2200 then rows20
  else if index < 0x2210 then rows15
  else if index < 0x2211 then rows01
  else if index < 0x2220 then rows05
  else if index < 0x2300 then rows15
  else if index < 0x2400 then rows10
  else if index < 0x2440 then rows09
  else if index < 0x2500 then rows08
  else if index < 0x2620 then rows12
  else if index < 0x2700 then (if index = 0x2621 then rows14 else rows12)
  else if index < 0x2800 then rows11
  else if index < 0x2900 then rows13
  else if index < 0x2940 then rows18
  else if index < 0x2A00 then rows04
  else if index < 0x2B00 then rows15
  else if index < 0x2C00 then rows16
  else if index < 0x2C01 then rows15
  else if index < 0x2D00 then rows19
  else if index < 0x3000 then rows11
  else if index < 0x4000 then rows06
  else if index < 0x4C00 then axisRows ((index - 0x4000) % 0x40)
  else if index < 0x5000 then rows05
  else rows14

/-- The object table line of an entry, if the entry exists (02 R31). -/
def rowOf (index sub : Nat) : Option Row := (rowsOf index).find? (·.has index sub)

/-- Whether any entry has this index. -/
def indexExists (index : Nat) : Bool := (rowsOf index).any (·.hasIndex index)

/-- The system outputs of a PLL with their frequencies in MHz, in order (15 R546). -/
def sysOuts (p : Nat) : List Nat :=
  match p with
  | 0 => [500]
  | 1 => [200, 250]
  | 2 => [400]
  | 3 => [300, 1200]
  | 4 => [250, 100]
  | 5 => [100, 80]
  | 6 => [250, 300, 100]
  | 7 => [625]
  | _ => []

/-- The default VCO of a PLL in MHz (15 R546). -/
def pllVco (p : Nat) : Nat := [3000, 3000, 3200, 2400, 3000, 2400, 3000, 2500].getD p 3000

/-- Defaults that the spec gives by rule: those of PLL p (15 R546), the spares left (18 R647), REVISION (02 R84), the
grade limit of the -AI grade (20 R682; DESIGN CHOICE, log 9), the cell of one member at level 1 (19 R654), and RUNNING at INIT (13 R490). -/
def ruleDefault (index sub : Nat) : Option Int :=
  if 0x2220 ≤ index ∧ index < 0x2228 then
    let p := index - 0x2220
    let out := (sysOuts p)[sub - 8]?
    if sub = 1 ∨ sub = 2 then some (pllVco p)
    else if 8 ≤ sub ∧ sub < 15 then out.map fun f => ((pllVco p / f : Nat) : Int)
    else if 0x16 ≤ sub ∧ sub < 0x1D ∧ sub - 0x16 < (sysOuts p).length then some 1
    else none
  else if index = 0x2910 then ([16, 16, 4, 4, 128, 0, 256][sub - 4]?).bind fun v => if 4 ≤ sub then some v else none
  else if index = 0x1018 ∧ sub = 3 then some 0x00020001
  else if index = 0x2105 ∧ sub = 3 then some 1000
  else if 0x2800 ≤ index ∧ index < 0x2808 ∧ sub = 8 then some 0xFFFFFFFF
  else if index = 0x2C01 then if sub = 2 ∨ sub = 5 ∨ sub = 6 then some 1 else none
  else none

/-- The default of an entry (02 R37): what it reads at reset when the parameter store holds nothing for it. A dash and
an entry that the device computes read 0 (DESIGN CHOICE, log 2). -/
def regDefault (key : Nat) : Int :=
  let index := (key / 256) % 0x10000
  let sub := key % 256
  match ruleDefault index sub, rowOf index sub with
  | some v, _ => v
  | none, some r => r.dflt + r.dfltStep * ((r.unit index).getD 0 : Nat)
  | none, none => 0

/-- The size in bytes of an entry of fixed size. -/
def Ty.size : Ty → Option Nat
  | .bool => some 1
  | .int n => some n
  | .uint n => some n
  | .real => some 8
  | .vstr => none
  | .ostr => none
  | .dom => none

/-- Whether an entry's value is a number (held in `regs`) rather than bytes (held in `blobs`). -/
def Ty.numeric (t : Ty) : Bool := t.size.isSome

/-- 02 R33, R698 step 3: whether a byte string has a length that the type and range admit. -/
def lengthOk (r : Row) (n : Nat) : Bool :=
  match r.ty.size with
  | some k => n == k
  | none =>
    match r.rng with
    | .len k => n == k
    | _ => match r.ty with
      | .vstr => decide (n ≤ 64)
      | .ostr => decide (n ≤ 256)
      | _ => true

/-- The number that the bytes of a value spell (02 R33). REAL64 values are their bit patterns. -/
def valueOf (t : Ty) (bs : List Byte) : Int :=
  match t with
  | .int n => toSigned (8 * n) (leNat bs)
  | _ => leNat bs

/-- The bytes of a value (02 R33). -/
def bytesOf (t : Ty) (v : Int) : List Byte :=
  match t with
  | .bool => leBytes 1 (ofSigned 8 v)
  | .int n => leBytes n (ofSigned (8 * n) v)
  | .uint n => leBytes n (ofSigned (8 * n) v)
  | .real => leBytes 8 v.toNat
  | _ => []

/-- 02 R35, R698 step 6: the abort code of a value outside its range; too high 0x06090031, too low 0x06090032, an
undefined encoding or neither 0x06090030 (log 10: which of the three codes is DEDUCED). -/
def rangeCode (g : Rng) (v : Int) : Option Nat :=
  match g with
  | .any => none
  | .span lo hi => if v < lo then some 0x06090032 else if hi < v then some 0x06090031 else none
  | .code lo hi => if v < lo ∨ hi < v then some 0x06090030 else none
  | .enum vs => if vs.contains v then none else some 0x06090030
  | .mask m => if clearMask v.toNat m = 0 then none else some 0x06090030
  | .mult k => if v % (k : Nat) = 0 then none else some 0x06090030
  | .either a b c d => if (a ≤ v ∧ v ≤ b) ∨ (c ≤ v ∧ v ≤ d) then none else some 0x06090030
  | .finite => if fFinite v.toNat then none else some 0x06090030
  | .realPos => if !fFinite v.toNat then some 0x06090030 else if fLt 0 v.toNat then none else some 0x06090032
  | .realNonneg => if !fFinite v.toNat then some 0x06090030 else if fLt v.toNat 0 then some 0x06090032 else none
  | .realSpan hi =>
    if !fFinite v.toNat then some 0x06090030 else if fLt v.toNat 0 then some 0x06090032
    else if fLt hi v.toNat then some 0x06090031 else none
  | .len _ => none

end Sys2Proof.Machine
end

