-- ==== Sys2Proof/Machine/Sparse.lean ====
section
/-! DEFINITION. Tables of values by number, held as data in one canonical form: the numbers rise strictly and no
entry equals what an unlisted number reads as. Registers, units and memories of the block are such tables. -/

namespace Sys2Proof.Machine

/-- A table: an unlisted number reads as a default that the table's owner gives. -/
abbrev Tab (α : Type) := List (Nat × α)

/-- The value listed under a number, if any. -/
def tabFind {α : Type} : Tab α → Nat → Option α
  | [], _ => none
  | (k', v) :: t, k => if k = k' then some v else tabFind t k

/-- The value under a number; `d` says what an unlisted number reads as. -/
def tabGet {α : Type} (d : Nat → α) (t : Tab α) (k : Nat) : α :=
  match tabFind t k with
  | some v => v
  | none => d k

/-- Puts a value under a number, in place of what stood there, in rising order. -/
def tabInsert {α : Type} : Tab α → Nat → α → Tab α
  | [], k, v => [(k, v)]
  | (k', v') :: t, k, v =>
    if k < k' then (k, v) :: (k', v') :: t
    else if k = k' then (k, v) :: t
    else (k', v') :: tabInsert t k v

/-- Removes a number from the table. -/
def tabErase {α : Type} : Tab α → Nat → Tab α
  | [], _ => []
  | (k', v') :: t, k => if k = k' then tabErase t k else (k', v') :: tabErase t k

/-- Writes a value: the value an unlisted number reads as removes the entry. -/
def tabSet {α : Type} [DecidableEq α] (d : Nat → α) (t : Tab α) (k : Nat) (v : α) : Tab α :=
  if v = d k then tabErase t k else tabInsert t k v

/-- Every listed value changed by its own number; a value that becomes the default is listed no more. -/
def tabMap {α : Type} [DecidableEq α] (d : Nat → α) (f : Nat → α → α) : Tab α → Tab α
  | [] => []
  | (k, v) :: t => if f k v = d k then tabMap d f t else (k, f k v) :: tabMap d f t

/-- The entries whose number satisfies `p`; the others read as the default from now on. -/
def tabKeep {α : Type} (p : Nat → Bool) : Tab α → Tab α
  | [] => []
  | (k, v) :: t => if p k then (k, v) :: tabKeep p t else tabKeep p t

/-- Every listed number is above `b`, the numbers rise strictly, and no entry is a default. -/
def tabWfFrom {α : Type} [DecidableEq α] (d : Nat → α) : Option Nat → Tab α → Bool
  | _, [] => true
  | b, (k, v) :: t =>
    (match b with | none => true | some b => decide (b < k)) && !decide (v = d k) && tabWfFrom d (some k) t

/-- The canonical form of a table. -/
def tabWf {α : Type} [DecidableEq α] (d : Nat → α) (t : Tab α) : Bool := tabWfFrom d none t

theorem tabFind_insert_self {α : Type} (t : Tab α) (k : Nat) (v : α) : tabFind (tabInsert t k v) k = some v := by
  induction t with
  | nil => simp [tabInsert, tabFind]
  | cons h t ih =>
    obtain ⟨k', v'⟩ := h
    unfold tabInsert
    split
    · simp [tabFind]
    · split
      · simp [tabFind]
      · rename_i h1 h2; simp [tabFind, h2, ih]

theorem tabFind_insert_ne {α : Type} (t : Tab α) (k j : Nat) (v : α) (h : j ≠ k) :
    tabFind (tabInsert t k v) j = tabFind t j := by
  induction t with
  | nil => simp [tabInsert, tabFind, h]
  | cons hd t ih =>
    obtain ⟨k', v'⟩ := hd
    unfold tabInsert
    split
    · simp [tabFind, h]
    · split
      · rename_i h1 h2; subst h2; simp [tabFind, h]
      · simp only [tabFind, ih]

theorem tabFind_erase_self {α : Type} (t : Tab α) (k : Nat) : tabFind (tabErase t k) k = none := by
  induction t with
  | nil => simp [tabErase, tabFind]
  | cons hd t ih =>
    obtain ⟨k', v'⟩ := hd
    unfold tabErase
    split
    · exact ih
    · rename_i h; simp [tabFind, h, ih]

theorem tabFind_erase_ne {α : Type} (t : Tab α) (k j : Nat) (h : j ≠ k) :
    tabFind (tabErase t k) j = tabFind t j := by
  induction t with
  | nil => simp [tabErase]
  | cons hd t ih =>
    obtain ⟨k', v'⟩ := hd
    unfold tabErase
    split
    · rename_i e; subst e; simp [tabFind, h, ih]
    · simp only [tabFind, ih]

/-- What was written is read back. -/
@[simp] theorem tabGet_set_self {α : Type} [DecidableEq α] (d : Nat → α) (t : Tab α) (k : Nat) (v : α) :
    tabGet d (tabSet d t k v) k = v := by
  by_cases hv : v = d k
  · simp [tabSet, tabGet, hv, tabFind_erase_self]
  · simp [tabSet, tabGet, hv, tabFind_insert_self]

/-- A write leaves every other number alone. -/
theorem tabGet_set_ne {α : Type} [DecidableEq α] (d : Nat → α) (t : Tab α) (k j : Nat) (v : α) (h : j ≠ k) :
    tabGet d (tabSet d t k v) j = tabGet d t j := by
  by_cases hv : v = d k
  · simp [tabSet, tabGet, hv, tabFind_erase_ne t k j h]
  · simp [tabSet, tabGet, hv, tabFind_insert_ne t k j v h]

theorem tabWfFrom_mono {α : Type} [DecidableEq α] (d : Nat → α) (t : Tab α) (b : Nat) (o : Option Nat)
    (ho : ∀ a, o = some a → a ≤ b) (h : tabWfFrom d (some b) t = true) : tabWfFrom d o t = true := by
  cases t with
  | nil => rfl
  | cons hd t =>
    obtain ⟨k, v⟩ := hd
    simp only [tabWfFrom, Bool.and_eq_true, decide_eq_true_eq] at h ⊢
    refine ⟨⟨?_, h.1.2⟩, h.2⟩
    cases o with
    | none => rfl
    | some a => have := ho a rfl; simp; omega

theorem tabWfFrom_insert {α : Type} [DecidableEq α] (d : Nat → α) (t : Tab α) (k : Nat) (v : α) (hv : v ≠ d k)
    (b : Option Nat) (hb : ∀ a, b = some a → a < k) (h : tabWfFrom d b t = true) :
    tabWfFrom d b (tabInsert t k v) = true := by
  induction t generalizing b with
  | nil =>
    cases b with
    | none => simp [tabInsert, tabWfFrom, hv]
    | some a => simp [tabInsert, tabWfFrom, hv, hb a rfl]
  | cons hd t ih =>
    obtain ⟨k', v'⟩ := hd
    simp only [tabWfFrom, Bool.and_eq_true, Bool.not_eq_true', decide_eq_false_iff_not] at h
    unfold tabInsert
    split
    · rename_i hlt
      cases b with
      | none => simp [tabWfFrom, hv, h.1.2, h.2, hlt]
      | some a => simp [tabWfFrom, hv, h.1.2, h.2, hlt, hb a rfl]
    · split
      · rename_i h1 h2; subst h2
        cases b with
        | none => simp [tabWfFrom, hv, h.2]
        | some a => simp [tabWfFrom, hv, h.2, hb a rfl]
      · rename_i h1 h2
        have := ih (some k') (by intro a ha; cases ha; omega) h.2
        simp only [tabWfFrom, Bool.and_eq_true, Bool.not_eq_true', decide_eq_false_iff_not]
        exact ⟨h.1, this⟩

theorem tabWfFrom_erase {α : Type} [DecidableEq α] (d : Nat → α) (t : Tab α) (k : Nat) (b : Option Nat)
    (h : tabWfFrom d b t = true) : tabWfFrom d b (tabErase t k) = true := by
  induction t generalizing b with
  | nil => rfl
  | cons hd t ih =>
    obtain ⟨k', v'⟩ := hd
    simp only [tabWfFrom, Bool.and_eq_true] at h
    unfold tabErase
    split
    · refine ih b (tabWfFrom_mono d t k' b ?_ h.2)
      intro a ha; subst ha; have := h.1.1; simp at this; omega
    · simp only [tabWfFrom, Bool.and_eq_true]
      exact ⟨h.1, ih (some k') h.2⟩

theorem tabWfFrom_map {α : Type} [DecidableEq α] (d : Nat → α) (f : Nat → α → α) (t : Tab α) (b : Option Nat)
    (h : tabWfFrom d b t = true) : tabWfFrom d b (tabMap d f t) = true := by
  induction t generalizing b with
  | nil => rfl
  | cons hd t ih =>
    obtain ⟨k, v⟩ := hd
    simp only [tabWfFrom, Bool.and_eq_true] at h
    unfold tabMap
    split
    · refine ih b (tabWfFrom_mono d t k b ?_ h.2)
      intro a ha; subst ha; have := h.1.1; simp at this; omega
    · rename_i hv
      simp only [tabWfFrom, Bool.and_eq_true, Bool.not_eq_true', decide_eq_false_iff_not]
      exact ⟨⟨h.1.1, hv⟩, ih (some k) h.2⟩

theorem tabWfFrom_keep {α : Type} [DecidableEq α] (d : Nat → α) (p : Nat → Bool) (t : Tab α) (b : Option Nat)
    (h : tabWfFrom d b t = true) : tabWfFrom d b (tabKeep p t) = true := by
  induction t generalizing b with
  | nil => rfl
  | cons hd t ih =>
    obtain ⟨k, v⟩ := hd
    simp only [tabWfFrom, Bool.and_eq_true] at h
    unfold tabKeep
    split
    · simp only [tabWfFrom, Bool.and_eq_true]
      exact ⟨h.1, ih (some k) h.2⟩
    · refine ih b (tabWfFrom_mono d t k b ?_ h.2)
      intro a ha; subst ha; have := h.1.1; simp at this; omega

/-- A change of every listed value keeps the canonical form. -/
theorem tabWf_map {α : Type} [DecidableEq α] (d : Nat → α) (f : Nat → α → α) (t : Tab α) (h : tabWf d t = true) :
    tabWf d (tabMap d f t) = true := tabWfFrom_map d f t none h

/-- Dropping entries keeps the canonical form. -/
theorem tabWf_keep {α : Type} [DecidableEq α] (d : Nat → α) (p : Nat → Bool) (t : Tab α) (h : tabWf d t = true) :
    tabWf d (tabKeep p t) = true := tabWfFrom_keep d p t none h

/-- Every write keeps the canonical form. -/
theorem tabWf_set {α : Type} [DecidableEq α] (d : Nat → α) (t : Tab α) (k : Nat) (v : α) (h : tabWf d t = true) :
    tabWf d (tabSet d t k v) = true := by
  unfold tabSet tabWf at *
  split
  · exact tabWfFrom_erase d t k none h
  · rename_i hv; exact tabWfFrom_insert d t k v hv none (by simp) h

end Sys2Proof.Machine
end

