-- ==== Sys2Proof/Machine/State.lean ====
section
/-! DEFINITION. The state of the block as plain data, the reasons for which a step may stop, and the state after reset. -/

namespace Sys2Proof.Machine

/-! ## Host access (spec/02) -/

/-- What a host request waits for: the event that completes it. Several requests may wait for one event (02 R82). -/
inductive WaitFor where
  | enable (f : Func)
  | disable (f : Func)
  | store (k : Nat)
  | attest (p : Path)
  | range (n : Nat)
  | learn (n : Nat)
  | segment (g : Nat)
  | object (p : Nat) (index sub : Nat)
  | bank (b : Nat)
  | protectedRange (i : Nat)
  | stageClose
  | stageOpen
  | cutover
  | promote
  | reload
  | fcp
  | flashOp (b : Nat) (seq : Nat)
  | userWrite
  | userErase
  | key
  | generate
  | retire
  | rebuild
  | storage (id : Nat)
  | flush (id : Nat)
  | chain (k : Nat)
  | island (id : Nat)
  | vccq (q : Nat)
  | fwOpen
  | fwClose
  | fwData
deriving DecidableEq, Repr

/-- A request in flight on a host path (02 R44, R48 to R51); `started` is false while ORDERED holds it back. -/
structure Flight where
  tag : Nat
  opcode : Nat
  index : Nat
  sub : Nat
  ordered : Bool
  started : Bool
  offset : Nat
  length : Nat
  payload : List Byte
deriving DecidableEq, Repr

/-- A record of an output queue: a completion (02 R45) or an emergency record (02 R75). -/
inductive OutRec where
  | cpl (tag status index sub opcode abort : Nat) (data : List Byte)
  | emcy (code reg unit : Nat) (detail : Nat)
deriving DecidableEq, Repr

/-- The last SDO or CoE response of a path: abort code and data (02 R46, R77). -/
structure SdoResp where
  abort : Nat
  data : List Byte
deriving DecidableEq, Repr

/-- A segmented SDO transfer in progress (02 R73, R77); `long` marks a write to a segment stream of which records have been
appended on their way (06 R262). -/
structure SdoXfer where
  down : Bool
  index : Nat
  sub : Nat
  toggle : Bool
  buf : List Byte
  long : Bool := false
deriving DecidableEq, Repr

/-- A host path (02 R43): `frame` is the last emergency frame that its node has sent and `frames` how many (02 R71, R75). -/
structure PathSt where
  flights : List Flight := []
  outq : List OutRec := []
  resp : Option SdoResp := none
  xfer : Option SdoXfer := none
  challenge : List Byte := []
  response : List Byte := []
  dbgNonce : List Byte := []
  blockSel : Nat := 0
  userOffset : Nat := 0
  slotSel : Nat := 1
  lbaBase : Tab Nat := []
  readSeq : Nat := 1
  paramSel : Nat := 1
  frame : List Byte := []
  frames : Nat := 0
deriving DecidableEq, Repr

/-- The HPI (02 R55 to R63): bytes of the record being written, whether HPI_RB is held busy for SC0, whether SC0 serves the
dictionary, the sticky bits of HPI_STAT, ATTN_EN, whether an attention pulse is owed or has been sent, the words left of
the record being read, and the word last read. -/
structure HpiSt where
  part : List Byte := []
  busy : Bool := true
  served : Bool := false
  resetSeen : Bool := true
  protoErr : Bool := false
  attnEn : Bool := true
  attnDue : Bool := false
  attnSent : Bool := false
  cplWords : List (BitVec 16) := []
  lastRead : BitVec 16 := 0
deriving DecidableEq, Repr

/-- The field network (02 R65 to R70, 07 R296): its state and AL status, the synchronisation in use, whether a frame has
come since the last sample instant, ticks without one (up to 2), whether their loss has been reported, and the frozen
TxPDO image. -/
structure FnSt where
  al : AlState := .init
  alStatus : Nat := 0
  sync : FnSync := .freeRun
  fresh : Bool := false
  missed : Nat := 0
  lost : Bool := false
  txImage : List Byte := []
deriving DecidableEq, Repr

/-- One CANopen node (02 R71 to R76): the NMT state numbered as in a heartbeat (0 down, 4 stopped, 5 operational, 127
pre-operational), the node ID in use, boot-up messages and heartbeats sent, SYNC frames taken, and the PDOs sent at the last
SYNC. -/
structure CanSt where
  nmt : Nat := 0
  nodeId : Nat
  bootups : Nat := 0
  heartbeats : Nat := 0
  syncs : Nat := 0
  tpdo : List (List Byte) := []
deriving DecidableEq, Repr

/-- A store copy in flash: its sequence number, whether its CRC verifies, its entries, and the values of published
entries (02 R40). -/
structure StoreCopy where
  seq : Nat
  good : Bool
  entries : List (Nat × Int)
  fabric : List (Nat × List Byte) := []
deriving DecidableEq, Repr

/-- An accepted store: its number, the ranges it covers as a mask (1 0x1000 to 0x1FFF, 2 0x2000 to 0x4CFF, 4 0x5800 to
0x5FFF), and the snapshot of those ranges (02 R38, R39). -/
structure StoreJob where
  id : Nat
  ranges : Nat
  entries : List (Nat × Int)
  fabric : List (Nat × List Byte)
deriving DecidableEq, Repr

/-- The parameter store (02 R38 to R41): `fabric` holds the stored values of published entries as read at the start (08
R322), `jobs` the running store and those that wait, `marks` the ranges marked for restore, `lost` whether neither copy
verified at the start. -/
structure StoreSt where
  fabric : List (Nat × List Byte) := []
  copyA : StoreCopy := ⟨0, false, [], []⟩
  copyB : StoreCopy := ⟨0, false, [], []⟩
  jobs : List StoreJob := []
  nextId : Nat := 0
  marks : Nat := 0
  lost : Bool := true
deriving DecidableEq, Repr

/-- Everything behind the host paths: `turn` is the path whose turn it is at SC0 (02 R50), `testUp` says that the cores run
and the test port is answered (18 R646). -/
structure HostSt where
  paths : Tab PathSt := []
  turn : Nat := 0
  testUp : Bool := false
  attCounter : Nat := 0
  hpi : HpiSt := {}
  fn : FnSt := {}
  can0 : CanSt := { nodeId := 0x20 }
  can1 : CanSt := { nodeId := 0x28 }
  store : StoreSt := {}
  waits : List (WaitFor × Req) := []
deriving DecidableEq, Repr

/-! ## Front-end die (spec/01, 03, 04, 07) -/

/-- The four pairs of a feedback port, and what a pair does (03 R88). -/
inductive FbPair where
  | a | b | z | x
deriving DecidableEq, Repr

inductive PairUse where
  | highZ | pullDown | receiver | analogue | excitation | clockOut
deriving DecidableEq, Repr

/-- A feedback port behind its entries (03 R88 to R140): `stat` is STATUS at the latch, `scEntry` the direction in which the
running SC period was entered at its boundary, `scSlow` whether every sample of it had a frequency for AUTO_CORR, `scHigh`
whether the last whole period's RADIUS is too high, `ssiRest` the end of the last frame's MONOFLOP. -/
structure FbPort where
  stat : Nat := 0
  modeUse : Nat := 0
  dirUse : Bool := false
  modePend : Bool := false
  live : Int := 0
  started : Bool := false
  cond : Nat := 0
  clearPend : Bool := false
  originPend : Option Int := none
  corrPend : Bool := false
  corr : List Int := [0, 0, 32768, 32768, 0]
  a : Bool := false
  b : Bool := false
  up : Bool := true
  idxPos : Option Int := none
  idxUp : Bool := true
  quarter : Int := 0
  scMin : Int × Int := (32767, 32767)
  scMax : Int × Int := (-32768, -32768)
  scBAtMax : Int := 0
  scBAtMin : Int := 0
  coarseFrom : Option Int := none
  scFrac : List Int := [0, 0, 0, 0, 0]
  scSum : Nat := 0
  scCount : Nat := 0
  scPeriod : Int := 0
  scEntry : Option Bool := none
  scSlow : Bool := true
  scHigh : Bool := false
  mark : Option Int := none
  resOk : Bool := false
  resAngle : Nat := 0
  learnOk : Option Bool := none
  ssiOpen : Option Nat := none
  ssiRest : Option Nat := none
  ssiBad : Bool := false
  ssiField : Option Int := none
  ssiT : Nat := 0
  ssiPrev : Option (Int × Nat) := none
  sampleT : Nat := 0
  posDelta : Int := 0
  homeSeen : Bool := false
  unusable : Bool := false
  tapped : Bool := false
deriving DecidableEq, Repr

/-- A command port behind its entries (04 R141 to R179, 01 R13): `stp` and `dir` are the levels of STP+ and DIR+ before
STEP_POLARITY as the running window opened, which are tracks A and B in OUTPUT_MODE 3 (R153 to R155). -/
structure CmPort where
  driven : Bool := false
  stp : Bool := false
  dir : Bool := false
  fresh : Bool := false
  dem : Int := 0
  demServo : Bool := false
  missed : Nat := 0
  en : Bool := false
  enReq : Bool := false
  settled : Bool := false
  lastDir : Int := 0
  rem : Int := 0
  winDir : Int := 0
  winSteps : Nat := 0
  winStart : Nat := 0
  winSpace : Nat := 0
  firstWrite : Bool := false
  causes : List Nat := []
  closings : Nat := 0
  told : Bool := true
  rangePhase : Nat := 0
  rangeUse : Nat := 0
  rangeNew : Nat := 0
  rangeQ : List (Req × Nat) := []
  fltBall : Bool := false
  fltFilt : Bool := false
  fltPend : Bool := false
  unusable : Bool := false
deriving DecidableEq, Repr

/-- SAFE_STOP#, RESET#, the device watchdog and the device-wide clamp (04 R172 to R179); `resets` counts lows of RESET# whose
safe-stop event follows at release. -/
structure SafeSt where
  pin : Bool := true
  qualPend : Bool := false
  cond : Bool := true
  resetLow : Bool := false
  resetTaken : Bool := false
  wdServed : Bool := true
  owed : List Nat := []
  resets : Nat := 0
  stop : Bool := false
deriving DecidableEq, Repr

/-- An event channel (07 R274 to R278); `pulseOf` lists the compare units whose pulse runs. -/
structure EvChan where
  ball : Bool := false
  filt : Bool := false
  lev : Bool := false
  deb : Bool := false
  pulse : Bool := false
  pulseOf : List Nat := []
deriving DecidableEq, Repr

/-- The set of a compare unit that a write to ARM commits (07 R279, R280). -/
structure CmpSet where
  mode : Nat := 0
  dir : Nat := 0
  target : Int := 0
  target2 : Int := 0
  rep : Nat := 0
  hyst : Nat := 0
  chan : Nat := 0xFF
deriving DecidableEq, Repr

/-- A compare unit: the committed set and its progress (07 R279 to R286). `arms` holds the commits that have been accepted
and not yet acted, in their order, each with whether it has been taken in; none disarms. -/
structure CmpUnit extends CmpSet where
  armed : Bool := false
  arms : List (Option CmpSet × Bool) := []
  xPrev : Option Int := none
  gapFrom : Option Int := none
  next : Int := 0
  made : Nat := 0
  hold : Int := 0
  level : Bool := false
deriving DecidableEq, Repr

/-- A capture unit: armed, triggers not yet published (07 R292 to R295). -/
structure CapUnit where
  armed : Bool := false
  latched : Option (Int × Nat × Bool) := none
  seq : Nat := 0
  pubs : Nat := 0
  invalid : Bool := false
  overrun : Bool := false
deriving DecidableEq, Repr

/-- The front-end die, the die bridge and the tick: `badPairs` are the converter pairs found failed, `pairs` the ports that a
spare pair serves (03 R93). -/
structure FeSt where
  fb : Tab FbPort := []
  cm : Tab CmPort := []
  ev : Tab EvChan := []
  cmp : Tab CmpUnit := []
  cap : Tab CapUnit := []
  safe : SafeSt := {}
  ana18 : Bool := false
  ana50 : Bool := false
  spares : Nat := 4
  badPairs : List Nat := []
  pairs : List (Nat × Nat) := []
  bridgeDown : Bool := false
  replays : Nat := 0
  tickHeard : Nat := 0
  tickJoined : Bool := false
  tickT : Nat := 0
  ratePend : Bool := false
  srcPend : Bool := false
deriving DecidableEq, Repr

/-! ## Axis engines and stand-ins (spec/05) -/

/-- How an engine is leaving service (05 R201 to R203; 02 R83): `group` until its group is disabled, `wait` for rest in the
drain form, `hold` in the abort form, `delay` while DISABLE_DELAY runs, `off` at the next output instant. -/
inductive Leaving where
  | no | group | wait | hold | delay | off
deriving DecidableEq, Repr

/-- A filter of an engine: in use or bypassed, its coefficients and its history (05 R187, R188). -/
structure Filt where
  on : Bool := false
  coef : List F64 := [fOne, 0, 0, 0, 0]
  hist : List F64 := [0, 0, 0, 0]
  spec : List F64 := []
  pend : Option (Option (List F64)) := none
deriving DecidableEq, Repr

/-- An axis engine behind its entries (05 R182 to R214). -/
structure Eng where
  sp : Int := 0
  spPrev : Int := 0
  spDelta : Int := 0
  s : Int := 0
  sPrev : Int := 0
  vSpPrev : F64 := 0
  vAct : F64 := 0
  xPrev : Int := 0
  yI : F64 := 0
  clipSign : Int := 0
  bq1 : Filt := {}
  bq2 : Filt := {}
  notch : Filt := {}
  gains : List F64 := []
  dSum : Int := 0
  sEnable : Int := 0
  corr : Int := 0
  cIn : Int := 0
  first : Bool := false
  ramp : Bool := false
  vRamp : F64 := 0
  missSrc : Nat := 0
  missDem : Nat := 0
  lastWord : Int := 0
  wCorr : Option Int := none
  wSp : Option Int := none
  wDem : Option Int := none
  nCorr : Option Int := none
  nSp : Option Int := none
  cellSp : Option Int := none
  nCell : Option Int := none
  alignSp : Option Int := none
  pathSp : Option Int := none
  pdFresh : Bool := false
  feCount : Nat := 0
  fallback : Bool := false
  softOut : Bool := false
  leaving : Leaving := .no
  enAbort : Nat := 0
  lost : Bool := false
  afterStop : Bool := false
  feStop : Bool := false
  rest : Nat := 0
  demand : Int := 0
  out : Bool := false
  x : Int := 0
  valid : Bool := false
deriving DecidableEq, Repr

/-- A stand-in behind its entries (05 R215 to R221): its place in its block, the axis under check, how far the check has
come (1 repeat due, 2 vote due, 3 vote delayed), and the errors of both parties' last results. -/
structure Si where
  axis : Nat := 0xFF
  cursor : Nat := 0
  due : Nat := 0
  engErr : UnitErr := {}
  siErr : UnitErr := {}
deriving DecidableEq, Repr

/-- The four stand-ins: a takeover decided (axis, stand-in), and whether the blocks are to be recomputed. -/
structure SiSt where
  si : Tab Si := []
  takeover : Option (Nat × Nat) := none
  regroup : Bool := false
deriving DecidableEq, Repr

/-! ## Path engine (spec/06) -/

/-- What fixes an arc (06 R239, R240): centre, radii, start angle and swept angle in turns times 2 ^ 64. -/
structure Arc where
  cp : F64 := 0
  cq : F64 := 0
  r0 : F64 := 0
  r1 : F64 := 0
  phi0 : Int := 0
  sweep : Int := 0
deriving DecidableEq, Repr

/-- A segment in a queue (06 R235 to R246). Once it is in the look-ahead window, `start` and `fin` hold each slot's start and
end in user units, `arc` what fixes an arc, `on` the slots that count as path, `cuts` the fractions at which its
length was summed with the length gone there, `len` its path length (06 R252). -/
structure Seg where
  typ : Nat
  units : Nat
  mask : Nat
  flags : Nat
  id : Nat
  feed : F64
  vals : List F64 := []
  knots : List F64 := []
  weights : List F64 := []
  p : Nat := 0
  q : Nat := 0
  dir : Nat := 0
  turns : Nat := 0
  cp : F64 := 0
  cq : F64 := 0
  count : Nat := 0
  degree : Nat := 0
  dur : Nat := 0
  src : Nat := 0
  num : Nat := 0
  cond : Nat := 0
  tact : Nat := 0
  tmo : Nat := 0
  val : Nat := 0
  kind : Nat := 0
  sflags : Nat := 0
  lead : F64 := 0
  angle : F64 := 0
  armed : Bool := false
  edge : Bool := false
  checked : Bool := false
  bad : Nat := 0
  start : List F64 := []
  fin : List F64 := []
  arc : Arc := {}
  on : List Nat := []
  cuts : List (F64 × F64) := []
  len : F64 := 0
deriving DecidableEq, Repr

/-- The stop in progress (06 R267): quick or controlled, its flush cause, whether STOP 2 asked for it, whether no tick of the
planner has seen it, and the deceleration and the jerk in force when it began (06 R268). -/
structure StopSt where
  quick : Bool
  cause : Nat
  byStop2 : Bool
  new : Bool
  decel : F64 := 0
  jerk : F64 := 0
deriving DecidableEq, Repr

/-- The stage of a spindle-synchronous segment (06 R247). -/
inductive SpinStage where
  | none | angle | runIn | lock | runOut
deriving DecidableEq, Repr

/-- A run-in or a run-out of a spindle-synchronous segment (06 R247): an S-curve of `span` ticks over the length `dist`, of
which its jerk fills the part `part` at either end; `gone` ticks of it are over. -/
structure Ramp where
  span : F64 := 0
  part : F64 := 0
  gone : F64 := 0
  dist : F64 := 0
deriving DecidableEq, Repr

/-- A motion group behind its entries (06 R225 to R272): `prog` is the path length gone in the active segment, `v` and `acc`
the velocity and the acceleration on the path (in the parameter of an active spindle segment, along which the group moves
back with `back`), `pos` the exact position last reached in user units, `still` the ticks without a change of any set-point,
`ticks` the ticks of a dwell or a wait; `full` holds the writes that wait for room, and `disable` is 1 for a drain, 2 for an
abort. -/
structure Grp where
  queue : List Seg := []
  prog : F64 := 0
  v : F64 := 0
  active : Bool := false
  still : Nat := 2
  ticks : Nat := 0
  stop : Option StopSt := none
  disable : Nat := 0
  replan : Bool := false
  spin : SpinStage := .none
  spinDir : Int := 1
  m0 : Int := 0
  acc : F64 := 0
  pos : List F64 := []
  back : Bool := false
  ramp : Ramp := {}
  pLock : F64 := 0
  full : List (Req × List Seg) := []
  dmaNext : Nat := 0
  dmaLeft : Nat := 0
  bank : Nat := 0
deriving DecidableEq, Repr


/-! ## Flash (spec/10) -/

/-- A block's valid info row and hidden marks (10 R401, R405, R410): `top` is the highest programmed page plus one. -/
structure FlBlock where
  seq : Nat := 0
  erases : Nat := 0
  incomplete : Bool := false
  prot : Bool := false
  lastErase : Nat := 0
  refreshes : Nat := 0
  top : Nat := 0
  ew : Bool := false
  due : Bool := false
  maxCode : Nat := 0
  uncTold : Bool := false
deriving DecidableEq, Repr

/-- What a bank is told to do. -/
inductive FlOp where
  | program (block page : Nat) (data : List Byte)
  | erase (block : Nat)
  | protect (block : Nat) (on : Bool)
  | protectMap (map : Nat)
  | password (pw : Nat)
deriving DecidableEq, Repr

/-- What a flash operation of the assay island was for (14 R513, R517, R527, R530). -/
inductive IslFin where
  | logPage
  | logErase
  | store (id : Nat)
  | fw (written : Nat) (r : Req)
deriving DecidableEq, Repr

/-- What the end of a flash operation, or of the last of a run of them, completes. -/
inductive FlFin where
  | none
  | wait (w : WaitFor)
  | user (r : Req)
  | reply (r : Req)
  | stageData (slot count : Nat) (r : Option Req)
  | stageOpen (slot : Nat)
  | promoteErase
  | promoteCopy
  | fwData (count : Nat) (r : Req)
  | fwOpen
  | island (f : IslFin)
deriving DecidableEq, Repr

/-- An operation of a bank: its master, its rank (10 R407), the run it belongs to, and whether it is the run's last. -/
structure FlJob where
  op : FlOp
  master : FlashMaster
  rank : Nat
  run : Nat
  last : Bool
  fin : FlFin
  abort : Bool := false
deriving DecidableEq, Repr

/-- A flash bank: the operation that runs, a suspended erase, and what waits (10 R397, R406, R407). -/
structure FlBank where
  op : Option FlJob := none
  susp : Option FlJob := none
  asked : Bool := false
  auto : Bool := false
  queue : List FlJob := []
deriving DecidableEq, Repr

/-- A flash master: its last outcome, its last corrected-bit code, its partial page programs (bank, words) and the blocks
it reads the info row of (10 R393, R395, R396); `line` is what its last window read returned. -/
structure FlMaster where
  status : Nat := 0xFB000000
  corrected : Nat := 0
  part : List (Nat × Nat) := []
  info : List Nat := []
  line : List Byte := []
deriving DecidableEq, Repr

/-- The flash controller. `ahead` and `branch` are the lines in the prefetch buffer and in the branch cache of the execute
path, by their numbers, the latest used first; `fetched` is the line fetched last (10 R408). A line in them is the array's
own, since every program or erase of its block takes it out first. -/
structure FlashSt where
  array : Tab Byte := []
  block : Tab FlBlock := []
  bank : Tab FlBank := []
  master : Tab FlMaster := []
  nextRun : Nat := 1
  password : Nat := 0
  fails : Nat := 0
  sessions : List Nat := []
  ahead : List Nat := []
  branch : List Nat := []
  fetched : Option Nat := none
deriving DecidableEq, Repr

/-! ## Scratchpad, DRAM and the reel (spec/11) -/

/-- A scratchpad bank in a handover: the new owner (11 R429). -/
structure BankSt where
  target : Option Nat := none
deriving DecidableEq, Repr

/-- A DRAM line of 64 bytes: its contents in plain, the key index and generation it is under, and whether its hallmark
fails (12 R457, R460). -/
structure DramLine where
  data : List Byte := []
  key : Nat := 0
  gen : Nat := 0
  bad : Bool := false
deriving DecidableEq, Repr

/-- The memories. `writes` counts a line's writes since its page was last encrypted, `major` is a page's counter, `epoch`
a 256 MiB region's; `rowHits` the corrected beats of a row in this patrol, `cap` the CAPACITY in use, `got` what the last line access of the cipher returned, `rangeQ`
the range writes that wait and the requests they wait for (11 R436, R437, R442; 12 R456 to R460). -/
structure MemSt where
  sp : Tab Byte := []
  bank : Tab BankSt := []
  dram : Tab DramLine := []
  writes : Tab Nat := []
  major : Tab Nat := []
  epoch : Tab Nat := []
  remelts : List Nat := []
  fullEpoch : List Nat := []
  rowHits : Tab Nat := []
  retired : List Nat := []
  cap : Nat := 0
  got : Option (Nat × List Byte) := none
  rangeQ : List (Req × List (Nat × Nat)) := []
deriving DecidableEq, Repr

/-- The reel (11 R443 to R447): the ring position, the line being filled, ticks since the last record, records dropped
since the last written one, the bytes of the present chunk, and chunks on their way to the drive. -/
structure ReelSt where
  count : Nat := 0
  pos : Nat := 0
  line : List Byte := []
  gap : Nat := 0
  chunk : Nat := 0
  sent : Nat := 0
  padded : Bool := false
deriving DecidableEq, Repr

/-! ## Cipher and storage (spec/12) -/

/-- A crucible slot: state (12 R451), key, generation, persistence and a retirement or zeroisation that S5 still owes. -/
structure KeySlot where
  st : Nat := 0
  key : List Byte := []
  gen : Nat := 0
  persistent : Bool := false
  pend : Bool := false
deriving DecidableEq, Repr

/-- A protected sector: plain contents, write counter and epoch of its hallmark, the key it is under, and POISONED. -/
structure Sector where
  data : List Byte := []
  counter : Nat := 0
  epoch : Nat := 0
  key : Nat := 0
  gen : Nat := 0
  poisoned : Bool := false
deriving DecidableEq, Repr

/-- A storage region of 1 GiB (12 R464 to R466): binding, epoch, persisted ceiling, highest counter issued this session,
highest counter issued under the next epoch, read-only, and whether its writes stall. -/
structure StRegion where
  bound : Option (Nat × Nat) := none
  epoch : Nat := 0
  ceiling : Nat := 0
  issued : Nat := 0
  issuedNext : Nat := 0
  opened : Bool := false
  ro : Bool := false
  stalled : Bool := false
deriving DecidableEq, Repr

/-- What a storage command does. -/
inductive StOp where
  | read
  | write (data : List Byte)
  | toDram (key addr : Nat)
  | fromDram (key addr : Nat)
  | flush
  | reelChunk (addr : Nat)
  | mirror (seq : Nat) (data : List Byte)
deriving DecidableEq, Repr

/-- A storage command: its queue and key, its sectors, how many have passed the cipher, data read, status of a failed
sector, whether it is at the drive, and whether it was issued again. `crc` is the payload's CRC-32C, made before the check
before it was dropped: of a DATA write over what it stages, of a DATA read over the data as they leave the cipher (13 R501). -/
structure StCmd where
  id : Nat
  q : Nat
  req : Option Req
  op : StOp
  key : Nat
  gen : Nat
  lba : Nat
  count : Nat
  done : Nat := 0
  data : List Byte := []
  code : Nat := 0
  atDrive : Bool := false
  again : Bool := false
  crc : Option Nat := none
deriving DecidableEq, Repr

/-- The cipher, the crucible and the storage host. `ephemeral` is the number of the free value that the ephemeral key is,
`bk` the battery-backed key; `active` the journalled region with its chunk states (0 OLD, 1 MIXED,
2 NEW); `layout` the STORAGE_MODE in use. -/
structure CipherSt where
  slot : Tab KeySlot := []
  ephemeral : Nat := 0
  noEphemeral : Bool := false
  bk : Option (List Byte) := none
  dramMode : Nat := 0
  storageMode : Nat := 1
  sector : Tab Sector := []
  region : Tab StRegion := []
  cmds : List StCmd := []
  nextId : Nat := 0
  layout : Nat := 0
  remeltQ : List Nat := []
  active : Option (Nat × List Nat) := none
  rekeyQ : List Nat := []
  pauseReq : Bool := false
  rebuild : Option Req := none
deriving DecidableEq, Repr

/-! ## User fabric and ingots (spec/08, 09) -/

/-- A memory request of a fabric port in flight, with the response it will carry (08 R315, R317). -/
structure FabReq where
  tag : Nat
  status : Nat
  data : List Byte
deriving DecidableEq, Repr

/-- A host request to a published entry (08 R321): its OPCODE, OFFSET and LENGTH, the bytes of a write; `passed` once the port
has it. -/
structure ObjReq where
  req : Req
  index : Nat
  sub : Nat
  op : Nat
  offset : Nat
  length : Nat
  data : List Byte
  passed : Bool
deriving DecidableEq, Repr

/-- A fabric port: memory requests in flight, requests to its published entries, the last response it got, the tap words
of this tick by axis (08 R318) and the stored values written at its region's release (08 R322). -/
structure FabPort where
  mem : List FabReq := []
  objs : List ObjReq := []
  got : Option FabReq := none
  taps : List (Nat × Nat) := []
  given : List (Nat × List Byte) := []
deriving DecidableEq, Repr

/-- A published entry (09 R336): key, port, CiA 301 type, access bits and default. -/
structure Decl where
  key : Nat
  port : Nat
  ty : Nat
  acc : Nat
  dflt : List Byte
deriving DecidableEq, Repr

/-- What the configuration engine loads regions for: power-up, its fallback (09 R356), a cutover, the way back of R370 and
its fallback, a RELOAD (09 R377), or a partial image (09 R375). -/
inductive LoadFor where
  | powerUp | golden | cutover | back | backGolden | reload | partialImage
deriving DecidableEq, Repr

/-- A load in progress: the slot and slate it takes, regions it still has to unload (`begun` once they are), regions it still has to load, the
quadrants whose rails it waits for, and whether a rail could not be set (09 R346 to R350). -/
structure LoadSt where
  purpose : LoadFor
  slot : Nat
  slate : List Byte
  unload : Nat
  order : List Nat
  rail : Option Nat := none
  railBad : Bool := false
  begun : Bool := false
deriving DecidableEq, Repr

/-- A partial image at the FCP (09 R375): its source (0 fabric, else the host path) and the bytes so far; `checked` once
the slate has passed, `bundles` the bundles that have verified. -/
structure FcpSt where
  src : Nat
  buf : List Byte
  checked : Bool := false
  bundles : Nat := 0
deriving DecidableEq, Repr

/-- A quadrant rail being set (08 R309): the value asked, who waits for it (the host's requests wait on `WaitFor.vccq`),
whether the request has been sent, polls that read another value (16 R589), and the monitor's samples below RAIL_MIN in
a row (16 R587). -/
structure RailSt where
  target : Nat := 0
  loader : Bool := false
  sent : Bool := false
  odd : Nat := 0
  low : Nat := 0
deriving DecidableEq, Repr

/-- One direction of a seam (08 R306, R307): the word that the sender offers with VALID, and the words under way, the oldest
first. -/
structure SeamDir where
  offer : Option (BitVec 256) := none
  words : List (BitVec 256) := []
deriving DecidableEq, Repr

/-- The fabric. Bit masks by region: `loaded` counts as loaded (09 R700), `written` is loaded and waits for its release,
`uses` holds the regions whose port the ingot uses, `drop` those being unloaded outside a load (08 R328), `changed` is not at its base contents (09 R377). `flags` are the fabric flags and
`sampled` what the path engine last saw of them (08 R319); `slate` is the running slate; `hold` the PIN_HOLD bytes the
pins follow and `signedHold` those of the last slate that passed cause 4 (09 R349, R357); `frozen` the frames under
rewrite; `cut` the form of a pending cutover (1 or 2); `cutCause` the cause of a failed one; `promote` a promotion that
runs; `cfgSlot` and `cfgCount` the claim of the CFG port; `badCols` the columns marked failed, as (region, column), where
columns 64 and 65 hold memory, 66 is the logic spare and 67 the memory spare. `seam` holds
each direction of every seam: 2s from the lower-numbered region, 2s + 1 towards it. `ranPins` are the user pins, as bits,
that a released region has had since the start (09 R353). -/
structure FabSt where
  loaded : Nat := 0
  written : Nat := 0
  uses : Nat := 0
  drop : Nat := 0
  changed : Nat := 0
  flags : Nat := 0
  sampled : Nat := 0
  port : Tab FabPort := []
  objects : List Decl := []
  slate : List Byte := []
  hold : List Byte := []
  signedHold : List Byte := []
  load : Option LoadSt := none
  frozen : List Nat := []
  cut : Nat := 0
  cutCause : Nat := 0
  promote : Bool := false
  fcp : Option FcpSt := none
  cfgSlot : Option Nat := none
  cfgCount : Nat := 0
  rail : Tab RailSt := []
  badCols : List (Nat × Nat) := []
  seam : Tab SeamDir := []
  ranPins : Nat := 0
deriving DecidableEq, Repr


/-! ## The assay island (spec/14) -/

/-- A length input AM0 or AM1: tracks, count, error conditions present and error flags since the piece began, as bits of
STATUS (14 R507, R523). -/
structure AmIn where
  a : Bool := false
  b : Bool := false
  count : Int := 0
  now : Nat := 0
  seen : Nat := 0
deriving DecidableEq, Repr

/-- A record of the log with its SEQ, and the page it stands in, counted since the first (14 R525, R527). -/
structure IslRec where
  seq : Nat
  data : List Byte
  page : Nat := 0
deriving DecidableEq, Repr

/-- A log page handed to the flash; `done` once it is programmed. -/
structure IslPage where
  page : Nat
  recs : List IslRec
  done : Bool := false
deriving DecidableEq, Repr

/-- The running job: its ID, MODE, the input at its start, the input at the start of the present piece, pieces and total
so far (14 R521, R522). -/
structure IslJob where
  id : Nat
  mode : Nat
  start : Int
  piece : Option Int
  pieces : Nat := 0
  total : Int := 0
deriving DecidableEq, Repr

/-- The assay island behind its entries: the copy that runs, the maker key and firmware digest of the seal store, the
sealed parameters, SEQ and HASH of the last record formed, records not yet in a page, pages in programming, sealed
records held, the next page, the oldest block not erased, the job and the SEQ of its JOB_START, accepted requests that
wait (number, last SEQ, seal store updated), the seal store's next page, the first failed record, whether the mirror has
stopped, and whether RESET# was seen. -/
structure IslandSt where
  am0 : AmIn := {}
  am1 : AmIn := {}
  copy : Option Nat := none
  makerKey : List Byte := []
  digest : List Byte := []
  params : Tab Int := []
  seq : Nat := 0
  hash : List Byte := []
  recs : List IslRec := []
  prog : List IslPage := []
  log : List IslRec := []
  pos : Nat := 0
  tail : Nat := 0
  erasing : Bool := false
  job : Option IslJob := none
  jobSeq : Nat := 0
  waits : List (Nat × Nat × Bool) := []
  nextId : Nat := 0
  storePage : Nat := 0
  firstBad : Nat := 0
  mirrorStop : Bool := false
  resetSeen : Bool := false
deriving DecidableEq, Repr

/-! ## Lifecycle (spec/17) -/

/-- An owner record of the fuses (17 R606). -/
structure OwnerRec where
  fk : List Byte
  imageHash : List Byte
  consentHash : List Byte
  revoked : Bool := false
deriving DecidableEq, Repr

/-- The ordering codes (00 R1). -/
inductive PartCode where
  | ai | ax | aim | axm
deriving DecidableEq, Repr

/-- The lifecycle fuses and what else the unit keeps for life: the transition log, a mask of spent tokens, owner records, the
ordering code (00 R1) and the number of the attestation key once it is drawn (02 R86); `halted` holds the service cores that
the debug master has halted, as a mask (17 R617, R618); `trans` says that a transition has blown its fuses and the device is to reset, `tamperPin` is the level of TAMPER#, `owed` says that S5 still holds key
records to be removed (17 R605, R606, R614, R623). -/
structure LifeSt where
  log : List Nat := [0x2D, 0x3C]
  spent : Nat := 0
  records : List OwnerRec := []
  part : PartCode := .ai
  attest : Option Nat := some 0
  halted : Nat := 0
  trans : Bool := false
  tamperPin : Bool := true
  owed : Bool := false
deriving DecidableEq, Repr

/-! ## Firmware update (spec/19) -/

/-- Firmware: bytes written to the other copy since it was opened, the path that claims it (0 none), the confirmed copy
(0 A, 1 B), and whether an accepted switch waits for its restart (19 R665 to R668). -/
structure FwSt where
  written : Nat := 0
  owner : Nat := 0
  confirmed : Nat := 0
  due : Bool := false
deriving DecidableEq, Repr


/-! ## Self test and reserve (spec/18) -/

/-- What the test engine's address decoder can be given (18 R629, R645). The crucible, BBRAM and the assay island are not on
that decoder. -/
inductive TestBlock where
  | engine (n : Nat) | standIn (j : Nat) | path (g : Nat) | converter (n : Nat) | command (n : Nat) | region (r : Nat)
  | bank (b : Nat) | check (k : Nat)
deriving DecidableEq, Repr

/-- Self test: the records of S4 in order, each a page, and the SEQ of the last one written (18 R632), spared scratchpad
rows (bank, row), whether WRAP_NEXT was written 1 since the last entry to OFF, per reserve class the level last reported
(18 R648), whether the late part of a roll check runs, whether SAFE_RESET has been accepted, and the blocks that are handed
over to the test engine (18 R645). -/
structure SelfSt where
  s4 : List (List Byte) := []
  seq : Nat := 0
  rows : List (Nat × Nat) := []
  wrapNext : Bool := false
  level : Tab Nat := []
  late : Bool := false
  resetDue : Bool := false
  handed : List TestBlock := []
deriving DecidableEq, Repr

/-! ## Power (spec/16) -/

/-- Power: the wake step that runs (16 R580; 0 none), the lower state the device is in (2 SLEEP, 3 DEEP SLEEP, 4 OFF; 0
none) and the one it woke from, the one being entered and the step of R576 it has reached (0 accepted only), wake sources
that came on the way in, the power-good inputs that are high, whether PWR_DOWN# is low, failed regulator stages of this
wake, rails whose regulator has acknowledged, RAIL MAP as it was taken at the last reset, whether PWR_FAULT# is driven
low, whether the wrap test runs, and the banks that were kept over DEEP SLEEP. -/
structure PowerSt where
  stage : Nat := 3
  low : Nat := 0
  wokeFrom : Nat := 0
  target : Nat := 0
  step : Nat := 0
  wakes : Nat := 0
  pg : Nat := 0x3F
  down : Bool := false
  attempts : Nat := 0
  acked : Nat := 0
  railMap : Tab Nat := []
  faultPin : Bool := false
  wrapping : Bool := false
  kept : Nat := 0
deriving DecidableEq, Repr

/-! ## Clocks and the clapper link (spec/15, 19) -/

/-- A band slot of a PLL (15 R549): its number, the VCO in MHz, the band found for it and the temperature in 0.1 degrees. -/
structure BandSlot where
  slot : Nat
  vco : Nat
  band : Nat
  temp : Int
deriving DecidableEq, Repr

/-- The clocks: the band slots of each PLL, least recently used first, and whether both crystals have been lost since
reset (15 R544). -/
structure ClockSt where
  bands : Tab (List BandSlot) := []
  lost : Bool := false
deriving DecidableEq, Repr

/-- A member of the cell as its last STATUS frame and AXIS frame tell (15 R561; 19 R652 to R656, R661). -/
structure Member where
  heard : Bool := false
  uid : Nat := 0
  level : Nat := 0
  done : Bool := false
  locked : Bool := false
  eligible : Bool := false
  rate : Nat := 0
  priority : Nat := 0
  seq : Nat := 0
  published : Nat := 0
deriving DecidableEq, Repr

/-- The clapper link: the members heard, the last tick sequence, ticks that came in order, the time source's count at this
tick, whether cell time has been taken from it, whether this member stays unlocked for its CFG_ID, the listening
window that is open (1 to 3; 4 the search), nanoseconds of sleep at entry, BEACON bursts sent, and what the AXIS frame of
this tick carries: published axes with SERVO and set-point, and FOLLOWER_STOP notices; `follow` holds the axes that
followed a member at the last tick (15 R561 to R568; 19 R661 to R663). -/
structure LinkSt where
  member : Tab Member := []
  tickSeq : Option Nat := none
  inOrder : Nat := 0
  base : Nat := 0
  timed : Bool := false
  dup : Bool := false
  window : Nat := 0
  sleep : Nat := 0
  bursts : Nat := 0
  axes : List (Nat × Bool × Int) := []
  stops : List (Nat × Nat) := []
  follow : Nat := 0
deriving DecidableEq, Repr

/-! ## Temperature (spec/20) -/

/-- Temperature: whether 0xFFD0 has been raised and TJ_NOW has not fallen far enough since, and whether enables are
refused (20 R683). -/
structure ThermSt where
  told : Bool := false
  hot : Bool := false
deriving DecidableEq, Repr

/-! ## The whole block -/

/-- Whether the device runs, or stands in LIMP (16 R584, 15 R544) or SAFE state (18 R640). -/
inductive RunMode where
  | run | limp | safe
deriving DecidableEq, Repr

/-- The state of the block: the dictionary's values (`regs`, `blobs`), the state behind the entries, and the waiting
commands. `bad` lists the blocks marked unusable (class, unit; 18 R637), `events` the event queue (group, SEG_ID; 06 R236),
`memUse` the axes that belong to a group since the last tick (06 R226). `freeCtr` is the model's own counter for free
values. -/
@[ext]
structure State where
  regs : Tab Int := []
  blobs : Tab (List Byte) := []
  host : HostSt := {}
  fe : FeSt := {}
  eng : Tab Eng := []
  si : SiSt := {}
  grp : Tab Grp := []
  flash : FlashSt := {}
  mem : MemSt := {}
  reel : ReelSt := {}
  cip : CipherSt := {}
  fab : FabSt := {}
  fw : FwSt := {}
  isl : IslandSt := {}
  life : LifeSt := {}
  test : SelfSt := {}
  power : PowerSt := {}
  clock : ClockSt := {}
  link : LinkSt := {}
  therm : ThermSt := {}
  mode : RunMode := .run
  bad : List (Nat × Nat) := []
  events : List (Nat × Nat) := []
  memUse : Nat := 0
  released : Bool := false
  freeCtr : Nat := 0
  pending : List Instr := []
deriving DecidableEq, Repr

/-- The reasons for which the block itself stops: the spec gives none. -/
inductive Fault where
deriving DecidableEq, Repr

/-- The commands for which the model has no meaning. -/
inductive Refusal where
  /-- Raised by an arm of Dispatch.lean whose command has no meaning yet. Safe: nothing is claimed of it. No arm raises it. -/
  | notModelled (mnemonic : String)
deriving DecidableEq, Repr

/-- The block right after reset: every table at its defaults, every queue empty. -/
def State.reset : State := {}

end Sys2Proof.Machine
end

