-- ==== Sys2Proof/Machine/Ops.lean ====
section
/-! DEFINITION. The named operations on the state that every family uses: entries, bits, units, output queues,
emergencies, and the acceptance, checking and completion of host requests. -/

namespace Sys2Proof.Machine

/-- What a meaning answers. -/
abbrev Out := Host.Outcome State Fault Refusal

/-! ## Entries -/

/-- The value of a numeric entry. -/
def State.reg (s : State) (k : Nat) : Int := tabGet regDefault s.regs k

/-- The value of an entry that holds no negative numbers. -/
def State.regN (s : State) (k : Nat) : Nat := (s.reg k).toNat

/-- Sets a numeric entry. -/
def State.setReg (s : State) (k : Nat) (v : Int) : State := { s with regs := tabSet regDefault s.regs k v }

/-- Sets several numeric entries. -/
def State.setRegs (s : State) (kvs : List (Nat × Int)) : State := kvs.foldl (fun s kv => s.setReg kv.1 kv.2) s

/-- The bytes of a byte-string entry. -/
def State.blob (s : State) (k : Nat) : List Byte := tabGet (fun _ => []) s.blobs k

/-- Sets the bytes of a byte-string entry. -/
def State.setBlob (s : State) (k : Nat) (v : List Byte) : State := { s with blobs := tabSet (fun _ => []) s.blobs k v }

/-- A bit of a status entry. -/
def State.regBit (s : State) (k i : Nat) : Bool := (s.regN k).testBit i

/-- Puts a bit of a status entry. -/
def State.setBit (s : State) (k i : Nat) (b : Bool) : State := s.setReg k (setBitTo (s.regN k) i b)

/-- Adds one to a counting entry, which wraps at its width in bits. -/
def State.bump (s : State) (k w : Nat) : State := s.setReg k (((s.regN k + 1) % 2 ^ w : Nat) : Int)

/-- Adds to a counting entry, which wraps at its width in bits. -/
def State.bumpBy (s : State) (k w n : Nat) : State := s.setReg k (((s.regN k + n) % 2 ^ w : Nat) : Int)

/-- The next number of the model's own counter for free values, and the state that has used it. -/
def State.fresh (s : State) : Nat × State := (s.freeCtr, { s with freeCtr := s.freeCtr + 1 })

/-! ## Units -/

def State.fb (s : State) (n : Nat) : FbPort := tabGet (fun _ => {}) s.fe.fb n
def State.modFb (s : State) (n : Nat) (f : FbPort → FbPort) : State :=
  { s with fe := { s.fe with fb := tabSet (fun _ => {}) s.fe.fb n (f (s.fb n)) } }
def State.cm (s : State) (n : Nat) : CmPort := tabGet (fun _ => {}) s.fe.cm n
def State.modCm (s : State) (n : Nat) (f : CmPort → CmPort) : State :=
  { s with fe := { s.fe with cm := tabSet (fun _ => {}) s.fe.cm n (f (s.cm n)) } }
def State.ev (s : State) (k : Nat) : EvChan := tabGet (fun _ => {}) s.fe.ev k
def State.modEv (s : State) (k : Nat) (f : EvChan → EvChan) : State :=
  { s with fe := { s.fe with ev := tabSet (fun _ => {}) s.fe.ev k (f (s.ev k)) } }
/-- Compare unit u of axis n is unit number 16 * n + u of the device. -/
def State.cmp (s : State) (i : Nat) : CmpUnit := tabGet (fun _ => {}) s.fe.cmp i
def State.modCmp (s : State) (i : Nat) (f : CmpUnit → CmpUnit) : State :=
  { s with fe := { s.fe with cmp := tabSet (fun _ => {}) s.fe.cmp i (f (s.cmp i)) } }
def State.cap (s : State) (i : Nat) : CapUnit := tabGet (fun _ => {}) s.fe.cap i
def State.modCap (s : State) (i : Nat) (f : CapUnit → CapUnit) : State :=
  { s with fe := { s.fe with cap := tabSet (fun _ => {}) s.fe.cap i (f (s.cap i)) } }
def State.engine (s : State) (n : Nat) : Eng := tabGet (fun _ => {}) s.eng n
def State.modEng (s : State) (n : Nat) (f : Eng → Eng) : State :=
  { s with eng := tabSet (fun _ => {}) s.eng n (f (s.engine n)) }
def State.group (s : State) (g : Nat) : Grp := tabGet (fun _ => {}) s.grp g
def State.modGrp (s : State) (g : Nat) (f : Grp → Grp) : State :=
  { s with grp := tabSet (fun _ => {}) s.grp g (f (s.group g)) }
def State.standIn (s : State) (j : Nat) : Si := tabGet (fun _ => {}) s.si.si j
def State.modSi (s : State) (j : Nat) (f : Si → Si) : State :=
  { s with si := { s.si with si := tabSet (fun _ => {}) s.si.si j (f (s.standIn j)) } }

/-- Applies an operation once for each number below `n`, in rising order. -/
def forN (n : Nat) (f : State → Nat → State) (s : State) : State := (List.range n).foldl f s

/-! ## Paths, output queues and emergencies -/

/-- Host paths as numbered in emergencies and STAGE_OWNER (02 R75). -/
def pathNo : Path → Nat
  | .hpi => 1
  | .fn => 2
  | .can0 => 3
  | .can1 => 4
  | .test => 6

def State.path (s : State) (p : Path) : PathSt := tabGet (fun _ => {}) s.host.paths (pathNo p)
def State.modPath (s : State) (p : Path) (f : PathSt → PathSt) : State :=
  { s with host := { s.host with paths := tabSet (fun _ => {}) s.host.paths (pathNo p) (f (s.path p)) } }
def State.modHpi (s : State) (f : HpiSt → HpiSt) : State := { s with host := { s.host with hpi := f s.host.hpi } }
def State.modFn (s : State) (f : FnSt → FnSt) : State := { s with host := { s.host with fn := f s.host.fn } }
def State.modSafe (s : State) (f : SafeSt → SafeSt) : State := { s with fe := { s.fe with safe := f s.fe.safe } }

def isEmcy : OutRec → Bool
  | .emcy .. => true
  | .cpl .. => false

/-- Removes the first emergency record of a queue. -/
def dropFirstEmcy : List OutRec → List OutRec
  | [] => []
  | r :: t => if isEmcy r then t else r :: dropFirstEmcy t

/-- A record enters an output queue whole (02 R52). On the HPI an empty queue that fills owes one attention pulse
while ATTN_EN is 1, and none more until it has been empty again (02 R62). -/
def pushRec (s : State) (p : Path) (r : OutRec) : State :=
  let was := (s.path p).outq.isEmpty && (decide (p = .hpi) && s.host.hpi.cplWords.isEmpty)
  let full := isEmcy r && decide (64 ≤ ((s.path p).outq.filter isEmcy).length)
  let s := s.modPath p fun x => { x with outq := (if full then dropFirstEmcy x.outq else x.outq) ++ [r] }
  let s := if full then s.bump K.tagEmcyOverflow 32 else s
  if was && s.host.hpi.attnEn then s.modHpi fun h => { h with attnDue := true } else s

/-- The status code that goes with an abort code (02 R46). -/
def statusOf (abort : Nat) : Nat :=
  if abort = 0 then 0x00
  else if abort = 0x0F000002 then 0x02
  else if abort = 0x0F000003 then 0x03
  else if abort = 0x0F000001 then 0x04
  else if abort = 0x0F000004 then 0x05
  else if abort = 0x0F000007 then 0x06
  else 0x01

def isTag (t : Nat) (f : Flight) : Bool := f.tag == t

/-- Completes a request: over SDO and CoE as the response, over tags as one completion record that frees the tag
(02 R45, R46, R48). -/
def reply (s : State) (r : Req) (abort : Nat) (data : List Byte) : State :=
  match r.org with
  | .pdo => s
  | .sdo => s.modPath r.path fun x => { x with resp := some ⟨abort, data⟩ }
  | .tag t =>
    match (s.path r.path).flights.find? (isTag t) with
    | none => s
    | some f =>
      pushRec (s.modPath r.path fun x => { x with flights := x.flights.filter fun f => !isTag t f }) r.path
        (.cpl t (statusOf abort) f.index f.sub f.opcode abort data)

/-- Completes a request with OK and no data. -/
def ok (s : State) (r : Req) : State := reply s r 0 []

/-- Completes a request with an abort code. -/
def refuse (s : State) (r : Req) (abort : Nat) : State := reply s r abort []

/-- The node of a path sends emergency frames: CoE beyond INIT, CANopen in pre-operational and operational (02 R65, R71;
PRESUMED of CiA 301, log canEmcy). -/
def nodeSends (s : State) (p : Path) : Bool :=
  match p with
  | .hpi => false
  | .fn => s.host.fn.al != .init
  | .can0 => s.host.can0.nmt == 5 || s.host.can0.nmt == 127
  | .can1 => s.host.can1.nmt == 5 || s.host.can1.nmt == 127
  | .test => false

/-- The eight bytes of an emergency frame (02 R75): code, error register and the five manufacturer bytes. -/
def emcyFrame (code reg unit detail : Nat) : List Byte := leBytes 2 code ++ leBytes 1 reg ++ leBytes 1 unit ++ leBytes 4 detail

/-- An emergency on one path: its record, and the frame of its node (02 R71, R75). -/
def tell (s : State) (p : Path) (code reg unit detail : Nat) : State :=
  let s := if nodeSends s p then s.modPath p fun x => { x with frame := emcyFrame code reg unit detail, frames := x.frames + 1 } else s
  pushRec s p (.emcy code reg unit detail)

/-- An emergency on every host path. -/
def tellAll (s : State) (code reg unit detail : Nat) : State :=
  tell (tell (tell (tell s .hpi code reg unit detail) .fn code reg unit detail) .can0 code reg unit detail) .can1 code reg unit detail

/-- Raises an emergency: the error register takes bit 0 and the code's own bit, and every path gets the register as it then
stands (02 R75, R697). -/
def emcy (s : State) (code bit unit detail : Nat) : State :=
  let reg := setBitTo (setBitTo (s.regN K.errRegErrorRegister) 0 true) bit true
  tellAll (s.setReg K.errRegErrorRegister reg) code reg unit (detail % 2 ^ 32)

/-! ## Acceptance of requests -/

def keyIndex (key : Nat) : Nat := (key / 256) % 0x10000
def keySub (key : Nat) : Nat := key % 256

/-- Whether a tagged request names a tag that is in flight on its path (02 R47). -/
def tagBusy (s : State) (r : Req) : Bool :=
  match r.org with
  | .tag t => (s.path r.path).flights.any (isTag t)
  | _ => false

/-- A request record whose tag is in flight is dropped, with emergency 0xFF10 (02 R47, R76, R56). -/
def dropTagInUse (s : State) (p : Path) (tag : Nat) : State :=
  let s := s.bump K.tagDroppedRecords 32
  let s := if p = .hpi then s.modHpi fun h => { h with protoErr := true } else s
  emcy s 0xFF10 4 0xFF (pathNo p + 256 * tag)

/-- Puts a request in flight (02 R44). -/
def register (s : State) (r : Req) (key opcode : Nat) : State :=
  match r.org with
  | .tag t => s.modPath r.path fun x =>
      { x with flights := x.flights ++ [⟨t, opcode, keyIndex key, keySub key, false, true, 0, 0, []⟩] }
  | _ => s

/-- The lifecycle state code (17 R605, R609): the last entry of the log that is not all zeros. A new entry applies from the
reset that ends its transition (17 R614). -/
def lifeState (s : State) : Nat :=
  let log := s.life.log.filter (· != 0)
  match (if s.life.trans then log.dropLast else log).getLast? with
  | none => 1
  | some e => if [0x2D, 0x3C, 0x4B, 0x5A, 0x69].contains e then e / 16 else 0xFF

/-- A path is answered: a host path while SC0 serves it; the test port in TEST, and in other states for the reading of a
result and the scheduling of a wrap test alone (17 R603, R604; 18 R646). -/
def answers (s : State) (p : Path) (key op : Nat) : Bool :=
  match p with
  | .test => s.host.testUp && (lifeState s == 2 || key == K.wrapNext
      || ((op == 1 || op == 3) && (keyIndex key == 0x2900 || keyIndex key == 0x2901)))
  | _ => s.host.hpi.served

/-- SC0 no longer serves (02 R58). -/
def stopServing (s : State) : State :=
  let s := s.modHpi fun h => { h with served := false, busy := true }
  { s with host := { s.host with testUp := false } }

/-- A request as a command: taken only on a path that is answered (01 R14, 02 R58); a tag in flight drops it; while
a lower power state is entered it is refused (16 R576 step 1); otherwise it is put in flight and `k` serves it. -/
def request (s : State) (r : Req) (key opcode : Nat) (k : State → State) : State :=
  if !answers s r.path key opcode then s
  else if tagBusy s r then
    match r.org with
    | .tag t => dropTagInUse s r.path t
    | _ => s
  else if s.reg K.powerState = 1 then refuse (register s r key opcode) r 0x08000022
  else k (register s r key opcode)

/-- Lets a request wait for an event (02 R48, R81: a long request). -/
def await (s : State) (w : WaitFor) (r : Req) : State := { s with host := { s.host with waits := s.host.waits ++ [(w, r)] } }

/-- Whether a request waits for an event. -/
def awaited (s : State) (w : WaitFor) : Bool := s.host.waits.any fun x => decide (x.1 = w)

/-- Completes every request that waits for an event, in the order they came (02 R82). -/
def completeAll (s : State) (w : WaitFor) (abort : Nat) (data : List Byte) : State :=
  let due := s.host.waits.filter fun x => decide (x.1 = w)
  let s := { s with host := { s.host with waits := s.host.waits.filter fun x => !decide (x.1 = w) } }
  due.foldl (fun s x => reply s x.2 abort data) s

/-! ## What moves (06 R232, 02 R34) -/

def groupState (s : State) (g : Nat) : Nat := s.regN (K.gstGroupState g)

/-- A group moves in states 2 and 5 (06 R232). -/
def groupMoves (s : State) (g : Nat) : Bool := groupState s g == 2 || groupState s g == 5

def anyGroupMoves (s : State) : Bool := (List.range 8).any (groupMoves s)

/-- Any ENABLE output driven high (02 R34). -/
def anyEnable (s : State) : Bool := s.fe.cm.any fun x => x.2.en

/-- The condition of REFUSED_MOVING for entries with the qualifier still (02 R34, 01 R19). -/
def moving (s : State) : Bool := anyGroupMoves s || anyEnable s

/-- The axes in the slots of a group (06 R225). -/
def members (s : State) (g : Nat) : List Nat :=
  ((List.range (s.regN (K.slotsSlotCount g))).map fun i => s.regN (K.slotsSlot0Axis g + i)).filter (· < 48)

/-- The group that holds an axis (06 R226: at most one). -/
def groupOf (s : State) (n : Nat) : Option Nat := (List.range 8).find? fun g => (members s g).contains n

/-- The group that holds an axis moves (03 R135, 04 R168). -/
def axisGroupMoves (s : State) (n : Nat) : Bool :=
  match groupOf s n with
  | some g => groupMoves s g
  | none => false

/-- VCC_SYS is within its range: in DEEP SLEEP and OFF it is down, and so it is in the first stages of a start from them
(16 R572, R580). -/
def sysOn (s : State) : Bool :=
  decide (s.power.low ≠ 3 ∧ s.power.low ≠ 4) && (decide (s.power.stage ≠ 1 ∧ s.power.stage ≠ 2) || s.power.wokeFrom == 2)

/-! ## Fabric ports (08 R314, R324; 09 R700) -/

/-- The region that holds a fabric port. -/
def hostRegion (p : Nat) : Nat := 4 * (p / 2) + 3 * (p % 2)

/-- A region counts as loaded. -/
def regionLoaded (s : State) (r : Nat) : Bool := s.fab.loaded.testBit r

/-- A port serves its axis channel and its flags: its enable state is not 0 and its region counts as loaded (08 R324). -/
def portServes (s : State) (p : Nat) : Bool := s.reg (K.portEnable p) != 0 && regionLoaded s (hostRegion p)

/-! ## Process data (02 R66 to R68) -/

/-- The mapping words of the field network's active RxPDOs, in order: index in bits 31:16, sub-index in 15:8, bits in
7:0. `assign` and `map` are the assignment and mapping objects. -/
def mapWords (s : State) (assign map : Nat) : List Nat :=
  ((List.range (s.regN (assign * 256))).map fun i => s.regN (assign * 256 + 1 + i)).flatMap fun o =>
    if map ≤ o ∧ o < map + 8 then (List.range (s.regN (o * 256))).map fun i => s.regN (o * 256 + 1 + i) else []

/-- The entries mapped into the field network's RxPDOs. -/
def rxKeys (s : State) : List Nat := (mapWords s 0x1C12 0x1600).map (· / 256)

/-- 02 R68: process data own an entry while it is mapped into an active RxPDO. -/
def pdOwned (s : State) (key : Nat) : Bool := s.host.fn.al == .op && (rxKeys s).contains key

/-! ## The checks of a write (02 R698) -/

/-- The entries that may be written in SAFE and LIMP states (18 R641). -/
def safeWritable (key : Nat) (v : Int) : Bool :=
  [K.attestChallenge, K.safeStSafeReset, K.pfaultFaultClear, K.tagErrorReset, K.blkBlockSelect, K.slotSelect,
    K.logReadSeq, K.paramSelect, K.logExportAck, K.reqPortRequestPort].contains key
  || (key == K.jobCommand && v == 2)

/-- Process data of the field network (02 R68): what owns an entry. A PDO of CAN FD is an object write (02 R74). -/
def isProcessData (r : Req) : Bool := decide (r.org = .pdo) && decide (r.path = .fn)

/-- Step 4: SAFE and LIMP states (02 R64), then ownership by process data (02 R68). -/
def gateCode (s : State) (r : Req) (key : Nat) (v : Int) : Option Nat :=
  if s.mode ≠ .run ∧ safeWritable key v = false then some 0x08000022
  else if isProcessData r = false ∧ pdOwned s key = true then some 0x0F000006
  else none

/-- Step 2: the entry admits a write. -/
def accessCode (w : Row) : Option Nat := if w.acc = .ro then some 0x06010002 else none

/-- Step 5: the qualifier still. -/
def stillCode (s : State) (w : Row) : Option Nat := if w.still = true ∧ moving s = true then some 0x0F000001 else none

/-- The first check that fails gives the completion (02 R698). -/
def firstSome : List (Option Nat) → Option Nat
  | [] => none
  | some c :: _ => some c
  | none :: t => firstSome t

/-- A chapter's own checks of a write: step 4 (present state), step 5 (REFUSED_MOVING) and step 7 (consistency). -/
structure Own where
  state : Option Nat := none
  move : Option Nat := none
  set : Option Nat := none

/-- The abort code of a write of a value of the right length, in the order of 02 R698. -/
def writeCode (s : State) (r : Req) (key : Nat) (v : Int) (o : Own) : Option Nat :=
  match rowOf (keyIndex key) (keySub key) with
  | none => some 0x06020000
  | some w => firstSome [accessCode w, gateCode s r key v, o.state, stillCode s w, o.move, rangeCode w.rng v, o.set]

/-- A write of a value: refused by the first check that fails, otherwise its effect. -/
def writeEntry (s : State) (r : Req) (key : Nat) (v : Int) (o : Own) (eff : State → State) : State :=
  match writeCode s r key v o with
  | some c => refuse s r c
  | none => eff s

/-- The abort code of a write of bytes whose length is right (02 R698). -/
def bytesCode (s : State) (r : Req) (key : Nat) (o : Own) : Option Nat :=
  match rowOf (keyIndex key) (keySub key) with
  | none => some 0x06020000
  | some w => firstSome [accessCode w, gateCode s r key 0, o.state, stillCode s w, o.move, o.set]

/-- A write of bytes to a byte-string entry: length first (step 3), then the other checks, then the effect. -/
def writeBytes (s : State) (r : Req) (key : Nat) (bs : List Byte) (o : Own) (eff : State → State) : State :=
  match rowOf (keyIndex key) (keySub key) with
  | none => refuse s r 0x06020000
  | some w =>
    if w.acc = .ro then refuse s r 0x06010002
    else if lengthOk w bs.length = false then refuse s r 0x06070010
    else
      match bytesCode s r key o with
      | some c => refuse s r c
      | none => eff s

/-- Stores a value and completes. -/
def storeOk (r : Req) (key : Nat) (v : Int) (s : State) : State := ok (s.setReg key v) r

/-- What a read that went well hands back of the answer: a READ of another LENGTH fails, a DOMAIN_READ takes a part
(02 R44). -/
def readPart (op off len : Nat) (data : List Byte) : Nat × List Byte :=
  if op = 3 then (0, (data.drop off).take (if len = 0 then 4096 else len))
  else if op = 1 then (if len = 0 ∨ len = data.length then (0, data) else (0x06070010, []))
  else (0, [])

/-- A code if a condition holds. -/
def whenCode (b : Bool) (c : Nat) : Option Nat := if b then some c else none

end Sys2Proof.Machine
end

