-- ==== Sys2Proof/Machine/Sha256.lean ====
section
/-! DEFINITION. SHA-256 (FIPS 180-4), computed: record chains of the island (14 R530), image and key hashes (09 R346, 17
R605). The constants are computed as the standard defines them: the first 32 bits behind the point of the cube roots of the
first 64 primes, and of the square roots of the first eight. -/

namespace Sys2Proof.Machine

/-- The largest number of `n` bits, above `x`, whose `k`-th power does not pass `v`. -/
def rootBelow (k v : Nat) : Nat → Nat → Nat
  | 0, x => x
  | n + 1, x => rootBelow k v n (if (x + 2 ^ n) ^ k ≤ v then x + 2 ^ n else x)

/-- The first 32 bits behind the point of the `k`-th root of `p`. -/
def rootFraction (k p : Nat) : Nat := rootBelow k (p * 2 ^ (32 * k)) 37 0 % 2 ^ 32

/-- The primes below 312: the first 64. -/
def hashPrimes : List Nat := (List.range 312).filter fun n => decide (2 ≤ n) && (List.range 18).all fun d => decide (d < 2) || n % d != 0 || n == d

/-- The constant of each round. -/
def roundConsts : List Nat := hashPrimes.map (rootFraction 3)

/-- The chaining words at the start. -/
def firstChain : List Nat := (hashPrimes.take 8).map (rootFraction 2)

/-- A 32-bit word turned right by each of two counts, and turned or shifted by a third, all joined by exclusive or. -/
def sigma (x a b c : Nat) (turn : Bool) : Nat :=
  let spin := fun n => x / 2 ^ n + (x % 2 ^ n) * 2 ^ (32 - n)
  spin a ^^^ spin b ^^^ (if turn then spin c else x / 2 ^ c)

/-- The schedule's next word from the last sixteen, newest first. -/
def nextWord (w : List Nat) : Nat :=
  (sigma (w.getD 1 0) 17 19 10 false + w.getD 6 0 + sigma (w.getD 14 0) 7 18 3 false + w.getD 15 0) % 2 ^ 32

/-- One round: the eight working words are a list, and `kw` is the sum of the round's constant and its schedule word. -/
def hashRound (h : List Nat) (kw : Nat) : List Nat :=
  let x := fun i => h.getD i 0
  let choose := (x 4 &&& x 5) + ((2 ^ 32 - 1 - x 4) &&& x 6)
  let most := (x 0 &&& (x 1 ||| x 2)) ||| (x 1 &&& x 2)
  let t := x 7 + sigma (x 4) 6 11 25 true + choose + kw
  [(t + sigma (x 0) 2 13 22 true + most) % 2 ^ 32, x 0, x 1, x 2, (x 3 + t) % 2 ^ 32, x 4, x 5, x 6]

/-- The rounds of a block: the schedule is kept newest first and grows by a word with each round after the sixteenth. -/
def hashRounds : List Nat → List Nat → List Nat → List Nat → List Nat
  | [], _, _, h => h
  | k :: ks, m :: ms, w, h => hashRounds ks ms (m :: w) (hashRound h (k + m))
  | k :: ks, [], w, h => hashRounds ks [] (nextWord w :: w) (hashRound h (k + nextWord w))

def beWord : List Byte → Nat
  | bs => bs.foldl (fun acc b => acc * 256 + b.toNat) 0

def beBytes (n v : Nat) : List Byte := (leBytes n v).reverse

/-- The sixteen words of a block of 64 bytes. -/
def blockWords (bs : List Byte) : List Nat := (List.range 16).map fun i => beWord ((bs.drop (4 * i)).take 4)

/-- The chaining words after a block. -/
def hashBlock (h : List Nat) (bs : List Byte) : List Nat :=
  (h.zip (hashRounds roundConsts (blockWords bs) [] h)).map fun x => (x.1 + x.2) % 2 ^ 32

/-- The message with its padding: one set bit, zeros, and the length in bits. -/
def shaPad (bs : List Byte) : List Byte :=
  bs ++ [0x80] ++ zeros ((119 - bs.length % 64) % 64) ++ beBytes 8 (8 * bs.length)

/-- The 32-byte SHA-256 digest of bytes. -/
def sha256 (bs : List Byte) : List Byte :=
  let p := shaPad bs
  ((List.range (p.length / 64)).foldl (fun h i => hashBlock h ((p.drop (64 * i)).take 64)) firstChain).flatMap (beBytes 4)

end Sys2Proof.Machine
end

