-- ==== Sys2Proof/Machine/P384.lean ====
section
/-! DEFINITION. ECDSA signatures on curve P-384, made and verified, over SHA-256 digests (FIPS 186). Keys and signatures are
two 48-byte numbers, most significant byte first. -/

namespace Sys2Proof.Machine

def p384P : Nat := 2 ^ 384 - 2 ^ 128 - 2 ^ 96 + 2 ^ 32 - 1
def p384N : Nat := 0xFFFFFFFFFFFFFFFFFFFFFFFFFFFFFFFFFFFFFFFFFFFFFFFFC7634D81F4372DDF581A0DB248B0A77AECEC196ACCC52973
def p384B : Nat := 0xB3312FA7E23EE7E4988E056BE3F82D19181D9C6EFE8141120314088F5013875AC656398D8A2ED19D2A85C8EDD3EC2AEF
def p384Gx : Nat := 0xAA87CA22BE8B05378EB1C71EF320AD746E1D3B628BA79B9859F741E082542A385502F25DBF55296C3A545E3872760AB7
def p384Gy : Nat := 0x3617DE4A96262C6F5D9E98BF9292DC29F8F41DBD289A147CE9DA3113B5F0B8C00A60B1CE1D7E819D7A431D7C90EA0E5F

/-- `b` to the power `e` modulo `m`, over the lowest `n` bits of `e`. -/
def powMod : Nat → Nat → Nat → Nat → Nat → Nat
  | 0, _, _, _, acc => acc
  | n + 1, b, e, m, acc => powMod n (b * b % m) (e / 2) m (if e % 2 = 1 then acc * b % m else acc)

/-- The inverse modulo a prime. -/
def invMod (a m : Nat) : Nat := powMod 384 (a % m) (m - 2) m 1

/-- A point of the curve; none is the point at infinity. -/
abbrev Pt := Option (Nat × Nat)

/-- Sum of two points. -/
def ptAdd (a b : Pt) : Pt :=
  match a, b with
  | none, q => q
  | p, none => p
  | some (x1, y1), some (x2, y2) =>
    if x1 = x2 ∧ (y1 + y2) % p384P = 0 then none
    else
      let l := if x1 = x2 then (3 * x1 * x1 + (p384P - 3)) * invMod (2 * y1) p384P % p384P
        else (y2 + p384P - y1) * invMod (x2 + p384P - x1) p384P % p384P
      let x3 := (l * l + 2 * p384P - x1 - x2) % p384P
      some (x3, (l * (x1 + p384P - x3) + p384P - y1) % p384P)

/-- A multiple of a point, over the lowest `n` bits of the factor. -/
def ptMul : Nat → Nat → Pt → Pt → Pt
  | 0, _, _, acc => acc
  | n + 1, k, p, acc => ptMul n (k / 2) (ptAdd p p) (if k % 2 = 1 then ptAdd acc p else acc)

/-- The number that bytes spell, most significant first. -/
def beNumber (b : List Byte) : Nat := b.foldl (fun acc x => acc * 256 + x.toNat) 0

/-- A public key names a point of the curve. -/
def keyOk (x y : Nat) : Bool :=
  decide (x < p384P) && decide (y < p384P) && decide ((y * y) % p384P = (x * x * x + (p384P - 3) * x + p384B) % p384P)

/-- The signature verifies for a message under a 96-byte key. -/
def sigOk (key msg sig : List Byte) : Bool :=
  let x := beNumber (key.take 48)
  let y := beNumber ((key.drop 48).take 48)
  let r := beNumber (sig.take 48)
  let s := beNumber ((sig.drop 48).take 48)
  if keyOk x y && decide (1 ≤ r ∧ r < p384N) && decide (1 ≤ s ∧ s < p384N) then
    let w := invMod s p384N
    let z := beNumber (sha256 msg)
    match ptAdd (ptMul 384 (z * w % p384N) (some (p384Gx, p384Gy)) none) (ptMul 384 (r * w % p384N) (some (x, y)) none) with
    | none => false
    | some (x1, _) => x1 % p384N == r
  else false

/-- The public key of a private one, as 96 bytes. -/
def publicKey (d : Nat) : List Byte :=
  match ptMul 384 d (some (p384Gx, p384Gy)) none with
  | none => zeros 96
  | some (x, y) => beBytes 48 x ++ beBytes 48 y

/-- The signature of a message under private key `d`, with the random number `k` of the signer. -/
def signWith (d k : Nat) (msg : List Byte) : List Byte :=
  match ptMul 384 k (some (p384Gx, p384Gy)) none with
  | none => zeros 96
  | some (x, _) =>
    let r := x % p384N
    beBytes 48 r ++ beBytes 48 (invMod k p384N * (beNumber (sha256 msg) + r * d) % p384N)

end Sys2Proof.Machine
end

