-- ==== Sys2Proof/Machine/Image.lean ====
section
/-! DEFINITION. Ingots as images: the slate, its checks, bundles and frames (09 R334 to R346, R374). Nothing here changes
the state. -/

namespace Sys2Proof.Machine

def State.flBlock (s : State) (k : Nat) : FlBlock := tabGet (fun _ => {}) s.flash.block k

/-- A byte of the main array; an erased byte reads as 0xFF. -/
def arrayByte (s : State) (a : Nat) : Byte := tabGet (fun _ => 0xFF#8) s.flash.array a
def arrayBytes (s : State) (a n : Nat) : List Byte := (List.range n).map fun i => arrayByte s (a + i)

/-! ## The owner's keys (17 R605, R606) -/

/-- The owner record in use. -/
def ownerRec (s : State) : Option OwnerRec := s.life.records.getLast?.filter fun x => !x.revoked

/-- FK of the record in use; empty if none. -/
def fusedKey (s : State) : List Byte := ((ownerRec s).map (·.fk)).getD []

/-! ## Slots (09 R343, R360; 10 R389) -/

/-- Slot 0 is the golden slot, 1 is A, 2 is B; each is 48 blocks, the first at block 64 times its number. -/
def slotBase (slot : Nat) : Nat := 64 * slot * 0x40000

/-- The slot with a role: 1 active, 2 staging. -/
def slotOf (s : State) (role : Nat) : Nat := if s.regN (K.slotRole 1) = role then 1 else 2

/-- The slate of a slot. -/
def slotSlate (s : State) (slot : Nat) : List Byte := arrayBytes s (slotBase slot) 4096

/-! ## Slate fields (09 R335) -/

def byteOf (b : List Byte) (o : Nat) : Nat := (b.getD o 0).toNat

def slFlags (b : List Byte) : Nat := byteOf b 6
def slPartial (b : List Byte) : Bool := (slFlags b).testBit 2
def slKey (b : List Byte) : Nat := byteOf b 7
def slMap (b : List Byte) : Nat := leAt b 14 2
def slId (b : List Byte) : Nat := leAt b 32 4
def slVersion (b : List Byte) : Nat := leAt b 36 4
def slBaseVersion (b : List Byte) : Nat := leAt b 40 4
def slRollback (b : List Byte) : Nat := leAt b 44 4
def slEarly (b : List Byte) : Nat := leAt b 64 2
def slFcpMaster (b : List Byte) : Nat := byteOf b 66
def slDoneMode (b : List Byte) : Nat := byteOf b 67
def slDoneTimeout (b : List Byte) : Nat := leAt b 68 4
def slRailMin (b : List Byte) (q : Nat) : Nat := 10 * byteOf b (72 + q)
def slClock (b : List Byte) (r : Nat) : Nat := byteOf b (76 + r)
def slFreq (b : List Byte) (r : Nat) : Nat := leAt b (92 + 4 * r) 4
def slSeam (b : List Byte) (k : Nat) : Nat := byteOf b (156 + k)
def slPins (b : List Byte) : List Byte := (b.drop 256).take 448

/-- LOAD_ORDER: region numbers, then 0xFF. -/
def slOrder (b : List Byte) : List Nat := (((b.drop 48).take 16).map BitVec.toNat).takeWhile (· != 0xFF)

/-- A declaration of OBJECTS (09 R336). -/
def slDecl (b : List Byte) (i : Nat) : Decl :=
  let o := 1024 + 16 * i
  ⟨leAt b o 2 * 256 + byteOf b (o + 2), byteOf b (o + 3), leAt b (o + 4) 2, byteOf b (o + 6), (b.drop (o + 8)).take 8⟩

def slDecls (b : List Byte) : List Decl := (List.range (byteOf b 180)).map (slDecl b)

/-- The CiA 301 type of an index (02 R33). -/
def ciaType (i : Nat) : Option Ty :=
  if i = 0x01 then some .bool else if i = 0x02 then some (.int 1) else if i = 0x03 then some (.int 2)
  else if i = 0x04 then some (.int 4) else if i = 0x15 then some (.int 8) else if i = 0x05 then some (.uint 1)
  else if i = 0x06 then some (.uint 2) else if i = 0x07 then some (.uint 4) else if i = 0x1B then some (.uint 8)
  else if i = 0x08 then some (.uint 4) else if i = 0x11 then some .real else if i = 0x09 then some .vstr
  else if i = 0x0A then some .ostr else if i = 0x0F then some .dom else none

def zeroRun (b : List Byte) (o n : Nat) : Bool := ((b.drop o).take n).all (· == 0)

/-- A CLOCK_SOURCE code (08 R313): a PLL output or a clock pin. -/
def clockCodeOk (c : Nat) : Bool := (decide (c < 64) && decide (c % 8 < 7)) || (decide (0x80 ≤ c) && decide (c < 0x8C))

/-- The declarations of the slate are well formed (09 R336): those of a partial image outside its regions are ignored
(09 R374). -/
def declsOk (b : List Byte) : Bool :=
  let ds := slDecls b
  let inMap := fun d : Decl => (slMap b).testBit (hostRegion d.port)
  let seen := if slPartial b then ds.filter inMap else ds
  decide (byteOf b 180 ≤ 128) && zeroRun b (1024 + 16 * byteOf b 180) (2048 - 16 * byteOf b 180)
    && seen.all (fun d => decide (0x5800 * 256 ≤ d.key) && decide (d.key < 0x6000 * 256) && decide (d.port < 8) && inMap d
      && (ciaType d.ty).isSome && decide (d.acc < 8)
      && seen.all fun e => d.key / 256 != e.key / 256 || d.port == e.port)
    && decide ((seen.map (·.key)).Nodup) && (List.range (byteOf b 180)).all fun i => byteOf b (1024 + 16 * i + 7) == 0

/-- The pins' hold states and owners (09 R337). -/
def pinsOk (b : List Byte) : Bool :=
  (slPins b).all fun x =>
    let h := x.toNat % 16
    decide (h ≤ 5 ∨ h = 15) && (h == 15 || slPartial b || (slMap b).testBit (x.toNat / 16))

/-- Cause 2 does not apply: FORMAT known, reserved fields zero, fields in range and consistent (09 R335 to R337). -/
def formatOk (b : List Byte) : Bool :=
  let m := slMap b
  leAt b 4 2 == 1 && decide (slFlags b < 8) && decide (slKey b ≤ 1) && decide (byteOf b 13 < 4)
    && ((slFlags b).testBit 0 || zeroRun b 16 16) && slId b != 0 && (slPartial b || slBaseVersion b == 0)
    && decide ((slOrder b).Nodup) && (slOrder b).all (fun r => decide (r < 16) && m.testBit r)
    && (slOrder b).length == popCount m 16 && ((b.drop (48 + (slOrder b).length)).take (16 - (slOrder b).length)).all (· == 0xFF#8)
    && clearMask (slEarly b) m == 0 && (slFcpMaster b == 0xFF || decide (slFcpMaster b < 16)) && decide (slDoneMode b ≤ 2)
    && (List.range 4).all (fun q => decide (720 ≤ slRailMin b q ∧ slRailMin b q ≤ 900))
    && (List.range 16).all (fun r => if m.testBit r then clockCodeOk (slClock b r) && decide (10000 ≤ slFreq b r ∧ slFreq b r ≤ 400000)
        else slClock b r == 0xFF && slFreq b r == 0)
    && (List.range 24).all (fun k => decide (slSeam b k ≤ 2))
    && zeroRun b 181 3 && zeroRun b 216 40 && zeroRun b 704 320 && zeroRun b 3072 832 && pinsOk b && declsOk b

/-- The unit is of grade -AX (00 R1). -/
def partHot (s : State) : Bool := s.life.part == PartCode.ax || s.life.part == PartCode.axm

/-- The unit's ordering code as characters (00 R1; 02 R84). -/
def partBytes (s : State) : List Byte :=
  ([67, 72, 76, 52, 56, 57, 54, 45, 65] ++ (if partHot s then [88] else [73])
    ++ if s.life.part == PartCode.aim || s.life.part == PartCode.axm then [77] else []).map (BitVec.ofNat 8)

/-- GRADE_LIMIT in 0.1 degrees (20 R682). -/
def gradeLimit (s : State) : Int := if partHot s then 1150 else 1000

/-- The grade bit of this unit in FAMILY_MASK (00 R1). -/
def gradeBit (s : State) : Nat := b2n (partHot s)

/-- The key that a slate selects is not present (cause 8). -/
def keyMissing (s : State) (b : List Byte) : Bool := if slKey b = 1 then s.cip.bk.isNone else (fusedKey s).isEmpty

/-- A slate's cause among 1 to 8 of 09 R346. -/
def slateCause8 (s : State) (b : List Byte) : Nat :=
  if leAt b 0 4 ≠ 0x54414C53 then 1
  else if !formatOk b then 2
  else if (match ownerRec s with
    | some x => sha256 ((b.drop 3904).take 96) != x.imageHash
    | none => true) then 3
  else if !sigOk ((b.drop 3904).take 96) (b.take 4000) ((b.drop 4000).take 96) then 4
  else if leAt b 8 4 ≠ 0x4896 ∨ byteOf b 12 ≠ 0x42 ∨ (byteOf b 13).testBit (gradeBit s) = false then 5
  else if (slFlags b).testBit 0 && (b.drop 16).take 16 != (s.blob K.unitUid ++ zeros 16).take 16 then 6
  else if slRollback b < s.regN K.cutRollbackFloor then 7
  else if keyMissing s b then 8
  else 0

/-- A slate's cause among 1 to 9, in a slot. -/
def slateCause (s : State) (slot : Nat) (b : List Byte) : Nat :=
  let c := slateCause8 s b
  if c ≠ 0 then c
  else if slPartial b || (slot == 0 && (!(slFlags b).testBit 1 || slKey b != 0)) then 9 else 0

/-- The slate has passed cause 4: its signature verified. -/
def slateSigned (c : Nat) : Bool := c == 0 || decide (5 ≤ c)

/-! ## Bundles and frames (09 R338, R339, R341) -/

/-- The place of a mapped region among the mapped regions. -/
def regionRank (b : List Byte) (r : Nat) : Nat := popCount (slMap b) r

def bodyOffset (b : List Byte) (r : Nat) : Nat := 12288 + 720896 * regionRank b r

/-- The length of an image in bytes (09 R334). -/
def imageLength (b : List Byte) : Nat := 12288 + 720896 * popCount (slMap b) 16

def ingotKey (s : State) (b : List Byte) : List Byte := if slKey b = 1 then s.cip.bk.getD [] else fusedKey s

/-- Cause 10 applies not: TAG_DIGEST matches the tag table. -/
def tagDigestOk (b table : List Byte) : Bool := sha256 table == (b.drop 184).take 32

/-- A frame's CRC-32C matches. -/
def frameOk (f : List Byte) : Bool := leAt f 508 4 == crc32c (f.take 508)

/-- The cause of a bundle of region `r`: 14, 15 or none. -/
def bundleCause (s : State) (b table : List Byte) (r i : Nat) (text : List Byte) : Nat :=
  let iv := leBytes 4 (slId b) ++ leBytes 4 (slVersion b) ++ leBytes 4 (22 * r + i)
  let aad := sha256 (b.take 4000)
  let tag := (table.drop (16 * (22 * regionRank b r + i))).take 16
  if !gcmOk (ingotKey s b) iv aad text tag then 14
  else if ((chunks 64 512 (gcmText (ingotKey s b) iv text))).all frameOk then 0 else 15

/-- Bundle `i` of region `r` in a slot. -/
def slotBundle (s : State) (slot : Nat) (b : List Byte) (r i : Nat) : List Byte :=
  arrayBytes s (slotBase slot + bodyOffset b r + 32768 * i) 32768

def slotTable (s : State) (slot : Nat) : List Byte := arrayBytes s (slotBase slot + 4096) 8192

/-- Cause 16: a page of the run of bytes lies in a block whose erase is incomplete (10 R409). -/
def unreadable (s : State) (a n : Nat) : Bool :=
  (List.range ((a + n - 1) / 0x40000 - a / 0x40000 + 1)).any fun i => (s.flBlock (a / 0x40000 + i)).incomplete

/-- The first cause of a region in a slot, with the bundle. -/
def regionCause (s : State) (slot : Nat) (b : List Byte) (r : Nat) : Nat × Nat :=
  (List.range 22).foldl (fun acc i =>
    if acc.1 ≠ 0 then acc
    else if unreadable s (slotBase slot + bodyOffset b r + 32768 * i) 32768 then (16, i)
    else (bundleCause s b (slotTable s slot) r i (slotBundle s slot b r i), i)) (0, 0xFF)

/-- An image in a slot, checked in full without loading it (09 R365): causes 1 to 10 and 14 to 16. -/
def imageCause (s : State) (slot : Nat) : Nat :=
  let b := slotSlate s slot
  if unreadable s (slotBase slot) 12288 then 16
  else
    let c := slateCause s slot b
    if c ≠ 0 then c
    else if !tagDigestOk b (slotTable s slot) then 10
    else ((bitsOf (slMap b) 16).foldl (fun acc r => if acc ≠ 0 then acc else (regionCause s slot b r).1) 0)

/-- The abort code of a refused image (09 R365). -/
def causeAbort (c : Nat) : Nat := if c = 0 then 0 else if c = 3 ∨ c = 4 then 0x0F000009 else 0x08000000

/-! ## Partial images (09 R374) -/

/-- The regions a seam joins (08 R299). -/
def seamRegions (k : Nat) : Nat × Nat :=
  let at' := fun row col : Nat => 4 * (2 * (row / 2) + col / 2) + 2 * (row % 2) + col % 2
  if k < 12 then (at' (k / 3) (k % 3), at' (k / 3) (k % 3 + 1)) else (at' ((k - 12) / 4) ((k - 12) % 4), at' ((k - 12) / 4 + 1) ((k - 12) % 4))

/-- A partial slate's cause among 1 to 9, 17 and 18. -/
def partialCause (s : State) (b : List Byte) : Nat :=
  let c := slateCause8 s b
  let m := slMap b
  let cur := s.fab.slate
  let base := slPartial b && slId b == s.regN K.ingotRunningId && slBaseVersion b == s.regN K.ingotRunningVersion
    && (List.range 24).all (fun k => m.testBit (seamRegions k).1 || m.testBit (seamRegions k).2 || slSeam b k == slSeam cur k)
    && (List.range 4).all (fun q => (clearMask s.fab.loaded m / 2 ^ (4 * q)) % 16 == 0 || slRailMin b q == slRailMin cur q)
    && ((slPins b).zip (slPins cur)).all (fun x => (x.1.toNat % 16 != 15 && m.testBit (x.1.toNat / 16))
      || (if x.1.toNat % 16 = 15 then x.2.toNat % 16 == 15 else x.1.toNat / 16 == x.2.toNat / 16))
  if c ≠ 0 then c
  else if !base then 17
  else if slFcpMaster cur = 0xFF ∨ m.testBit (slFcpMaster cur) then 18 else 0

end Sys2Proof.Machine
end

