-- ==== Sys2Proof/Machine/Banks.lean ====
section
/-! DEFINITION. Scratchpad banks and their handover (11 R423 to R433). -/

namespace Sys2Proof.Machine

def State.bankSt (s : State) (b : Nat) : BankSt := tabGet (fun _ => {}) s.mem.bank b
def State.modBank (s : State) (b : Nat) (f : BankSt → BankSt) : State :=
  { s with mem := { s.mem with bank := tabSet (fun _ => {}) s.mem.bank b (f (s.bankSt b)) } }

/-- The owner of a bank (11 R425, R426): SP0 to SP3 belong to the service cores for the unit's life. -/
def bankOwner (s : State) (b : Nat) : Nat := if b < 4 then 0x10 + b else s.regN (K.bankOwner b)

/-- Whether a bank is in a handover. -/
def bankBusy (s : State) (b : Nat) : Bool := (s.bankSt b).target.isSome

/-- 11 R428: a bank may be handed over when its owner is NONE, a service core, or a fabric port in enable state 0. -/
def bankFree (s : State) (b : Nat) : Bool :=
  let o := bankOwner s b
  decide (4 ≤ b) && (o == 0 || (decide (0x10 ≤ o) && decide (o ≤ 0x13))
    || (decide (0x30 ≤ o) && decide (o ≤ 0x37) && s.reg (K.portEnable (o - 0x30)) == 0))

/-- Step 1 of 11 R429. -/
def startHandover (s : State) (b owner : Nat) : State :=
  (s.modBank b fun x => { x with target := some owner }).setReg (K.bankHandoverState b) 1

/-- Steps 3 and 4 of 11 R429: the bank is zeroed if HANDOVER_ZERO is 1, and the new owner has it. -/
def finishHandover (s : State) (b : Nat) : State :=
  match (s.bankSt b).target with
  | none => s
  | some o =>
    let s := if s.reg (K.bankHandoverZero b) = 1 then
        { s with mem := { s.mem with sp := tabKeep (fun a => decide (a / 0x40000 ≠ b)) s.mem.sp } } else s
    (s.modBank b fun x => { x with target := none }).setRegs [(K.bankHandoverState b, 0), (K.bankOwner b, o)]

end Sys2Proof.Machine
end

