-- ==== Sys2Proof/Machine/Events.lean ====
section
/-! DEFINITION. Position events and capture (spec/07): event channels, compare units, capture units. -/

namespace Sys2Proof.Machine

/-! ## Event channels (07 R274 to R278, R289) -/

def evMode (s : State) (k : Nat) : Nat := if s.released then s.regN (K.evMode k) else 0

/-- A device-wide clamp is in force (04 R172): SAFE_STOP# or the device watchdog, RESET# low, or SAFE state. -/
def deviceClamp (s : State) : Bool := s.fe.safe.stop || s.fe.safe.resetTaken || decide (s.mode = .safe)

/-- 07 R289: a channel in OUTPUT mode with SAFE_GATE 1 is held inactive under a device-wide clamp. -/
def evGated (s : State) (k : Nat) : Bool := evMode s k == 1 && s.reg (K.evSafeGate k) == 1 && deviceClamp s

/-- The numbers of the compare units whose committed CHANNEL is `k`. -/
def routed (s : State) (k : Nat) : List (Nat × CmpUnit) := s.fe.cmp.filter fun x => x.2.chan == k

/-- The level of a channel (07 R274, R277). -/
def evLevel (s : State) (k : Nat) : Bool :=
  if evMode s k = 0 then false
  else if evMode s k = 2 then (s.ev k).filt != (s.reg (K.evPolarity k) == 1)
  else if evGated s k then false
  else (s.ev k).pulse || (routed s k).any fun x => x.2.armed && x.2.mode == 4 && x.2.level

/-- The level of the ball as read (07 R274, R276): driven in OUTPUT mode, received otherwise. -/
def evBall (s : State) (k : Nat) : Bool :=
  if evMode s k = 1 then evLevel s k != (s.reg (K.evPolarity k) == 1) else (s.ev k).ball

/-- Marks the edge condition of every armed wait that `p` admits as met: only the active segment and the next after it
can be armed (06 R244, R245). -/
def meetWaits (s : State) (p : Seg → Bool) : State :=
  forN 8 (fun s g =>
    if (s.group g).queue.any fun w => w.typ == 6 && w.armed && p w then
      s.modGrp g fun x => { x with queue := x.queue.map fun w => if w.typ == 6 && w.armed && p w then { w with edge := true } else w }
    else s) s

/-- The debounced level of a channel changes: waits of source 1 and home edges see it (07 R278, 03 R137). -/
def debounced (s : State) (k : Nat) (lv : Bool) : State :=
  if (s.ev k).deb = lv then s
  else
    let s := s.modEv k fun e => { e with deb := lv }
    let s := meetWaits s fun w => w.src == 1 && w.num == k && ((w.cond == 0 && lv) || (w.cond == 1 && !lv))
    forN 48 (fun s n =>
      let pin := s.regN (K.refHomePin n)
      if s.reg (K.refMode n) = 2 ∧ s.reg (K.fbsRefState n) = 1 ∧ pin % 32 = k ∧ (pin.testBit 7 = !lv) then
        s.modFb n fun f => { f with homeSeen := true } else s) s

/-- The channel takes the level that it has now: a rise in INPUT mode is counted, and with DEBOUNCE 0 the debounced level
follows at once (07 R276, R278). -/
def evFollow (s : State) (k : Nat) : State :=
  let lv := evLevel s k
  let s := if (s.ev k).lev = lv then s
    else
      let s := s.modEv k fun e => { e with lev := lv }
      if lv && evMode s k == 2 then s.bump (K.evCount k) 32 else s
  if s.reg (K.evDebounce k) = 0 then debounced s k lv else s

/-- EV_STATE follows the channel (07 R276). -/
def evShow (s : State) (k : Nat) : State :=
  let s := evFollow s k
  s.setReg (K.evState k) (b2n (evLevel s k) + 2 * b2n (evBall s k) + 4 * b2n (s.ev k).deb)

/-- LEVEL of a compare unit (07 R286): inside the window, or in the other modes a pulse from this unit runs. -/
def cmpShowLevel (s : State) (i : Nat) : State :=
  let c := s.cmp i
  s.setBit (K.cmpStatus (i / 16) (i % 16)) 30 (if c.mode = 4 then c.armed && c.level else s.fe.ev.any fun e => e.2.pulseOf.contains i)

/-- The compare units whose pulse on this channel has ended show it (07 R286). -/
def dropPulseLevels (s : State) (us : List Nat) : State := us.foldl cmpShowLevel s

/-- A pulse ends: its width has run out (07 R277) or the gate closed (07 R289). -/
def endPulse (s : State) (k : Nat) : State :=
  let us := (s.ev k).pulseOf
  evShow (dropPulseLevels (s.modEv k fun e => { e with pulse := false, pulseOf := [] }) us) k

/-- The gate of 07 R289 closes: pulses in progress end at once and the balls go inactive. -/
def gateEvents (s : State) : State :=
  forN 32 (fun s k => if evGated s k then endPulse s k else s) s

/-- A channel's settings act (07 R274, R278, R289): an input takes the ball's level, and a channel that gives no pulses, or is
gated, ends the one in progress. -/
def evEnter (s : State) (k : Nat) : State :=
  let m := evMode s k
  let s := if m = 2 then s.modEv k fun e => { e with filt := e.ball } else s
  if (s.ev k).pulse && (decide (m = 0 ∨ m = 2) || evGated s k) then endPulse s k else evShow s k

/-- A firing routed to channel `k` starts a pulse, or restarts a running one and counts in MERGED (07 R277, R287). -/
def firePulse (s : State) (i k : Nat) : State :=
  if k < 32 ∧ (evMode s k = 1 ∨ evMode s k = 3) then
    if evGated s k then s.setBit (K.cmpStatus (i / 16) (i % 16)) 13 true
    else
      let s := if (s.ev k).pulse then s.bump (K.evMerged k) 32 else s.bump (K.evCount k) 32
      let s := s.modEv k fun e => { e with pulse := true, pulseOf := if e.pulseOf.contains i then e.pulseOf else e.pulseOf ++ [i] }
      evShow (cmpShowLevel s i) k
  else s

/-! ## Compare units (07 R279 to R287) -/

/-- A firing of unit `i`, with `extra` further targets passed (07 R284, R287). -/
def fire (s : State) (i extra : Nat) (pulse : Bool) : State :=
  let n := i / 16
  let u := i % 16
  let s := s.bumpBy (K.cmpFireCount n u) 32 (1 + extra)
  let s := meetWaits s fun w => w.src == 0 && w.num == u && w.val == n
  if pulse then firePulse s i (s.cmp i).chan else s

/-- The channel that a compare unit is routed to shows its level. -/
def showRouted (s : State) (k : Nat) : State := if k < 32 then evShow s k else s

/-- A unit disarms: a window's level falls (07 R277, R280, R286). -/
def cmpDisarm (s : State) (i : Nat) : State :=
  let s := (s.modCmp i fun c => { c with armed := false, xPrev := none, gapFrom := none, level := false }).setBit
    (K.cmpStatus (i / 16) (i % 16)) 31 false
  showRouted (cmpShowLevel s i) (s.cmp i).chan

/-- The unit has done all its firings (07 R282): it disarms with DONE. -/
def cmpDone (s : State) (i : Nat) : State := (cmpDisarm s i).setBit (K.cmpStatus (i / 16) (i % 16)) 29 true

/-- Up (1), down (-1) or no (0) crossing of `t` between two evaluations (07 R281); where the positions lie on either side of
the point furthest from `t`, as over a wrap of POS64, it is none. -/
def crossing (t xp x : Int) : Int :=
  let dp := wrap64 (xp - t)
  let d := wrap64 (x - t)
  if d - dp ≠ wrap64 (x - xp) then 0
  else if dp < 0 ∧ 0 ≤ d then 1 else if 0 < dp ∧ d ≤ 0 then -1 else 0

/-- DIR_COND admits a crossing (07 R279). -/
def admits (dir : Nat) (c : Int) : Bool := c != 0 && (dir == 0 || (dir == 1 && c == 1) || (dir == 2 && c == -1))

/-- The window's level at a position, with HYSTERESIS on leaving (07 R282; log 173). -/
def windowLevel (c : CmpUnit) (x : Int) : Bool :=
  let h : Int := if c.level then c.hyst else 0
  decide (0 ≤ wrap64 (x - c.target + h)) && decide (0 ≤ wrap64 (c.target2 - x + h))

def setWindow (s : State) (i : Nat) (lv : Bool) : State :=
  let s := s.modCmp i fun c => { c with level := lv }
  showRouted (cmpShowLevel s i) (s.cmp i).chan

/-- Targets beyond the first that a periodic unit passes on its way from its next target to `x` (07 R284). -/
def passed (next period x : Int) (c : Int) : Nat :=
  if c = 1 ∧ 0 < period then (wrap64 (x - next) / period).toNat
  else if c = -1 ∧ period < 0 then (wrap64 (next - x) / (-period)).toNat else 0

/-- Whether a target lies between the last position before a gap and the first valid one after it (07 R285). -/
def gapHit (c : CmpUnit) (x0 x : Int) : Bool :=
  let ts := if c.mode = 4 then [c.target, c.target2] else if c.mode = 3 then [c.next] else [c.target]
  ts.any fun t => crossing t x0 x != 0

/-- The first evaluation after arming or after a gap: x_prev without firing (07 R285); a window takes its level
(07 R282). -/
def evalFirst (s : State) (i : Nat) (x : Int) : State :=
  let c := s.cmp i
  let s := match c.gapFrom with
    | some x0 => if gapHit c x0 x then s.setBit (K.cmpStatus (i / 16) (i % 16)) 14 true else s
    | none => s
  let s := s.modCmp i fun c => { c with xPrev := some x, gapFrom := none }
  if c.mode = 4 then
    let lv := windowLevel c x
    let s := setWindow s i lv
    if lv && !c.level then fire s i 0 false else s
  else s

/-- The hysteresis hold of an every-crossing unit at a position (07 R282). -/
def holdAt (c : CmpUnit) (x : Int) : Int :=
  let d := wrap64 (x - c.target)
  if c.hold = 1 ∧ d ≤ -(c.hyst : Int) then 0 else if c.hold = -1 ∧ (c.hyst : Int) ≤ d then 0 else c.hold

/-- One evaluation of an armed unit at position `x` after an evaluation at `xp` (07 R282, R284). -/
def evalNext (s : State) (i : Nat) (xp x : Int) : State :=
  let c := s.cmp i
  let n := i / 16
  let u := i % 16
  let s := s.modCmp i fun c => { c with xPrev := some x }
  if c.mode = 1 then
    if admits c.dir (crossing c.target xp x) then cmpDone (fire s i 0 true) i else s
  else if c.mode = 2 then
    let cr := crossing c.target xp x
    let h := holdAt c xp
    if h = 0 ∧ admits c.dir cr = true then (fire s i 0 true).modCmp i fun c => { c with hold := cr }
    else s.modCmp i fun c => { c with hold := holdAt { c with hold := h } x }
  else if c.mode = 3 then
    let cr := crossing c.next xp x
    if admits c.dir cr then
      let all := passed c.next c.target2 x cr
      let extra := if c.rep = 0 then all else min all (c.rep - c.made - 1)
      let nx := wrap64 (c.next + c.target2 * ((1 + extra : Nat) : Int))
      let s := fire s i extra true
      let s := (s.modCmp i fun c => { c with next := nx, made := c.made + 1 + extra }).setReg (K.cmpNextTarget n u) nx
      let s := if extra = 0 then s
        else emcy (s.setBit (K.cmpStatus n u) 15 true) 0xFF2C 5 n (u * 2 ^ 28 + extra % 2 ^ 28)
      if c.rep ≠ 0 ∧ c.rep ≤ c.made + 1 + extra then cmpDone s i else s
    else s
  else if c.mode = 4 then
    let lv := windowLevel c x
    if lv = c.level then s
    else
      let s := setWindow s i lv
      if lv then fire s i 0 false else s
  else s

/-- One evaluation of a unit (07 R281 to R285): never while the port is OFF or not VALID. -/
def evalUnit (s : State) (i : Nat) (x : Int) : State :=
  let c := s.cmp i
  if c.armed && s.regBit (K.fbsStatus (i / 16)) 31 && (s.fb (i / 16)).modeUse != 0 then
    match c.xPrev with
    | none => evalFirst s i x
    | some xp => evalNext s i xp x
  else s

/-- The position that a port gives its compare units: in RES in steps of 2 ^ 10 (07 R283). -/
def evalPos (f : FbPort) : Int := if f.modeUse = 3 then f.live / 2 ^ 10 * 2 ^ 10 else f.live

/-- Every armed unit of a port is evaluated at the port's position (07 R283). -/
def evalPort (s : State) (n : Nat) : State :=
  forN 16 (fun s u => evalUnit s (16 * n + u) (evalPos (s.fb n))) s

/-- In INC the next edge-clock sample comes at once, whether or not the count has changed (07 R283). -/
def evalInc (s : State) (n : Nat) : State := if (s.fb n).modeUse = 1 then evalPort s n else s

/-- The port has lost VALID: the units remember the last position before the gap (07 R285). -/
def gapPort (s : State) (n : Nat) : State :=
  forN 16 (fun s u => if (s.cmp (16 * n + u)).armed then s.modCmp (16 * n + u) fun c =>
    { c with gapFrom := if c.xPrev.isSome then c.xPrev else c.gapFrom, xPrev := none } else s) s

/-- The smallest step of a port's mode in POS64 (03 R98); OFF has none. -/
def stepOf (mode : Nat) : Nat :=
  if mode = 1 then 2 ^ 22 else if mode = 2 then 2 ^ 10 else if mode = 3 then 1 else if mode = 4 then 2 ^ 24 else 0

/-- The staged set of a compare unit is consistent (07 R279, R280). -/
def cmpSetOk (s : State) (n u : Nat) : Bool :=
  let mode := s.regN (K.cmpMode n u)
  let t2 := s.reg (K.cmpTarget2 n u)
  if mode = 3 then decide (t2 ≠ 0) && decide (stepOf (s.fb n).modeUse ≤ t2.natAbs)
  else if mode = 4 then s.reg (K.cmpDirCond n u) == 0 && decide (s.reg (K.cmpTarget n u) < t2)
  else true

/-- The staged set of a compare unit (07 R280). -/
def stagedSet (s : State) (n u : Nat) : CmpSet :=
  { mode := s.regN (K.cmpMode n u), dir := s.regN (K.cmpDirCond n u), target := s.reg (K.cmpTarget n u),
    target2 := s.reg (K.cmpTarget2 n u), rep := s.regN (K.cmpRepeat n u), hyst := s.regN (K.cmpHysteresis n u),
    chan := s.regN (K.cmpChannel n u) }

/-- A commit takes effect: the unit is armed afresh with the set, or with CMP_MODE 0 left disarmed (07 R280), and on a valid
INC port evaluated at once (07 R282, R283). -/
def cmpCommit (s : State) (i : Nat) (c : CmpSet) : State :=
  let n := i / 16
  let u := i % 16
  let old := (s.cmp i).chan
  let s := s.modCmp i fun x => { toCmpSet := c, armed := decide (c.mode ≠ 0), next := c.target, arms := x.arms }
  let s := s.setRegs [(K.cmpStatus n u, if c.mode = 0 then 0 else 2 ^ 31), (K.cmpFireCount n u, 0), (K.cmpNextTarget n u, c.target)]
  let s := showRouted (cmpShowLevel s i) old
  if (s.fb n).modeUse = 1 then evalUnit s i (s.fb n).live else s

/-- A commit, or a disarming, acts. -/
def cmpAct (s : State) (i : Nat) (a : Option CmpSet) : State :=
  match a with
  | some c => cmpCommit s i c
  | none => cmpDisarm s i

/-- A write to ARM that is accepted: by SDO or tagged request it acts when it reaches the front-end die, but after those
accepted before it; by process data at the output instant of the tick that takes it in (07 R280). -/
def cmpArmEffect (r : Req) (i : Nat) (arm : Bool) (s : State) : State :=
  let a := if arm then some (stagedSet s (i / 16) (i % 16)) else none
  if isProcessData r then s.modCmp i fun c => { c with arms := c.arms ++ [(a, false)] }
  else if (s.cmp i).arms = [] then ok (cmpAct s i a) r
  else ok (s.modCmp i fun c => { c with arms := c.arms ++ [(a, true)] }) r

/-- The ARM commands that have come with process data are taken in (07 R296 step 2). -/
def armsTaken (s : State) : State :=
  (s.fe.cmp.map (·.1)).foldl (fun s i =>
    if (s.cmp i).arms = [] then s else s.modCmp i fun c => { c with arms := c.arms.map fun a => (a.1, true) }) s

/-- The ARM commands taken in act at the output instant (07 R296 step 4). -/
def armAtOutput (s : State) : State :=
  (s.fe.cmp.map (·.1)).foldl (fun s i =>
    let now := (s.cmp i).arms.takeWhile (·.2)
    if now = [] then s
    else now.foldl (fun s a => cmpAct s i a.1) (s.modCmp i fun c => { c with arms := c.arms.drop now.length })) s

/-- COMPARE_ARM (07 R280). -/
def execCompareArm (r : Req) (n : Axis) (u : Unit16) (s : State) : Out :=
  .next (request s r (K.cmpArm n u) 2 fun s =>
    writeEntry s r (K.cmpArm n u) 1 { set := whenCode (!cmpSetOk s n u) 0x06090030 } (cmpArmEffect r (16 * n + u) true))

/-- COMPARE_DISARM (07 R280). -/
def execCompareDisarm (r : Req) (n : Axis) (u : Unit16) (s : State) : Out :=
  .next (request s r (K.cmpArm n u) 2 fun s =>
    writeEntry s r (K.cmpArm n u) 0 {} (cmpArmEffect r (16 * n + u) false))

/-- COMPARE_FIRE (07 R282, R283): an evaluation of the unit at position `x`. -/
def execCompareFire (n : Axis) (u : Unit16) (x : Int) (s : State) : Out := .next (evalUnit s (16 * n + u) (wrap64 x))

/-- EVENT_PULSE_END (07 R277). -/
def execEventPulseEnd (k : Channel) (s : State) : Out := .next (if (s.ev k).pulse then endPulse s k else s)

/-! ## Input channels (07 R278) -/

/-- EVENT_INPUT_EDGE (07 R278): the ball changes level and has held for FILTER. -/
def execEventInputEdge (k : Channel) (level : Bool) (s : State) : Out :=
  .next (
    let s := s.modEv k fun e => { e with ball := level }
    evShow (if evMode s k = 2 then s.modEv k fun e => { e with filt := level } else s) k)

/-- DEBOUNCE_EXPIRY (07 R278): the channel's level has held for DEBOUNCE. -/
def execDebounceExpiry (k : Channel) (s : State) : Out := .next (evShow (debounced s k (evLevel s k)) k)

/-! ## Capture units (07 R292 to R295) -/

def capStatusBit (s : State) (i b : Nat) (v : Bool) : State := s.setBit (K.capStatus (i / 16) (i % 16)) b v

def capArmEffect (r : Req) (i : Nat) (arm : Bool) (s : State) : State :=
  let on := arm && s.reg (K.capMode (i / 16) (i % 16)) != 0
  let s := if arm then
      (s.modCap i fun _ => { armed := on }).setRegs [(K.capStatus (i / 16) (i % 16), if on then 128 else 0), (K.capSeq (i / 16) (i % 16), 0)]
    else capStatusBit (s.modCap i fun c => { c with armed := false }) i 7 false
  ok s r

/-- CAPTURE_ARM (07 R292, R293). -/
def execCaptureArm (r : Req) (n : Axis) (u : Unit16) (s : State) : Out :=
  .next (request s r (K.capArm n u) 2 fun s =>
    writeEntry s r (K.capArm n u) 1
      { set := whenCode (s.reg (K.capTrigger n u) == 3 && (s.fb n).modeUse == 4) 0x06090030 } (capArmEffect r (16 * n + u) true))

/-- CAPTURE_DISARM (07 R292). -/
def execCaptureDisarm (r : Req) (n : Axis) (u : Unit16) (s : State) : Out :=
  .next (request s r (K.capArm n u) 2 fun s =>
    writeEntry s r (K.capArm n u) 0 {} (capArmEffect r (16 * n + u) false))

/-- The position an SSI port had at time `t`, extrapolated from its last two accepted frames (07 R294). -/
def ssiAt (f : FbPort) (t : Nat) : Int :=
  match f.ssiPrev with
  | none => f.live
  | some (p0, t0) =>
    if f.ssiT ≤ t0 then f.live
    else wrap64 (f.live + wrap64 (f.live - p0) * ((t : Int) - f.ssiT) / ((f.ssiT : Int) - t0))

/-- The value a trigger latches (07 R294): the count in INC, the interpolated value given in SC and RES, the
extrapolated one in SSI. -/
def capValue (f : FbPort) (t : Nat) (interp : Int) : Int :=
  if f.modeUse = 2 ∨ f.modeUse = 3 then wrap64 interp else if f.modeUse = 4 then ssiAt f t else f.live

/-- The trigger that TRIGGER names (07 R292). -/
def capTrigOk (trig : Nat) (e : CapEdge) : Bool :=
  match e with
  | .rising => trig == 0 || trig == 2
  | .falling => trig == 1 || trig == 2
  | .index => trig == 3

/-- CAPTURE_TRIGGER (07 R293, R295): latches POS64 and cell time; without VALID it latches nothing and sets INVALID. -/
def execCaptureTrigger (n : Axis) (u : Unit16) (e : CapEdge) (t : Nat) (interp : Int) (s : State) : Out :=
  .next (
    let i := 16 * n.val + u.val
    if (s.cap i).armed && capTrigOk (s.regN (K.capTrigger n u)) e then
      let one := s.reg (K.capMode n u) == 1
      if s.regBit (K.fbsStatus n) 31 then
        s.modCap i fun c =>
          { c with latched := some (capValue (s.fb n) t interp, t, (s.fb n).modeUse == 4), seq := (c.seq + 1) % 2 ^ 32,
                   pubs := c.pubs + 1, overrun := c.overrun || c.latched.isSome, armed := c.armed && !one }
      else s.modCap i fun c => { c with seq := (c.seq + 1) % 2 ^ 32, pubs := c.pubs + 1, invalid := true, armed := c.armed && !one }
    else s)

/-- 07 R295: captures since the last tick are published together; NEW is set for that tick alone. -/
def publishCaptures (s : State) : State :=
  (s.fe.cap.map (·.1)).foldl (fun s i =>
    let n := i / 16
    let u := i % 16
    let c := s.cap i
    let s := capStatusBit s i 6 (decide (0 < c.pubs))
    if c.pubs = 0 then s
    else
      let s := match c.latched with
        | none => s
        | some (v, t, ex) => capStatusBit (s.setRegs [(K.capValue n u, v), (K.capTime n u, t)]) i 2 ex
      let s := capStatusBit s i 7 c.armed
      let s := if c.invalid then capStatusBit s i 0 true else s
      let s := if c.overrun then capStatusBit s i 1 true else s
      (s.setReg (K.capSeq n u) c.seq).modCap i fun c => { c with latched := none, pubs := 0, invalid := false, overrun := false }) s

end Sys2Proof.Machine
end

