-- ==== Sys2Proof/Machine/Motion.lean ====
section
/-! DEFINITION. What a group and an engine do when they stop: flush, stops, and the loss of an engine (06 R229 to R234,
R267 to R270; 05 R200 to R204). Command ports, engines and groups all call these. -/

namespace Sys2Proof.Machine

/-! ## Groups at a stop -/

def gstBit (s : State) (g i : Nat) (b : Bool) : State := s.setBit (K.gstGrpStatus g) i b

/-- GROUP_STATE takes a value; MOVING and WAITING follow it, and outside state 3 the group waits for no member (06 R229,
R232, R272). -/
def setGroupState (s : State) (g v : Nat) : State :=
  let s := gstBit (gstBit (s.setReg (K.gstGroupState g) v) g 31 (v == 2 || v == 5)) g 28 (v == 3)
  if v = 3 then s else gstBit (gstBit s g 27 false) g 26 false

/-- The segments in the look-ahead window: those planned, up to one with an error (06 R250, R258). -/
def windowOf (q : List Seg) : List Seg := q.takeWhile fun x => x.checked && x.bad == 0

/-- QUEUE_SEGMENTS, QUEUE_FREE, WINDOW_SEGMENTS and SEG_ID_ACTIVE follow the queue (06 R258, R271). -/
def queueShow (s : State) (g : Nat) : State :=
  let q := (s.group g).queue
  s.setRegs [(K.gstQueueSegments g, q.length), (K.gstQueueFree g, 4096 - (q.map (·.units)).sum),
    (K.gstWindowSegments g, (windowOf q).length),
    (K.gstSegIdActive g, if (s.group g).active then ((q.head?.map (·.id)).getD 0 : Nat) else 0)]

/-- Every segment not finished is flushed and reported (06 R269). -/
def flushGroup (s : State) (g status cause : Nat) : State :=
  let q := (s.group g).queue
  let s := s.setRegs [(K.flushStatus g, status), (K.flushFirstId g, ((q.head?.map (·.id)).getD 0 : Nat)),
    (K.flushLastId g, ((q.getLast?.map (·.id)).getD 0 : Nat)), (K.flushCount g, q.length), (K.flushCause g, cause),
    (K.gstPathVelocity g, 0), (K.gstDistToGo g, 0)]
  let s := s.modGrp g fun x =>
    { x with
      queue := [], v := 0, acc := 0, prog := 0, back := false, active := false, spin := .none, stop := none, ticks := 0 }
  queueShow (gstBit s g 25 false) g

/-- The path engine hands a disabled group's bank to NONE (11 R430). -/
def releaseBank (s : State) (g : Nat) : State :=
  let b := (s.group g).bank
  if bankOwner s b = 0x20 ∧ 4 ≤ b ∧ b < 16 then startHandover s b 0 else s

/-- A group reaches enable state 0: every disable request that waits on it completes (02 R81, R82). -/
def groupOff (s : State) (g : Nat) (hg : g < 8) : State :=
  let s := setGroupState (s.setReg (K.grpGroupEnable g) 0) g 0
  let s := s.modGrp g fun x => { x with disable := 0 }
  completeAll (releaseBank s g) (.disable (.group ⟨g, hg⟩)) 0 []

/-- The state in which a stop ends (06 R269): 0 when a disable asked for it or joined it, 6 after a quick stop other
than STOP 2, otherwise 1. The stop is flushed first. -/
def endStop (s : State) (g : Nat) : State :=
  match (s.group g).stop with
  | none => s
  | some st =>
    let dis := (s.group g).disable != 0
    let s := flushGroup s g (if dis then 0x02 else 0x01) st.cause
    let s := if st.quick then emcy (gstBit s g 14 true) 0xFF36 5 g st.cause else s
    if dis then (if hg : g < 8 then groupOff s g hg else s)
    else setGroupState s g (if st.quick && !st.byStop2 then 6 else 1)

/-- A stop that begins, with the deceleration and the jerk in force (06 R268). -/
def newStop (s : State) (g : Nat) (quick : Bool) (cause : Nat) (byStop2 : Bool) : StopSt :=
  ⟨quick, cause, byStop2, true, s.regN (if quick then K.glimQuickDecel g else K.glimStopDecel g),
    s.regN (if quick then K.glimQuickJerk g else K.glimStopJerk g)⟩

/-- A stop of a group (06 R267, R270). A moving group begins to stop; a quick-stop cause turns a controlled stop into a
quick one, and of causes that meet between two ticks of the planner the lower is recorded; a group at rest ends its
stop at once where it stands. A disabled group, or one in state 6, has nothing to stop. -/
def stopGroup (s : State) (g : Nat) (quick byStop2 : Bool) (cause : Nat) : State :=
  let gs := groupState s g
  if gs = 0 ∨ gs = 6 then s
  else if gs = 5 then
    match (s.group g).stop with
    | none => s
    | some st =>
      if quick && !st.quick then
        let c := newStop s g true (if st.new then min st.cause cause else cause) byStop2
        s.modGrp g fun x => { x with stop := some c }
      else if quick == st.quick && st.new then
        s.modGrp g fun x => { x with stop := some { st with cause := min st.cause cause, byStop2 := st.byStop2 && byStop2 } }
      else s
  else
    let c := newStop s g quick cause byStop2
    let s := s.modGrp g fun x => { x with stop := some c }
    if gs = 2 then gstBit (setGroupState s g 5) g 29 false else endStop s g

/-- The quick stop of the group that holds an axis, if any (06 R267). -/
def quickStopOf (s : State) (n cause : Nat) : State :=
  match groupOf s n with
  | some g => stopGroup s g true false cause
  | none => s

/-- A member leaves servo: a moving group quick-stops with MEMBER_LOST (06 R230). -/
def memberLost (s : State) (n cause : Nat) : State :=
  match groupOf s n with
  | some g => if groupMoves s g then stopGroup (gstBit s g 9 true) g true false cause else s
  | none => s

/-- Segment writes that wait for room end with a code (06 R233, R261). -/
def endFull (s : State) (g code : Nat) : State :=
  let w := (s.group g).full
  w.foldl (fun s x => refuse s x.1 code) (s.modGrp g fun x => { x with full := [] })

/-- A drain is done when the queue is empty and the group is at rest (06 R233). -/
def drainDone (s : State) (g : Nat) : State :=
  if (s.group g).disable = 1 ∧ (s.group g).queue = [] ∧ groupMoves s g = false ∧ groupState s g ≠ 0 then
    (if hg : g < 8 then groupOff s g hg else s)
  else s

/-- The DMA of a group reaches state 0 (06 R233, R263). -/
def dmaOff (s : State) (g : Nat) : State :=
  let s := gstBit (s.setReg (K.dmaEnable g) 0) g 24 false
  if hg : g < 8 then completeAll s (.disable (.dma ⟨g, hg⟩)) 0 [] else s

/-- A disable of a group takes its form (06 R233, R270; 02 R82): an abort makes the controlled stop; in state 6, where
nothing is queued, the group is disabled at once. A group that still waits for its bank is disabled once it has it. -/
def disableGroup (s : State) (g : Nat) (abort : Bool) : State :=
  let d := if abort || (s.group g).disable == 2 then 2 else 1
  let s := (s.modGrp g fun x => { x with disable := d, dmaLeft := 0 }).setReg (K.grpGroupEnable g) (if d = 2 then 4 else 3)
  let s := endFull s g 0x0F000011
  let s := if s.reg (K.dmaEnable g) = 0 then s else dmaOff s g
  let gs := groupState s g
  if gs = 0 then s
  else if gs = 6 then (if hg : g < 8 then groupOff s g hg else s)
  else if d = 2 then stopGroup s g false false 3
  else drainDone s g

/-! ## An engine leaves service -/

def engStatusBit (s : State) (n i : Nat) (b : Bool) : State := s.setBit (K.engStatus n) i b

def engState (s : State) (n : Nat) : Nat := s.regN (K.engineState n)

/-- ENGINE_STATE and AXIS_ENABLE become 0, and the requests that wait on the axis complete: enables with `enAbort`,
disables with OK (05 R200, R203, R204; 02 R81, R82). -/
def engineOff (s : State) (n : Nat) (hn : n < 48) (enAbort : Nat) : State :=
  let s := s.setRegs [(K.engineState n, 0), (K.axisEnable n, 0),
    (K.engStatus n, (clearMask (s.regN (K.engStatus n)) 0xF8000000 : Nat))]
  let s := s.modEng n fun e => 
    { e with
      leaving := .no, afterStop := false, feStop := false, ramp := false, fallback := false, out := false, lost := false, first := false, demand := 0,
      spDelta := 0 }
  let s := s.modCm n fun c => { c with enReq := false }
  completeAll (completeAll s (.enable (.axis ⟨n, hn⟩)) enAbort []) (.disable (.axis ⟨n, hn⟩)) 0 []

/-- RESET#, SAFE state, a safe stop and a clamp of the port disable the engine at once (05 R204); a moving group loses
the member with cause `cause` (06 R230). An enable cut so ends with 0x08000022 (05 R200). -/
def disableNow (s : State) (n cause : Nat) : State :=
  if hn : n < 48 then
    if engState s n = 0 then s
    else memberLost (engineOff s n hn 0x08000022) n cause
  else s

end Sys2Proof.Machine
end

