-- ==== Sys2Proof/Machine/Command.lean ====
section
/-! DEFINITION. Command ports (spec/04): DAC codes, the step generator, EN and FLT, range changes, clamps and safe stop. -/

namespace Sys2Proof.Machine

def cmBit (s : State) (n i : Nat) (b : Bool) : State := s.setBit (K.clampCmStatus n) i b

/-- The zero code of a range (04 R149): 0 in UNI, 0x80000 in BIP and HALF. -/
def zeroCode (range : Nat) : Nat := if range = 1 then 0 else 0x80000

/-- DEMAND to DAC code (04 R149, R150): the code, and whether the result was clipped. -/
def dacCode (range : Nat) (invert : Bool) (offset n : Int) : Nat × Bool :=
  let n := if invert then min (-n) (2 ^ 31 - 1) else n
  let d := if range = 1 then (if n < 0 then 0 else n / 2 ^ 11) else 524288 + n / 2 ^ 12
  let d := d + offset
  let c := max 0 (min 1048575 d)
  (c.toNat, decide (c ≠ d) || (range == 1 && decide (n < 0)))

/-- A time in half nanoseconds rounded down to the 2.5 ns of the edge clock. -/
def floor25 (t : Nat) : Nat := t / 5 * 5

/-- What the step generator does in one window (04 R153, R154), times in half nanoseconds: `dir` is the sign of its steps, 0
for none, `last` the direction of the last step sent. -/
structure StepPlan where
  rem : Int
  dir : Int
  last : Int
  sent : Nat
  limited : Bool
  start : Nat
  space : Nat
deriving DecidableEq, Repr

/-- 04 R153 for one window: `quad` is OUTPUT_MODE 3, `period` the tick in half ns, widths in 2.5 ns units. -/
def stepPlan (quad : Bool) (period width low setup stepMax : Nat) (lastDir rem demand : Int) : StepPlan :=
  let acc := rem + demand
  let n := Int.tdiv acc 65536
  let r := acc - n * 65536
  if n = 0 then ⟨r, 0, lastDir, 0, false, 0, 0⟩
  else
    let d : Int := if 0 < n then 1 else -1
    let turn := decide (d ≠ lastDir) && !quad
    let a := if turn then period - setup * 5 else period
    let start := if turn then setup * 5 else 0
    let sp := max (floor25 (a / n.natAbs)) (floor25 (2000000000 / stepMax))
    let w := width * 5 + (if quad then 0 else low * 5)
    let m := if a < w then 0 else min n.natAbs ((a - w) / sp + 1)
    ⟨r + d * ((n.natAbs - m : Nat) : Int) * 65536, d, if m = 0 then lastDir else d, m, decide (m < n.natAbs), start, sp⟩

/-- A value held between the ends of a signed 32-bit entry. -/
def sat32 (v : Int) : Int := max (-2147483648) (min 2147483647 v)

/-! ## The step outputs (04 R153 to R155) -/

/-- The steps of the present window begun by `dt` ns after the output instant (04 R173). -/
def stepsBegun (c : CmPort) (dt : Nat) : Nat :=
  ((List.range c.winSteps).filter fun i => decide (c.winStart + c.winSpace * i ≤ 2 * dt)).length

/-- One step of a quadrature signal (04 R154): one edge, and upward A leads B. -/
def quadStep (up : Bool) (ab : Bool × Bool) : Bool × Bool := if up then (!ab.2, ab.1) else (ab.2, !ab.1)

def quadSteps (up : Bool) : Nat → Bool × Bool → Bool × Bool
  | 0, ab => ab
  | k + 1, ab => quadStep up (quadSteps up k ab)

/-- Tracks A and B once `k` steps of the window have been sent (04 R154). -/
def tracks (c : CmPort) (k : Nat) : Bool × Bool := quadSteps (decide (0 < c.winDir)) k (c.stp, c.dir)

/-- A step pulse is up `dt` ns after the output instant (04 R153 step 4): step i is up for PULSE_WIDTH from its rise. -/
def pulseUp (s : State) (n : Nat) (c : CmPort) (dt : Nat) : Bool :=
  (List.range c.winSteps).any fun i =>
    decide (c.winStart + c.winSpace * i ≤ 2 * dt) && decide (2 * dt < c.winStart + c.winSpace * i + 5 * s.regN (K.stepPulseWidth n))

/-- The levels of STP+ and DIR+ before STEP_POLARITY, `dt` ns after the output instant (04 R153 to R155): idle is low. -/
def stepLines (s : State) (n dt : Nat) : Bool × Bool :=
  let c := s.cm n
  if s.reg (K.cmOutputMode n) = 3 then tracks c (stepsBegun c dt) else (pulseUp s n c dt, c.dir)

/-- The balls STP+ and DIR+ of a port, `dt` ns after the output instant (04 R155): STEP_POLARITY bit 0 inverts step and bit 1
direction; none while the drivers float (04 R166 step 1). -/
def stepBalls (s : State) (n dt : Nat) : Option (Bool × Bool) :=
  let l := stepLines s n dt
  if (s.cm n).driven then some (l.1 != s.regBit (K.stepPolarity n) 0, l.2 != s.regBit (K.stepPolarity n) 1) else none

/-- The present window is over: the tracks stay where its steps have led them, and nothing more is sent in it. -/
def endWindow (s : State) (n : Nat) : State :=
  s.modCm n fun c =>
    let ab := if s.reg (K.cmOutputMode n) = 3 then tracks c c.winSteps else (false, c.dir)
    { c with stp := ab.1, dir := ab.2, winSteps := 0 }

/-- The step outputs idle, and DIR holds its level (04 R157, R173). -/
def idleSteps (c : CmPort) (dir : Bool) : CmPort := { c with stp := false, dir := dir, winSteps := 0 }

/-! ## Range change (04 R168 to R171) -/

/-- Step 1 of 04 R169. -/
def startRange (s : State) (n v : Nat) (r : Req) : State :=
  let s := s.setReg (K.cmRange n) v
  if (s.cm n).causes = [] then
    await (cmBit (s.modCm n fun c => { c with rangePhase := 1, rangeNew := v }) n 28 true) (.range n) r
  else
    await (cmBit (s.modCm n fun c => { c with rangePhase := 4, rangeNew := v, rangeUse := v }) n 28 true) (.range n) r

/-- A range change ends: RANGE_BUSY clears, the write completes, and a second write that waited begins (04 R168). -/
def endRange (s : State) (n : Nat) : State :=
  let s := cmBit (s.modCm n fun c => { c with rangePhase := 0 }) n 28 false
  let s := completeAll s (.range n) 0 []
  match (s.cm n).rangeQ with
  | [] => s
  | (r, v) :: t =>
    let s := s.modCm n fun c => { c with rangeQ := t }
    if s.regN (K.cmRange n) = v then ok s r else startRange s n v r

/-! ## Clamps (04 R171 to R173) -/

/-- A pulse is cut short at `dt` ns after the output instant: RUNT (04 R173). In quadrature there is no pulse to cut (04 R154). -/
def pulseCut (s : State) (n : Nat) (c : CmPort) (dt : Nat) : Bool := pulseUp s n c dt && s.reg (K.cmOutputMode n) != 3

/-- A clamp closes on a port for a cause, `dt` ns after the last output instant: the clamped state of 04 R173. A cause
that comes while the clamp is closed joins the causes and does not count (04 R161). A range change goes on under the clamp, and
one that waits only for its output instant is over (04 R171). -/
def closeClamp (s : State) (n cause dt : Nat) : State :=
  let c := s.cm n
  if c.causes.contains cause then s
  else if c.causes ≠ [] then s.modCm n fun c => { c with causes := c.causes ++ [cause] }
  else
    let b := stepsBegun c dt
    let s := if c.en && pulseCut s n c dt then cmBit s n 13 true else s
    let s := s.setReg (K.stepsEmitted n) (wrap64 (s.reg (K.stepsEmitted n) - c.winDir * ((c.winSteps - b : Nat) : Int)))
    let s := s.setReg (K.stepRemainder n) 0
    let s := cmBit (cmBit (cmBit s n 31 false) n 30 false) n 27 false
    let s := engStatusBit s n 25 false
    let lines := stepLines s n dt
    let s := s.modCm n fun c =>
      { idleSteps c lines.2 with
        causes := [cause], closings := c.closings + 1, told := false, en := false, enReq := false, settled := false,
        lastDir := 0, rem := 0, missed := 0, rangeUse := if c.rangePhase = 1 then c.rangeNew else c.rangeUse,
        rangePhase := if c.rangePhase = 1 then 4 else c.rangePhase }
    if (s.cm n).rangePhase = 5 then endRange s n else s

/-- A clamp closes and the engine that feeds the port is disabled at once (05 R204). -/
def clampPort (s : State) (n cause dt fcause : Nat) : State := disableNow (closeClamp s n cause dt) n fcause

/-- A device-wide source clamps all 48 ports (04 R172) and closes the gate of the event outputs (07 R289). -/
def clampAll (s : State) (cause dt : Nat) : State :=
  gateEvents (forN 48 (fun s n => clampPort s n cause dt 5) s)

/-- Causes end on a port; with none left the clamp opens at the zero code, EN low (04 R178). -/
def openClamp (s : State) (n : Nat) (ended : Nat → Bool) : State :=
  let c := s.cm n
  let left := c.causes.filter fun x => !ended x
  if left = c.causes then s
  else
    let s := s.modCm n fun c => { c with causes := left, told := false }
    if left = [] then s.setReg (K.cmDacCode n) (zeroCode (s.regN (K.cmRange n))) else s

/-- The logic die is informed of clamps at the first tick after they close or open (04 R161, R174 step 6), and of safe
stops by emergency 0xFF23 (04 R176); nothing is reported while the bridge is down. -/
def reportClamps (s : State) : State :=
  if s.fe.bridgeDown then s
  else
    let s := forN 48 (fun s n =>
      let c := s.cm n
      if c.told then s
      else
        let s := cmBit s n 29 (decide (c.causes ≠ []))
        let s := s.setReg (K.clampCause n) ((c.causes.head?.getD 0 : Nat) : Int)
        let s := s.bumpBy (K.clampCount n) 32 c.closings
        s.modCm n fun c => { c with told := true, closings := 0 }) s
    let owed := s.fe.safe.owed
    let s := s.modSafe fun x => { x with owed := [] }
    owed.foldl (fun s src => emcy s 0xFF23 5 0xFF src) s

/-- A safe-stop event: counted and reported whether or not the ports were clamped (04 R176). -/
def safeStopEvent (s : State) (src dt : Nat) : State :=
  let s := s.modSafe fun x => { x with stop := true, cond := false, owed := x.owed ++ [src] }
  let s := (s.bump K.safeStopCount 32).setRegs [(K.safeLastSource, src), (K.safeStopState, 1)]
  clampAll s src dt

/-- SAFE_STOP_FALL (04 R174 step 1): qualification begins, and the 1 ms of 04 R176 starts anew. -/
def safeStopFalls (s : State) : State :=
  let s := s.modSafe fun x => { x with pin := false, qualPend := true, cond := false }
  if s.reg K.safeStopState = 2 then s.setReg K.safeStopState 1 else s

def execSafeStopFall (s : State) : Out := .next (safeStopFalls s)

/-- SAFE_STOP_QUALIFIED (04 R174). -/
def execSafeStopQualified (dt : Nat) (s : State) : Out :=
  .next (if !s.fe.safe.pin && s.fe.safe.qualPend && s.fe.ana18 then
    safeStopEvent (s.modSafe fun x => { x with qualPend := false }) 1 dt else s)

/-- SAFE_STOP_RISE (04 R176). A low that was not qualified is forgotten (04 R174 step 2). -/
def execSafeStopRise (s : State) : Out := .next (s.modSafe fun x => { x with pin := true, qualPend := false, cond := false })

/-- SAFE_STOP_RELEASABLE (04 R176): SAFE_STOP# high and the watchdog served, both for 1 ms. A halted SC3 serves no watchdog
(17 R618). -/
def execSafeStopReleasable (s : State) : Out :=
  .next (if s.fe.safe.pin && s.reg K.safeStopState == 1 && !s.life.halted.testBit 3 then
    (s.modSafe fun x => { x with cond := true, wdServed := true }).setReg K.safeStopState 2 else s)

/-- SAFE_STOP_RELEASE (04 R176, R178): the clamps of SAFE_STOP# and the device watchdog open. -/
def execSafeStopRelease (r : Req) (s : State) : Out :=
  .next (request s r K.safeStopRelease 2 fun s =>
    writeEntry s r K.safeStopRelease 1 { state := whenCode (s.reg K.safeStopState == 1) 0x08000022 } fun s =>
      let s := s.modSafe fun x => { x with stop := false }
      let s := forN 48 (fun s n => openClamp s n fun c => c == 1 || c == 2) s
      ok (forN 32 evShow (s.setReg K.safeStopState 0)) r)

/-- DEVICE_WATCHDOG_EXPIRY (18 R644, 04 R172). -/
def execDeviceWatchdogExpiry (dt : Nat) (s : State) : Out :=
  .next (safeStopEvent (s.modSafe fun x => { x with wdServed := false }) 2 dt)

/-- CLAMP_RELEASE (04 R177). -/
def execClampRelease (r : Req) (n : Axis) (s : State) : Out :=
  .next (request s r (K.cmClampRelease n) 2 fun s =>
    writeEntry s r (K.cmClampRelease n) 1 { state := whenCode (deviceClamp s || (s.cm n).unusable) 0x08000022 } fun s =>
      ok (openClamp s n fun c => c == 4 || c == 5) r)

/-- CM_STATUS_CLEAR (04 R161): bits 14:9. -/
def execCmStatusClear (r : Req) (n : Axis) (s : State) : Out :=
  .next (request s r (K.clampClear n) 2 fun s =>
    writeEntry s r (K.clampClear n) 1 {} fun s =>
      ok (s.setReg (K.clampCmStatus n) (clearMask (s.regN (K.clampCmStatus n)) 0x7E00 : Nat)) r)

/-- COMMAND_WATCHDOG_EXPIRY (01 R13, 04 R159): with EN high, no received update has been applied by I + 2P. One that has been
received and waits for an output instant that does not come is none. -/
def execCommandWatchdogExpiry (n : Axis) (s : State) : Out :=
  .next (
    let c := s.cm n
    if c.en && c.causes.isEmpty then
      let s := cmBit (clampPort s n 4 (2 * s.regN K.rateTickPeriod) 5) n 10 true
      if s.fe.bridgeDown then s else emcy s 0xFF22 5 n 0
    else s)

/-! ## FLT (04 R158) -/

/-- The FLT level after polarity and filter: a fault. -/
def faultLevel (s : State) (n : Nat) : Bool := (s.cm n).fltFilt != (s.reg (K.drvFaultPolarity n) == 1)

/-- FLT_LEVEL shows the filtered level at all times (04 R162). -/
def showFlt (s : State) (n : Nat) : State := cmBit s n 25 (faultLevel s n)

/-- A qualified fault (04 R158). An enable still running is cut (05 R200). -/
def qualifyFault (s : State) (n dt : Nat) : State :=
  let s := emcy (cmBit s n 11 true) 0xFF21 5 n 0
  let act := s.regN (K.drvFaultAction n)
  let s := if act = 2 then quickStopOf s n 4 else s
  if act = 0 then (if engState s n = 1 then disableNow (s.modCm n fun c => { c with enReq := false }) n 4 else s)
  else clampPort s n 5 dt 4

/-- FAULT_INPUT_EDGE (04 R158): the filter starts. -/
def execFaultInputEdge (n : Axis) (level : Bool) (s : State) : Out :=
  .next (s.modCm n fun c => { c with fltBall := level, fltPend := level != c.fltFilt })

/-- FAULT_QUALIFIED (04 R158): the new level has held for FAULT_FILTER. FLT is read only with EN high and SETTLED. -/
def execFaultQualified (n : Axis) (dt : Nat) (s : State) : Out :=
  .next (
    if (s.cm n).fltPend then
      let s := s.modCm n fun c => { c with fltFilt := c.fltBall, fltPend := false }
      let f := faultLevel s n
      let s := showFlt s n
      if (s.cm n).en && (s.cm n).settled then
        let s := cmBit s n 27 f
        if f then qualifyFault s n dt else s
      else s
    else s)

/-- ENABLE_SETTLED (04 R157, R158): a fault level that has already held for FAULT_FILTER is qualified now. A change of FLT that
has not held so long yet is none. -/
def execEnableSettled (n : Axis) (s : State) : Out :=
  .next (
    if (s.cm n).en && !(s.cm n).settled then
      let s := cmBit (s.modCm n fun c => { c with settled := true }) n 30 true
      let f := faultLevel s n
      let s := cmBit s n 27 f
      if f then qualifyFault s n 0 else s
    else s)

/-! ## The commands of a range change (04 R168 to R171) -/

/-- The set-point of an axis changes from tick to tick (04 R168). -/
def setpointMoves (s : State) (n : Nat) : Bool := decide (engState s n ≠ 0) && decide ((s.engine n).spDelta ≠ 0)

def rangeMoving (s : State) (n : Nat) : Bool :=
  match groupOf s n with
  | some g => groupMoves s g
  | none => setpointMoves s n

/-- An accepted write to RANGE. -/
def rangeEffect (r : Req) (n v : Nat) (s : State) : State :=
  if (s.cm n).rangePhase ≠ 0 then s.modCm n fun c => { c with rangeQ := c.rangeQ ++ [(r, v)] }
  else if s.regN (K.cmRange n) = v then ok s r
  else startRange s n v r

/-- RANGE_CHANGE (04 R168, R169). -/
def execRangeChange (r : Req) (n : Axis) (v : BitVec 8) (s : State) : Out :=
  .next (request s r (K.cmRange n) 2 fun s =>
    writeEntry s r (K.cmRange n) v.toNat { move := whenCode (rangeMoving s n) 0x0F000001 } (rangeEffect r n v.toNat))

/-- RANGE_RAMP_DONE (04 R169 steps 2 and 3): the clamp closes, the network switches, the zero code is loaded. -/
def execRangeRampDone (n : Axis) (s : State) : Out :=
  .next (
    if (s.cm n).rangePhase = 1 then
      (s.modCm n fun c => { c with rangePhase := 4, rangeUse := c.rangeNew }).setReg (K.cmDacCode n) (zeroCode (s.cm n).rangeNew)
    else s)

/-- RANGE_SETTLE_DONE (04 R169 step 5, R171): the clamp opens, or stays closed and the write completes. -/
def execRangeSettleDone (n : Axis) (s : State) : Out :=
  .next (
    if (s.cm n).rangePhase = 4 then
      let s := (s.modCm n fun c => { c with rangePhase := 5 }).setReg (K.cmDacCode n) (zeroCode (s.cm n).rangeUse)
      if (s.cm n).causes = [] then s else endRange s n
    else s)

/-! ## The output instant (01 R21 step 6) -/

/-- EN changes at an output instant (04 R157). -/
def enOutput (s : State) (n : Nat) : State :=
  let c := s.cm n
  let want := c.enReq && decide (s.reg (K.cmOutputMode n) ≠ 0) && !c.unusable
  if want && !c.en then
    engStatusBit (cmBit (s.modCm n fun c => { c with en := true, settled := false, missed := 0 }) n 31 true) n 25 true
  else if !want && c.en then
    let s := s.modCm n fun c => { idleSteps c c.dir with en := false, settled := false, dem := 0 }
    engStatusBit (cmBit (cmBit (cmBit s n 31 false) n 30 false) n 27 false) n 25 false
  else s

/-- The DAC takes its code (04 R147, R149, R150). -/
def dacOutput (s : State) (n : Nat) : State :=
  let c := s.cm n
  if c.en && c.settled && s.reg (K.cmOutputMode n) == 1 then
    if c.rangePhase = 0 ∨ c.rangePhase = 5 then
      let d := dacCode c.rangeUse (s.reg (K.cmAoutInvert n) == 1) (s.reg (K.cmAoutOffset n)) c.dem
      let s := s.setReg (K.cmDacCode n) d.1
      if d.2 then cmBit s n 12 true else s
    else s
  else if c.rangePhase = 0 ∨ c.rangePhase = 5 then s.setReg (K.cmDacCode n) (zeroCode c.rangeUse)
  else s

/-- The step generator takes the demand of the window (04 R153). -/
def stepOutput (s : State) (n : Nat) : State :=
  let c := s.cm n
  let m := s.regN (K.cmOutputMode n)
  if c.en && c.settled && (m == 2 || m == 3) then
    let p := stepPlan (m == 3) (2 * s.regN K.rateTickPeriod) (s.regN (K.stepPulseWidth n)) (s.regN (K.stepMinLow n))
      (s.regN (K.stepDirSetup n)) (s.regN (K.stepMax n)) c.lastDir c.rem c.dem
    let s := s.modCm n fun c =>
      { c with
        rem := p.rem, lastDir := p.last, winDir := p.dir, winSteps := p.sent, winStart := p.start, winSpace := p.space,
        dir := if m = 3 ∨ p.dir = 0 then c.dir else decide (0 < p.dir) }
    let s := s.setRegs [(K.stepRemainder n, sat32 p.rem), (K.stepsEmitted n, wrap64 (s.reg (K.stepsEmitted n) + p.dir * p.sent))]
    if p.limited then cmBit s n 14 true else s
  else s

/-- The port is between step 1 of a range change and its end: the engine's output is not applied (04 R169). -/
def rangeHolds (c : CmPort) : Bool := c.rangePhase != 0 && c.rangePhase != 5

/-- A received update is applied (04 R162, R166 step 4, R169 step 6). -/
def applyUpdate (s : State) (n : Nat) : State :=
  let s := stepOutput (dacOutput (s.setReg (K.cmDemand n) (s.cm n).dem) n) n
  let s := if (s.cm n).demServo && !(s.cm n).firstWrite then cmBit (s.modCm n fun c => { c with firstWrite := true }) n 26 true else s
  if (s.cm n).rangePhase = 5 then endRange s n else s

/-- A port at an output instant (04 R157, R159, R166, R169 step 6): a received update is applied; without one the DAC
holds its code, the step generator sends nothing, and a miss is counted. An update that a range change keeps back is no
miss. -/
def portOutput (s : State) (n : Nat) : State :=
  let c := s.cm n
  if !c.driven || c.causes ≠ [] then s.modCm n fun c => { c with fresh := false }
  else
    let s := enOutput (endWindow s n) n
    if c.fresh then
      let s := s.modCm n fun c => { c with fresh := false, missed := 0 }
      if rangeHolds c then s else applyUpdate s n
    else s.modCm n fun c => { c with missed := if c.en then c.missed + 1 else 0 }

/-! ## Rails and readback -/

/-- Every port starts again at step 2 of 04 R166: zero code, EN low, step idle, DIR low, clamp open but for causes that
stay. -/
def restartPort (s : State) (n range : Nat) (ended : Nat → Bool) : State :=
  let s := openClamp s n ended
  let s := s.modCm n fun c =>
    { idleSteps c false with driven := true, en := false, enReq := false, settled := false, dem := 0, fresh := false, rangeUse := range }
  (cmBit (cmBit s n 31 false) n 30 false).setReg (K.cmDacCode n) (zeroCode range)

/-- SAFE_STOP# low at the moment the ports start is taken as a fall at that instant (04 R179). -/
def stopIfLow (s : State) : State := if s.fe.safe.pin then s else safeStopEvent s 1 0

/-- ANALOG_RAILS_GOOD (04 R166 step 2, R179). A RESET# that is low clamps every port from here on (04 R172). -/
def execAnalogRailsGood (s : State) : Out :=
  .next (
    let s := { s with fe := { s.fe with ana18 := true, ana50 := true } }
    let s := forN 48 (fun s n => restartPort s n 0 fun c => c == 8) s
    stopIfLow (if s.fe.safe.resetTaken then clampAll s 3 0 else s))

/-- ANA50_LOSS (04 R167): every clamp closes with cause 8 while VCC_ANA18 holds, and every engine is disabled. -/
def execAna50Loss (dt : Nat) (s : State) : Out :=
  .next (
    let s := { s with fe := { s.fe with ana50 := false } }
    if s.fe.ana18 then forN 48 (fun s n => clampPort s n 8 dt 5) s else s)

/-- ANA50_RESTORED (04 R167). -/
def execAna50Restored (s : State) : Out :=
  .next (
    if s.fe.ana18 && !s.fe.ana50 then
      forN 48 (fun s n => restartPort s n (s.regN (K.cmRange n)) fun c => c == 8) { s with fe := { s.fe with ana50 := true } }
    else s)

/-- The voltage of a code in units of 1 uV / 2^20 (04 R149). -/
def codeMicrovolts (range code : Nat) : Int :=
  if range = 1 then (code : Int) * 2500000
  else if range = 2 then ((code : Int) - 524288) * 2500000
  else ((code : Int) - 524288) * 5000000

/-- AOUT_READBACK (04 R163): skipped while clamped or while RANGE_BUSY is set; 0xFF27 once as AOUT_CHECK is set. -/
def execAoutReadback (n : Axis) (microvolts : Int) (s : State) : Out :=
  .next (
    let c := s.cm n
    if c.causes.isEmpty && c.driven && !s.regBit (K.clampCmStatus n) 28 then
      let dev := microvolts * 2 ^ 20 - codeMicrovolts c.rangeUse (s.regN (K.cmDacCode n))
      if 20000 * 2 ^ 20 < dev.natAbs && !s.regBit (K.clampCmStatus n) 9 then
        emcy (cmBit s n 9 true) 0xFF27 5 n (ofSigned 32 microvolts)
      else s
    else s)

end Sys2Proof.Machine
end

