-- ==== Sys2Proof/Config.lean ====
section
/-! DEFINITION. What the spec leaves to the device: free values, which nothing constrains, and functions whose result
the spec bounds but does not state. None has a body: no proof can see a value. -/

namespace Sys2Proof.Machine

/-- The `i`-th free value: a number that the spec does not state. -/
opaque Config.free : Nat → Nat

/-- How function `i` rounds its result for an argument (05 R188): the spec leaves the last place open. -/
opaque Config.lastPlace : Nat → F64 → Nat

/-- The plant and die behind a measured quantity: the value a sensor or a search yields (by its own number). -/
opaque Config.measured : Nat → Nat → Nat

/-- Byte `j` of the vendor's `i`-th public key: the island's mask ROM (0), firmware (1), transitions (2), attestation and
debug (3) (14 R518; 17; 19). -/
opaque Config.vendorByte : Nat → Nat → Nat

/-- Byte `j` of the transport key TK that Waihotrum writes into the unit's fuses (17 R606). -/
opaque Config.transportByte : Nat → Nat

/-- What the TRNG gives for the `i`-th attestation key that could be drawn (02 R86). -/
opaque Config.attestDraw : Nat → Nat

/-- Byte `j` of test-unlock token `i` in the unit's fuses (17 R606). -/
opaque Config.tokenByte : Nat → Nat → Nat

end Sys2Proof.Machine
end

