-- ==== Sys2Proof/Machine/Trig.lean ====
section
/-! DEFINITION. Sine, cosine, angle and square root on integers, for interpolation (03 R108) and for curves
(06 R240, R242). An angle is a count of turns times 2 ^ 64; a sine is a count of units of 2 ^ -96. -/

namespace Sys2Proof.Machine

/-- Pi times 2 ^ 96. -/
def piFix : Int := 248902613312231085230521944622

/-- The series of sine (`j` starts at 1, `t` at the angle) or of cosine (0 and 1), with terms below 2 ^ -96 left out. -/
def trigSeries (x2 : Int) : Nat → Nat → Int → Int → Int
  | 0, _, _, acc => acc
  | fuel + 1, j, t, acc => trigSeries x2 fuel (j + 2) (-(t * x2 / 2 ^ 96) / (((j + 1) * (j + 2) : Nat) : Int)) (acc + t)

/-- Sine of an angle in radians times 2 ^ 96, for angles up to a quarter turn. -/
def sinRad (x : Int) : Int := trigSeries (x * x / 2 ^ 96) 20 1 x 0

/-- Cosine of an angle in radians times 2 ^ 96, for angles up to a quarter turn. -/
def cosRad (x : Int) : Int := trigSeries (x * x / 2 ^ 96) 20 0 (2 ^ 96) 0

/-- Radians times 2 ^ 96 of turns times 2 ^ 64. -/
def turnRad (t : Int) : Int := t * 2 * piFix / 2 ^ 64

/-- Sine and cosine of a count of turns times 2 ^ 64. -/
def sinCos (t : Int) : Int × Int :=
  let u := t % 2 ^ 64
  let r := turnRad (u % 2 ^ 62)
  let s := sinRad r
  let c := cosRad r
  let q := u / 2 ^ 62
  if q = 0 then (s, c) else if q = 1 then (c, -s) else if q = 2 then (-s, -c) else (-c, s)

/-- The natural logarithm of 10 times 2 ^ 96. -/
def ln10Fix : Int := 182429585950654714090129938606

/-- The series of the exponential of `z` times 2 ^ -96: `t` is the term of order `j`. -/
def expSeries (z : Int) : Nat → Nat → Int → Int → Int
  | 0, _, _, acc => acc
  | fuel + 1, j, t, acc => expSeries z fuel (j + 1) (t * z / 2 ^ 96 / ((j + 1 : Nat) : Int)) (acc + t)

/-- The exponential of a number from 0 to 7, both times 2 ^ 96. -/
def expFix (z : Int) : Int := expSeries z 64 0 (2 ^ 96) 0

/-- A vector turned into the first quarter, and the quarter it came from. -/
def toQuarter (y x : Int) : Nat × Int × Int :=
  if 0 < x ∧ 0 ≤ y then (0, y, x)
  else if 0 < y then (1, -x, y)
  else if x < 0 then (2, -y, -x)
  else (3, x, -y)

/-- The largest step `k` below 2 ^ m, refined from `lo` bit by bit, at which the vector has not yet been passed. The
slack covers the last places of the sines, so that a step met exactly counts as reached. -/
def bisect (m : Nat) (y x : Int) : Nat → Nat → Nat
  | 0, lo => lo
  | b + 1, lo =>
    let k := lo + 2 ^ b
    let sc := sinCos ((k : Int) * 2 ^ (62 - m))
    bisect m y x b (if x * sc.1 ≤ y * sc.2 + 64 * (x + y) then k else lo)

/-- atan2(y, x) over one turn, truncated to 2 ^ (m + 2) steps, for a vector other than zero. -/
def angleOf (m : Nat) (y x : Int) : Nat :=
  let q := toQuarter y x
  q.1 * 2 ^ m + bisect m q.2.1 q.2.2 m 0

/-- Newton's steps towards the integer square root from above. -/
def sqrtSteps (n : Nat) : Nat → Nat → Nat
  | 0, g => g
  | fuel + 1, g =>
    let g' := (g + n / g) / 2
    if g' < g then sqrtSteps n fuel g' else g

/-- The integer part of the square root. -/
def isqrt (n : Nat) : Nat := if n = 0 then 0 else sqrtSteps n (Nat.log2 n + 5) (2 ^ (Nat.log2 n / 2 + 1))

end Sys2Proof.Machine
end

