-- ==== Sys2Proof/Machine/Feedback.lean ====
section
/-! DEFINITION. Feedback ports (spec/03): POS64 in the four modes, flags, references, scaling. -/

namespace Sys2Proof.Machine

/-! ## STATUS (03 R130, R131) -/

def fbBit (s : State) (n i : Nat) (b : Bool) : State := s.setBit (K.fbsStatus n) i b

/-- Bits 14:1: the error and warning flags. -/
def flagMask : Nat := 0x7FFE

/-- Bits 14:1 but AMP_WARN: the flags that clear VALID (03 R131). -/
def hardMask : Nat := 0x5FFE

/-- The flags that clear HOMED (03 R131): AMP_LOW in SC and RES, the SSI flags with WRAP 1. -/
def homedMask (mode : Nat) (wrap : Bool) : Nat :=
  0x43CE + (if mode = 2 ∨ mode = 3 then 0x10 else 0) + (if wrap then 0x1C00 else 0)

/-- Flags are set: those newly set are counted, clear VALID, and raise 0xFF25 and 0xFF26; HOMED clears with each loss of
position, whether or not its flag stands already (03 R130 to R132). -/
def raiseFlags (s : State) (n mask : Nat) : State :=
  let s := if mask &&& homedMask (s.fb n).modeUse (s.reg (K.ssiWrap n) == 1) ≠ 0 then fbBit s n 30 false else s
  let st := s.regN (K.fbsStatus n)
  let new := clearMask (mask &&& flagMask) st
  if new = 0 then s
  else
    let s := s.setReg (K.fbsStatus n) (st ||| new : Nat)
    let s := s.bumpBy (K.fbErrorCount n) 32 (popCount new 16)
    let s := if new &&& hardMask ≠ 0 then gapPort (fbBit s n 31 false) n else s
    let s := if new &&& hardMask ≠ 0 then emcy s 0xFF25 5 n new else s
    if new.testBit 13 then emcy s 0xFF26 7 n new else s

/-- The conditions among `which` that hold now are remembered for CLEAR, and raise their flags. -/
def conditions (s : State) (n which now : Nat) : State :=
  raiseFlags (s.modFb n fun f => { f with cond := clearMask f.cond which ||| now }) n now

/-- VALID is set once the port has a position and no flag but AMP_WARN stands (03 R99, R131). -/
def becomeValid (s : State) (n : Nat) : State :=
  let f := s.fb n
  if f.started && !f.modePend && decide (f.modeUse ≠ 0) && decide (s.regN (K.fbsStatus n) &&& hardMask = 0) then
    evalInc (fbBit s n 31 true) n
  else s

/-- POS64 takes a value; beyond 64 bits it wraps and OVERFLOW is set (03 R101). Compare units see it (07 R283). -/
def setLive (s : State) (n : Nat) (v : Int) : State :=
  let s := if wrap64 v = v then s else fbBit s n 27 true
  evalPort (s.modFb n fun f => { f with live := wrap64 v }) n

/-! ## Configuration (03 R95 to R97, R116) -/

/-- The excitation frequency that a port uses, in Hz (03 R116). -/
def excFreq (s : State) (n : Nat) : Nat :=
  let m := s.regN (K.resExcSource n)
  s.regN (K.resExcFreq (if m < 48 then m else n))

/-- The tracking bandwidth of TRACK_BW in Hz (03 R118). -/
def trackHz (bw : Nat) : Nat := 250 * 2 ^ bw

/-- The set of mode entries of a port is consistent for its MODE (03 R97, R116, R123, R136). -/
def fbSetOk (s : State) (n : Nat) : Bool :=
  let mode := s.regN (K.fbMode n)
  if mode = 3 then decide (8 * trackHz (s.regN (K.resTrackBw n)) ≤ excFreq s n)
  else if mode = 4 then
    decide (s.regN (K.ssiPosLsb n) + s.regN (K.ssiPosWidth n) ≤ s.regN (K.ssiFrameBits n))
      && (s.reg (K.ssiParity n) == 0 || decide (1 ≤ s.regN (K.ssiPosLsb n)))
      && s.reg (K.refMode n) == 0
  else true

/-- MODE or DIR_INVERT changes: VALID and HOMED clear at once, the new mode is entered at the next tick (03 R96). -/
def fbChange (s : State) (n key v : Nat) : State :=
  if s.regN key = v then s
  else
    let s := fbBit (fbBit (s.setReg key v) n 31 false) n 30 false
    gapPort (s.modFb n fun f => { f with modePend := true, started := false }) n

def fbCfgKey (n : Nat) : FbCfg → Nat
  | .mode => K.fbMode n
  | .dirInvert => K.fbDirInvert n

/-- FEEDBACK_MODE_WRITE (03 R95 to R97, R93, R140). -/
def execFeedbackModeWrite (r : Req) (n : Axis) (e : FbCfg) (v : BitVec 8) (s : State) : Out :=
  .next (request s r (fbCfgKey n e) 2 fun s =>
    let bad := decide (e = .mode) && ((s.fb n).unusable && decide (v ≠ 0)
      || decide (v ≠ 0) && !fbSetOk (s.setReg (K.fbMode n) v.toNat) n)
    writeEntry s r (fbCfgKey n e) v.toNat
      { state := whenCode (s.fb n).tapped 0x08000022, set := whenCode bad 0x06090030 }
      fun s => ok (fbChange s n (fbCfgKey n e) v.toNat) r)

/-- What a pair of a port does in the mode in use (R88, R115): an excitation taken from elsewhere leaves the port's own X pair
at high impedance. -/
def pairUse (s : State) (n : Nat) (pair : FbPair) : PairUse :=
  match (s.fb n).modeUse, pair with
  | 1, .x => .pullDown
  | 1, _ => .receiver
  | 2, .x => .pullDown
  | 2, _ => .analogue
  | 3, .z => .highZ
  | 3, .x => if s.reg (K.resExcSource n) = 0xFF then .excitation else .highZ
  | 3, _ => .analogue
  | 4, .z => .receiver
  | 4, .x => .clockOut
  | 4, _ => .highZ
  | _, .x => .pullDown
  | _, _ => .highZ

/-- The sine that a port puts out at X: its frequency in Hz and its amplitude in mVpp (R115). -/
def excitation (s : State) (n : Nat) : Option (Nat × Nat) :=
  if pairUse s n .x = .excitation then some (s.regN (K.resExcFreq n), s.regN (K.resExcAmpl n)) else none

/-- A pair is terminated with 120 ohms: by TERMINATION in INC, at Z alone in SSI; in SC the input itself is 120 ohms (R89,
R95). -/
def terminated (s : State) (n : Nat) (pair : FbPair) : Bool :=
  let t := s.regN (K.fbTermination n)
  match (s.fb n).modeUse, pair with
  | 1, .a => t.testBit 0
  | 1, .b => t.testBit 1
  | 1, .z => t.testBit 2
  | 2, .a => true
  | 2, .b => true
  | 4, .z => t.testBit 2
  | _, _ => false

/-- The new mode begins (03 R96, R99): INC counts from 0 at once; the others wait for a first valid value. A phase
measurement that runs ends without one (log learnCut). -/
def enterMode (s : State) (n : Nat) : State :=
  let mode := s.regN (K.fbMode n)
  let s := if (s.fb n).learnOk.isSome then completeAll s (.learn n) 0x08000022 [] else s
  let s := s.modFb n fun f =>
    { stat := f.stat, a := f.a, b := f.b, unusable := f.unusable, tapped := f.tapped, homeSeen := f.homeSeen,
      modeUse := mode, dirUse := s.reg (K.fbDirInvert n) == 1, started := mode == 1,
      originPend := f.originPend, clearPend := f.clearPend,
      corr := [s.reg (K.scOffsetA n), s.reg (K.scOffsetB n), s.reg (K.scGainA n), s.reg (K.scGainB n), s.reg (K.scPhase n)] }
  becomeValid (fbBit (fbBit s n 29 false) n 28 false) n

/-! ## INC (03 R103 to R106) -/

/-- Where the two tracks stand in the order in which they pass when A leads B (03 R103). -/
def quadPhase (a b : Bool) : Nat := if a then (if b then 2 else 1) else (if b then 3 else 0)

/-- INC_EDGE at a feedback port (03 R103, R104): counts, or sets QUAD where both tracks change; the count of an illegal transition is a
free value within two counts. `fast` says that more than 40 counts arrived within 1 us. -/
def portEdge (n : Nat) (a b fast : Bool) (s : State) : State :=
  let f := s.fb n
  let d := (quadPhase a b + 4 - quadPhase f.a f.b) % 4
  let s := s.modFb n fun f => { f with a := a, b := b }
  if f.modeUse = 1 then
    let fr := s.fresh
    let s := if d = 2 then fr.2 else s
    let up : Int := if d = 1 then 1 else if d = 3 then -1 else if d = 2 then (Config.free fr.1 % 5 : Nat) - 2 else 0
    let up := if f.dirUse then -up else up
    let s := conditions s n 0x40 (if fast then 0x40 else 0)
    let s := if d = 2 then raiseFlags s n 4 else s
    let s := s.modFb n fun f => { f with up := if up = 0 then f.up else decide (0 < up) }
    if up = 0 then s else setLive s n (f.live + up * 2 ^ 22)
  else s

/-- An assay input (14 R507). -/
def State.am (s : State) (i : Fin 2) : AmIn := if i = 0 then s.isl.am0 else s.isl.am1
def State.modAm (s : State) (i : Fin 2) (f : AmIn → AmIn) : State :=
  if i = 0 then { s with isl := { s.isl with am0 := f s.isl.am0 } } else { s with isl := { s.isl with am1 := f s.isl.am1 } }

/-- Flags of an assay input: those of `which` hold or not from now on, and are seen (14 R507, R523). -/
def amFlags (s : State) (i : Fin 2) (which now event : Nat) : State :=
  s.modAm i fun x => { x with now := clearMask x.now which ||| now, seen := x.seen ||| now ||| event }

/-- INC_EDGE at AM0 or AM1 (14 R507, by 03 R103 and R104). -/
def amEdge (i : Fin 2) (a b fast : Bool) (s : State) : State :=
  let x := s.am i
  let d := (quadPhase a b + 4 - quadPhase x.a x.b) % 4
  let fr := s.fresh
  let s := if d = 2 then fr.2 else s
  let up : Int := if d = 1 then 1 else if d = 3 then -1 else if d = 2 then (Config.free fr.1 % 5 : Nat) - 2 else 0
  let s := amFlags s i 0x40 (if fast then 0x40 else 0) (if d = 2 then 4 else 0)
  s.modAm i fun x => { x with a := a, b := b, count := x.count + up }

/-- INC_EDGE (03 R103, R104; 14 R507). -/
def execIncEdge (i : IncInput) (a b fast : Bool) (s : State) : Out :=
  .next (match i with
    | .port n => portEdge n a b fast s
    | .am i => amEdge i a b fast s)

/-- The gate of Z_GATE (03 R105). -/
def zGate (g : Nat) (a b : Bool) : Bool :=
  if g = 0 then true else if g = 1 then a && b else if g = 2 then a && !b else if g = 3 then !a && !b else !a && b

/-- A reference event at a position: an armed port latches the first that REF_MODE admits (03 R137). -/
def refEvent (s : State) (n : Nat) (pos : Int) : State :=
  let m := s.reg (K.refMode n)
  if s.reg (K.fbsRefState n) = 1 ∧ (m = 1 ∨ (m = 2 ∧ (s.fb n).homeSeen = true)) then
    s.setRegs [(K.fbsRefLatch n, wrap64 pos), (K.fbsRefState n, 2)]
  else s

/-- The distance check between consecutive indices (03 R106). -/
def indexBad (s : State) (n : Nat) (pos : Int) : Bool :=
  let f := s.fb n
  match f.idxPos with
  | none => false
  | some p0 =>
    let dist := (wrap64 (pos - p0)).natAbs / 2 ^ 22
    let want := s.regN (K.incIndexDist n)
    let tol := s.regN (K.incIndexTol n)
    if want = 0 then false
    else if f.up != f.idxUp && decide (dist ≤ tol) then false
    else decide (tol < dist - want + (want - dist))

/-- INDEX_PULSE (03 R105, R106, R137). -/
def execIndexPulse (n : Axis) (s : State) : Out :=
  .next (
    let f := s.fb n
    if f.modeUse = 1 ∧ zGate (s.regN (K.incZGate n)) f.a f.b = true then
      let s := if indexBad s n f.live then raiseFlags s n 8 else s
      refEvent (s.modFb n fun f => { f with idxPos := some f.live, idxUp := f.up }) n f.live
    else s)

/-! ## SC (03 R107 to R114) -/

/-- PHASE in radians times 2 ^ 96 (03 R108). -/
def phaseRad (p : Int) : Int := p * 2 ^ 80

/-- The corrected tracks, both scaled by 32768 * cos(PHASE) * 2 ^ 96 (03 R108). -/
def scCorrect (corr : List Int) (a b : Int) : Int × Int :=
  match corr with
  | [oa, ob, ga, gb, ph] =>
    let a1 := (a - oa) * ga
    let b1 := (b - ob) * gb
    let x := phaseRad ph
    (a1 * cosRad x, b1 * 2 ^ 96 + a1 * sinRad x)
  | _ => (a, b)

/-- The radius of one sample: after offset and phase correction and before gain (03 R109). -/
def scRadius (corr : List Int) (a b : Int) : Nat :=
  match corr with
  | [oa, ob, _, _, ph] =>
    let x := phaseRad ph
    let c := cosRad x
    let ao := (a - oa) * c
    let bo := (b - ob) * 2 ^ 96 + (a - oa) * sinRad x
    if c = 0 then 0 else isqrt ((ao * ao + bo * bo).toNat) / c.natAbs
  | _ => 0

/-- The amplitude conditions of SC on RADIUS (03 R112). -/
def scAmplitude (radius : Nat) (clip : Bool) : Nat :=
  (if radius < 3277 then 0x10 else 0)
  + (if (3277 ≤ radius ∧ radius < 6554) ∨ (13108 < radius ∧ radius ≤ 14746) then 0x2000 else 0)
  + (if clip ∨ 14746 < radius then 0x20 else 0)

/-- PHASE of which the sine is num / den: the largest entry value not beyond it. -/
def phaseOf (num den : Int) : Nat → Int → Int
  | 0, lo => lo
  | b + 1, lo =>
    let k := lo + 2 ^ b
    phaseOf num den b (if sinRad (phaseRad k) * den ≤ num * 2 ^ 96 then k else lo)

/-- An adapted entry moves 1/64 of the way to its target; what is below one unit is kept (03 R111). Answers the entry
and what is kept, in 1/64. -/
def adapt (old frac target lo hi : Int) : Int × Int :=
  let x := old * 64 + frac + (target - old)
  let v := x / 64
  if v < lo then (lo, 0) else if hi < v then (hi, 0) else (v, x % 64)

/-- The nearest integer to a quotient. -/
def nearest (a b : Int) : Int := (2 * a + b) / (2 * b)

/-- The extremes of a period move the adapted entries (03 R111). -/
def autoCorr (s : State) (n : Nat) : State :=
  let f := s.fb n
  let mode := s.reg (K.scAutoCorr n)
  let ha := (f.scMax.1 - f.scMin.1)
  let hb := (f.scMax.2 - f.scMin.2)
  if mode = 0 ∨ ha ≤ 0 ∨ hb ≤ 0 then s
  else
    let fr := fun i => f.scFrac.getD i 0
    let oa := adapt (s.reg (K.scOffsetA n)) (fr 0) (nearest (f.scMax.1 + f.scMin.1) 2) (-32768) 32767
    let ob := adapt (s.reg (K.scOffsetB n)) (fr 1) (nearest (f.scMax.2 + f.scMin.2) 2) (-32768) 32767
    let ga := adapt (s.reg (K.scGainA n)) (fr 2) (nearest (2 * 10923 * 32768) ha) 16384 65535
    let gb := adapt (s.reg (K.scGainB n)) (fr 3) (nearest (2 * 10923 * 32768) hb) 16384 65535
    let ph := if mode = 2 then
        adapt (s.reg (K.scPhase n)) (fr 4) (phaseOf (f.scBAtMin - f.scBAtMax) hb 16 (-32768)) (-32768) 32767
      else (s.reg (K.scPhase n), fr 4)
    let s := s.setRegs [(K.scOffsetA n, oa.1), (K.scOffsetB n, ob.1), (K.scGainA n, ga.1), (K.scGainB n, gb.1), (K.scPhase n, ph.1)]
    s.modFb n fun f => { f with scFrac := [oa.2, ob.2, ga.2, gb.2, ph.2], corrPend := true }

/-- A whole period has passed: RADIUS, amplitude supervision and adaption (03 R109, R111, R112). -/
def periodUse (s : State) (n : Nat) (clip : Bool) : State :=
  let f := s.fb n
  if f.scCount = 0 then s
  else
    let radius := f.scSum / f.scCount
    let s := s.modFb n fun f => { f with scHigh := decide (14746 < radius) }
    let s := conditions (s.setReg (K.scRadius n) (min radius 65535 : Nat)) n 0x2030 (scAmplitude radius clip)
    if f.scSlow then autoCorr s n else s

/-- The period boundary passed from `p` to `p'`: a period is whole when it is left at the end at which it was not entered,
and the next one begins. -/
def periodEnd (s : State) (n : Nat) (p p' : Int) (clip : Bool) : State :=
  let up := decide (p < p')
  let s := if (s.fb n).scEntry = some up ∧ (p' - p).natAbs = 1 then periodUse s n clip else s
  s.modFb n fun f =>
    { f with
      scEntry := some up, scSum := 0, scCount := 0, scSlow := true,
      scMin := (32767, 32767), scMax := (-32768, -32768), scBAtMax := 0, scBAtMin := 0 }

/-- A sample enters the sums and extremes of the running period. -/
def periodAdd (f : FbPort) (a b : Int) (freq : Nat) : FbPort :=
  { f with
    scSlow := f.scSlow && decide (1 ≤ freq ∧ freq ≤ 50000),
    scSum := f.scSum + scRadius f.corr a b, scCount := f.scCount + 1,
    scBAtMax := if f.scMax.1 < a then b else f.scBAtMax, scBAtMin := if a < f.scMin.1 then b else f.scBAtMin,
    scMin := (min f.scMin.1 a, min f.scMin.2 b), scMax := (max f.scMax.1 a, max f.scMax.2 b) }

/-- COARSE follows the signal frequency; interpolation resumes after a whole period below 500 kHz (03 R113). -/
def scCoarse (s : State) (n freq : Nat) (q : Int) : State :=
  if 500000 < freq then fbBit (s.modFb n fun f => { f with coarseFrom := none }) n 28 true
  else if s.regBit (K.fbsStatus n) 28 then
    match (s.fb n).coarseFrom with
    | none => s.modFb n fun f => { f with coarseFrom := some q }
    | some q0 => if 4 ≤ (q - q0).natAbs then fbBit (s.modFb n fun f => { f with coarseFrom := none }) n 28 false else s
  else s

/-- The angle of a sample in 16384 steps; where both corrected tracks are 0 it is a free value. -/
def scAngle (s : State) (corr : List Int) (a b : Int) : Nat × State :=
  let t := scCorrect corr a b
  if t.1 = 0 ∧ t.2 = 0 then (Config.free s.fresh.1 % 16384, s.fresh.2) else (angleOf 12 t.1 t.2, s)

/-- The quarter count adjusted to the quadrant of the angle (03 R109): none where they differ by two quarters. -/
def agreeQuarter (q : Int) (quadrant : Nat) : Option Int :=
  let d := ((quadrant : Int) - q) % 4
  if d = 0 then some q else if d = 1 then some (q + 1) else if d = 3 then some (q - 1) else none

/-- In COARSE the compare units see every quarter-period edge between two samples (07 R283). -/
def quarterSteps (s : State) (n : Nat) (q q' : Int) : State :=
  forN ((q' - q).natAbs - 1) (fun s k => setLive s n ((if q < q' then q + (k + 1) else q - (k + 1)) * 2 ^ 22)) s

/-- SC_SAMPLE (03 R107 to R114): one conversion of the tracks in codes, the quarter-periods counted since the last one,
the signal frequency in Hz, and the code at Z. -/
def execScSample (n : Axis) (a b quarters : Int) (freq : Nat) (mark : Int) (s : State) : Out :=
  .next (
    let f := s.fb n
    if f.modeUse = 2 then
      let clip := decide (a ≤ -32768 ∨ 32767 ≤ a ∨ b ≤ -32768 ∨ 32767 ≤ b)
      let s := conditions s n 0x60 ((if clip || f.scHigh then 0x20 else 0) + (if 1000000 < freq then 0x40 else 0))
      let an := scAngle s f.corr a b
      let raw := an.1
      let s := an.2
      let ang := if f.dirUse then (16384 - raw) % 16384 else raw
      let q := if f.started then f.quarter + (if f.dirUse then -quarters else quarters) else (ang / 4096 : Nat)
      let s := s.modFb n fun f => { f with quarter := q, mark := some mark }
      let s := scCoarse s n freq q
      match agreeQuarter q (ang / 4096) with
      | none => conditions s n 0x80 0x80
      | some q' =>
        let s := conditions s n 0x80 0
        let s := if f.started ∧ q' / 4 ≠ f.scPeriod then periodEnd s n f.scPeriod (q' / 4) clip else s
        let s := s.modFb n fun f => periodAdd f a b freq
        let first := !f.started && !clip
        let s := s.modFb n fun f => { f with scPeriod := q' / 4, started := f.started || first }
        let fine := q' / 4 * 2 ^ 24 + (ang : Int) * 2 ^ 10
        let coarse := s.regBit (K.fbsStatus n) 28
        let s := if first then becomeValid s n else s
        let s := if coarse then quarterSteps s n f.quarter q else s
        let s := setLive s n (if coarse then q * 2 ^ 22 else fine)
        let thr := s.reg (K.scRefThreshold n)
        if (f.mark.map fun m => decide (m < thr)).getD false = true ∧ thr ≤ mark ∧ raw < 4096 then
          refEvent s n (if f.dirUse then fine + (raw : Int) * 2 ^ 10 else fine - (raw : Int) * 2 ^ 10)
        else s
    else s)

/-! ## RES (03 R115 to R122) -/

/-- The excitation of a port is missing (03 R117). -/
def excMissing (s : State) (n : Nat) : Bool :=
  let m := s.regN (K.resExcSource n)
  decide (m < 48) && ((s.fb m).modeUse != 3 || s.regN (K.resExcSource m) != 0xFF)

/-- The reference event of RES: the angle has passed zero between two positions (03 R122). -/
def zeroCross (s : State) (n : Nat) (old new : Int) : State :=
  if old / 2 ^ 24 = new / 2 ^ 24 then s else refEvent s n (max (old / 2 ^ 24) (new / 2 ^ 24) * 2 ^ 24)

/-- RES_TRACKER_UPDATE (03 R115 to R122): the tracked angle in 24 bits, the tracking error in 2 ^ -24 cycle, the
amplitude in codes, whether a sample stood at full scale, the electrical speed in cycles per second, and whether the
excitation output is at its current limit. -/
def execResTrackerUpdate (n : Axis) (angle : BitVec 24) (err radius : Nat) (fullScale : Bool) (speed : Nat) (excLimit : Bool)
    (s : State) : Out :=
  .next (
    let f := s.fb n
    if f.modeUse = 3 then
      let ang := if f.dirUse then (-angle).toNat else angle.toNat
      let lost := decide (2 ^ 21 < err) && s.regBit (K.fbsStatus n) 29
      let s := s.setReg (K.resRadius n) (min radius 65535 : Nat)
      let now := (if radius < 5461 then 0x10 else 0) + (if radius < 10923 then 0x2000 else 0) + (if fullScale then 0x20 else 0)
        + (if excLimit || excMissing s n then 0x200 else 0) + (if excFreq s n < 4 * speed then 0x40 else 0)
      let s := conditions s n 0x2270 now
      let s := s.modFb n fun f => { f with cond := setBitTo f.cond 8 (decide (2 ^ 21 < err)) }
      let s := if lost then raiseFlags (fbBit s n 29 false) n 0x100 else s
      let s := s.modFb n fun f =>
        { f with resAngle := ang, learnOk := f.learnOk.map fun x => x && decide (10923 ≤ radius) }
      if f.started then
        let v := f.live + toSigned 24 (ang + 2 ^ 24 - f.resAngle % 2 ^ 24)
        setLive (zeroCross s n f.live v) n v
      else s
    else s)

/-- RES_LOCKED (03 R99, R119): the first lock starts POS64 at 0 cycles plus the tracked angle. -/
def execResLocked (n : Axis) (s : State) : Out :=
  .next (
    let f := s.fb n
    if f.modeUse = 3 then
      let s := fbBit s n 29 true
      if f.started then s
      else setLive (becomeValid (s.modFb n fun f => { f with started := true, live := f.resAngle }) n) n f.resAngle
    else s)

/-- PHASE_LEARN (03 R121): the run starts; without a resolver of enough amplitude the request ends at once. -/
def execPhaseLearn (r : Req) (n : Axis) (s : State) : Out :=
  .next (request s r (K.resPhaseLearn n) 2 fun s =>
    writeEntry s r (K.resPhaseLearn n) 1
      { state := whenCode ((s.fb n).tapped || (s.fb n).modeUse != 3 || decide (s.reg (K.resRadius n) < 10923)) 0x08000022 }
      fun s => await (s.modFb n fun f => { f with learnOk := some (f.learnOk.getD true) }) (.learn n) r)

/-- PHASE_LEARN_DONE (03 R121): 64 excitation periods are over. -/
def execPhaseLearnDone (n : Axis) (phase : BitVec 16) (s : State) : Out :=
  .next (
    match (s.fb n).learnOk with
    | none => s
    | some good =>
      let s := s.modFb n fun f => { f with learnOk := none }
      if good then completeAll (s.setReg (K.resExcPhase n) phase.toInt) (.learn n) 0 []
      else completeAll s (.learn n) 0x08000022 [])

/-! ## SSI (03 R123 to R128) -/

/-- The time from a frame's latch edge to the end of its MONOFLOP, in ns (03 R123). -/
def ssiFrameTime (s : State) (n : Nat) : Nat :=
  let clk := s.regN (K.ssiClock n)
  ((1 + s.regN (K.ssiLeadBits n) + s.regN (K.ssiFrameBits n)) * 1000000 + (clk - 1)) / clk + 1000 * s.regN (K.ssiMonoflop n)

/-- A latch edge may fall at `t`: 50 ns after a tick at which the last MONOFLOP has ended, or, with TRIGGER 1, where it ends
(03 R124). -/
def ssiMayStart (s : State) (n t : Nat) : Bool :=
  if s.reg (K.ssiTrigger n) = 0 then t == s.fe.tickT + 50 && ((s.fb n).ssiRest.map fun r => decide (r ≤ s.fe.tickT)).getD true
  else ((s.fb n).ssiRest.map (· == t)).getD true

/-- SSI_FRAME_START (03 R123 to R126): the latch edge at cell time `t` in ns; the data line must read 1 before it. -/
def execSsiFrameStart (n : Axis) (t : Nat) (dataHigh : Bool) (s : State) : Out :=
  .next (
    if (s.fb n).modeUse = 4 ∧ (s.fb n).ssiOpen = none ∧ ssiMayStart s n t = true then
      s.modFb n fun f => { f with ssiOpen := some t, ssiRest := some (t + ssiFrameTime s n), ssiBad := !dataHigh }
    else s)

/-- Gray code to binary over a field of `w` bits (03 R123). -/
def unGray (w v : Nat) : Nat := (List.range w).foldl (fun acc i => acc ^^^ (v >>> (i + 1))) v

/-- The parity bit is right: bit 0 covers all other frame bits (03 R123). -/
def parityOk (kind bits frameBits : Nat) : Bool :=
  if kind = 1 then popCount bits frameBits % 2 == 0 else if kind = 2 then popCount bits frameBits % 2 == 1 else true

/-- The decoded position field of a frame (03 R123, R128, R102). -/
def ssiDecode (s : State) (n bits : Nat) : Int :=
  let w := s.regN (K.ssiPosWidth n)
  let v := field bits (s.regN (K.ssiPosLsb n)) w
  let v := if s.reg (K.ssiCode n) = 1 then unGray w v else v
  let i : Int := if s.reg (K.ssiSigned n) = 1 then toSigned w v else v
  if (s.fb n).dirUse then -i else i

/-- The change from the last accepted frame (03 R127, R128): modulo 2 ^ POS_WIDTH with WRAP 1. -/
def ssiChange (s : State) (n : Nat) (old new : Int) : Int :=
  if s.reg (K.ssiWrap n) = 1 then
    let w := s.regN (K.ssiPosWidth n)
    toSigned w (ofSigned w (new - old))
  else new - old

/-- SSI_FRAME_END (03 R125 to R128): the frame's bits (bit 0 the last), the measured line delay in ns, and whether the
data line returned to 1 within MONOFLOP. -/
def execSsiFrameEnd (n : Axis) (bits delay : Nat) (returned : Bool) (s : State) : Out :=
  .next (
    let f := s.fb n
    match f.ssiOpen with
    | none => s
    | some t =>
      let s := s.modFb n fun f => { f with ssiOpen := none }
      if f.modeUse = 4 then
        let s := s.setReg (K.ssiLineDelay n) (min delay 65535 : Nat)
        let late := decide (2000 * s.regN (K.ssiClock n) + 1000000 < delay * s.regN (K.ssiClock n))
        let frame := f.ssiBad || late || !returned
        let par := !parityOk (s.regN (K.ssiParity n)) bits (s.regN (K.ssiFrameBits n))
        let v := ssiDecode s n bits
        let d := match f.ssiField with
          | none => 0
          | some old => ssiChange s n old v
        let maxStep := s.regN (K.ssiMaxStep n)
        let jump := decide (maxStep ≠ 0) && decide (maxStep < d.natAbs)
        let s := conditions s n 0x1C00 ((if frame then 0x400 else 0) + (if par then 0x800 else 0) + (if jump then 0x1000 else 0))
        if frame || par || jump then s
        else
          let live := if s.reg (K.ssiWrap n) = 1 ∧ f.ssiField.isSome then f.live + d * 2 ^ 24 else v * 2 ^ 24
          let s := s.modFb n fun f =>
            { f with ssiField := some v, ssiT := t, started := true,
                     ssiPrev := if f.ssiField.isSome then some (f.live, f.ssiT) else none }
          setLive (becomeValid s n) n live
      else s)

/-! ## Wire faults, CLEAR, references -/

/-- WIRE_FAULT (03 R130; 14 R507): an open or shorted pair in use, held for 2 us, begins or ends. -/
def execWireFault (i : IncInput) (present : Bool) (s : State) : Out :=
  .next (
    let now := if present then 2 else 0
    match i with
    | .port n => if (s.fb n).modeUse = 0 then s else conditions s n 2 now
    | .am i => amFlags s i 2 now 0)

/-- FEEDBACK_CLEAR (03 R131): acts once, at the next tick. -/
def execFeedbackClear (r : Req) (n : Axis) (s : State) : Out :=
  .next (request s r (K.fbClear n) 2 fun s =>
    writeEntry s r (K.fbClear n) 1 { state := whenCode (s.fb n).tapped 0x08000022 } fun s =>
      ok (s.modFb n fun f => { f with clearPend := true }) r)

/-- REF_ARM (03 R136, R137). -/
def execRefArm (r : Req) (n : Axis) (arm : Bool) (s : State) : Out :=
  .next (request s r (K.refArm n) 2 fun s =>
    writeEntry s r (K.refArm n) (b2i arm) { state := whenCode (arm && s.reg (K.refMode n) == 0) 0x08000022 } fun s =>
      ok ((s.modFb n fun f => { f with homeSeen := false }).setReg (K.fbsRefState n) (b2i arm)) r)

/-- The user position of a POS64 (03 R134). -/
def userOf (s : State) (n : Nat) (pos : Int) : F64 :=
  fMul (fMul (fOfInt (wrap64 (pos - s.reg (K.refPosOrigin n)))) (s.regN (K.refUnitPerPeriod n))) (fOfRat 1 1 (-24))

/-- The POS64 of a user position (03 R134). -/
def posOf (s : State) (n : Nat) (u : F64) : Int :=
  wrap64 (s.reg (K.refPosOrigin n) + fToIntRne (fDiv u (s.regN (K.refUnitPerPeriod n))) 24)

/-- User coordinates shift: HOMED is set, and the axis's group starts its next segment from the shifted position (03 R135,
R137). -/
def shiftOrigin (s : State) (n : Nat) (o : Int) : State :=
  let s := fbBit (s.setReg (K.refPosOrigin n) o) n 30 true
  match groupOf s n with
  | some g => s.modGrp g fun x => { x with replan := true }
  | none => s

/-- REF_ORIGIN_APPLY (03 R137): a tick at which the axis's group does not move. -/
def execRefOriginApply (n : Axis) (s : State) : Out :=
  .next (
    if s.reg (K.fbsRefState n) = 2 ∧ s.reg (K.refAuto n) = 1 ∧ axisGroupMoves s n = false then
      let o := wrap64 (s.reg (K.fbsRefLatch n) - fToIntRne (fDiv (s.regN (K.refValue n)) (s.regN (K.refUnitPerPeriod n))) 24)
      shiftOrigin (s.setReg (K.fbsRefState n) 3) n o
    else s)

/-- POS_ORIGIN_WRITE (03 R135): takes effect at the next tick boundary. -/
def execPosOriginWrite (r : Req) (n : Axis) (v : BitVec 64) (s : State) : Out :=
  .next (request s r (K.refPosOrigin n) 2 fun s =>
    writeEntry s r (K.refPosOrigin n) v.toInt { move := whenCode (axisGroupMoves s n) 0x0F000001 } fun s =>
      ok (s.modFb n fun f => { f with originPend := some v.toInt }) r)

/-! ## The tick (03 R96, R100, R110, R131, R135; 01 R21 step 1) -/

/-- A pending origin takes effect and sets HOMED (03 R135). -/
def tickOrigin (s : State) (n : Nat) : State :=
  match (s.fb n).originPend with
  | none => s
  | some v => shiftOrigin (s.modFb n fun f => { f with originPend := none }) n v

/-- CLEAR acts: each flag whose condition is absent clears, and VALID may return (03 R131). -/
def tickClear (s : State) (n : Nat) : State :=
  let f := s.fb n
  if f.clearPend then
    let st := s.regN (K.fbsStatus n)
    let s := s.setReg (K.fbsStatus n) (clearMask st (clearMask flagMask f.cond) : Nat)
    becomeValid (s.modFb n fun f => { f with clearPend := false }) n
  else s

/-- The SC corrections written since the last tick are applied together (03 R110). -/
def tickCorr (s : State) (n : Nat) : State :=
  if (s.fb n).corrPend then
    s.modFb n fun f =>
      { f with
        corrPend := false,
        corr := [s.reg (K.scOffsetA n), s.reg (K.scOffsetB n), s.reg (K.scGainA n), s.reg (K.scGainB n), s.reg (K.scPhase n)] }
  else s

/-- The latch: STATUS and POSITION of one instant, POSITION holding without VALID, and FRAME_AGE (03 R100, R124, R129,
R131). -/
def latchPort (s : State) (n t : Nat) : State :=
  let f := s.fb n
  let s := s.setReg (K.fbsFrameAge n) (if f.modeUse = 4 ∧ f.started = true then ((t - f.ssiT) % 2 ^ 32 : Nat) else (0 : Nat))
  let s := s.modFb n fun f => { f with stat := s.regN (K.fbsStatus n) }
  if s.regBit (K.fbsStatus n) 31 then
    let s := s.modFb n fun f => { f with posDelta := wrap64 (f.live - s.reg (K.fbsPosition n)) }
    s.setReg (K.fbsPosition n) f.live
  else s

/-- A feedback port at a tick. -/
def tickPort (t : Nat) (s : State) (n : Nat) : State :=
  let s := tickOrigin s n
  let s := if (s.fb n).modePend then enterMode s n else s
  latchPort (tickClear (tickCorr s n) n) n t

end Sys2Proof.Machine
end

