-- ==== Sys2Proof/Machine/Engine.lean ====
section
/-! DEFINITION. Axis engines (spec/05): one tick of an engine, supervision, enable and disable, sources and hold. -/

namespace Sys2Proof.Machine

/-! ## The loop (05 R183 to R189) -/

/-- The tick period in seconds: the binary64 value nearest TICK_PERIOD / 10^9 (05 R183). -/
def tickTs (s : State) : F64 := fOfRat (s.reg K.rateTickPeriod) 1000000000 0

/-- A POS64 difference in feedback periods (05 R183). -/
def periods (d : Int) : F64 := fOfRat (wrap64 d) 1 (-24)

/-- A binary64 value rounded to an integer and held in 32 bits, signed (05 R189). -/
def round32 (x : F64) : Int := sat32 (fToIntRne x 0)

/-- One biquad (05 R187). -/
def filtStep (f : Filt) (u : F64) : F64 × Filt :=
  if f.on then
    match f.coef, f.hist with
    | [b0, b1, b2, a1, a2], [u1, u2, w1, w2] =>
      let w := fSub (fSub (fAdd (fAdd (fMul b0 u) (fMul b1 u1)) (fMul b2 u2)) (fMul a1 w1)) (fMul a2 w2)
      (w, { f with hist := [u, u1, w, w1] })
    | _, _ => (u, f)
  else (u, f)

/-- The sign of a value. -/
def fSgn (x : F64) : Int := if fLt 0 x then 1 else if fLt x 0 then -1 else 0

/-- What an engine takes in a tick beside its own state: loop, output mode, gains, scaling and the fabric's word. -/
structure LoopIn where
  loop : Nat
  outMode : Nat
  gains : List F64
  outLimit : F64
  stepsPerPeriod : F64
  ts : F64
  x : Int
  freeze : Bool
  word : Int
deriving DecidableEq, Repr

/-- What a tick of an engine yields (05 R182 steps 2 to 5). -/
structure LoopOut where
  eng : Eng
  demand : Int
  clipped : Bool
deriving DecidableEq, Repr

/-- Velocities of the tick (05 R183). -/
def velocities (e : Eng) (i : LoopIn) : F64 × F64 × F64 :=
  let vsp := fDiv (periods (e.s - e.sPrev)) i.ts
  let asp := fDiv (fSub vsp e.vSpPrev) i.ts
  let r := fDiv (periods (i.x - e.xPrev)) i.ts
  let tau := i.gains.getD 7 0
  let va := if tau = 0 then r else
    let al := fDiv i.ts (fAdd (fOfRat tau 1000000 0) i.ts)
    fAdd e.vAct (fMul al (fSub r e.vAct))
  (vsp, asp, va)

/-- y before the filters, and the integrator (05 R185, R186). -/
def loopSum (e : Eng) (i : LoopIn) (vsp asp va : F64) : F64 × F64 :=
  let g := fun k => i.gains.getD k 0
  let err := periods (e.s - i.x)
  let yp := if i.loop = 1 then fMul (g 6) (fSub (fAdd (fMul (g 0) err) (fMul (g 1) vsp)) va)
    else fDiv (fMul (g 0) err) (g 3)
  let y0 := if i.loop = 1 then fZero else fDiv (fMul (g 1) vsp) (g 3)
  let held := i.freeze || (e.clipSign != 0 && fSgn yp == e.clipSign)
  let yi := if held then e.yI else fClamp (fAdd e.yI (fMul (fMul (g 4) i.ts) yp)) (g 5)
  (fAdd (fAdd (fAdd y0 yp) yi) (fMul (g 2) asp), yi)

/-- DEMAND of a clipped y (05 R189). -/
def scaleDemand (i : LoopIn) (y : F64) : Int :=
  if i.outMode = 1 then sat32 (fToIntRne y 31)
  else sat32 (fToIntRne (fMul (fMul (fMul y (i.gains.getD 3 0)) i.ts) i.stepsPerPeriod) 16)

/-- DEMAND in open loop: the sum of all demands reaches the set-point's travel (05 R189). -/
def openDemand (e : Eng) (i : LoopIn) : Int :=
  sat32 (fToIntRne (fMul (fOfInt (wrap64 (e.s - e.sEnable))) i.stepsPerPeriod) (-8) - e.dSum)

/-- One tick of a loop (05 R182 steps 2 to 5), for a set-point already in `e.s`. -/
def loopStep (e : Eng) (i : LoopIn) : LoopOut :=
  let v := velocities e i
  let vsp := v.1
  let asp := v.2.1
  let va := v.2.2
  let e' := { e with sPrev := e.s, xPrev := i.x, vSpPrev := vsp, vAct := va, clipSign := 0 }
  if i.loop = 3 then
    let d := openDemand e i
    ⟨{ e' with dSum := e.dSum + d }, d, false⟩
  else
    let l := if i.loop = 2 then (fOfRat i.word 1 (-31), e.yI) else loopSum e i vsp asp va
    let f1 := if i.loop = 2 then (l.1, e.bq1) else filtStep e.bq1 l.1
    let f2 := if i.loop = 2 then (f1.1, e.bq2) else filtStep e.bq2 f1.1
    let f3 := if i.loop = 2 then (f2.1, e.notch) else filtStep e.notch f2.1
    let y := fClamp f3.1 i.outLimit
    let clip := fSgn (fSub f3.1 y)
    ⟨{ e' with yI := l.2, bq1 := f1.2, bq2 := f2.2, notch := f3.2, clipSign := clip }, scaleDemand i y, clip != 0⟩

/-! ## Filters (05 R187, R188) -/

/-- The poles lie inside the unit circle (05 R187). -/
def biquadOk (coef : List F64) : Bool :=
  match coef with
  | [_, _, _, a1, a2] => fLt (fAbs a2) fOne && fLt (fAbs a1) (fAdd fOne a2)
  | _ => false

/-- The three values of a notch may be committed (05 R188). -/
def notchOk (spec : List F64) (ts : F64) : Bool :=
  match spec with
  | [f0, b, d] =>
    fLe 0x4024000000000000 f0 && fLe f0 (fDiv 0x3FDCCCCCCCCCCCCD ts) && fLe fOne b && fLe b f0 && fLe 0 d
      && fLe d 0x404E000000000000
  | _ => false

/-- A value that a function is to give, one place up or down: the spec leaves the last place of its result open (05 R188). -/
def lastPlace (i : Nat) (x v : F64) : F64 := v + Config.lastPlace i x % 3 - 1

/-- The tangent of an angle in radians up to a quarter turn. -/
def fTan (x : F64) : F64 :=
  let r := fRatNum x 96 / (fRatDen x 96 : Int)
  lastPlace 0 x (fOfRat (sinRad r) (cosRad r).toNat 0)

/-- 10 to the power of -x, for x from 0 to 3. -/
def fTenth (x : F64) : F64 :=
  if fLe x 0 then fOne else lastPlace 1 x (fOfRat (2 ^ 96) (expFix (fRatNum x 0 * ln10Fix / (fRatDen x 0 : Int))).toNat 0)

/-- The notch by the bilinear transform prewarped at its centre (05 R188). -/
def notchDesign (spec : List F64) (ts : F64) : List F64 :=
  match spec with
  | [f0, b, d] =>
    let w0 := fMul (fMul fTwo 0x400921FB54442D18) f0
    let zp := fDiv b (fMul fTwo f0)
    let zz := fMul zp (fTenth (fDiv d 0x4034000000000000))
    let c := fDiv fOne (fTan (fDiv (fMul w0 ts) fTwo))
    let c2 := fMul c c
    let p := fMul (fMul fTwo zp) c
    let z := fMul (fMul fTwo zz) c
    let a0 := fAdd (fAdd c2 p) fOne
    let mid := fDiv (fMul fTwo (fSub fOne c2)) a0
    [fDiv (fAdd (fAdd c2 z) fOne) a0, mid, fDiv (fAdd (fSub c2 z) fOne) a0, mid, fDiv (fAdd (fSub c2 p) fOne) a0]
  | _ => []

def bypassed : Filt := {}

/-- A staged commit or bypass takes effect (05 R187): a commit keeps the history, a bypass clears it. -/
def applyBiquad (f : Filt) : Filt :=
  match f.pend with
  | none => f
  | some none => bypassed
  | some (some c) => { f with on := true, coef := c, pend := none }

/-- The notch at a tick, designed at the rate now in force; one that fails the check goes to bypass (05 R181, R188). -/
def applyNotch (ts : F64) (redo : Bool) (f : Filt) : Filt :=
  let spec := match f.pend with
    | none => if redo && f.on then some f.spec else none
    | some none => some []
    | some (some p) => some p
  match spec with
  | none => f
  | some p => if notchOk p ts then { f with on := true, spec := p, coef := notchDesign p ts, pend := none } else bypassed

def biquadKeys (n : Nat) : Bq → Nat × List Nat
  | .one => (K.bq1Enable n, [K.bq1B0 n, K.bq1B1 n, K.bq1B2 n, K.bq1A1 n, K.bq1A2 n])
  | .two => (K.bq2Enable n, [K.bq2B0 n, K.bq2B1 n, K.bq2B2 n, K.bq2A1 n, K.bq2A2 n])

def modBq (s : State) (n : Nat) (q : Bq) (f : Filt → Filt) : State :=
  s.modEng n fun e => match q with
    | .one => { e with bq1 := f e.bq1 }
    | .two => { e with bq2 := f e.bq2 }

/-- BIQUAD_COMMIT (05 R187). -/
def execBiquadCommit (r : Req) (n : Axis) (q : Bq) (s : State) : Out :=
  .next (
    let k := biquadKeys n q
    request s r k.1 2 fun s =>
      let c := k.2.map s.regN
      writeEntry s r k.1 1 { set := whenCode (!biquadOk c) 0x06090030 } fun s =>
        ok (modBq s n q fun f => { f with pend := some (some c) }) r)

/-- BIQUAD_BYPASS (05 R187). -/
def execBiquadBypass (r : Req) (n : Axis) (q : Bq) (s : State) : Out :=
  .next (request s r (biquadKeys n q).1 2 fun s =>
    writeEntry s r (biquadKeys n q).1 0 {} fun s => ok (modBq s n q fun f => { f with pend := some none }) r)

/-- NOTCH_COMMIT (05 R188). -/
def execNotchCommit (r : Req) (n : Axis) (s : State) : Out :=
  .next (request s r (K.notchEnable n) 2 fun s =>
    let p := [s.regN (K.notchCentre n), s.regN (K.notchWidth n), s.regN (K.notchDepth n)]
    writeEntry s r (K.notchEnable n) 1 { set := whenCode (!notchOk p (tickTs s)) 0x06090030 } fun s =>
      ok (s.modEng n fun e => { e with notch := { e.notch with pend := some (some p) } }) r)

/-- NOTCH_BYPASS (05 R188). -/
def execNotchBypass (r : Req) (n : Axis) (s : State) : Out :=
  .next (request s r (K.notchEnable n) 2 fun s =>
    writeEntry s r (K.notchEnable n) 0 {} fun s =>
      ok (s.modEng n fun e => { e with notch := { e.notch with pend := some none } }) r)

/-! ## Enable (05 R199, R200) -/

/-- The combination of LOOP_MODE, OUTPUT_MODE and feedback MODE is allowed (05 R184). -/
def comboOk (loop outMode fbMode : Nat) : Bool :=
  if loop = 3 then outMode == 2 || outMode == 3
  else if loop = 1 then outMode == 1 && fbMode != 0
  else (outMode == 1 || outMode == 2 || outMode == 3) && fbMode != 0

/-- The conditions under which an enable is refused with 0x08000022 (05 R199). -/
def enableBad (s : State) (n : Nat) : Bool :=
  let lm := s.regN (K.axLoopMode n)
  !comboOk lm (s.regN (K.cmOutputMode n)) (s.regN (K.fbMode n))
    || (lm != 3 && !s.regBit (K.fbsStatus n) 31)
    || decide (s.regN (K.engStatus n) &&& 0xFF00 ≠ 0)
    || decide ((s.cm n).causes ≠ []) || (s.cm n).unusable || s.reg (K.cmOutputMode n) == 0
    || s.reg K.safeStopState != 0

/-- An axis without a working engine or stand-in (18 R637). -/
def axisUnusable (s : State) (n : Nat) : Bool := s.bad.contains (0x13, n)

/-- Step 1 of 05 R200. -/
def startEnable (s : State) (n : Nat) : State :=
  let s := s.setRegs [(K.axisEnable n, 1), (K.engineState n, 1)]
  let s := s.modEng n fun e =>
    { bq1 := { e.bq1 with hist := [0, 0, 0, 0] }, bq2 := { e.bq2 with hist := [0, 0, 0, 0] },
      notch := { e.notch with hist := [0, 0, 0, 0] }, gains := e.gains, corr := e.corr, x := e.x, valid := e.valid,
      xPrev := e.xPrev, cIn := e.cIn, sp := e.sp, s := e.s, cellSp := e.cellSp, nCell := e.nCell, alignSp := e.alignSp, wCorr := e.wCorr, wSp := e.wSp, wDem := e.wDem, pdFresh := e.pdFresh }
  s.modCm n fun c => { c with enReq := true, dem := 0 }

/-- A write of 1 to AXIS_ENABLE (05 R199, R200; 06 R229; 02 R81, R82, R698; 17 R603; 18 R637; 20 R683): in TEST no axis is
usable. -/
def axisEnableWrite (r : Req) (n : Axis) (s : State) : State :=
  let a := s.reg (K.axisEnable n)
  let fresh := a == 0
  writeEntry s r (K.axisEnable n) 1
    { state := if lifeState s = 2 then some 0x0F000008 else if a = 3 ∨ a = 4 ∨ s.therm.hot = true then some 0x08000022 else
        if fresh && axisUnusable s n then some 0x06060000 else whenCode (fresh && enableBad s n) 0x08000022,
      move := whenCode (fresh && axisGroupMoves s n) 0x0F000001 } fun s =>
    if fresh then await (startEnable s n) (.enable (.axis n)) r
    else if engState s n = 1 then await s (.enable (.axis n)) r
    else ok s r

/-- AXIS_ENABLE (05 R199, R200). -/
def execAxisEnable (r : Req) (n : Axis) (s : State) : Out :=
  .next (request s r (K.axisEnable n) 2 (axisEnableWrite r n))

/-! ## Hold and disable (05 R201 to R203, R205) -/

/-- Hold begins (05 R205). -/
def enterHold (s : State) (n : Nat) : State :=
  let s := engStatusBit (engStatusBit s n 30 true) n 29 false
  let ramp := s.reg (K.axHoldMode n) == 1 && !fLe (fAbs (s.engine n).vSpPrev) 0
  s.modEng n fun e => { e with ramp := ramp, vRamp := if ramp then e.vSpPrev else 0 }

/-- The engine is to be off at the next output instant (05 R196, R201, R203). -/
def endAtOutput (s : State) (n enAbort : Nat) : State :=
  s.modEng n fun e => { e with leaving := .off, enAbort := enAbort }

/-- The axis itself leaves in the form asked of it (05 R201). -/
def leaveNow (s : State) (n : Nat) (abort : Bool) : State :=
  let s := if abort && !s.regBit (K.engStatus n) 30 then enterHold s n else s
  (s.modEng n fun e => { e with leaving := if abort then .hold else .wait, rest := 0 }).setReg (K.engineState n) 4

/-- The group that holds an axis and is on its way to be disabled. -/
def groupLeaving (s : State) (n : Nat) : Bool :=
  match groupOf s n with
  | some g => s.reg (K.grpGroupEnable g) == 3 || s.reg (K.grpGroupEnable g) == 4
  | none => false

/-- A disable begins or changes form (05 R201; 02 R82, R83): a moving group is disabled first, in the same form, and the axis
serves it until then. -/
def startDisable (s : State) (n : Nat) (abort : Bool) : State :=
  let s := s.setReg (K.axisEnable n) (if abort then 4 else 3)
  if engState s n = 1 then endAtOutput s n 0x0F000002
  else
    match groupOf s n with
    | some g =>
      if groupMoves s g || (s.engine n).leaving == .group then
        let s := if groupState s g = 5 ∧ (s.engine n).leaving ≠ .group then stopGroup s g true false 5 else s
        disableGroup (s.modEng n fun e => { e with leaving := .group, rest := 0 }) g abort
      else leaveNow s n abort
    | none => leaveNow s n abort

/-- A write of 0 or 2 to AXIS_ENABLE (05 R201 to R203; 02 R81, R82). -/
def axisDisableWrite (r : Req) (n : Axis) (abort : Bool) (s : State) : State :=
  writeEntry s r (K.axisEnable n) (if abort then 2 else 0) {} fun s =>
    let a := s.reg (K.axisEnable n)
    let past := (s.engine n).leaving == .delay || (s.engine n).leaving == .off
    if a = 0 then ok s r
    else
      let s := if a = 1 then startDisable s n abort
        else if a = 3 ∧ abort = true ∧ past = false then startDisable s n true else s
      await s (.disable (.axis n)) r

/-- AXIS_DISABLE_DRAIN (05 R201). -/
def execAxisDisableDrain (r : Req) (n : Axis) (s : State) : Out :=
  .next (request s r (K.axisEnable n) 2 (axisDisableWrite r n false))

/-- AXIS_DISABLE_ABORT (05 R201). -/
def execAxisDisableAbort (r : Req) (n : Axis) (s : State) : Out :=
  .next (request s r (K.axisEnable n) 2 (axisDisableWrite r n true))

/-- DISABLE_DELAY_END (05 R203). -/
def execDisableDelayEnd (n : Axis) (s : State) : Out :=
  .next (if (s.engine n).leaving = .delay then endAtOutput s n 0 else s)

/-- 05 R201 to R203 in a tick: once the set-point rests, DISABLE_DELAY starts; without one the engine goes off at the
output instant. -/
def disableStep (s : State) (n : Nat) : State :=
  let e := s.engine n
  let begin' := fun s : State =>
    if s.reg (K.axDisableDelay n) = 0 then endAtOutput s n 0 else s.modEng n fun e => { e with leaving := .delay }
  if axisGroupMoves s n then s
  else if e.leaving = .group then
    (if groupLeaving s n then s else leaveNow s n (s.reg (K.axisEnable n) == 4))
  else if e.leaving = .wait then (if 2 ≤ e.rest then begin' s else s)
  else if e.leaving = .hold then
    (if !s.regBit (K.engStatus n) 30 then enterHold s n
     else if e.ramp = false ∧ 1 ≤ e.rest then begin' s else s)
  else s

/-! ## Sources (05 R205 to R207) -/

/-- Process data deliver PD_SETPOINT to the axis (05 R206). -/
def pdMapped (s : State) (n : Nat) : Bool := pdOwned s (K.axspPdSetpoint n)

/-- The PUB entry that publishes an axis, if any (19 R661): bits 7:0 the axis, bit 8 ALIGN, bit 9 STOP_ON_FOLLOWER. -/
def publication (s : State) (n : Nat) : Option Nat := ((List.range 12).map fun i => s.regN (K.pub0 + i)).find? fun v => v % 256 == n

/-- The axis takes its own set-point one tick late (19 R662). -/
def aligned (s : State) (n : Nat) : Bool :=
  match publication s n with
  | some v => v.testBit 8
  | none => false

/-- The set-point that a source delivers for this tick. -/
def delivered (s : State) (n src : Nat) : Option Int :=
  let e := s.engine n
  if src = 1 then e.pathSp
  else if src = 2 then (if e.pdFresh && pdMapped s n then some (s.reg (K.axspPdSetpoint n)) else none)
  else if src = 3 then (if portServes s (s.regN (K.tapPort n)) then e.wSp else none)
  else if src = 4 then e.cellSp.map fun v => wrap64 (v + s.reg (K.axspCellOffset n))
  else none

/-- The set-point that a source offers to the engine in this tick. -/
def candidate (s : State) (n src : Nat) : Option Int :=
  if aligned s n then (s.engine n).alignSp else delivered s n src

/-- The engine follows its source: not in hold, not waiting to join, not frozen (05 R200 step 4, R203, R205, R212). -/
def follows (s : State) (n : Nat) : Bool :=
  let e := s.engine n
  s.reg (K.axSource n) != 0 && !s.regBit (K.engStatus n) 30 && !s.regBit (K.engStatus n) 29 && !e.fallback
    && e.leaving != .delay && e.leaving != .off

/-- A source is lost (05 R206). -/
def sourceLost (s : State) (n : Nat) : State :=
  emcy (enterHold (engStatusBit s n 11 true) n) 0xFF28 4 n (s.regN (K.axSource n))

/-- The hold of a tick (05 R205): v_sp falls by HOLD_DECEL to zero, and the set-point goes with it. -/
def holdStep (s : State) (n : Nat) (ts : F64) : State :=
  let e := s.engine n
  if e.ramp && e.leaving != .delay && e.leaving != .off then
    let dv := fMul (s.regN (K.axHoldDecel n)) ts
    let v := if fLe (fAbs e.vRamp) dv then fZero else if fLt 0 e.vRamp then fSub e.vRamp dv else fAdd e.vRamp dv
    s.modEng n fun e => { e with vRamp := v, ramp := v != 0, sp := wrap64 (e.sp + fToIntRne (fMul v ts) 24) }
  else s

/-- A waiting engine joins its source (05 R207). -/
def joinSource (s : State) (n : Nat) : State :=
  match candidate s n (s.regN (K.axSource n)) with
  | some c =>
    if s.regBit (K.engStatus n) 29 ∧ ((wrap64 (c - (s.engine n).sp)).natAbs : Int) ≤ s.reg (K.axJoinWindow n) then
      (engStatusBit (engStatusBit s n 30 false) n 29 false).modEng n fun e =>
        { e with sp := c, missSrc := 0, ramp := false, vRamp := 0 }
    else s
  | none => s

/-- The set-point before correction in this tick (05 R182 step 1, R205 to R207). -/
def setpointStep (s : State) (n : Nat) (ts : F64) : State :=
  let e := s.engine n
  let src := s.regN (K.axSource n)
  if follows s n then
    match candidate s n src with
    | some c => s.modEng n fun e => { e with sp := c, missSrc := 0 }
    | none =>
      if src = 1 then s
      else if e.missSrc = 0 then
        s.modEng n fun e => { e with sp := wrap64 (e.sp + fToIntRne (fMul e.vSpPrev ts) 24), missSrc := 1 }
      else holdStep (sourceLost (s.modEng n fun e => { e with missSrc := 2 }) n) n ts
  else
    let s := holdStep s n ts
    if e.fallback || e.leaving == .delay || e.leaving == .off then s else joinSource s n

/-- SOURCE_LOST (05 R206): the second consecutive tick without a set-point. -/
def execSourceLost (n : Axis) (s : State) : Out :=
  .next (
    let src := s.regN (K.axSource n)
    if decide (2 ≤ engState s n) && follows s n && src != 1 && (candidate s n src).isNone && (s.engine n).missSrc == 1 then
      sourceLost (s.modEng n fun e => { e with missSrc := 2 }) n
    else s)

/-- SOURCE_WRITE (05 R207). -/
def execSourceWrite (r : Req) (n : Axis) (v : BitVec 8) (s : State) : Out :=
  .next (request s r (K.axSource n) 2 fun s =>
    writeEntry s r (K.axSource n) v.toNat
      { state := whenCode (groupOf s n).isSome 0x08000022, move := whenCode (s.engine n).ramp 0x0F000001 } fun s =>
      let was := s.reg (K.axSource n)
      let s := s.setReg (K.axSource n) v.toNat
      let s := if decide (2 ≤ engState s n) && !(s.engine n).fallback then
          let s := if !s.regBit (K.engStatus n) 30 ∧ (v.toNat = 0 ∨ (was ≠ 0 ∧ !s.regBit (K.engStatus n) 29)) then enterHold s n else s
          engStatusBit s n 29 (decide (v.toNat ≠ 0))
        else s
      ok s r)

/-- SOURCE_JOIN (05 R207). -/
def execSourceJoin (n : Axis) (s : State) : Out :=
  .next (if decide (2 ≤ engState s n) && !(s.engine n).fallback then joinSource s n else s)

/-! ## The fabric's DEMAND (05 R212) -/

/-- The loop in use: FALLBACK_LOOP once the fabric's DEMAND has failed. -/
def loopUse (s : State) (n : Nat) : Nat :=
  let lm := s.regN (K.axLoopMode n)
  if lm = 2 ∧ (s.engine n).fallback = true then s.regN (K.axFallbackLoop n) else lm

/-- The loop closes on the position at hand (05 R200 step 3, R212): the set-point begins at rest. -/
def closeLoop (e : Eng) (x : Int) : Eng :=
  { e with
    sp := wrap64 (x - e.corr), spPrev := wrap64 (x - e.corr), sPrev := x, s := x, vSpPrev := 0, yI := 0,
    clipSign := 0, bq1 := { e.bq1 with hist := [0, 0, 0, 0] }, bq2 := { e.bq2 with hist := [0, 0, 0, 0] },
    notch := { e.notch with hist := [0, 0, 0, 0] }, dSum := 0, sEnable := x, ramp := false, vRamp := 0 }

/-- The engine switches to FALLBACK_LOOP (05 R212). -/
def demandLost (s : State) (n : Nat) : State :=
  let s := engStatusBit (s.modEng n fun e => { closeLoop e e.x with fallback := true }) n 29 false
  quickStopOf (emcy s 0xFF2B 4 n 0) n 4

/-- The fabric's word in this tick (05 R212): one missing is replaced by the last, the second leads to the fallback. -/
def demandStep (s : State) (n : Nat) : State :=
  let e := s.engine n
  if s.reg (K.axLoopMode n) = 2 ∧ e.fallback = false then
    match (if portServes s (s.regN (K.tapPort n)) then e.wDem else none) with
    | some w => s.modEng n fun e => { e with lastWord := w, missDem := 0 }
    | none =>
      if e.missDem = 0 then engStatusBit (s.modEng n fun e => { e with missDem := 1 }) n 9 true
      else demandLost s n
  else s

/-- FABRIC_DEMAND_LOST (05 R212). -/
def execFabricDemandLost (n : Axis) (s : State) : Out :=
  .next (
    let e := s.engine n
    if decide (2 ≤ engState s n) && s.reg (K.axLoopMode n) == 2 && !e.fallback && e.missDem == 1
        && (!portServes s (s.regN (K.tapPort n)) || e.wDem.isNone) then demandLost s n
    else s)

/-! ## Correction and soft limits (05 R197, R210) -/

/-- The correction that the fabric requests in this tick (05 R210). -/
def requestedCorr (s : State) (n : Nat) : Int :=
  if s.reg (K.tapCorrEnable n) = 0 ∨ portServes s (s.regN (K.tapPort n)) = false then 0
  else (s.engine n).wCorr.getD (s.engine n).cIn

/-- The applied correction of this tick (05 R210). -/
def correctionStep (s : State) (n : Nat) : State :=
  let e := s.engine n
  let cin := requestedCorr s n
  let st := s.reg (K.tapCorrStep n)
  let mx := s.reg (K.tapCorrMax n)
  let c := e.corr + max (-st) (min st (cin - e.corr))
  let c' := max (-mx) (min mx c)
  let s := if c' = c then s else engStatusBit s n 10 true
  (s.modEng n fun e => { e with cIn := cin, corr := c' }).setReg (K.tapCorrection n) c'

/-- The set-point after correction and soft limits (05 R197). -/
def softStep (s : State) (n : Nat) : State :=
  let e := s.engine n
  let v := wrap64 (e.sp + e.corr)
  let lo := s.reg (K.limSoftMin n)
  let hi := s.reg (K.limSoftMax n)
  let on := s.reg (K.limSoftEnable n) == 1 && (s.fb n).stat.testBit 30
  if on && decide (v < lo ∨ hi < v) then
    let s := s.modEng n fun e => { e with s := if v < lo then lo else hi, softOut := true }
    if e.softOut then s
    else quickStopOf (emcy (engStatusBit s n 13 true) 0xFF29 5 n (if v < lo then 0 else 1)) n 4
  else s.modEng n fun e => { e with s := v, softOut := false }

/-! ## Supervision (05 R196) -/

/-- A fault acts by FE_ACTION (05 R196); a moving group loses the member (06 R230). -/
def faultAct (s : State) (n : Nat) : State :=
  let act := s.reg (K.feAction n)
  if act = 0 then s
  else if act = 1 ∨ (groupOf s n).isNone = true then endAtOutput (memberLost s n 4) n 0
  else quickStopOf (s.modEng n fun e => { e with afterStop := true, feStop := true }) n 4

/-- The following-error fault (05 R196). -/
def feFault (s : State) (n : Nat) (err : Nat) : State :=
  if s.regBit (K.engStatus n) 15 then s
  else
    let st := stepOf (s.fb n).modeUse
    faultAct (emcy (engStatusBit s n 15 true) 0xFF20 5 n (min (if st = 0 then err else err / st) (2 ^ 32 - 1))) n

/-- The velocity fault (05 R196). -/
def velFault (s : State) (n : Nat) (v : F64) : State :=
  if s.regBit (K.engStatus n) 14 then s
  else faultAct (emcy (engStatusBit s n 14 true) 0xFF2A 5 n (min (fToIntTrunc (fAbs v) 0).toNat (2 ^ 32 - 1))) n

/-- Supervision of a tick: `live` is false in open loop on a port that is not VALID (05 R198). -/
def superviseStep (s : State) (n : Nat) (live clipped : Bool) : State :=
  let e := s.engine n
  let err := (wrap64 (e.s - e.x)).natAbs
  let s := engStatusBit (engStatusBit s n 28 clipped) n 27 (live && decide (s.reg (K.feWarn n) < err))
  let beyond := live && decide (s.reg (K.feLimit n) < err)
  let s := s.modEng n fun e => { e with feCount := if beyond then e.feCount + 1 else 0 }
  let s := if beyond && decide (s.regN (K.feTime n) ≤ (s.engine n).feCount) then feFault s n err else s
  let vl := s.regN (K.limVelLimit n)
  let s := if live && !fLe vl 0 && fLt vl (fAbs e.vAct) then velFault s n e.vAct else s
  if (s.engine n).afterStop && (!axisGroupMoves s n || ((s.engine n).feStop && live && decide (2 * s.reg (K.feLimit n) ≤ err))) then
    endAtOutput (s.modEng n fun e => { e with afterStop := false, feStop := false }) n 0
  else s

/-- FE_FAULT (05 R196): the last of FE_TIME consecutive ticks above FE_LIMIT. -/
def execFeFault (n : Axis) (s : State) : Out :=
  .next (
    let e := s.engine n
    let err := (wrap64 (e.s - e.x)).natAbs
    if decide (2 ≤ engState s n) && e.valid && decide (s.reg (K.feLimit n) < err) && decide (s.regN (K.feTime n) ≤ e.feCount + 1) then
      feFault s n err
    else s)

/-! ## One tick of an engine (05 R182, R198, R200) -/

/-- What the loop takes in this tick. -/
def loopIn (s : State) (n : Nat) (ts : F64) : LoopIn :=
  { loop := loopUse s n, outMode := s.regN (K.cmOutputMode n), gains := (s.engine n).gains, outLimit := s.regN (K.limOutLimit n),
    stepsPerPeriod := s.regN (K.stpStepsPerPeriod n), ts := ts, x := (s.engine n).x,
    freeze := s.regBit (K.clampCmStatus n) 28, word := (s.engine n).lastWord }

/-- ENGINE_STATE as the engine stands (05 R213). -/
def showEngine (s : State) (n : Nat) : State :=
  let e := s.engine n
  s.setReg (K.engineState n)
    (if e.first then 1 else if e.afterStop then 5 else if e.leaving ≠ .no ∧ e.leaving ≠ .group then 4
      else if s.regBit (K.engStatus n) 30 then 3 else 2)

/-- The loop is closed: everything from the set-point to supervision. In the tick that closes it the set-point is the position
taken, and the source acts from the next one on (05 R200 steps 3 and 4). -/
def runLoop (s : State) (n : Nat) : State :=
  let ts := tickTs s
  let s := demandStep s n
  let s := if (s.engine n).first then s else setpointStep s n ts
  let s := s.modEng n fun e => { e with rest := if e.sp = e.spPrev then e.rest + 1 else 0, spDelta := wrap64 (e.sp - e.spPrev), spPrev := e.sp }
  let s := disableStep s n
  let s := softStep (correctionStep s n) n
  let o := loopStep (s.engine n) (loopIn s n ts)
  let s := s.modEng n fun _ => { o.eng with demand := o.demand, out := true }
  let e := s.engine n
  let s := s.setRegs [(K.engSetpoint n, e.s), (K.engFollowingError n, wrap64 (e.s - e.x)), (K.engVelActual n, e.vAct)]
  let live := e.valid || s.reg (K.axLoopMode n) != 3
  showEngine (superviseStep s n live o.clipped) n

/-- The loop is lost with VALID (05 R198): no demand at once; EN falls at the next output instant. -/
def loopLost (s : State) (n : Nat) : State :=
  let s := engStatusBit (engStatusBit s n 12 true) n 31 false
  let s := s.modEng n fun e => { e with lost := true, demand := 0, out := false }
  let s := match groupOf s n with
    | some g => if groupMoves s g then gstBit s g 9 true else s
    | none => s
  quickStopOf s n 4

/-- The loop closes in this tick (05 R200 step 3): sources 2 to 4 are joined by the rule of 05 R207. -/
def closeNow (s : State) (n : Nat) : State :=
  engStatusBit (s.modEng n fun e => { closeLoop e e.x with vAct := 0, pathSp := none }) n 29 (decide (2 ≤ s.reg (K.axSource n)))

/-- One engine at the sample instant (05 R182). -/
def stepEngine (s : State) (n : Nat) : State :=
  let e := s.engine n
  let st := engState s n
  let need := s.reg (K.axLoopMode n) != 3
  if st = 0 then s
  else if e.leaving = .off then s.modEng n fun e => { e with demand := 0, out := false }
  else if st = 1 then
    if need && !e.valid then (if hn : n < 48 then engineOff s n hn 0x08000022 else s)
    else if e.first then runLoop (closeNow s n) n
    else s.modEng n fun e => { e with demand := 0, out := false }
  else if e.lost then endAtOutput (s.modEng n fun e => { e with demand := 0, out := false }) n 0
  else if need && !e.valid then loopLost s n
  else runLoop s n

/-- DEMAND and the EN request cross the bridge to the port (01 R21 step 5; 05 R182), wrong by `err` where the unit that computes
the axis is faulty. -/
def deliver (s : State) (n : Nat) (err : UnitErr) : State :=
  if s.fe.bridgeDown then s
  else
    let e := s.engine n
    let on := engState s n != 0 && e.leaving != .off
    s.modCm n fun c =>
      { c with
        fresh := true, dem := if on && e.out then sat32 (e.demand + err.demand) else 0, enReq := on && !err.en,
        demServo := on && e.out }

/-- An engine at the output instant (05 R200 step 4, R201, R203): the ones that leave are off, the ones that close their
loop are in servo and their enables complete. -/
def engineOutput (s : State) (n : Nat) : State :=
  let e := s.engine n
  if hn : n < 48 then
    if e.leaving = .off then engineOff s n hn e.enAbort
    else if e.first && e.out then
      let s := showEngine (engStatusBit (s.modEng n fun e => { e with first := false }) n 31 true) n
      completeAll s (.enable (.axis ⟨n, hn⟩)) 0 []
    else s
  else s

/-- An engine at the tick (05 R181, R187, R188, R194, R200 step 3): filters and gains written since the last tick act,
and the latched position and VALID are the ones it uses. -/
def tickEngine (redo : Bool) (s : State) (n : Nat) : State :=
  let ts := tickTs s
  let s := s.modEng n fun e =>
    { e with
      bq1 := if redo then bypassed else applyBiquad e.bq1, bq2 := if redo then bypassed else applyBiquad e.bq2,
      notch := applyNotch ts redo e.notch,
      gains := [s.regN (K.loopKp n), s.regN (K.loopKvff n), s.regN (K.loopKaff n), s.regN (K.loopVFs n), s.regN (K.loopKi n),
        s.regN (K.loopIntLimit n), s.regN (K.velKv n), s.regN (K.velTau n)],
      xPrev := e.x, x := s.reg (K.fbsPosition n), valid := (s.fb n).stat.testBit 31,
      first := e.first || (engState s n == 1 && (s.cm n).settled) }
  let e := s.engine n
  s.setRegs [(K.bq1Enable n, b2i e.bq1.on), (K.bq2Enable n, b2i e.bq2.on), (K.notchEnable n, b2i e.notch.on)]

/-- TICK_PERIOD of a SERVO_RATE in ns (05 R180). -/
def periodOf (rate : Nat) : Nat := [125000, 62500, 31250, 15625].getD rate 62500

/-- ENGINE_CLEAR (05 R213). -/
def execEngineClear (r : Req) (n : Axis) (s : State) : Out :=
  .next (request s r (K.engClear n) 2 fun s =>
    writeEntry s r (K.engClear n) 1 { state := whenCode (engState s n != 0) 0x08000022 } fun s =>
      ok (s.setReg (K.engStatus n) (clearMask (s.regN (K.engStatus n)) 0xFF00 : Nat)) r)

/-- A biquad at a start: enabled if it was enabled when the store was written and its coefficients pass (05 R193). -/
def startBiquad (s : State) (n : Nat) (q : Bq) : Filt :=
  let k := biquadKeys n q
  let c := k.2.map s.regN
  if s.reg k.1 = 1 ∧ biquadOk c = true then { on := true, coef := c } else {}

/-- The notch at a start, by the same rule at the stored rate (05 R193). -/
def startNotch (s : State) (n : Nat) : Filt :=
  let p := [s.regN (K.notchCentre n), s.regN (K.notchWidth n), s.regN (K.notchDepth n)]
  if s.reg (K.notchEnable n) = 1 ∧ notchOk p (tickTs s) = true then
    { on := true, spec := p, coef := notchDesign p (tickTs s) }
  else {}

/-- The filters of an axis whose store has been read (05 R193). -/
def startFilters (s : State) (n : Nat) : State :=
  let a := startBiquad s n .one
  let b := startBiquad s n .two
  let c := startNotch s n
  let s := if a.on || b.on || c.on then s.modEng n fun e => { e with bq1 := a, bq2 := b, notch := c } else s
  s.setRegs [(K.bq1Enable n, b2i a.on), (K.bq2Enable n, b2i b.on), (K.notchEnable n, b2i c.on)]

/-- SERVO_RATE_WRITE (05 R180, R181): the new rate takes effect at the next tick. -/
def execServoRateWrite (r : Req) (v : BitVec 8) (s : State) : Out :=
  .next (request s r K.rateServoRate 2 fun s =>
    writeEntry s r K.rateServoRate v.toNat {} fun s =>
      let s := if s.reg K.rateServoRate = v.toNat then s else { s with fe := { s.fe with ratePend := true } }
      ok (s.setReg K.rateServoRate v.toNat) r)

end Sys2Proof.Machine
end

