-- ==== Sys2Proof/Machine/Curve.lean ====
section
/-! DEFINITION. The geometry of segments (spec/06 R238 to R242, R252): positions, tangents and lengths of straight lines,
arcs and splines. A list of twelve values holds one value for each slot. -/

namespace Sys2Proof.Machine

/-- The square root of a value that is not negative, rounded to nearest. -/
def fSqrt (x : F64) : F64 :=
  if fMant x = 0 then fZero
  else if !fFinite x then x
  else
    let odd := fPow x % 2 ≠ 0
    let m := if odd then 2 * fMant x else fMant x
    let e := if odd then fPow x - 1 else fPow x
    let r := isqrt (m * 2 ^ 120)
    fRound false (2 * r + (if r * r = m * 2 ^ 120 then 0 else 1)) 2 (e / 2 - 60)

/-- A free value from 0 to 1, both included, by its number. -/
def freeFrac (i : Nat) : F64 := fOfRat ((Config.free i % (2 ^ 32 + 1) : Nat) : Int) (2 ^ 32) 0

/-- A value between two others, or one of them. -/
def between (a b f : F64) : F64 := if f = fOne then b else fAdd a (fMul (fSub b a) f)

def hyp (xs : List F64) : F64 := fSqrt (xs.foldl (fun acc x => fAdd acc (fMul x x)) 0)

def vget (v : List F64) (i : Nat) : F64 := v.getD i 0
def vset (v : List F64) (i : Nat) (x : F64) : List F64 := v.set i x

/-- The slots of a mask, ascending (06 R235). -/
def maskSlots (mask : Nat) : List Nat := bitsOf mask 12

/-- A point that a segment names: the slots outside its mask hold their start (06 R235), INCREMENTAL adds the start. -/
def place (x : Seg) (start vals : List F64) : List F64 :=
  ((maskSlots x.mask).zip vals).foldl (fun v iv =>
    vset v iv.1 (if x.flags.testBit 0 then fAdd (vget start iv.1) iv.2 else iv.2)) start

/-- Control points 0 to COUNT - 1 of a spline (06 R241). -/
def controlPoints (x : Seg) (start : List F64) : List (List F64) :=
  let n := popCount x.mask 12
  start :: (List.range (x.count - 1)).map fun i => place x start ((x.vals.drop (n * i)).take n)

/-- The end of a segment's motion (06 R238 to R247). An endless gear has no end of its own. -/
def segEnd (x : Seg) (start : List F64) : List F64 :=
  if x.typ = 1 ∨ x.typ = 2 ∨ (x.typ = 7 ∧ x.kind = 0) then place x start x.vals
  else if x.typ = 3 ∨ x.typ = 4 then (controlPoints x start).getLastD start
  else if x.typ = 7 then
    ((maskSlots x.mask).zip x.vals).foldl (fun v iv => vset v iv.1 (fAdd (vget start iv.1) (fMul iv.2 x.lead))) start
  else start

/-! ## Arcs (06 R239, R240) -/

/-- The angle of a vector in turns times 2 ^ 64. -/
def angle64 (y x : F64) : Int :=
  let k := -(min (fPow y) (fPow x))
  let yi := fRatNum y k
  let xi := fRatNum x k
  if yi = 0 ∧ xi = 0 then 0 else (angleOf 50 yi xi : Int) * 2 ^ 12

/-- The arc of a segment, with ARC_TOL as it is when the segment enters the window (06 R240, R268). -/
def arcOf (x : Seg) (tol : F64) : Arc :=
  let start := x.start
  let fin := x.fin
  let inc := x.flags.testBit 0
  let cp := if inc then fAdd (vget start x.p) x.cp else x.cp
  let cq := if inc then fAdd (vget start x.q) x.cq else x.cq
  let sp := fSub (vget start x.p) cp
  let sq := fSub (vget start x.q) cq
  let ep := fSub (vget fin x.p) cp
  let eq := fSub (vget fin x.q) cq
  let a0 := angle64 sq sp
  let a1 := angle64 eq ep
  let d := (if x.dir = 1 then a1 - a0 else a0 - a1) % 2 ^ 64
  let d := if d = 0 ∨ fLe (hyp [fSub ep sp, fSub eq sq]) tol = true then 2 ^ 64 else d
  ⟨cp, cq, hyp [sp, sq], hyp [ep, eq], a0, (if x.dir = 1 then 1 else -1) * (d + x.turns * 2 ^ 64)⟩

/-- A sine or cosine as a binary64 value. -/
def trigF (v : Int) : F64 := fOfRat v 1 (-96)

/-- The swept angle in radians, with its sign. -/
def arcRad (a : Arc) : F64 := fMul (fOfRat a.sweep 1 (-64)) 0x401921FB54442D18

/-- Derivatives of order 0 to 3 at one place. -/
structure Jet where
  d0 : F64
  d1 : F64 := 0
  d2 : F64 := 0
  d3 : F64 := 0
deriving DecidableEq, Repr

/-- The two plane coordinates of an arc at a fraction of it, with their derivatives by that fraction: the radius is linear
in the angle (06 R240). -/
def arcAt (a : Arc) (u : F64) : Jet × Jet :=
  let sc := sinCos (a.phi0 + a.sweep * fRatNum u 0 / fRatDen u 0)
  let s := trigF sc.1
  let c := trigF sc.2
  let r := between a.r0 a.r1 u
  let dr := fSub a.r1 a.r0
  let w := arcRad a
  let w2 := fMul w w
  let one := fMul dr w
  let two := fMul r w2
  let three := fMul fTwo one
  let k2 := fMul fThree (fMul dr w2)
  let k3 := fMul r (fMul w w2)
  (⟨fAdd a.cp (fMul r c), fSub (fMul dr c) (fMul (fMul r w) s), fNeg (fAdd (fMul three s) (fMul two c)),
      fSub (fMul k3 s) (fMul k2 c)⟩,
    ⟨fAdd a.cq (fMul r s), fAdd (fMul dr s) (fMul (fMul r w) c), fSub (fMul three c) (fMul two s),
      fNeg (fAdd (fMul k2 s) (fMul k3 c))⟩)

/-! ## Splines (06 R241, R242) -/

/-- One round of de Boor's scheme over the affected points; `j` is the index of the first of them. -/
def boorRound (knots : List F64) (k d r : Nat) (t : F64) : Nat → List F64 → List F64
  | j, a :: b :: rest =>
    let lo := vget knots (j + k - d)
    let hi := vget knots (j + 1 + k - r)
    let al := if fLt lo hi then fDiv (fSub t lo) (fSub hi lo) else fZero
    fAdd (fMul (fSub fOne al) a) (fMul al b) :: boorRound knots k d r t (j + 1) (b :: rest)
  | _, _ => []

/-- All rounds: the points shrink by one each time. -/
def boorRounds (knots : List F64) (k d : Nat) (t : F64) : Nat → Nat → List F64 → F64
  | 0, _, pts => pts.headD 0
  | fuel + 1, r, pts => boorRounds knots k d t fuel (r + 1) (boorRound knots k d r t r pts)

/-- The knot span of a parameter. -/
def spanOf (knots : List F64) (d c : Nat) (t : F64) : Nat :=
  ((List.range (c - d)).map (· + d)).foldl (fun acc k => if fLe (vget knots k) t && fLt (vget knots k) (vget knots (k + 1)) then k else acc) d

/-- The value of a spline coordinate at a parameter. -/
def boorAt (knots : List F64) (d : Nat) (t : F64) (pts : List F64) : F64 :=
  let k := spanOf knots d pts.length t
  boorRounds knots k d t d 1 ((pts.drop (k - d)).take (d + 1))

/-- The control points of the derivative of a spline coordinate. -/
def boorDiff (knots : List F64) (d : Nat) (pts : List F64) : List F64 :=
  (List.range (pts.length - 1)).map fun i =>
    let h := fSub (vget knots (i + d + 1)) (vget knots (i + 1))
    if fLe h 0 then 0 else fDiv (fMul (fOfInt (d : Int)) (fSub (vget pts (i + 1)) (vget pts i))) h

/-- The derivatives of a spline coordinate from the first of `n` orders on, by its knot range `w` as the unit. -/
def boorJet (t w : F64) : Nat → List F64 → Nat → List F64 → List F64
  | 0, _, _, _ => []
  | n + 1, knots, d, pts =>
    boorAt knots d t pts :: (if d = 0 then List.replicate n 0
      else (boorJet t w n (knots.drop 1).dropLast (d - 1) (boorDiff knots d pts)).map (fMul w))

def jetOf (l : List F64) : Jet := ⟨vget l 0, vget l 1, vget l 2, vget l 3⟩

/-- The derivatives of a quotient. -/
def jetDiv (a w : Jet) : Jet :=
  let c0 := fDiv a.d0 w.d0
  let c1 := fDiv (fSub a.d1 (fMul w.d1 c0)) w.d0
  let c2 := fDiv (fSub (fSub a.d2 (fMul fTwo (fMul w.d1 c1))) (fMul w.d2 c0)) w.d0
  let c3 := fDiv (fSub (fSub (fSub a.d3 (fMul fThree (fMul w.d1 c2))) (fMul fThree (fMul w.d2 c1))) (fMul w.d3 c0)) w.d0
  ⟨c0, c1, c2, c3⟩

/-- Every slot of a spline at a fraction of its knot range, with its derivatives by that fraction. -/
def splineAt (x : Seg) (u : F64) : List Jet :=
  let lo := x.knots.headD 0
  let w := fSub (x.knots.getLastD 0) lo
  let t := between lo (x.knots.getLastD 0) u
  let pts := controlPoints x x.start
  let jet := fun l => jetOf (boorJet t w 4 x.knots x.degree l)
  let den := jet x.weights
  (List.range 12).map fun i =>
    if x.mask.testBit i then jetDiv (jet ((pts.zip x.weights).map fun pw => fMul (vget pw.1 i) pw.2)) den
    else ⟨vget x.start i, 0, 0, 0⟩

/-! ## Positions, derivatives, lengths -/

/-- Every slot of a segment at a fraction `u` of it, with the derivatives by that fraction: of a line or an arc the fraction
of its length or angle, of a spline that of its knot range. -/
def segJets (x : Seg) (u : F64) : List Jet :=
  if x.typ = 3 ∨ x.typ = 4 then splineAt x u
  else
    let lin := (List.range 12).map fun i =>
      (⟨between (vget x.start i) (vget x.fin i) u, fSub (vget x.fin i) (vget x.start i), 0, 0⟩ : Jet)
    if x.typ = 2 then
      let pq := arcAt x.arc u
      (lin.set x.p pq.1).set x.q pq.2
    else lin

/-- The slots whose motion counts as path length (06 R252): those in both masks, or all of the segment if these stand. -/
def pathSlots (x : Seg) (pm : Nat) : List Nat :=
  let moved := fun i => if x.typ = 2 ∧ (i = x.p ∨ i = x.q) then true
    else if x.typ = 7 ∧ x.kind = 1 then (((maskSlots x.mask).zip x.vals).find? fun iv => iv.1 == i).any fun iv => fAbs iv.2 != 0
    else (if x.typ = 3 ∨ x.typ = 4 then controlPoints x x.start else [x.fin]).any fun p => !(fLe (vget p i) (vget x.start i) && fLe (vget x.start i) (vget p i))
  let both := maskSlots (x.mask &&& pm)
  if both.any moved then both else maskSlots x.mask

/-- The rate of path length by the fraction of a segment. -/
def speedOf (x : Seg) (c : List Jet) : F64 := hyp (x.on.map fun i => (c.getD i ⟨0, 0, 0, 0⟩).d1)

/-- Gauss's nodes and weights with five points on -1 to 1. -/
def gaussNodes : List (F64 × F64) :=
  [(0xBFECFF6CE0533A69, 0x3FCE539EC36E038C), (0xBFE13B23FD99B705, 0x3FDEA1DA25AE415B), (0, 0x3FE23456789ABCDF),
    (0x3FE13B23FD99B705, 0x3FDEA1DA25AE415B), (0x3FECFF6CE0533A69, 0x3FCE539EC36E038C)]

/-- The path length of a segment between two fractions of it, by quadrature (06 R256). -/
def gauss (x : Seg) (a b : F64) : F64 :=
  let h := fDiv (fSub b a) fTwo
  let m := fDiv (fAdd a b) fTwo
  fMul h (gaussNodes.foldl (fun acc nw => fAdd acc (fMul nw.2 (speedOf x (segJets x (fAdd m (fMul h nw.1)))))) 0)

/-- A segment whose length is found by quadrature: a spline, or an arc with unlike radii. -/
def curved (x : Seg) : Bool := x.typ == 3 || x.typ == 4 || x.typ == 2 && x.arc.r0 != x.arc.r1

/-- The fractions at which the quadrature of a segment is cut: sixteen pieces of every knot span or of every turn. -/
def cutsOf (x : Seg) : List F64 :=
  if x.typ = 2 then
    let n := 16 * (x.arc.sweep.natAbs / 2 ^ 64 + 1)
    (List.range n).map fun i : Nat => fOfRat ((i : Int) + 1) n 0
  else
    let lo := x.knots.headD 0
    let w := fSub (x.knots.getLastD 0) lo
    ((x.knots.zip (x.knots.drop 1)).filter fun ab => fLt ab.1 ab.2).flatMap fun ab =>
      (List.range 16).map fun i : Nat => fDiv (fSub (between ab.1 ab.2 (fOfRat ((i : Int) + 1) 16 0)) lo) w

/-- The lengths gone at the cuts of a segment. -/
def sumCuts (x : Seg) : F64 → F64 → List F64 → List (F64 × F64)
  | _, _, [] => []
  | u, l, c :: rest =>
    let l' := fAdd l (gauss x u c)
    (c, l') :: sumCuts x c l' rest

/-- The path length of a segment (06 R252). -/
def segLen (x : Seg) : F64 :=
  if x.typ = 1 ∨ (x.typ = 7 ∧ x.kind = 0) then hyp (x.on.map fun i => fSub (vget x.fin i) (vget x.start i))
  else if x.typ = 7 then x.lead
  else if curved x then (x.cuts.getLastD (0, 0)).2
  else if x.typ = 2 then speedOf x (segJets x 0)
  else 0

/-- Newton's steps towards the fraction at which the length `d` beyond `a` is reached, within a piece (06 R256). -/
def newton (x : Seg) (a b d : F64) : Nat → F64 → F64
  | 0, u => u
  | n + 1, u =>
    let s := speedOf x (segJets x u)
    if fLe s 0 then u
    else
      let u' := fMax a (fMin b (fAdd u (fDiv (fSub d (gauss x a u)) s)))
      if fLe (fAbs (fSub u' u)) 0x3CF0000000000000 then u' else newton x a b d n u'

/-- The fraction of a segment at which the path length `p` is gone. -/
def fracAt (x : Seg) (p : F64) : F64 :=
  if fLe x.len 0 then 0
  else if !curved x then fMax 0 (fMin fOne (fDiv p x.len))
  else
    let before := x.cuts.filter fun c => fLe c.2 p
    let a := before.getLastD (0, 0)
    let b := (x.cuts.drop before.length).headD (fOne, x.len)
    if fLe b.2 a.2 then b.1
    else newton x a.1 b.1 (fSub p a.2) 8 (between a.1 b.1 (fDiv (fSub p a.2) (fSub b.2 a.2)))

/-- The position of every slot at path length `p` of a segment. -/
def segPoint (x : Seg) (p : F64) : List F64 :=
  if x.typ = 7 ∧ x.kind = 1 then
    ((maskSlots x.mask).zip x.vals).foldl (fun v iv => vset v iv.1 (fAdd (vget x.start iv.1) (fMul iv.2 p))) x.start
  else if fLe x.len p then x.fin
  else (segJets x (fracAt x p)).map (·.d0)

/-- The derivatives of every slot's position by path length: the first, the second and the third (06 R253). Where the rate
of the fraction is zero, the next derivative that is not zero gives the direction; `back` says on which side of it. -/
def pathJets (x : Seg) (u : F64) (back : Bool) : List Jet :=
  let c := segJets x u
  let sum := fun (f : Jet → F64) => (x.on.map fun i => f (c.getD i ⟨0, 0, 0, 0⟩)).foldl fAdd 0
  let s := speedOf x c
  if fLe s 0 then
    let n2 := hyp (x.on.map fun i => (c.getD i ⟨0, 0, 0, 0⟩).d2)
    let n3 := hyp (x.on.map fun i => (c.getD i ⟨0, 0, 0, 0⟩).d3)
    c.map fun j => ⟨j.d0,
      if fLt 0 n2 then fDiv (if back then fNeg j.d2 else j.d2) n2 else if fLt 0 n3 then fDiv j.d3 n3 else 0, 0, 0⟩
  else
    let s1 := fDiv (sum fun j => fMul j.d1 j.d2) s
    let s2 := fSub (fDiv (sum fun j => fAdd (fMul j.d2 j.d2) (fMul j.d1 j.d3)) s) (fDiv (fMul s1 s1) s)
    c.map fun j =>
      let x1 := fDiv j.d1 s
      let x2 := fDiv (fSub j.d2 (fMul x1 s1)) (fMul s s)
      ⟨j.d0, x1, x2, fDiv (fSub (fSub j.d3 (fMul fThree (fMul (fMul s s1) x2))) (fMul s2 x1)) (fMul s (fMul s s))⟩

/-- The direction of motion of every slot at a fraction of a segment: its rate by path length. -/
def tangent (x : Seg) (u : F64) (back : Bool) : List F64 := (pathJets x u back).map (·.d1)

end Sys2Proof.Machine
end

