-- ==== Sys2Proof/Machine/Planner.lean ====
section
/-! DEFINITION. The planner of a group's path (spec/06 R252 to R259, R265 to R267): what a tick may do along a queue of
segments. The spec bounds velocity, acceleration and jerk and leaves the choice between the bounds to the device: the model
takes the greatest jerk of a set of candidates from which the group can still come to rest within its limits. -/

namespace Sys2Proof.Machine

/-- The limits of a group in a tick; `axV`, `axA`, `axJ` hold AX_VMAX, AX_AMAX and AX_JMAX of each slot. -/
structure Lim where
  pm : Nat
  ts : F64
  ov : F64
  hold : Bool
  a : F64
  j : F64
  vMax : F64
  axV : List F64
  axA : List F64
  axJ : List F64
deriving DecidableEq, Repr

/-- Velocity and acceleration along the path at a tick instant, and the jerk of the tick before it. -/
structure Kin where
  v : F64
  a : F64
  j : F64
deriving DecidableEq, Repr

/-- Which limits a plan keeps: those of the slots (06 R227), and the feeds, scaled by `scale` (06 R253, R265). -/
structure Keep where
  slots : Bool
  feeds : Bool
  scale : F64
deriving DecidableEq, Repr

/-- No axis sets a limit of its own (06 R227). -/
def Lim.bare (l : Lim) : Bool := l.axV.all (fLe · 0) && l.axA.all (fLe · 0) && l.axJ.all (fLe · 0)

/-- `1 + 2 ^ -40`: the room that comparisons of rounded values leave. -/
def fRoom : F64 := 0x3FF0000000001000

/-- A value keeps a limit, up to rounding. -/
def fWithin (x lim : F64) : Bool := fLe (fAbs x) (fMul lim fRoom)

/-- The largest rate along a direction that keeps every slot within its limit; a limit of 0 sets none (06 R227). -/
def dirCap (lims dir : List F64) (top : F64) : F64 :=
  (List.range 12).foldl (fun c i =>
    if fLe (vget lims i) 0 || fLe (fAbs (vget dir i)) 0 then c else fMin c (fDiv (vget lims i) (fAbs (vget dir i)))) top

/-- The slots keep their limits at a tick instant (06 R253); `jerk` tells whether the jerk is limited there. -/
def slotsKeep (l : Lim) (d : List Jet) (k : Kin) (jerk : Bool) : Bool :=
  (List.range 12).all fun i =>
    let x := d.getD i ⟨0, 0, 0, 0⟩
    let free := fun (m : List F64) => fLe (vget m i) 0
    (free l.axV || fWithin (fMul x.d1 k.v) (vget l.axV i))
      && (free l.axA || fWithin (fAdd (fMul x.d1 k.a) (fMul x.d2 (fMul k.v k.v))) (vget l.axA i))
      && (!jerk || free l.axJ || fWithin (fAdd (fAdd (fMul x.d1 k.j) (fMul fThree (fMul x.d2 (fMul k.v k.a))))
          (fMul x.d3 (fMul k.v (fMul k.v k.v)))) (vget l.axJ i))

/-- The acceleration and the jerk along the path that the slots leave of `a` and `j` on a straight way from path length `p`
on (06 R253). -/
def pathCaps (l : Lim) (slots : Bool) (x : Seg) (p a j : F64) : F64 × F64 :=
  if !slots || l.bare then (a, j)
  else
    let d := tangent x (fracAt x p) true
    (dirCap l.axA d a, dirCap l.axJ d j)

/-- A segment's own velocity: FEED, or V_MAX for RAPID (06 R236). -/
def ownFeed (l : Lim) (x : Seg) : F64 := if x.flags.testBit 2 then l.vMax else x.feed

/-- The target velocity of a segment under an override: never above V_MAX (06 R253, R265). -/
def feedCap (l : Lim) (x : Seg) (ov : F64) : F64 := fMin (fMul (ownFeed l x) ov) l.vMax

/-! ## S-curves, a tick at a time (06 R254) -/

/-- The state a tick later under a constant jerk; the group does not move back. -/
def Kin.next (k : Kin) (ts j : F64) : Kin :=
  let a := fAdd k.a (fMul j ts)
  let v := fAdd k.v (fDiv (fMul (fAdd k.a a) ts) fTwo)
  if fLe v 0 then ⟨0, 0, j⟩ else ⟨v, a, j⟩

/-- The jerk of a tick on the S-curve to velocity `v` under the limits `a` and `j`: the acceleration goes to the greatest
value from which it can still fall to zero, a tick at a time, without passing `v`. -/
def Kin.towards (k : Kin) (ts a j v : F64) : F64 :=
  let c := fAdd (fMul fTwo (fSub k.v v)) (fMul k.a ts)
  let h := fMul j ts
  let m := fMin a (fSub (fSqrt (fAdd (fMul h h) (fMul j (fAbs c)))) h)
  fClamp (fDiv (fSub (if fSign c then m else fNeg m) k.a) ts) j

/-- `2 ^ -20`: below this part of the smallest step the group counts as at rest. -/
def fTiny : F64 := 0x3EB0000000000000

/-- The state counts as rest, for a jerk limit `j` in a segment of its own velocity `v`. -/
def Kin.still (k : Kin) (ts j v : F64) : Bool :=
  let t := fMul fTiny (fMin (fMul j (fMul ts ts)) v)
  fLe k.v t && fLe (fMul (fAbs k.a) ts) t

/-! ## The way to the next point of rest -/

/-- A segment of motion that is planned and sound. -/
def planned (x : Seg) : Bool := x.checked && x.bad == 0 && decide (x.typ ≤ 4)

/-- The segments to the next point of rest: an EXACT_STOP, or the last that can be planned (06 R255, R259). A segment of
zero length takes no part. -/
def wayOf : List Seg → List Seg
  | [] => []
  | x :: rest =>
    if !planned x then []
    else (if fLe x.len 0 then [] else [x]) ++ (if x.flags.testBit 1 then [] else wayOf rest)

/-- The path length from `p` in the first segment to the end of the way. -/
def leftOf (w : List Seg) (p : F64) : F64 := fMax 0 (fSub ((w.map (·.len)).foldl fAdd 0) p)

/-- A junction may be crossed in state `k` (06 R255): in a tick, no slot's velocity changes by more than its acceleration
allows, and the limits of both segments hold at the junction, but for the jerk. -/
def gateKeeps (l : Lim) (m : Keep) (x y : Seg) (k : Kin) : Bool :=
  let ti := pathJets x fOne true
  let tn := pathJets y 0 false
  (!m.feeds || fWithin k.v (feedCap l x m.scale) && fWithin k.v (feedCap l y m.scale))
    && (!m.slots || (List.range 12).all (fun i =>
        let a := if fLe (vget l.axA i) 0 then l.a else vget l.axA i
        fWithin (fMul (fSub (tn.getD i ⟨0, 0, 0, 0⟩).d1 (ti.getD i ⟨0, 0, 0, 0⟩).d1) k.v) (fMul a l.ts))
      && (l.bare || slotsKeep l ti k false && slotsKeep l tn k false))

/-- `ds` further along a way from `p`, across junctions: what is left of the way, the place, and whether a junction was
crossed; none where a junction does not allow it, or where the way ends more than `slack` before. -/
def along (l : Lim) (m : Keep) (k : Kin) (slack : F64) : List Seg → F64 → F64 → Option (List Seg × F64 × Bool)
  | [], _, _ => none
  | x :: rest, p, ds =>
    let rem := fSub x.len p
    if fLt ds rem then some (x :: rest, fAdd p ds, false)
    else match rest with
      | [] => if fLe (fSub ds rem) slack then some ([x], x.len, false) else none
      | y :: _ =>
        if gateKeeps l m x y k then (along l m k slack rest 0 (fMax 0 (fSub ds rem))).map fun r => (r.1, r.2.1, true) else none

/-- The way `ds` along to state `k`, if it keeps its limits at the junctions, crossed with velocity `v`, and at its end (06
R253, R255). -/
def tickAlong (l : Lim) (m : Keep) (v : F64) (k : Kin) (ds slack : F64) (w : List Seg) (p : F64) : Option (List Seg × F64) :=
  match along l m { k with v := v } slack w p ds with
  | some (x :: rest, q, crossed) =>
    if (!m.feeds || fWithin k.v (feedCap l x m.scale))
        && (!m.slots || l.bare || slotsKeep l (pathJets x (fracAt x q) true) k (!crossed)) then some (x :: rest, q)
    else none
  | _ => none

/-- The length in which a state comes to rest under the limits `a` and `j` by an S-curve, and the greatest velocity on it. -/
def restCurve (a j : F64) (k : Kin) : F64 × F64 :=
  let t := fDiv (fAbs k.a) j
  let top := fAdd k.v (fDiv (fMul (fAbs k.a) t) fTwo)
  let down := if fLe (fMul top j) (fMul a a) then fMul top (fSqrt (fDiv top j))
    else fDiv (fMul top (fAdd (fDiv top a) (fDiv a j))) fTwo
  let third := fDiv (fMul (fAbs k.a) (fMul t t)) fThree
  if fSign k.a then (fSub down (fSub (fMul top t) (fDiv third fTwo)), k.v) else (fAdd (fAdd (fMul k.v t) third) down, top)

/-- What the S-curve alone tells of a braking under the limits `a` and `j`, `cap` the acceleration that the slots leave:
that it ends in this straight segment with all limits kept, a distance of two ticks to spare, or that the way does not
suffice for it; none where the ticks must be looked at one by one. -/
def brakeAtOnce (l : Lim) (m : Keep) (a j cap : F64) (x : Seg) (rest : List Seg) (p : F64) (k : Kin) : Option Bool :=
  let r := restCurve a j { k with a := fMax (fNeg a) k.a }
  let spare := fMul fTwo (fMul r.2 l.ts)
  let calm := x.typ == 1 && fWithin k.a cap
  let top := if m.feeds then feedCap l x m.scale else l.vMax
  let top := if m.slots && !l.bare then dirCap l.axV (tangent x 0 false) top else top
  if calm && fLe (fAdd r.1 spare) (fSub x.len p) && (!m.slots && !m.feeds || fWithin r.2 top) then some true
  else if calm && rest.isEmpty || fLt (fAdd (leftOf (x :: rest) p) spare) r.1 then some false
  else none

/-- The instants at which a braking is looked at must not be more than this. -/
def brakeSteps : Nat := 2 ^ 12

/-- The time between the instants at which a braking is looked at: a thirty-second of it, and at least a tick. -/
def brakeSpan (ts a j : F64) (k : Kin) : F64 :=
  fMax ts (fDiv (fAdd (fDiv k.v a) (fDiv (fAdd a (fAbs k.a)) j)) (fOfInt 32))

/-- The group can brake to rest within a way under `part` of the limits `a` and `j`, looked at every `h` (06 R259). -/
def brakes (l : Lim) (m : Keep) (h part a j slack : F64) : Nat → List Seg → F64 → Kin → Bool
  | 0, _, _, _ => false
  | _ + 1, [], _, _ => false
  | n + 1, x :: rest, p, k =>
    let c := pathCaps l m.slots x p a j
    let pa := fMul part c.1
    let pj := fMul part c.2
    if k.still h pj (ownFeed l x) then true
    else match brakeAtOnce l m pa pj c.1 x rest p k with
    | some b => b
    | none =>
      let k' := k.next h (k.towards h pa pj 0)
      match tickAlong l m (fMax k.v k'.v) k' (fDiv (fMul (fAdd k.v k'.v) h) fTwo) slack (x :: rest) p with
      | some r => brakes l m h part a j slack n r.1 r.2 k'
      | none => false

/-- The group can brake to rest within a way under `part` of the limits `a` and `j` (06 R259). -/
def canBrake (l : Lim) (m : Keep) (part a j slack : F64) (w : List Seg) (p : F64) (k : Kin) : Bool :=
  brakes l m (brakeSpan l.ts (fMul part a) (fMul part j) k) part a j slack brakeSteps w p k

/-- The parts of the limits under which brakings are tried: 1, 1/2, 1/4 and so on. -/
def brakeParts : List F64 := (List.range 11).map fun i : Nat => fOfRat 1 1 (-(i : Int))

/-- What lies less than this before a point of rest belongs to it: one tick under the jerk limit. -/
def endSlack (l : Lim) (x : Seg) (j : F64) : F64 := fMul l.ts (fMin (fMul j (fMul l.ts l.ts)) (ownFeed l x))

/-! ## The jerk of a tick -/

/-- A tick under a jerk keeps the limits, and the group can still come to rest in the way (06 R253, R259). -/
def jerkKeeps (l : Lim) (m : Keep) (slack : F64) (w : List Seg) (p : F64) (k : Kin) (j : F64) : Bool :=
  let n := k.next l.ts j
  fWithin n.a (fMax l.a (fAbs k.a)) && match tickAlong l m n.v n (fMul n.v l.ts) slack w p with
    | none => false
    | some r => brakeParts.any fun part => canBrake l m part l.a l.j slack r.1 r.2 n

/-- The last entry of an ascending list that passes, by bisection between entries `lo` and `hi`. -/
def lastGood (f : F64 → Bool) (c : List F64) : Nat → Nat → Nat → Option F64 → Option F64
  | 0, _, _, best => best
  | n + 1, lo, hi, best =>
    if hi ≤ lo then best
    else
      let mid := (lo + hi) / 2
      let x := vget c mid
      if f x then lastGood f c n (mid + 1) hi (some x) else lastGood f c n lo mid best

/-- The jerks that are tried under a limit `j`, ascending. -/
def jerksOf (j : F64) : List F64 :=
  let down := (List.range 17).map fun i : Nat => fMul j (fOfRat 1 1 (-(i : Int)))
  down.map fNeg ++ 0 :: down.reverse

/-- The jerk of a braking that is possible from here under `parts` of the limits `a` and `j`. -/
def brakeJerk (l : Lim) (m : Keep) (slack : F64) (parts : List F64) (a j : F64) (w : List Seg) (p : F64) (k : Kin) : Option F64 :=
  match w with
  | [] => none
  | x :: _ =>
    let c := pathCaps l m.slots x p a j
    (parts.find? fun part => canBrake l m part a j slack w p k).map fun part =>
      k.towards l.ts (fMul part c.1) (fMul part c.2) 0

/-- The jerk of a tick: the one wanted, or else the greatest candidate below it from which the group can come to rest, or
else that of a braking; where none keeps the limits, the group brakes. -/
def pickJerk (l : Lim) (m : Keep) (slack : F64) (w : List Seg) (p : F64) (k : Kin) (c : F64 × F64) (want : F64) : F64 :=
  let good := jerkKeeps l m slack w p k
  if good want then want
  else
    let cand := (jerksOf c.2).filter fun j => fLt j want
    match lastGood good cand 8 0 cand.length none with
    | some j => j
    | none => (brakeJerk l m slack brakeParts l.a l.j w p k).getD (k.towards l.ts c.1 c.2 0)

/-! ## Stops (06 R267) -/

/-- The parts of STOP_DECEL and STOP_JERK that a controlled stop tries where the limits of the axes leave less. -/
def stopParts : List F64 := (List.range 8).map (fun i : Nat => fOfRat (8 - (i : Int)) 8 0) ++ brakeParts.drop 4

/-- The least factor from 1 on for which `f` holds: found by doubling, then by halving the room between. -/
def leastFactor (f : F64 → Bool) : F64 :=
  let pow := fun i : Nat => fOfRat 1 1 (i : Int)
  if f fOne then fOne
  else match (List.range 64).find? fun i => f (pow (i + 1)) with
    | none => pow 64
    | some i =>
      ((List.range 20).foldl (fun (b : F64 × F64) _ =>
        let mid := fDiv (fAdd b.1 b.2) fTwo
        if f mid then (b.1, mid) else (mid, b.2)) (pow i, pow (i + 1))).2

/-- The jerk of a tick of a stop with deceleration `d` and jerk `j` (06 R267): raised by the least factor that ends inside
the way; a controlled stop keeps the limits of the axes wherever some braking does. -/
def stopJerk (l : Lim) (quick : Bool) (d j slack : F64) (w : List Seg) (p : F64) (k : Kin) : F64 :=
  let free : Keep := ⟨false, false, fOne⟩
  let held : Keep := ⟨true, false, fOne⟩
  let raised := fun m : Keep => leastFactor fun f => canBrake l m fOne (fMul d f) (fMul j f) slack w p k
  let plain := fun _ : Unit => let f := raised free; k.towards l.ts (fMul d f) (fMul j f) 0
  if quick then plain ()
  else match brakeJerk l held slack stopParts d j w p k with
    | some r => r
    | none =>
      match brakeJerk l held slack [raised held] d j w p k with
      | some r => r
      | none => (brakeJerk l held slack brakeParts l.a l.j w p k).getD (plain ())

/-- The length in which a state comes to rest under the limits `a` and `j`, a tick at a time. -/
def restLength (ts a j v0 : F64) : Nat → Kin → F64 → F64
  | 0, _, d => d
  | n + 1, k, d =>
    if k.still ts j v0 then d
    else
      let n' := k.next ts (k.towards ts a j 0)
      restLength ts a j v0 n n' (fAdd d (fMul n'.v ts))

/-! ## Run-in and run-out (06 R247) -/

/-- The part of twice its length that an S-curve from rest has gone, up to half its time. -/
def rampHalf (f x : F64) : F64 :=
  let d := fSub fOne f
  let cube := fun t : F64 => fMul t (fMul t t)
  let six : F64 := 0x4018000000000000
  if fLt x f then fDiv (cube x) (fMul six (fMul f d))
  else
    let h := fDiv f fTwo
    let t := fSub x h
    fAdd (fDiv (fMul f f) (fMul six d)) (fDiv (fSub (fMul t t) (fMul h h)) (fMul fTwo d))

/-- The part of twice its length that an S-curve has gone after the part `x` of its time. -/
def rampGone (f x : F64) : F64 :=
  let half : F64 := 0x3FE0000000000000
  if fLe x half then rampHalf f x else fAdd (fSub x half) (rampHalf f (fSub fOne x))

/-- The part of its velocity that an S-curve from rest has reached after the part `x` of its time. -/
def rampRate (f x : F64) : F64 :=
  let d := fSub fOne f
  let low := fun t : F64 => if fLt t f then fDiv (fMul t t) (fMul fTwo (fMul f d)) else fDiv (fSub t (fDiv f fTwo)) d
  let half : F64 := 0x3FE0000000000000
  if fLe x half then low x else fSub fOne (low (fSub fOne x))

/-- The least ticks of an S-curve between rest and velocity `v` under the limits `a` and `j`, its jerk filling the part `f`
at either end. -/
def rampTicks (ts a j f v : F64) : F64 :=
  let d := fSub fOne f
  fMax (fDiv v (fMul (fMul d a) ts)) (fDiv (fSqrt (fDiv v (fMul (fMul d f) j))) ts)

end Sys2Proof.Machine
end

