-- ==== Sys2Proof/Machine/Segments.lean ====
section
/-! DEFINITION. Segment records (spec/06 R235 to R249): their layout and the checks made when they are written. -/

namespace Sys2Proof.Machine

def byteAt (b : List Byte) (o : Nat) : Nat := leAt b o 1
def allZero (b : List Byte) (o n : Nat) : Bool := ((b.drop o).take n).all (· == 0)

/-- The REAL64 at an offset. -/
def realAt (b : List Byte) (o : Nat) : F64 := leAt b o 8

/-- `n` REAL64 values from an offset. -/
def realsAt (b : List Byte) (o n : Nat) : List F64 := (List.range n).map fun i => realAt b (o + 8 * i)

/-- The size of a record in bytes (06 R237); 0 for an unknown type. `n` is the number of slots, `c` COUNT, `d` DEGREE. -/
def segSize (typ n c d : Nat) : Nat :=
  if typ = 1 then 24 + 8 * n
  else if typ = 2 then 48 + 8 * n
  else if typ = 3 then 32 + 8 * n * (c - 1)
  else if typ = 4 then 32 + 8 * (c + d + 1) + 8 * c + 8 * n * (c - 1)
  else if typ = 5 then 32
  else if typ = 6 then 40
  else if typ = 7 then 48 + 8 * n
  else 0

/-- The knots of a BSPLINE (06 R241). -/
def uniformKnots (c : Nat) : List F64 :=
  [0, 0, 0] ++ (List.range (c - 3)).map (fun i : Nat => fOfInt (i : Int)) ++ List.replicate 4 (fOfInt ((c : Int) - 3))

/-- Knots rise or stay, their ends are clamped and differ (06 R242). -/
def knotsOk (k : List F64) (d : Nat) : Bool :=
  (k.zip (k.drop 1)).all (fun x => fLe x.1 x.2) && (k.take (d + 1)).all (fun x => fLe x (k.headD 0) && fLe (k.headD 0) x)
    && (k.reverse.take (d + 1)).all (fun x => fLe x (k.getLastD 0) && fLe (k.getLastD 0) x) && fLt (k.headD 0) (k.getLastD 0)

/-- The segment that a record of whole units spells, without its checks. -/
def segOf (b : List Byte) : Seg :=
  let typ := byteAt b 0
  let mask := leAt b 2 2
  let n := popCount mask 12
  let base : Seg := { typ := typ, units := byteAt b 1, mask := mask, flags := leAt b 4 2, id := leAt b 8 4, feed := realAt b 16 }
  if typ = 1 then { base with vals := realsAt b 24 n }
  else if typ = 2 then
    { base with p := byteAt b 24, q := byteAt b 25, dir := byteAt b 26, turns := leAt b 28 4, cp := realAt b 32,
                cq := realAt b 40, vals := realsAt b 48 n }
  else if typ = 3 then
    let c := byteAt b 24
    { base with count := c, degree := 3, knots := uniformKnots c, weights := List.replicate c fOne, vals := realsAt b 32 (n * (c - 1)) }
  else if typ = 4 then
    let d := byteAt b 24
    let c := byteAt b 25
    { base with degree := d, count := c, knots := realsAt b 32 (c + d + 1), weights := realsAt b (32 + 8 * (c + d + 1)) c,
                vals := realsAt b (32 + 8 * (c + d + 1) + 8 * c) (n * (c - 1)) }
  else if typ = 5 then { base with dur := leAt b 24 4 }
  else if typ = 6 then
    { base with src := byteAt b 24, num := byteAt b 25, cond := byteAt b 26, tact := byteAt b 27, tmo := leAt b 28 4, val := leAt b 32 4 }
  else if typ = 7 then
    { base with src := byteAt b 24, kind := byteAt b 25, sflags := byteAt b 26, lead := realAt b 32, angle := realAt b 40,
                vals := realsAt b 48 n }
  else base

/-- The bodies' own ranges (06 R238 to R246); `pm` is PATH_MASK, `g` the group. -/
def bodyOk (b : List Byte) (x : Seg) (pm g : Nat) : Bool :=
  if x.typ = 2 then
    decide (x.dir ≤ 1) && allZero b 27 1 && decide (x.turns ≤ 65535) && decide (x.p < 12) && decide (x.q < 12) && x.p != x.q
      && x.mask.testBit x.p && x.mask.testBit x.q && pm.testBit x.p && pm.testBit x.q
  else if x.typ = 3 then decide (4 ≤ x.count ∧ x.count ≤ 16) && allZero b 25 7
  else if x.typ = 4 then
    decide (1 ≤ x.degree ∧ x.degree ≤ 5) && decide (x.degree + 1 ≤ x.count ∧ x.count ≤ 16) && allZero b 26 6
      && knotsOk x.knots x.degree && x.weights.all fun w => fLt 0 w
  else if x.typ = 5 then x.mask == 0 && allZero b 28 4
  else if x.typ = 6 then
    x.mask == 0 && allZero b 36 4 && decide (x.cond ≤ 3) && decide (x.tact ≤ 1)
      && (if x.src = 0 then decide (x.num < 16) && x.cond == 0 && decide (x.val < 48)
          else if x.src = 1 then decide (x.num < 32) && x.val == 0
          else if x.src = 2 then decide (x.num < 64) && x.val == 0
          else if x.src = 3 then decide (x.num < 32) && x.val == 0
          else if x.src = 4 then decide (x.num < 8) && x.num != g && x.cond == 0
          else false)
  else if x.typ = 7 then
    (decide (x.src < 48) || decide (0x40 ≤ x.src ∧ x.src < 0x70)) && decide (x.kind ≤ 1) && decide (x.sflags ≤ 1)
      && allZero b 27 5 && (if x.kind = 0 then fLt 0 x.lead else fLe 0 x.lead) && fLe 0 x.angle && fLt x.angle fOne
  else true

/-- The checks of a record when it is written (06 R249): `b` holds the bytes of its units, `sc` is SLOT_COUNT. -/
def recordOk (b : List Byte) (sc pm g : Nat) : Bool :=
  let x := segOf b
  let size := segSize x.typ (popCount x.mask 12) x.count x.degree
  decide (1 ≤ x.typ ∧ x.typ ≤ 7) && x.units == (size + 63) / 64 && b.length == 64 * x.units && allZero b size (b.length - size)
    && decide (x.flags < 16) && decide (x.mask < 2 ^ sc) && allZero b 6 2 && allZero b 12 4
    && fFinite x.feed && (decide (5 ≤ x.typ) || x.flags.testBit 2 || fLt 0 x.feed)
    && x.vals.all fFinite && x.knots.all fFinite && x.weights.all fFinite && fFinite x.cp && fFinite x.cq && fFinite x.lead
    && fFinite x.angle && bodyOk b x pm g

/-- The records of a write, or none if one fails its checks (06 R249); a write without a record fails too. -/
def parseRecords (sc pm g : Nat) : Nat → List Byte → Option (List Seg)
  | 0, _ => none
  | fuel + 1, b =>
    let n := 64 * byteAt b 1
    let r := b.take n
    if n = 0 ∨ recordOk r sc pm g = false then none
    else if b.length ≤ n then some [segOf r]
    else (parseRecords sc pm g fuel (b.drop n)).map fun t => segOf r :: t

/-- The records of a long write up to the first that fails, and whether one fails (06 R262). -/
def parsePrefix (sc pm g : Nat) : Nat → List Byte → List Seg × Bool
  | 0, b => ([], !b.isEmpty)
  | fuel + 1, b =>
    let n := 64 * byteAt b 1
    let r := b.take n
    if b.isEmpty then ([], false)
    else if n = 0 ∨ recordOk r sc pm g = false then ([], true)
    else
      let t := parsePrefix sc pm g fuel (b.drop n)
      (segOf r :: t.1, t.2)

/-- The whole records that have arrived of a long write, up to the first that fails, and whether one fails (06 R262). -/
def parseArrived (sc pm g : Nat) : Nat → List Byte → List Seg × Bool
  | 0, _ => ([], false)
  | fuel + 1, b =>
    let n := 64 * byteAt b 1
    if b.length < 2 ∨ b.length < n then ([], false)
    else if n = 0 ∨ recordOk (b.take n) sc pm g = false then ([], true)
    else
      let t := parseArrived sc pm g fuel (b.drop n)
      (segOf (b.take n) :: t.1, t.2)

end Sys2Proof.Machine
end

