-- ==== Sys2Proof/Machine/PathEngine.lean ====
section
/-! DEFINITION. The path engine (spec/06): groups, their queues, a tick of each and its stops. -/

namespace Sys2Proof.Machine

/-! ## Limits (06 R227, R253) -/

/-- The axis in a slot in use. -/
def slotAxis (s : State) (g i : Nat) : Option Nat :=
  let n := s.regN (K.slotsSlot0Axis g + i)
  if i < s.regN (K.slotsSlotCount g) ∧ n < 48 then some n else none

/-- A value of each of the twelve slots. -/
def perSlot (s : State) (g : Nat) (f : Nat → F64) : List F64 :=
  (List.range 12).map fun i => match slotAxis s g i with
    | some n => f n
    | none => 0

def limits (s : State) (g : Nat) : Lim :=
  { pm := s.regN (K.slotsPathMask g), ts := tickTs s,
    ov := fOfRat (s.reg (K.ovrOverrideInUse g)) 1000 0, hold := s.reg (K.ovrOverrideInUse g) == 0,
    a := s.regN (K.glimAMax g), j := s.regN (K.glimJMax g), vMax := s.regN (K.glimVMax g),
    axV := perSlot s g fun n => s.regN (K.axlimAxVmax n), axA := perSlot s g fun n => s.regN (K.axlimAxAmax n),
    axJ := perSlot s g fun n => s.regN (K.axlimAxJmax n) }

/-! ## Entry into the window (06 R228, R248, R250, R258) -/

/-- Some soft limit is broken by a position of a slot (06 R250 code 2). -/
def softBad (s : State) (g i : Nat) (v : F64) : Bool :=
  match slotAxis s g i with
  | none => false
  | some n =>
    let p := posOf s n v
    s.reg (K.limSoftEnable n) == 1 && (s.fb n).stat.testBit 30
      && decide (p < s.reg (K.limSoftMin n) ∨ s.reg (K.limSoftMax n) < p)

/-- The fraction of an arc near `u` at which slot `i` turns back, by Newton's steps on its rate (06 R250). -/
def turnAt (x : Seg) (i : Nat) : Nat → F64 → F64
  | 0, u => u
  | n + 1, u =>
    let c := (segJets x u).getD i ⟨0, 0, 0, 0⟩
    if fLe (fAbs c.d2) 0 then u else turnAt x i n (fMax 0 (fMin fOne (fSub u (fDiv c.d1 c.d2))))

/-- The points of an arc at which a plane axis is furthest out, as fractions of the arc: near the first and the last of
each quarter of its turns. -/
def arcExtremes (x : Seg) : List F64 :=
  (List.range 4).flatMap fun q : Nat =>
    let d : Int := ((q : Int) * 2 ^ 62 - x.arc.phi0) * (if x.arc.sweep < 0 then -1 else 1) % 2 ^ 64
    let n : Nat := x.arc.sweep.natAbs
    let at' := fun m : Int => turnAt x (if q % 2 = 0 then x.p else x.q) 8 (fMin fOne (fOfRat m n 0))
    [at' d, at' (d + ((n : Int) - d) / 2 ^ 64 * 2 ^ 64)]

/-- The positions tested against the soft limits: ends, an arc's extremes, a spline's control points (06 R250). -/
def hullPoints (x : Seg) : List (List F64) :=
  if x.typ = 2 then x.start :: x.fin :: (arcExtremes x).map fun u => (segJets x u).map (·.d0)
  else if x.typ = 3 ∨ x.typ = 4 then controlPoints x x.start
  else [x.start, x.fin]

/-- Position, travel in the last tick and validity of a master (06 R246, R247). -/
def masterOf (s : State) (src : Nat) : Int × Int × Bool :=
  if src < 48 then (s.reg (K.fbsPosition src), (s.fb src).posDelta, (s.fb src).stat.testBit 31)
  else ((s.engine (src - 0x40)).sp, (s.engine (src - 0x40)).spDelta, true)

/-- The ratios of a gear's slots. -/
def gearRates (x : Seg) : List F64 :=
  ((maskSlots x.mask).zip x.vals).foldl (fun v iv => vset v iv.1 iv.2) (List.replicate 12 0)

/-- Path length per unit of a segment's parameter: 1, and for a gear the length that its slots go in a period of the master
(06 R247, R252). -/
def pathUnit (x : Seg) : F64 := if x.typ = 7 ∧ x.kind = 1 then hyp (x.on.map (vget (gearRates x))) else fOne

/-- The rate of every slot by a spindle segment's parameter (06 R247). -/
def spinDirs (x : Seg) : List F64 := if x.kind = 0 then tangent x 0 false else gearRates x

/-- A limit of the path in a spindle segment's parameter, and what the slots leave of it (06 R227, R247). -/
def spinCap (x : Seg) (lims : List F64) (a : F64) : F64 :=
  dirCap lims (spinDirs x) (let u := pathUnit x; if fLe u 0 then a else fDiv a u)

/-- The synchronous velocity for a master velocity in POS64 units per tick (06 R247). -/
def syncV (l : Lim) (x : Seg) (dm : Int) : F64 :=
  fMul (if x.kind = 0 then x.lead else fOne) (fDiv (fOfRat dm 1 (-24)) l.ts)

/-- A synchronous velocity exceeds V_MAX or a limit of 06 R227. -/
def syncBad (l : Lim) (x : Seg) (vs : F64) : Bool :=
  fLt l.vMax (fMul (fAbs vs) (pathUnit x)) || (List.range 12).any fun i =>
    !fLe (vget l.axV i) 0 && fLt (vget l.axV i) (fMul (fAbs vs) (fAbs (vget (spinDirs x) i)))

/-- The code of 06 R250 of a segment that enters the window under ARC_TOL `tol`; 0 for none. -/
def segCode (s : State) (g : Nat) (l : Lim) (tol : F64) (x : Seg) : Nat :=
  let m := masterOf s x.src
  if x.typ = 2 && (fLt x.arc.r0 tol || fLt tol (fAbs (fSub x.arc.r0 x.arc.r1))) then 1
  else if x.typ != 5 && x.typ != 6 && (hullPoints x).any fun p => (List.range 12).any fun i => softBad s g i (vget p i) then 2
  else if x.typ = 7 && (!m.2.2 || (members s g).contains (if x.src < 48 then x.src else x.src - 0x40)) then 3
  else if x.typ = 7 && syncBad l x (syncV l x m.2.1) then 4
  else 0

/-- A segment with its start, end, length and code (06 R240, R250, R252). -/
def bindSeg (s : State) (g : Nat) (l : Lim) (start : List F64) (x : Seg) : Seg :=
  let tol := s.regN (K.glimArcTol g)
  let y := { x with checked := true, start := start, fin := segEnd x start }
  let y := { y with arc := if y.typ = 2 then arcOf y tol else {}, on := pathSlots y l.pm }
  let y := { y with cuts := if curved y then sumCuts y 0 0 (cutsOf y) else [] }
  let y := { y with len := segLen y }
  { y with bad := segCode s g l tol y }

/-- The segments that enter the window, up to the first with an error and not past an endless gear. -/
def bindList (s : State) (g : Nat) (l : Lim) : List F64 → List Seg → List Seg
  | _, [] => []
  | start, x :: rest =>
    if x.bad ≠ 0 then x :: rest
    else
      let y := if x.checked then x else bindSeg s g l start x
      if y.bad ≠ 0 || (y.typ == 7 && y.kind == 1 && fLe y.lead 0) then y :: rest
      else y :: bindList s g l y.fin rest

/-- The group has gone part of its active segment. -/
def underWay (x : Grp) : Bool := !fLe x.prog 0 || x.spin != .none

/-- The start position of a group at rest, and whether it differs from where the group stands: the engines' set-points in
user units (06 R228). Within a segment, the exact point stands as long as the set-points are those given for it. -/
def startPos (s : State) (g : Nat) : List F64 × Bool :=
  let x := s.group g
  let here := perSlot s g fun n => userOf s n (s.engine n).sp
  let given := decide (x.pos.length = 12) && (List.range 12).all fun i => match slotAxis s g i with
    | some n => (s.engine n).pathSp == some (s.engine n).sp || posOf s n (vget x.pos i) == (s.engine n).sp
    | none => true
  if underWay x && !x.replan && given then (x.pos, false) else (here, x.replan || here != x.pos)

/-- The queue planned afresh from a new start (06 R228): of a segment under way, an INCREMENTAL one keeps the way it has left,
any other runs from the new start to its programmed end. -/
def planAnew (x : Grp) (here : List F64) : Grp :=
  let fresh := fun y : Seg => if y.bad = 0 then { y with checked := false } else y
  match x.queue with
  | y :: rest =>
    if underWay x && x.spin == .none && y.flags.testBit 0 && y.checked then
      let start := (List.range 12).map fun i => fAdd (vget y.start i) (fSub (vget here i) (vget x.pos i))
      { x with queue := { fresh y with start := start } :: rest.map fresh, pos := here }
    else { x with queue := x.queue.map fresh, pos := here, prog := 0, spin := .none }
  | [] => { x with pos := here, prog := 0 }

/-- Where the next segment to be bound starts: an INCREMENTAL segment under way keeps its own start. -/
def bindFrom (x : Grp) : List F64 :=
  match x.queue with
  | y :: _ => if underWay x && decide (y.start.length = 12) then y.start else x.pos
  | [] => x.pos

/-- The window takes in what is queued (06 R250, R258); a group at rest starts from its engines' set-points (06 R228). -/
def takeIn (s : State) (g : Nat) (l : Lim) : State :=
  let x := s.group g
  let p := startPos s g
  let anew := p.2 && fLe x.v 0
  let y := if anew then { planAnew x p.1 with replan := false } else x
  let q := bindList s g l (bindFrom y) y.queue
  let s := s.modGrp g fun _ => { y with queue := q }
  match (q.zip y.queue).find? fun ab => ab.1.bad != 0 && ab.2.bad == 0 with
  | none => s
  | some ab => emcy (gstBit (s.setReg (K.gstSegError g) ab.1.bad) g 15 true) 0xFF35 5 g ab.1.id

/-! ## Along the queue (06 R236, R245, R260) -/

/-- A REPORT segment's end enters the event queue (06 R236); an empty queue that fills owes an attention pulse. -/
def pushEvent (s : State) (g id : Nat) : State :=
  let s := if s.events.isEmpty && s.host.hpi.attnEn then s.modHpi fun h => { h with attnDue := true } else s
  { s with events := s.events ++ [(g, id)] }

/-- Arms a wait (06 R245). -/
def armSeg (x : Seg) : Seg := if x.typ = 6 then { x with armed := true } else x

/-- The head begins to execute: a wait after it is armed, and a wait that becomes active is armed by now (06 R245). -/
def beginHead (s : State) (g : Nat) : State :=
  if (s.group g).active then s
  else s.modGrp g fun x =>
    { x with
      active := true, queue := match x.queue with
        | a :: b :: rest => armSeg a :: armSeg b :: rest
        | q => q.map armSeg }

/-- The head has run to its end (06 R236, R260, R271). -/
def finishHead (s : State) (g : Nat) : State :=
  match (s.group g).queue with
  | [] => s
  | x :: rest =>
    let s := s.setReg (K.gstSegIdDone g) x.id
    let s := if x.flags.testBit 3 then pushEvent s g x.id else s
    let s := s.modGrp g fun y =>
      { y with
        queue := rest, prog := 0, active := false, ticks := 0, spin := .none, back := false, pos := if x.typ = 5 ∨ x.typ = 6 then y.pos else x.fin }
    if rest.isEmpty && !x.flags.testBit 1 then emcy (gstBit s g 13 true) 0xFF39 4 g x.id else s

/-- The group is at rest. -/
def atRest (s : State) (g : Nat) : State := s.modGrp g fun x => { x with v := 0, acc := 0 }

/-- The group moves `ds` along its queue, across junctions; a segment without length takes no tick (06 R252, R257). -/
def advance : Nat → State → Nat → F64 → State
  | 0, s, _, _ => s
  | fuel + 1, s, g, ds =>
    match (s.group g).queue with
    | [] => atRest s g
    | x :: _ =>
      if !planned x then atRest s g
      else
        let s := beginHead s g
        let rem := fSub x.len (s.group g).prog
        if fLt ds rem then
          s.modGrp g fun y => { y with prog := fAdd y.prog ds, pos := segPoint x (fAdd y.prog ds) }
        else
          let s := finishHead s g
          if x.flags.testBit 1 then atRest s g else advance fuel s g (fMax 0 (fSub ds rem))

/-- Each slot whose position has changed gets a set-point within 0.1 count of it (06 R256, R257). -/
def giveSetpoints (s : State) (g : Nat) (was : List F64) : State :=
  forN 12 (fun s i =>
    match slotAxis s g i with
    | none => s
    | some n =>
      let p := posOf s n (vget (s.group g).pos i)
      if p = posOf s n (vget was i) then s
      else
        let c := stepOf (s.fb n).modeUse / 10
        let f := s.fresh
        f.2.modEng n fun e => { e with pathSp := some (wrap64 (p + ((Config.free f.1 % (2 * c + 1) : Nat) : Int) - c)) }) s

/-! ## Dwell and wait (06 R243 to R245, R251) -/

/-- Whole ticks of a time in microseconds, rounded up. -/
def ticksOf (s : State) (us : Nat) : Nat :=
  let p := s.regN K.rateTickPeriod
  (us * 1000 + p - 1) / p

/-- The condition of a wait holds (06 R244, R245): an edge since arming, or a level now. -/
def waitMet (s : State) (g : Nat) (x : Seg) : Bool :=
  let lv := if x.src = 1 then (s.ev x.num).deb else if x.src = 2 then s.fab.flags.testBit x.num
    else (s.regN (K.dmaWaitFlags g)).testBit x.num
  if x.src = 4 then decide ((s.reg (K.gstSegIdDone x.num) - x.val) % 2 ^ 32 < 2 ^ 31)
  else if x.cond = 2 then lv else if x.cond = 3 then !lv else x.edge

/-- Nothing of the group is left but its end state after a stop at rest; a disable in progress ends here (06 R250, R251). -/
def restAfter (s : State) (g v : Nat) : State :=
  if (s.group g).disable = 0 then setGroupState s g v else if hg : g < 8 then groupOff s g hg else s

def flushCode (s : State) (g : Nat) : Nat := if (s.group g).disable = 0 then 0x01 else 0x02

/-- A wait runs out (06 R244, R251, R272). -/
def waitOut (s : State) (g : Nat) (x : Seg) : State :=
  if x.tact = 0 then finishHead (gstBit s g 12 true) g
  else
    let s := emcy (gstBit (s.setReg (K.gstSegError g) 5) g 12 true) 0xFF37 5 g x.id
    restAfter (flushGroup s g (flushCode s g) 7) g 1

/-- The group rests before a segment with an error: it and all after it are flushed (06 R250). -/
def segFault (s : State) (g : Nat) : State := restAfter (flushGroup s g (flushCode s g) 6) g 6

/-- Dwells that are over and waits that are met pass, while the group rests (06 R243, R245, R250, R251). -/
def settle : Nat → State → Nat → State
  | 0, s, _ => s
  | fuel + 1, s, g =>
    match (s.group g).queue with
    | [] => s
    | x :: _ =>
      if !fLe (s.group g).v 0 || !x.checked then s
      else if x.bad ≠ 0 then segFault s g
      else if x.typ = 5 then
        let s := beginHead s g
        if groupState s g = 3 ∧ ticksOf s x.dur ≤ (s.group g).ticks then settle fuel (finishHead s g) g else s
      else if x.typ = 6 then
        let s := beginHead s g
        let y := ((s.group g).queue.head?).getD x
        if waitMet s g y then settle fuel (finishHead s g) g
        else if x.tmo ≠ 0 ∧ groupState s g = 3 ∧ ticksOf s x.tmo ≤ (s.group g).ticks then
          (if x.tact = 0 then settle fuel (waitOut s g y) g else waitOut s g y)
        else s
      else s

/-! ## Spindle-synchronous motion (06 R247, R248) -/

/-- The fraction START_ANGLE in POS64 units. -/
def startFrac (x : Seg) : Int := fToIntRne x.angle 24

/-- The point at which the master's fraction crossed START_ANGLE in its last tick, if it did (06 R247 step 1). -/
def angleCross (x : Seg) (m dm : Int) : Option Int :=
  let a := startFrac x
  let prev := m - dm
  if 0 < dm then
    let k := (m - a) / 2 ^ 24
    if (prev - a) / 2 ^ 24 < k then some (a + k * 2 ^ 24) else none
  else if dm < 0 then
    let k := -((a - m) / 2 ^ 24)
    if k < -((a - prev) / 2 ^ 24) then some (a + k * 2 ^ 24) else none
  else none

/-- The synchronous reference, with the master extrapolated by one tick (06 R247 step 3). -/
def pSync (x : Seg) (y : Grp) (m dm : Int) : F64 :=
  fSub (fMul (if x.kind = 0 then x.lead else fOne) (fOfRat (y.spinDir * wrap64 (m + dm - y.m0)) 1 (-24))) y.ramp.dist

/-- The group stands at a parameter of its spindle segment, reached with velocity `v`, backwards with `back`. -/
def spinTo (s : State) (g : Nat) (l : Lim) (x : Seg) (p v : F64) (back : Bool) : State :=
  s.modGrp g fun y =>
    { y with prog := p, acc := if back == y.back then fDiv (fSub v y.v) l.ts else 0, v := v, back := back, pos := segPoint x p }

/-- Lock is broken (06 R248). -/
def breakLock (s : State) (g : Nat) : State :=
  stopGroup (gstBit (gstBit (s.modGrp g fun y => { y with spin := .none }) g 25 false) g 11 true) g true false 8

/-- A spindle segment has an end (06 R246, R247). -/
def spinEnds (x : Seg) : Bool := x.kind == 0 || !fLe x.lead 0

/-- The part of a run-in or run-out that its jerk fills at either end: open between a quarter and a half, and the same for
the same velocity. -/
def rampPart (g : Nat) (v : F64) : F64 := fOfRat ((2 ^ 16 + Config.measured (64 + g) v % 2 ^ 16 : Nat) : Int) (2 ^ 18) 0

/-- The least ticks of a run-in or a run-out to or from a velocity within the limits of the path and of the slots. -/
def rampLeast (l : Lim) (g : Nat) (x : Seg) (v : F64) : F64 :=
  fMax fOne (rampTicks l.ts (spinCap x l.axA l.a) (spinCap x l.axJ l.j) (rampPart g v) v)

/-- Run-in begins at a master position (06 R247 step 2): its time is open, no shorter than the limits allow, and the same
for the same speed under the same limits. -/
def startRunIn (s : State) (g : Nat) (l : Lim) (x : Seg) (m0 m dm : Int) : State :=
  let vs := fAbs (syncV l x dm)
  let least := rampLeast l g x vs
  let open' := fOfRat ((Config.measured g vs % 2 ^ 16 : Nat) : Int) (2 ^ 16) 0
  let span := fMul least (fAdd fOne open')
  let ri := fDiv (fMul vs (fMul span l.ts)) fTwo
  (s.setReg (K.gstRunIn g) ri).modGrp g fun y =>
    { y with
      spin := .runIn, m0 := m0, spinDir := if dm < 0 then -1 else 1
      ramp := ⟨span, rampPart g vs, if dm = 0 then 0 else fOfRat (m - m0).natAbs dm.natAbs 0, ri⟩ }

/-- The group at the synchronous reference (06 R247 step 3, R248); at the end of the segment it rests. -/
def lockStep (s : State) (g : Nat) (l : Lim) (x : Seg) (m : Int × Int × Bool) (begun : Bool) : State :=
  let y := s.group g
  let p := pSync x y m.1 m.2.1
  let vs := fMul (syncV l x m.2.1) (fOfInt y.spinDir)
  if begun && fLt p y.pLock || syncBad l x vs || !m.2.2 then breakLock s g
  else
    let s := gstBit (s.modGrp g fun y => { y with spin := .lock, pLock := if begun then y.pLock else p }) g 25 true
    if spinEnds x && fLe x.len p then gstBit (atRest (finishHead (spinTo s g l x x.len 0 false) g) g) g 25 false
    else spinTo s g l x p (fAbs vs) (fLt vs 0)

/-- A tick of the run-in (06 R247 step 2); lock begins once it is over. -/
def runInStep (s : State) (g : Nat) (l : Lim) (x : Seg) (m : Int × Int × Bool) : State :=
  let s := s.modGrp g fun y => { y with ramp := { y.ramp with gone := fAdd y.ramp.gone fOne } }
  let r := (s.group g).ramp
  if fLe r.span r.gone then lockStep s g l x m false
  else
    let u := fDiv r.gone r.span
    let v := fDiv (fMul fTwo r.dist) (fMul r.span l.ts)
    spinTo s g l x (fMul (fMul fTwo r.dist) (rampGone r.part u)) (fMul v (rampRate r.part u)) false

/-- A tick of the run-out, which ends exactly at the segment's end (06 R247 step 4). -/
def runOutStep (s : State) (g : Nat) (l : Lim) (x : Seg) : State :=
  let s := s.modGrp g fun y => { y with ramp := { y.ramp with gone := fAdd y.ramp.gone fOne } }
  let r := (s.group g).ramp
  if fLe r.span r.gone then atRest (finishHead (spinTo s g l x x.len 0 false) g) g
  else
    let u := fSub fOne (fDiv r.gone r.span)
    let v := fDiv (fMul fTwo r.dist) (fMul r.span l.ts)
    spinTo s g l x (fSub x.len (fMul (fMul fTwo r.dist) (rampGone r.part u))) (fMul v (rampRate r.part u)) false

/-- One tick of an active spindle-synchronous segment (06 R247, R248): the run-out begins in the last tick from which it
still reaches the end. -/
def spinStep (s : State) (g : Nat) (l : Lim) (x : Seg) : State :=
  let s := beginHead s g
  let y := s.group g
  let m := masterOf s x.src
  match y.spin with
  | .none =>
    if x.sflags = 1 then s.modGrp g fun y => { y with spin := .angle }
    else runInStep (startRunIn s g l x m.1 m.1 m.2.1) g l x m
  | .angle =>
    match angleCross x m.1 m.2.1 with
    | none => s
    | some m0 => runInStep (startRunIn s g l x m0 m.1 m.2.1) g l x m
  | .runIn => runInStep s g l x m
  | .lock =>
    let rem := fSub x.len y.prog
    let least := rampLeast l g x y.v
    if spinEnds x && !y.back && fLt 0 y.v && fLt (fMul fTwo rem) (fMul (fMul y.v l.ts) (fAdd least fTwo)) then
      let s := s.modGrp g fun y =>
        { y with spin := .runOut, ramp := ⟨fDiv (fMul fTwo rem) (fMul y.v l.ts), rampPart g y.v, 0, rem⟩ }
      runOutStep (gstBit s g 25 false) g l x
    else lockStep s g l x m true
  | .runOut => runOutStep s g l x

/-! ## A tick of the planner (06 R253 to R257, R259, R265 to R267) -/

/-- The scale on which the feeds bound the group: the override, or what the group's velocity still is of the active
segment's own while it falls to a lower one (06 R265). -/
def feedScale (l : Lim) (x : Seg) (k : Kin) : F64 :=
  let a := fMax 0 k.a
  let top := fAdd k.v (fAdd (fDiv (fMul a a) (fMul fTwo l.j)) (fMul a l.ts))
  fMax l.ov (fDiv top (ownFeed l x))

/-- LIMITED (06 R253, R259, R272): the velocity is below what the segment asks for, and a limit of an axis, V_MAX or the way
left holds it down: the group slows down, or, unless `free`, takes less jerk than the target asks for. -/
def limited (l : Lim) (x : Seg) (c : F64 × F64) (n : Kin) (free : Bool) : Bool :=
  let wanted := if x.flags.testBit 2 then feedCap l x l.ov else fMul x.feed l.ov
  fLt (fMul n.v fRoom) wanted && (!free || fLt n.a 0 || fLt c.1 l.a || fLt c.2 l.j || fLt l.vMax wanted)

/-- The group takes a state of its path, or rests where that is nothing, and moves on. -/
def moveTo (s : State) (g : Nat) (k : Kin) (still : Bool) (ds : F64) : State :=
  let s := s.modGrp g fun y => { y with v := if still then 0 else k.v, acc := if still then 0 else k.a }
  advance ((s.group g).queue.length + 1) s g ds

/-- The group runs on its path for a tick (06 R253 to R257). How much of the jerk with which it gains acceleration it takes,
down to half of it, is open. -/
def runPath (s : State) (g : Nat) (l : Lim) : State :=
  let y := s.group g
  let w := wayOf y.queue
  let left := leftOf w y.prog
  match w with
  | [] => moveTo s g ⟨0, 0, 0⟩ true 0
  | x :: _ =>
    let c := pathCaps l true x y.prog l.a l.j
    let slack := endSlack l x c.2
    if fLe y.v 0 && fLe left slack then moveTo s g ⟨0, 0, 0⟩ true left
    else
      let k : Kin := ⟨y.v, y.acc, 0⟩
      let f := s.fresh
      let full := k.towards l.ts c.1 c.2 (if l.hold then 0 else feedCap l x l.ov)
      let want := if fLt 0 full && fLe 0 k.a then between (fDiv full fTwo) full (freeFrac f.1) else full
      let m : Keep := ⟨true, true, feedScale l x k⟩
      let j := pickJerk l m slack w y.prog k c want
      let n := k.next l.ts j
      let still := n.still l.ts c.2 (ownFeed l x)
      let s := gstBit f.2 g 30 (!l.hold && limited l x c n (j == want))
      if still && l.hold then s.modGrp g fun y => { y with v := 0, acc := 0 }
      else moveTo s g n still (fMin (fMul n.v l.ts) left)

/-- The way of a group that stops with its lock on a master released, in the direction in which it goes: to the segment's
end or back to its start, without end on an endless gear (06 R267). -/
def stopSpin (s : State) (g : Nat) (l : Lim) (x : Seg) (st : StopSt) : State :=
  let y := s.group g
  let cap := fun (lims : List F64) (a : F64) =>
    if st.quick then (let u := pathUnit x; if fLe u 0 then a else fDiv a u) else spinCap x lims a
  let a := cap l.axA st.decel
  let j := cap l.axJ st.jerk
  let k : Kin := ⟨y.v, y.acc, 0⟩
  let left := if y.back then fMax 0 y.prog else fMax 0 (fSub x.len y.prog)
  let room := spinEnds x || y.back
  let top := ownFeed l { x with flags := 4 }
  let f := if room then leastFactor fun f => fLe (restLength l.ts (fMul a f) (fMul j f) top brakeSteps k 0) left else fOne
  let n := k.next l.ts (k.towards l.ts (fMul a f) (fMul j f) 0)
  let ds := if room then fMin (fMul n.v l.ts) left else fMul n.v l.ts
  let p := if y.back then fSub y.prog ds else fAdd y.prog ds
  let v := if n.still l.ts j top || room && fLe left ds then 0 else n.v
  (spinTo s g l x p v y.back).modGrp g fun y => { y with acc := if fLe v 0 then 0 else n.a }

/-- A stop runs for a tick (06 R267); at rest it ends (06 R269). -/
def stopPath (s : State) (g : Nat) (l : Lim) (x : Seg) (st : StopSt) : State :=
  let s := gstBit (s.modGrp g fun y => { y with spin := .none }) g 25 false
  let y := s.group g
  let s := if x.typ = 7 then stopSpin s g l x st
    else
      let w := wayOf y.queue
      let left := leftOf w y.prog
      let k : Kin := ⟨y.v, y.acc, 0⟩
      let n := k.next l.ts (stopJerk l st.quick st.decel st.jerk (endSlack l x l.j) w y.prog k)
      moveTo s g n (n.still l.ts l.j (ownFeed l x)) (fMin (fMul n.v l.ts) left)
  if fLe (s.group g).v 0 || (s.group g).queue.isEmpty then endStop s g
  else s.modGrp g fun y => { y with stop := y.stop.map fun t => { t with new := false } }

/-- A tick of a stopping group: a controlled stop begins at the end of an active spindle segment that has one. -/
def planStop (s : State) (g : Nat) (l : Lim) : State :=
  match (s.group g).stop, (s.group g).queue with
  | some st, x :: _ =>
    if x.typ = 7 && !st.quick && spinEnds x && (s.group g).spin != .none then
      let s := spinStep s g l x
      if groupState s g = 5 ∧ (s.group g).spin = .none ∧ fLe (s.group g).v 0 = true then endStop s g else s
    else stopPath s g l x st
  | _, _ => endStop s g

def notReady (s : State) (g : Nat) : Bool := (members s g).any fun n => engState s n != 2
def rangeBusy (s : State) (g : Nat) : Bool := (members s g).any fun n => s.regBit (K.clampCmStatus n) 28

/-- What a group at rest waits for: 0 nothing, 3 or 4 as GROUP_STATE has them (06 R229, R232, R266); the second says
that it is a dwell, a wait or a start angle. -/
def restReason (s : State) (g : Nat) (l : Lim) : Nat × Bool :=
  match (s.group g).queue with
  | [] => (0, false)
  | x :: _ =>
    if notReady s g || rangeBusy s g then (3, false)
    else if x.typ = 5 ∨ x.typ = 6 ∨ (x.typ = 7 ∧ (s.group g).spin = .angle) then (3, true)
    else if l.hold && !(x.typ == 7 && (s.group g).spin != .none) then (4, false)
    else (0, false)

/-- GROUP_STATE after a tick of a group that is not stopping (06 R232, R260). -/
def showState (s : State) (g : Nat) (l : Lim) : State :=
  let x := s.group g
  let gs := groupState s g
  let rest := fLe x.v 0
  let r := restReason s g l
  let s := gstBit (gstBit s g 27 (rest && !x.queue.isEmpty && notReady s g)) g 26 (rest && !x.queue.isEmpty && rangeBusy s g)
  let spin := (x.queue.head?.map (·.typ)) == some 7
  let s := gstBit s g 29 (l.hold && gs == 2 && !rest && !spin)
  let s := if rest || gs != 2 then gstBit s g 30 false else s
  if gs = 0 ∨ gs = 5 ∨ gs = 6 then s
  else if x.queue = [] then (if gs = 1 then s else drainDone (setGroupState s g 1) g)
  else if rest && r.1 != 0 then
    if 2 ≤ x.still then gstBit (setGroupState s g r.1) g 28 r.2 else s
  else if gs = 2 then s else setGroupState s g 2

/-- A group at rest that waits for its members (06 R229). -/
def heldBack (s : State) (g : Nat) : Bool :=
  let x := s.group g
  fLe x.v 0 && (x.spin == .none || x.spin == .angle) && (notReady s g || rangeBusy s g)

/-- A group that is enabled and not stopping, for one tick, its window taken in. -/
def planRun (s : State) (g : Nat) (l : Lim) : State :=
  let s := if groupState s g = 3 then s.modGrp g fun x =>
      { x with ticks := if (x.queue.head?.map fun y => y.typ == 5 || y.typ == 6).getD false && x.active then x.ticks + 1 else x.ticks } else s
  if heldBack s g then s
  else
    let s := settle ((s.group g).queue.length + 1) s g
    match (s.group g).queue with
    | [] => s
    | x :: _ =>
      if groupState s g = 0 ∨ groupState s g = 6 then s
      else if planned x then (if l.hold && fLe (s.group g).v 0 then s else runPath s g l)
      else if x.typ = 7 && x.checked && x.bad == 0 && fLe (s.group g).v 0 && (s.group g).spin == .none then
        (if l.hold then s else spinStep s g l x)
      else if x.typ = 7 && (s.group g).spin != .none then spinStep s g l x
      else s

/-- PATH_VELOCITY, DIST_TO_GO and the queue's counts (06 R271), in units of the path. -/
def showPath (s : State) (g : Nat) : State :=
  let x := s.group g
  let unit := match x.queue with
    | y :: _ => if y.checked then pathUnit y else fOne
    | [] => fOne
  let left := ((windowOf x.queue).map fun y => fMul y.len (pathUnit y)).foldl fAdd 0
  let s := s.setRegs [(K.gstPathVelocity g, fMul x.v unit), (K.gstDistToGo g, fMax 0 (fSub left (fMul x.prog unit)))]
  queueShow s g

/-- One tick of a group (06 R257): it plans tick k + 1. -/
def planGroup (s : State) (g : Nat) : State :=
  let gs := groupState s g
  if gs = 0 ∨ gs = 6 then s
  else
    let l := limits s g
    let s := if gs = 5 ∨ heldBack s g = true then s else takeIn s g l
    let was := (s.group g).pos
    let given := (members s g).map fun n => (s.engine n).pathSp
    let s := if gs = 5 then planStop s g l else planRun s g l
    let s := if (s.group g).pos = was then s else giveSetpoints s g was
    let same := ((members s g).map fun n => (s.engine n).pathSp) == given
    let s := s.modGrp g fun x => { x with still := if same then min 2 (x.still + 1) else 0 }
    showPath (showState s g l) g

/-- OVERRIDE is taken in at the sample instant, and not during a stop (06 R265, R270). -/
def takeOverride (s : State) (g : Nat) : State :=
  if groupState s g = 5 then s else s.setReg (K.ovrOverrideInUse g) (s.reg (K.ovrOverride g))

/-- 06 R226: axes that joined a group since the last tick get SOURCE 1, those that left get SOURCE 0. -/
def tickMembers (s : State) : State :=
  let now := (List.range 48).foldl (fun m n => if (groupOf s n).isSome then m + 2 ^ n else m) 0
  if now = s.memUse then s
  else
    let s := forN 48 (fun s n =>
      let a := s.memUse.testBit n
      let b := now.testBit n
      if a = b then s else (s.setReg (K.axSource n) (b2i b)).modEng n fun e => { e with pathSp := none }) s
    { s with memUse := now }

/-! ## The commands -/

/-- GROUP_ENABLE (06 R233; 02 R81, R82; 17 R603): a write of 1. -/
def groupEnableWrite (r : Req) (g : Group) (s : State) : State :=
  let e := s.reg (K.grpGroupEnable g)
  let b := s.regN (K.grpQueueBank g)
  let fresh := e == 0
  writeEntry s r (K.grpGroupEnable g) 1
    { state := if lifeState s = 2 then some 0x0F000008 else if e = 3 ∨ e = 4 ∨ s.therm.hot = true then some 0x08000022
        else if fresh && s.bad.any (fun b => b.1 == 0x1C) then some 0x06060000
        else whenCode (fresh && (!bankFree s b || bankBusy s b || s.bad.contains (0x18, b))) 0x0F00000C } fun s =>
    let s := s.setReg (K.gstGrpStatus g) (clearMask (s.regN (K.gstGrpStatus g)) 0xFF00 : Nat)
    if fresh then
      let s := (s.setReg (K.grpGroupEnable g) 1).modGrp g fun x => { x with bank := b }
      await (startHandover s b 0x20) (.enable (.group g)) r
    else if groupState s g = 0 then await s (.enable (.group g)) r
    else ok s r

def execGroupEnable (r : Req) (g : Group) (s : State) : Out :=
  .next (request s r (K.grpGroupEnable g) 2 (groupEnableWrite r g))

/-- The queue's bank belongs to the path engine: the group is enabled (06 R233); a disable accepted meanwhile acts. -/
def groupOn (s : State) (g : Group) : State :=
  let d := (s.group g).disable
  let s := queueShow (setGroupState s g 1) g
  let s := s.modGrp g fun x => { x with still := 2 }
  let s := completeAll s (.enable (.group g)) (if d = 2 then 0x0F000002 else 0) []
  if d = 0 then s else groupOff s g g.isLt

/-- A write of 0 or 2 to GROUP_ENABLE (06 R233; 02 R81, R82). -/
def groupDisableWrite (r : Req) (g : Group) (abort : Bool) (s : State) : State :=
  writeEntry s r (K.grpGroupEnable g) (if abort then 2 else 0) {} fun s =>
    if s.reg (K.grpGroupEnable g) = 0 then ok s r
    else disableGroup (await s (.disable (.group g)) r) g abort

def execGroupDisableDrain (r : Req) (g : Group) (s : State) : Out :=
  .next (request s r (K.grpGroupEnable g) 2 (groupDisableWrite r g false))

def execGroupDisableAbort (r : Req) (g : Group) (s : State) : Out :=
  .next (request s r (K.grpGroupEnable g) 2 (groupDisableWrite r g true))

/-- CONTROLLED_STOP (06 R267): a write of 1 to STOP. -/
def execControlledStop (r : Req) (g : Group) (s : State) : Out :=
  .next (request s r (K.grpStop g) 2 fun s => writeEntry s r (K.grpStop g) 1 {} fun s => ok (stopGroup s g false false 1) r)

/-- QUICK_STOP (06 R267): a write of 2 to STOP. -/
def execQuickStop (r : Req) (g : Group) (s : State) : Out :=
  .next (request s r (K.grpStop g) 2 fun s => writeEntry s r (K.grpStop g) 2 {} fun s => ok (stopGroup s g true true 2) r)

/-- STOP_COMPLETE (06 R269): a stopping group is at rest. -/
def execStopComplete (g : Group) (s : State) : Out :=
  .next (if groupState s g = 5 ∧ fLe (s.group g).v 0 = true then endStop s g else s)

/-- ACK_FAULT (06 R234, R272). -/
def execAckFault (r : Req) (g : Group) (s : State) : Out :=
  .next (request s r (K.grpAckFault g) 2 fun s =>
    writeEntry s r (K.grpAckFault g) 1 {} fun s =>
      if groupState s g = 6 then
        let s := s.setReg (K.gstGrpStatus g) (clearMask (s.regN (K.gstGrpStatus g)) 0xFF00 : Nat)
        ok (setGroupState (s.setReg (K.gstSegError g) 0) g 1) r
      else ok s r)

/-- The refusal of a segment write in the group's present state (06 R233, R234, R262). -/
def streamCode (s : State) (g : Nat) : Option Nat :=
  let e := s.reg (K.grpGroupEnable g)
  let gs := groupState s g
  if e ≠ 1 then some 0x0F000011 else if gs = 0 then some 0x0F00000E
  else whenCode (gs == 5 || gs == 6) 0x08000022

def unitsOf (q : List Seg) : Nat := (q.map (·.units)).sum

/-- The records that fit in a number of units, as far as the first that does not. -/
def takeFit : Nat → List Seg → List Seg
  | _, [] => []
  | room, x :: t => if x.units ≤ room then x :: takeFit (room - x.units) t else []

/-- Records enter the queue; a wait that comes while the segment before it executes is armed (06 R245). -/
def appendSegs (s : State) (g : Nat) (q : List Seg) : State :=
  queueShow (s.modGrp g fun x =>
    { x with
      queue := match x.queue, q with
        | [y], z :: rest => if x.active then y :: armSeg z :: rest else y :: z :: rest
        | old, new => old ++ new }) g

/-- Records of a write are appended whole, wait for room, or are refused for lack of it (06 R261). -/
def enqueue (s : State) (r : Req) (g : Nat) (q : List Seg) : State :=
  let x := s.group g
  if x.full = [] ∧ unitsOf x.queue + unitsOf q ≤ 4096 then ok (appendSegs s g q) r
  else if s.reg (K.grpFullWait g) = 0 then refuse (gstBit s g 8 true) r 0x05040005
  else s.modGrp g fun x => { x with full := x.full ++ [(r, q)] }

/-- A write to a segment stream in the group's present state (06 R262). -/
def streamWrite (r : Req) (g : Nat) (data : List Byte) (eff : State → State) (s : State) : State :=
  writeBytes s r (K.segmentStream g) data { state := streamCode s g } eff

/-- The end of a write of more than 4,096 bytes: its whole records are appended, and those that find no room wait (06 R261,
R262). -/
def segmentRest (r : Req) (g : Nat) (data : List Byte) (s : State) : State :=
  streamWrite r g data (fun s =>
    let t := parsePrefix (s.regN (K.slotsSlotCount g)) (s.regN (K.slotsPathMask g)) g (data.length / 64 + 1) data
    let fits := if (s.group g).full = [] then takeFit (4096 - unitsOf (s.group g).queue) t.1 else []
    let rest := t.1.drop fits.length
    let s := appendSegs s g fits
    if t.2 then refuse s r 0x06090030
    else if rest = [] then ok s r
    else if s.reg (K.grpFullWait g) = 0 then refuse (gstBit s g 8 true) r 0x05040005
    else s.modGrp g fun x => { x with full := x.full ++ [(r, rest)] }) s

/-- A write to a segment stream (06 R249, R261, R262). -/
def segmentWrite (r : Req) (g : Nat) (data : List Byte) (s : State) : State :=
  if data.length ≤ 4096 then
    streamWrite r g data (fun s =>
      match parseRecords (s.regN (K.slotsSlotCount g)) (s.regN (K.slotsPathMask g)) g (data.length / 64 + 1) data with
      | none => refuse s r 0x06090030
      | some q => enqueue s r g q) s
  else segmentRest r g data s

/-- The whole records of a long write are appended as they arrive, as far as there is room (06 R262): the bytes left over,
and the code with which the write ends, if it does. -/
def segmentArrive (r : Req) (g : Nat) (data : List Byte) (s : State) : State × List Byte × Option Nat :=
  match bytesCode s r (K.segmentStream g) { state := streamCode s g } with
  | some c => (s, [], some c)
  | none =>
    let t := parseArrived (s.regN (K.slotsSlotCount g)) (s.regN (K.slotsPathMask g)) g (data.length / 64 + 1) data
    let fits := if (s.group g).full = [] then takeFit (4096 - unitsOf (s.group g).queue) t.1 else []
    (appendSegs s g fits, data.drop (64 * unitsOf fits), whenCode (t.2 && decide (fits.length = t.1.length)) 0x06090030)

/-- SEGMENT_WRITE (06 R262). -/
def execSegmentWrite (r : Req) (g : Group) (data : List Byte) (s : State) : Out :=
  .next (request s r (K.segmentStream g) 4 (segmentWrite r g data))

/-- QUEUE_ROOM_APPEND (06 R261): writes that wait are appended in their order as far as they fit. -/
def roomAppend : Nat → State → Nat → State
  | 0, s, _ => s
  | fuel + 1, s, g =>
    match (s.group g).full with
    | [] => s
    | (r, q) :: rest =>
      if unitsOf (s.group g).queue + unitsOf q ≤ 4096 then
        roomAppend fuel (ok (appendSegs (s.modGrp g fun x => { x with full := rest }) g q) r) g
      else s

def execQueueRoomAppend (g : Group) (s : State) : Out := .next (roomAppend ((s.group g).full.length) s g)

/-- QUEUE_FULL_TIMEOUT (06 R261): FULL_WAIT has run out for the write that waits longest. -/
def execQueueFullTimeout (g : Group) (s : State) : Out :=
  .next (match (s.group g).full with
    | [] => s
    | (r, _) :: rest => refuse (gstBit (s.modGrp g fun x => { x with full := rest }) g 8 true) r 0x05040005)

/-- The head of a group that is on a dwell or wait, in state 3. -/
def waitingHead (s : State) (g : Nat) : Option Seg :=
  if groupState s g = 3 ∧ (s.group g).active = true then (s.group g).queue.head? else none

/-- DWELL_END (06 R243): the tick at hand completes DURATION. -/
def execDwellEnd (g : Group) (s : State) : Out :=
  .next (match waitingHead s g with
    | some x => if x.typ = 5 ∧ ticksOf s x.dur ≤ (s.group g).ticks + 1 then showPath (finishHead s g) g else s
    | none => s)

/-- WAIT_MET (06 R245): the condition holds and the group is at rest. -/
def execWaitMet (g : Group) (s : State) : Out :=
  .next (match waitingHead s g with
    | some x => if x.typ = 6 ∧ waitMet s g x = true then showPath (finishHead s g) g else s
    | none => s)

/-- WAIT_TIMEOUT (06 R244, R245, R251): TIMEOUT runs out with the tick at hand; a condition met now counts as met. -/
def execWaitTimeout (g : Group) (s : State) : Out :=
  .next (match waitingHead s g with
    | some x =>
      if x.typ = 6 ∧ x.tmo ≠ 0 ∧ ticksOf s x.tmo ≤ (s.group g).ticks + 1 then
        showPath (if waitMet s g x then finishHead s g else waitOut s g x) g
      else s
    | none => s)

/-- FEED_OVERRIDE_WRITE (06 R264 to R266). -/
def execFeedOverrideWrite (r : Req) (g : Group) (v : BitVec 16) (s : State) : Out :=
  .next (request s r (K.ovrOverride g) 2 fun s => writeEntry s r (K.ovrOverride g) v.toNat {} (storeOk r (K.ovrOverride g) v.toNat))

end Sys2Proof.Machine
end

