-- ==== Sys2Proof/Machine/Reserve.lean ====
section
/-! DEFINITION. The reserve: spares left per class, its figure and its reports (spec/18 R647 to R649). -/

namespace Sys2Proof.Machine

/-- A region's logic columns or its memory columns have a failed one (08 R300): columns 64 and 65 hold memory, 66 is the
logic spare and 67 the memory spare. -/
def columnsBad (s : State) (r : Nat) (memory : Bool) : Nat :=
  (s.fab.badCols.filter fun c => c.1 == r && (if memory then c.2 == 64 || c.2 == 65 else decide (c.2 < 64))).length

def spareBad (s : State) (r : Nat) (memory : Bool) : Bool := s.fab.badCols.contains (r, if memory then 67 else 66)

/-- A region's spare of a kind is used, or has itself failed. -/
def spareGone (s : State) (r : Nat) (memory : Bool) : Bool := decide (0 < columnsBad s r memory) || spareBad s r memory

/-- A class that is present: spares left and in all (R647). Class 6 counts only while DRAM is fitted. -/
def spares (s : State) (c : Nat) : Option (Nat × Nat) :=
  match c with
  | 1 => some (((List.range 16).filter fun r => !spareGone s r false).length, 16)
  | 2 => some (((List.range 16).filter fun r => !spareGone s r true).length, 16)
  | 3 => some (s.regN K.siFreeCount, 4)
  | 4 => some (s.fe.spares, 4)
  | 5 => some (128 - s.test.rows.length, 128)
  | 6 => if s.mem.cap = 0 then none else some (s.regN K.dramSpareRows, 4096)
  | 7 => some (256 - (s.flash.block.filter fun b => decide (b.1 < 256) && decide (10000 < b.2.erases)).length, 256)
  | _ => none

/-- The classes present with what is left of them. -/
def classes (s : State) : List (Nat × Nat × Nat) := (List.range 8).filterMap fun c => (spares s c).map fun x => (c, x)

/-- The reserve figure (R647). -/
def reserveFigure (s : State) : Nat := (classes s).foldl (fun a x => min a (100 * x.2.1 / x.2.2)) 100

/-- YEARS_LEFT (R649). -/
def yearsLeft (s : State) : Nat :=
  (classes s).foldl (fun a x => if x.2.1 < x.2.2 then min a (s.regN K.resvServiceHours * x.2.1 / (x.2.2 - x.2.1) / 8766) else a) 0xFFFF

/-- The levels of R648 that a class has reached: RESERVE_LOW, 25 % and 0. -/
def levelOf (s : State) (left total : Nat) : Nat :=
  if left = 0 then 3 else if 100 * left ≤ 25 * total then 2 else if 100 * left ≤ s.regN K.resvReserveLow * total then 1 else 0

/-- The entries of RESERVE follow (R649). -/
def showFigures (s : State) : State :=
  let s := (classes s).foldl (fun s x => s.setReg (K.resvLeft1 + x.1 - 1) x.2.1) s
  s.setRegs [(K.resvReserveFigure, reserveFigure s), (K.resvYearsLeft, yearsLeft s)]

/-- 0xFF80, once for each level from `lo` + 1 to `hi` (R648). -/
def tellLevels (s : State) (c left lo hi : Nat) : State :=
  (List.range (hi - lo)).foldl (fun s _ => emcy s 0xFF80 7 c (left + 2 ^ 16 * s.regN K.resvReserveFigure)) s

/-- The figures follow, and a level that a class has crossed is reported (R648). -/
def showReserve (s : State) : State :=
  (classes s).foldl (fun s x =>
    let was := tabGet (fun _ => 0) s.test.level x.1
    let now := levelOf s x.2.1 x.2.2
    let s := { s with test := { s.test with level := tabSet (fun _ => 0) s.test.level x.1 (max was now) } }
    tellLevels s x.1 x.2.1 was now) (showFigures s)

/-- At a release every level that holds is reported (R648). -/
def tellReserve (s : State) : State :=
  (classes s).foldl (fun s x => tellLevels s x.1 x.2.1 0 (levelOf s x.2.1 x.2.2)) (showReserve s)

end Sys2Proof.Machine
end

