-- ==== Sys2Proof/Machine/Dram.lean ====
section
/-! DEFINITION. External DRAM behind the inline cipher, scratchpad banks, protected ranges and queue DMA (spec/11, 12
R449 to R460, 06 R263). -/

namespace Sys2Proof.Machine

/-! ## Keys (12 R449, R451, R455, R456) -/

def State.modCip (s : State) (f : CipherSt → CipherSt) : State := { s with cip := f s.cip }
def State.modMem (s : State) (f : MemSt → MemSt) : State := { s with mem := f s.mem }
def State.keySlot (s : State) (i : Nat) : KeySlot := tabGet (fun _ => {}) s.cip.slot i
def State.modKey (s : State) (i : Nat) (f : KeySlot → KeySlot) : State :=
  s.modCip fun x => { x with slot := tabSet (fun _ => {}) x.slot i (f (s.keySlot i)) }

/-- A free key of 32 bytes drawn by the TRNG, by its number. -/
def drawnKey (i : Nat) : List Byte := (List.range 32).map fun j => BitVec.ofNat 8 (Config.free (i + j))

/-- The generation under which a key index serves requests; none where it is empty, retiring or retired. Index 0 is the
ephemeral key (12 R449, R451). -/
def liveGen (s : State) (i : Nat) : Option Nat :=
  if i = 0 then (if s.cip.noEphemeral then none else some 0)
  else if (s.keySlot i).st = 1 ∨ (s.keySlot i).st = 2 then some (s.keySlot i).gen else none

/-- The key bytes of an index. -/
def keyOf (s : State) (i : Nat) : List Byte := if i = 0 then drawnKey s.cip.ephemeral else (s.keySlot i).key

/-- The index a DRAM request uses: in ephemeral mode the one it carries is ignored (12 R449). -/
def dramIndex (s : State) (i : Nat) : Nat := if s.cip.dramMode = 0 then 0 else i

/-! ## Counters and hallmarks of lines (12 R457 to R459) -/

def regionOf (line : Nat) : Nat := line / 2 ^ 22
def pageOf (line : Nat) : Nat := line / 64

def majorOf (s : State) (page : Nat) : Nat := tabGet (fun _ => 0) s.mem.major page
def dramEpoch (s : State) (region : Nat) : Nat := tabGet (fun _ => 0) s.mem.epoch region

/-- A line's minor counter: its writes since its page was encrypted, the one of the initial pass included (11 R436). -/
def minorOf (s : State) (line : Nat) : Nat :=
  tabGet (fun _ => 0) s.mem.writes line + (if majorOf s (pageOf line) = 0 ∧ dramEpoch s (regionOf line) = 0 then 1 else 0)

def asciiOf (t : List Nat) : List Byte := t.map (BitVec.ofNat 8)

/-- The key of a line: KDF(K, "DRAM", region, epoch) (12 R456). -/
def lineKey (s : State) (line key : Nat) : List Byte :=
  kdf (keyOf s key) (asciiOf [68, 82, 65, 77]) (regionOf line) (dramEpoch s (regionOf line))

/-- The IV of a line (12 R457). -/
def lineIv (s : State) (line key : Nat) : List Byte :=
  leBytes 4 (pageOf line) ++ leBytes 4 (majorOf s (pageOf line)) ++ leBytes 1 (minorOf s line) ++ leBytes 1 (line % 64)
    ++ leBytes 1 key ++ leBytes 1 0

def dramLine (s : State) (line : Nat) : DramLine := tabGet (fun _ => {}) s.mem.dram line

/-- A line's contents in plain; a line that nothing has written holds zeros. -/
def lineData (x : DramLine) : List Byte := (x.data ++ zeros 64).take 64

/-- What stands in the DRAM for a line: its ciphertext (12 R457). -/
def lineCipher (s : State) (line : Nat) : List Byte :=
  gcmText (lineKey s line (dramLine s line).key) (lineIv s line (dramLine s line).key) (lineData (dramLine s line))

/-- A line's hallmark: the minor counter over the 57 most significant bits of the tag (12 R457). -/
def lineHallmark (s : State) (line : Nat) : Nat :=
  let k := (dramLine s line).key
  2 ^ 57 * minorOf s line + beNat (natsOf (gcmSeal (lineKey s line k) (lineIv s line k) [] (lineCipher s line))) / 2 ^ 71

/-- A region is remelted under its next epoch: every counter of it returns to 0 (12 R459). -/
def remeltDram (s : State) (region : Nat) : State :=
  (s.bump K.ciDramRemelts 32).modMem fun m =>
    { m with
      writes := tabKeep (fun l => decide (regionOf l ≠ region)) m.writes,
      major := tabKeep (fun p => decide (p / 2 ^ 16 ≠ region)) m.major,
      epoch := tabSet (fun _ => 0) m.epoch region (dramEpoch s region + 1), remelts := m.remelts ++ [region] }

/-- The counters of a write (12 R458, R459); false where the region has become read-only. -/
def countWrite (s : State) (line : Nat) : State × Bool :=
  let page := pageOf line
  let region := regionOf line
  let once := fun s : State => s.modMem fun m => { m with writes := tabSet (fun _ => 0) m.writes line (tabGet (fun _ => 0) m.writes line + 1) }
  if minorOf s line < 127 then (once s, true)
  else if majorOf s page < 2 ^ 32 - 1 then
    ((s.modMem fun m =>
      { m with
        writes := tabKeep (fun l => decide (pageOf l ≠ page)) m.writes,
        major := tabSet (fun _ => 0) m.major page (majorOf s page + 1) }).bump K.ciPageReencrypts 64, true)
  else if dramEpoch s region < 0xFFFF then (once (remeltDram s region), true)
  else if s.mem.fullEpoch.contains region then (s, false)
  else (emcy (s.modMem fun m => { m with fullEpoch := region :: m.fullEpoch }) 0xFF60 7 0xFF region, false)

/-! ## Rows (11 R436, R437) -/

/-- A row is retired to a spare row (11 R437). -/
def retireRow (s : State) (row : Nat) : State :=
  if s.mem.retired.contains row then s
  else if s.reg K.dramSpareRows = 0 then emcy s 0xFF5A 7 0xFF 0
  else
    let s := (s.modMem fun m => { m with retired := row :: m.retired }).bump K.dramRetiredRows 16
    showReserve (emcy (s.setReg K.dramSpareRows (s.reg K.dramSpareRows - 1)) 0xFF58 7 0xFF row)

/-- An uncorrectable beat: counted, reported, and its row is retired (11 R437, R448). -/
def badBeat (s : State) (row : Nat) : State := retireRow (emcy (s.bump K.dramUncorrectable 32) 0xFF59 7 0xFF row) row

/-! ## Accesses (08 R317; 11 R440; 12 R449, R460) -/

/-- An access of a master other than the service cores is blocked: a protected range, or beyond the user region. -/
def blocked (s : State) (addr len : Nat) : Bool :=
  decide (s.regN K.dramUserBytes < addr + len) || (List.range 16).any fun i =>
    let b := s.regN (K.rangeBase i)
    let n := s.regN (K.rangeSize i)
    decide (n ≠ 0) && decide (addr < b + n) && decide (b < addr + len)

/-- DRAM serves requests: it is initialising or ready (11 R436, R438, R439). -/
def dramUp (s : State) : Bool := s.reg K.dramState == 2 || s.reg K.dramState == 3

/-- One line is written under a key index (after TAMPER# every index is retired, 17 R623); the answer is a status of 08 R317. -/
def writeLine (s : State) (line key : Nat) (data : List Byte) : State × Nat :=
  let k := dramIndex s key
  if s.cip.noEphemeral then (s, 3)
  else if !dramUp s then (s, 6)
  else if s.regN K.dramUserBytes < 64 * line + 64 then (s, 2)
  else
    match liveGen s k with
    | none => (s, 3)
    | some gen =>
      let c := countWrite s line
      if c.2 then
        (c.1.modMem fun m => { m with dram := tabSet (fun _ => {}) m.dram line ⟨(data ++ zeros 64).take 64, k, gen, false⟩ }, 0)
      else (c.1, 2)

/-- A line fails its hallmark (12 R460). -/
def lineFails (s : State) (line : Nat) : State := emcy (s.bump K.ciDramIntegrityFails 32) 0xFF67 7 0xFF line

/-- One line is read under a key index: status and 64 bytes; a refused or failed read returns zeros. -/
def readLineAs (s : State) (line key : Nat) : State × Nat × List Byte :=
  let k := dramIndex s key
  let x := dramLine s line
  if s.cip.noEphemeral then (s, 3, zeros 64)
  else if !dramUp s then (s, 6, zeros 64)
  else if s.regN K.dramUserBytes < 64 * line + 64 then (s, 2, zeros 64)
  else
    match liveGen s k with
    | none => (s, 3, zeros 64)
    | some gen =>
      let fresh := x.data.isEmpty && x.key == 0
      if x.bad || (if fresh then k != 0 else x.key != k || x.gen != gen) then (lineFails s line, 4, zeros 64)
      else (s, 0, lineData x)

/-- A run of bytes read through the cipher: the first status other than OK, and the bytes. -/
def readDram (s : State) (addr n key : Nat) : State × Nat × List Byte :=
  let first := addr / 64
  let lines := if n = 0 then 0 else (addr + n - 1) / 64 - first + 1
  let r := (List.range lines).foldl (fun acc i =>
    if acc.2.1 ≠ 0 then acc
    else
      let x := readLineAs acc.1 (first + i) key
      (x.1, x.2.1, acc.2.2 ++ x.2.2)) (s, 0, [])
  (r.1, r.2.1, if r.2.1 = 0 then (r.2.2.drop (addr % 64)).take n else zeros n)

/-- A run of bytes written through the cipher; a line covered in part is read first. -/
def writeDram (s : State) (addr key : Nat) (data : List Byte) : State × Nat :=
  let first := addr / 64
  let n := data.length
  let lines := if n = 0 then 0 else (addr + n - 1) / 64 - first + 1
  (List.range lines).foldl (fun acc i =>
    if acc.2 ≠ 0 then acc
    else
      let line := first + i
      let lo := max addr (64 * line)
      let hi := min (addr + n) (64 * line + 64)
      let part := (data.drop (lo - addr)).take (hi - lo)
      if hi - lo = 64 then writeLine acc.1 line key part
      else
        let old := readLineAs acc.1 line key
        if old.2.1 ≠ 0 then (old.1, old.2.1) else writeLine old.1 line key (overwrite old.2.2 (lo - 64 * line) part)) (s, 0)

/-- The abort code that goes with a status of 08 R317 in the dictionary (11 R424, R438, R440; 12 R459, R475). -/
def dramAbort (status : Nat) : Nat := if status = 0 then 0 else if status = 3 then 0x0F000004 else 0x06060000

/-- DRAM_LINE_WRITE (12 R457 to R459): a write of the service cores or the cipher itself. -/
def execDramLineWrite (line : Nat) (key : BitVec 8) (data : List Byte) (s : State) : Out :=
  .next (
    let r := writeLine s line key.toNat data
    r.1.modMem fun m => { m with got := some (r.2, []) })

/-- DRAM_LINE_READ (12 R460): a line that fails is read a second time; a beat error retires its row (11 R437). -/
def execDramLineRead (line : Nat) (key : BitVec 8) (first second : LineRead) (s : State) : Out :=
  .next (
    let fails := first != .good && second != .good
    let s := if fails && dramUp s then
        let s := s.modMem fun m => { m with dram := tabSet (fun _ => {}) m.dram line { dramLine s line with data := lineData (dramLine s line), bad := true } }
        if second = .beatError then badBeat s (line / 64) else s
      else s
    let r := readLineAs s line key.toNat
    r.1.modMem fun m => { m with got := some r.2 })

/-- DRAM_REMELT_DONE (12 R459). -/
def execDramRemeltDone (region : Nat) (s : State) : Out :=
  .next (if s.mem.remelts.contains region then
    emcy (s.modMem fun m => { m with remelts := m.remelts.erase region }) 0xFF65 7 0xFF region else s)

/-- DRAM_TRAINED (11 R434, R436, R438): training has ended, or failed at a step. -/
def execDramTrained (good : Bool) (step : Nat) (s : State) : Out :=
  .next (if s.reg K.dramState = 1 then
    (if good then s.setRegs [(K.dramState, 2), (K.dramUserBytes, ((7 * 2 ^ (30 + s.mem.cap) / 8 : Nat) : Int))]
     else emcy (s.setReg K.dramState 4) 0xFF5C 7 0xFF step)
   else s)

/-- DRAM_INIT_DONE (11 R436). -/
def execDramInitDone (s : State) : Out := .next (if s.reg K.dramState = 2 then s.setReg K.dramState 3 else s)

/-- DRAM_PATROL_SCRUB (11 R436, R437): one pass over the user region, with the rows that had corrected beats and whether
one was uncorrectable. Eight corrected beats within a pass retire a row. -/
def execDramPatrolScrub (rows : List (Nat × Nat × Bool)) (s : State) : Out :=
  .next (if dramUp s then
    let s := rows.foldl (fun s r =>
      let n := tabGet (fun _ => 0) s.mem.rowHits r.1 + r.2.1
      let s := (s.bumpBy K.dramCorrected 32 r.2.1).modMem fun m => { m with rowHits := tabSet (fun _ => 0) m.rowHits r.1 n }
      let s := if 8 ≤ n then retireRow s r.1 else s
      if r.2.2 then badBeat s r.1 else s) s
    s.modMem fun m => { m with rowHits := [] }
   else s)

/-! ## Scratchpad banks (11 R427 to R430) -/

/-- BANK_HANDOVER (11 R426 to R429). -/
def bankHandover (r : Req) (b owner : Nat) (s : State) : State :=
  let known := owner = 0 ∨ (0x10 ≤ owner ∧ owner ≤ 0x13) ∨ (0x30 ≤ owner ∧ owner ≤ 0x37)
  if b < 4 then refuse s r 0x06010002
  else
    writeEntry s r (K.bankOwner b) owner
      { state := if owner = 0x20 ∨ owner = 0x40 then some 0x08000022
          else if bankBusy s b then some 0x0F00000E
          else if s.bad.contains (0x18, b) then some 0x08000022
          else whenCode (bankOwner s b != owner && !bankFree s b) 0x0F00000C,
        set := whenCode (!decide known) 0x06090030 } fun s =>
      if bankOwner s b = owner then ok s r else await (startHandover s b owner) (.bank b) r

def execBankHandover (r : Req) (b : Fin 16) (owner : BitVec 8) (s : State) : Out :=
  .next (request s r (K.bankOwner b) 2 (bankHandover r b owner.toNat))

/-- HANDOVER_DONE (11 R429 steps 3 and 4): the group that claimed the bank is enabled (06 R233). -/
def execHandoverDone (b : Fin 16) (s : State) : Out :=
  .next (
    match (s.bankSt b).target with
    | none => s
    | some owner =>
      let s := completeAll (finishHandover s b) (.bank b) 0 []
      if owner = 0x20 then
        match (List.range 8).find? fun g => (s.group g).bank == b.val && s.reg (K.grpGroupEnable g) != 0 && groupState s g == 0 with
        | some g => if hg : g < 8 then groupOn s ⟨g, hg⟩ else s
        | none => s
      else s)

/-! ## Protected ranges (11 R440 to R442) -/

/-- A request that a range write may have to wait for has ended. -/
def requestEnded (s : State) (id : Nat × Nat) : State :=
  let q := s.mem.rangeQ.map fun x => (x.1, x.2.filter fun y => y != id)
  let s := s.modMem fun m => { m with rangeQ := q.filter fun x => !x.2.isEmpty }
  (q.filter fun x => x.2.isEmpty).foldl (fun s x => ok s x.1) s

/-- DRAM requests in flight: of fabric ports by tag, of storage transfers by command. -/
def inFlight (s : State) : List (Nat × Nat) :=
  s.fab.port.flatMap (fun p => p.2.mem.map fun m => (p.1, m.tag))
    ++ (s.cip.cmds.filter fun c => match c.op with
      | .toDram .. => true
      | .fromDram .. => true
      | _ => false).map fun c => (100, c.id)

/-- The range overlaps the ring of an enabled reel (11 R442). -/
def coversReel (s : State) (base size : Nat) : Bool :=
  let b := s.regN K.reelRingBase
  let n := s.regN K.reelRingSize * 2 ^ 20
  s.reg K.reelEnable != 0 && decide (size ≠ 0) && decide (base < b + n) && decide (b < base + size)

/-- PROTECTED_RANGE_WRITE (11 R441, R442). -/
def rangeWrite (r : Req) (i : Nat) (f : RangeField) (v : Nat) (s : State) : State :=
  let key := match f with
    | .base => K.rangeBase i
    | .size => K.rangeSize i
  let base := if f = .base then v else s.regN (K.rangeBase i)
  let size := if f = .size then v else s.regN (K.rangeSize i)
  if i < 4 then refuse s r 0x06010002
  else
    writeEntry s r key v
      { state := whenCode (s.reg K.rangeLockRangeLock == 1 || coversReel s base size) 0x08000022,
        set := whenCode (decide (size ≠ 0) && decide (s.regN K.dramUserBytes < base + size)) 0x06090030 } fun s =>
      let s := s.setReg key v
      let w := inFlight s
      if w = [] then ok s r else s.modMem fun m => { m with rangeQ := m.rangeQ ++ [(r, w)] }

def execProtectedRangeWrite (r : Req) (i : Fin 16) (f : RangeField) (v : BitVec 64) (s : State) : Out :=
  .next (request s r (match f with
    | .base => K.rangeBase i
    | .size => K.rangeSize i) 2 (rangeWrite r i f v.toNat))

/-- RANGE_LOCK (11 R441): a write of 1 holds until the next reset. -/
def execRangeLock (r : Req) (s : State) : Out :=
  .next (request s r K.rangeLockRangeLock 2 fun s =>
    writeEntry s r K.rangeLockRangeLock 1 {} (storeOk r K.rangeLockRangeLock 1))

/-! ## Queue DMA (06 R233, R262, R263) -/

/-- A bad record or a refused read stops the DMA at that record. -/
def dmaStop (s : State) (g : Nat) : State :=
  dmaOff (emcy (gstBit s g 10 true) 0xFF38 4 g (s.regN (K.dmaDone g))) g

/-- DMA_ENABLE written (06 R263; 02 R79 to R82): 1 starts at DMA_ADDR, but not while the group leaves service (06 R233; 02 R80).
Records are whole at every point between commands, so that the abort form stops at once; the drain form finishes the block. -/
def dmaEnableWrite (r : Req) (g : Group) (v : Nat) (s : State) : State :=
  let e := s.reg (K.dmaEnable g)
  writeEntry s r (K.dmaEnable g) v
    { state := if v = 1 ∧ 3 ≤ e then some 0x08000022
        else whenCode (v == 1 && decide (3 ≤ s.reg (K.grpGroupEnable g))) 0x0F000011 } fun s =>
    if v = 1 then
      if e = 1 then ok s r
      else
        let s := gstBit (s.setRegs [(K.dmaEnable g, 1), (K.dmaDone g, 0)]) g 24 true
        let s := s.modGrp g fun x => { x with dmaNext := s.regN (K.dmaAddr g), dmaLeft := s.regN (K.dmaBytes g) }
        if (s.group g).dmaLeft = 0 then dmaOff (ok s r) g else ok s r
    else if e = 0 then ok s r
    else
      let s := await s (.disable (.dma g)) r
      if v = 2 then dmaOff s g else s.setReg (K.dmaEnable g) 3

/-- QUEUE_DMA_FETCH (06 R233, R263): the next record, if there is room for it and the group takes new work. -/
def execQueueDmaFetch (g : Group) (s : State) : Out :=
  .next (
    let x := s.group g
    let gs := groupState s g
    if s.reg (K.dmaEnable g) = 0 ∨ s.reg (K.grpGroupEnable g) ≠ 1 then s
    else if gs = 0 ∨ gs = 5 ∨ gs = 6 ∨ x.full ≠ [] then s
    else if blocked s x.dmaNext 64 then dmaStop s g
    else
      let h := readDram s x.dmaNext 64 0
      let n := 64 * byteAt h.2.2 1
      if h.2.1 ≠ 0 then dmaStop h.1 g
      else if n = 0 ∨ x.dmaLeft < n ∨ blocked s x.dmaNext n = true then dmaStop h.1 g
      else
        let b := readDram h.1 x.dmaNext n 0
        let s := b.1
        if b.2.1 ≠ 0 ∨ recordOk b.2.2 (s.regN (K.slotsSlotCount g)) (s.regN (K.slotsPathMask g)) g = false then dmaStop s g
        else if 4096 < unitsOf x.queue + n / 64 then s
        else
          let s := (appendSegs s g [segOf b.2.2]).bumpBy (K.dmaDone g) 32 n
          let s := s.modGrp g fun x => { x with dmaNext := x.dmaNext + n, dmaLeft := x.dmaLeft - n }
          if (s.group g).dmaLeft = 0 then dmaOff s g else s)

end Sys2Proof.Machine
end

