-- ==== Sys2Proof/Machine/IslandCore.lean ====
section
/-! DEFINITION. The assay island: sealed parameters, legal values, records and their chain (spec/14). -/

namespace Sys2Proof.Machine

def State.modIsl (s : State) (f : IslandSt → IslandSt) : State := { s with isl := f s.isl }

/-- The 16 bytes of UID (02 R84). -/
def unitUid (s : State) : List Byte := (s.blob K.unitUid ++ zeros 16).take 16

/-- The `i`-th public key of Waihotrum that the unit holds, 96 bytes: a free value. -/
def vendorKey (i : Nat) : List Byte := (List.range 96).map fun j => BitVec.ofNat 8 (Config.vendorByte i j)

/-! ## Sealed parameters (14 R510, R511) -/

/-- The defaults of R511. -/
def paramDefault (id : Nat) : Int :=
  if id = 2 then 0x3E800000000
  else if id = 5 then 0xFF
  else if id = 6 then 1000
  else if id = 8 then 1
  else if id = 9 then 15
  else if id = 10 ∨ id = 11 then 7
  else if id = 12 ∨ id = 13 then 2
  else if 16 ≤ id ∧ id < 20 then 0xFF
  else 0

/-- A parameter of the island's own. -/
def ownParam (s : State) (id : Nat) : Int := tabGet paramDefault s.isl.params id

/-- The port of a tap. -/
def tapPort (s : State) (k : Nat) : Option Nat :=
  let p := (ownParam s (16 + k)).toNat
  if k < 4 ∧ p < 48 then some p else none

/-- The entry that a tap's PARAM_ID stands for, while the tap has a port. -/
def tapKey (s : State) (id : Nat) : Option Nat :=
  if 0x8000 ≤ id ∧ id < 0xC000 ∧ id / 256 % 16 ≤ 5 then
    (tapPort s (id / 4096 % 4)).bind fun p =>
      let key := (0x4000 + 0x40 * p + id / 256 % 16) * 256 + id % 256
      match rowOf (keyIndex key) (keySub key) with
      | some w => if w.acc = .rw then some key else none
      | none => none
  else none

/-- Whether a PARAM_ID of the island's own exists. -/
def ownId (id : Nat) : Bool := (decide (1 ≤ id) && decide (id ≤ 13)) || (decide (16 ≤ id) && decide (id < 20))

/-- The value of a parameter; none if there is none of that ID. -/
def paramOf (s : State) (id : Nat) : Option Int :=
  if ownId id then some (ownParam s id) else (tapKey s id).map s.reg

/-- The ranges of R510. -/
def paramOk (id : Nat) (v : Int) : Bool :=
  match id with
  | 1 => decide (v ≤ 5)
  | 2 => decide (0 < v)
  | 3 => decide (v ≤ 1)
  | 4 => decide (v ≤ 1)
  | 5 => decide (v < 0x20) || (decide (0x80 ≤ v) && decide (v < 0xA0)) || v == 0xFF
  | 6 => decide (1 ≤ v) && decide (v ≤ 1000000000)
  | 7 => decide (v ≤ 2 ^ 62)
  | 8 => decide (v ≤ 1)
  | 9 => decide (4 ≤ v) && decide (v ≤ 15)
  | 10 => decide (v ≤ 7)
  | 11 => decide (v ≤ 7)
  | 12 => decide (v ≤ 4)
  | 13 => decide (v ≤ 4)
  | _ => decide (v < 48) || v == 0xFF

/-! ## The measuring input (14 R507, R508, R523) -/

/-- The flags of STATUS that mark an error (03 R130). -/
def errorFlags (v : Nat) : Nat := v &&& 0x5FFE

/-- The input's value, its flags since the present piece began, and whether it is valid. -/
def islInput (s : State) : Int × Nat × Bool :=
  let i := (ownParam s 1).toNat
  if i = 0 then (s.isl.am0.count, s.isl.am0.seen, s.isl.am0.now == 0)
  else if i = 1 then (s.isl.am1.count, s.isl.am1.seen, s.isl.am1.now == 0)
  else
    match tapPort s (i - 2) with
    | some p => ((s.fb p).live, s.regN (K.fbsStatus p) % 2 ^ 16, s.regBit (K.fbsStatus p) 31)
    | none => (0, 0, false)

/-- A new piece begins: the flags seen are those that still hold. -/
def newPiece (s : State) : State :=
  s.modIsl fun x => { x with am0 := { x.am0 with seen := x.am0.now }, am1 := { x.am1 with seen := x.am1.now } }

/-- The signed difference of two inputs, negated by DIRECTION (R522). -/
def islDelta (s : State) (v0 v1 : Int) : Int :=
  let d := wrap64 (v1 - v0)
  if ownParam s 3 = 1 then -d else d

/-- A number over a positive one, rounded to nearest, ties away from zero. -/
def roundAway (a : Int) (b : Nat) : Int :=
  let q : Int := (((2 * a.natAbs + b) / (2 * b) : Nat) : Int)
  if 0 ≤ a then q else -q

/-- The legal value L of R522. -/
def legalValue (s : State) (d : Int) : Int :=
  let r := (ownParam s 6).toNat
  roundAway (d * ownParam s 2) (r * 2 ^ 32) * r

/-! ## Records (14 R525 to R527) -/

/-- 32 bytes: those given, then zeros. -/
def pad32 (b : List Byte) : List Byte := (b ++ zeros 32).take 32

/-- A record is formed: its SEAL_COUNT is the present one, its SUBSEC a free value below one second. -/
def islRecord (s : State) (type : Nat) (payload : List Byte) : State :=
  let f := s.fresh
  let s := f.2
  let seq := s.isl.seq + 1
  let rflags := b2n (s.reg K.rtcValid == 0) + 2 * s.regN K.islAseal
  let job := match s.isl.job with
    | some j => (j.id, if type = 3 ∧ j.mode = 1 then j.pieces else if type = 3 then 1 else j.pieces + 1)
    | none => (0, 0)
  let body := leBytes 4 seq ++ leBytes 1 type ++ leBytes 1 rflags ++ leBytes 1 (ownParam s 1).toNat ++ [0]
    ++ leBytes 8 (s.regN K.rtcSeconds) ++ leBytes 4 (Config.free f.1 % 1000000) ++ leBytes 4 (s.regN K.islSealCount)
    ++ leBytes 4 job.1 ++ leBytes 4 job.2 ++ pad32 payload ++ pad32 (if seq = 1 then [] else s.isl.hash)
  let h := sha256 (unitUid s ++ body)
  s.modIsl fun x => { x with seq := seq, hash := h, recs := x.recs ++ [⟨seq, body ++ h, 0⟩] }

/-- The island is sealed, so that records can be chained. -/
def islSealed (s : State) : Bool := s.reg K.islandState == 2 || s.reg K.islandState == 3

/-- An EVENT record (R526, R537). -/
def islEvent (s : State) (code : Nat) (detail : List Byte) : State :=
  if islSealed s then islRecord s 7 (leBytes 2 code ++ zeros 6 ++ (detail ++ zeros 16).take 16) else s

/-- Records formed and not yet sealed (R506). -/
def islUnsealed (s : State) : Nat := s.isl.recs.length + (s.isl.prog.map fun p => p.recs.length).sum

/-- A MEASUREMENT of a piece that ended at an input value (R522, R523, R526). -/
def islMeasure (s : State) (v0 v1 : Int) (flags : Nat) : State :=
  let d := islDelta s v0 v1
  let l := legalValue s d
  let st := b2n (errorFlags flags == 0) + 2 * b2n (decide (l < ownParam s 7)) + 2 ^ 16 * (flags % 2 ^ 16)
  let s := s.modIsl fun x => { x with job := x.job.map fun j => { j with pieces := j.pieces + 1, total := j.total + l } }
  islRecord s 3 (leBytes 8 (ofSigned 64 l) ++ leBytes 8 (ofSigned 64 d) ++ leBytes 8 (ofSigned 64 v1) ++ leBytes 4 st)

/-- The JOB_END record, with what it ends (R524, R526). Every reason but a command raises 0xFFC1 (R540). -/
def islJobEnd (s : State) (reason : Nat) : State :=
  match s.isl.job with
  | none => s
  | some j =>
    let s := islRecord s 4 (leBytes 1 reason ++ zeros 3 ++ leBytes 4 j.pieces ++ leBytes 8 (ofSigned 64 j.total))
    let s := (s.modIsl fun x => { x with job := none }).setReg K.jobState 0
    if reason = 1 then s else emcy s 0xFFC1 5 (ownParam s 1).toNat reason

/-- A running job ends: in MODE 0 its one measurement is taken first (R522, R524). -/
def islEndJob (s : State) (reason : Nat) : State :=
  match s.isl.job with
  | none => s
  | some j =>
    let v := islInput s
    islJobEnd (if j.mode = 0 then islMeasure s j.start v.1 v.2.1 else s) reason

/-- A job whose records can no longer be sealed in time ends (R506). -/
def islFull (s : State) : State := if 2048 ≤ islUnsealed s then islEndJob s 5 else s

/-- The island enters state 4 (R519, R529, R540). -/
def islFault (s : State) (cause : Nat) : State :=
  let s := islEndJob s 5
  emcy (s.setRegs [(K.islandState, 4), (K.islFaultCause, cause)]) 0xFFC2 7 (ownParam s 1).toNat cause

/-- A new NONCE (R516, R534). -/
def islNonce (s : State) : State :=
  let n := s.freeCtr
  { s with freeCtr := n + 16 }.setBlob K.islNonce ((List.range 16).map fun i => BitVec.ofNat 8 (Config.free (n + i)))

/-! ## Firmware copies (14 R517, R518) -/

/-- Where a copy begins in flash: copy 0 in blocks 176 to 178, copy 1 in 179 to 181. -/
def islCopyBase (c : Nat) : Nat := (176 + 3 * c) * 0x40000

def islHeader (s : State) (c : Nat) : List Byte := arrayBytes s (islCopyBase c) 512

def islDigest (s : State) (c : Nat) : List Byte := ((islHeader s c).drop 64).take 32

/-- An image is valid: its fields, the signature by the key of the mask ROM, and the digest of its code. -/
def islImageOk (s : State) (c : Nat) : Bool :=
  let h := islHeader s c
  let n := leAt h 8 4
  leAt h 0 4 == 0x59415341 && decide (1 ≤ n) && decide (n ≤ 785920) && zeroRun h 12 52 && zeroRun h 192 320
    && sigOk (vendorKey 0) (h.take 96) ((h.drop 96).take 96) && sha256 (arrayBytes s (islCopyBase c + 512) n) == islDigest s c

/-- The copy that FW_IMAGE writes: the one that does not run. -/
def islStaged (s : State) : Nat := if s.isl.copy = some 0 then 1 else 0

/-- A copy runs; every island start draws a new NONCE. -/
def islRun (s : State) (c : Nat) : State :=
  islNonce ((s.modIsl fun x => { x with copy := some c }).setReg K.islFwVersion (leAt (islHeader s c) 4 4))

/-! ## Sealing (14 R513, R516, R523, R527, R530) -/

/-- Accepted requests complete once their records are sealed and the seal store is updated, in order (R516, R540). -/
def islSettle (s : State) : State :=
  let due := s.isl.waits.filter fun w => decide (w.2.1 ≤ s.regN K.logHeadSeq) && w.2.2
  let s := s.modIsl fun x => { x with waits := x.waits.filter fun w => !(decide (w.2.1 ≤ s.regN K.logHeadSeq) && w.2.2) }
  due.foldl (fun s w => completeAll (emcy s 0xFFC3 0 (ownParam s 1).toNat (s.regN K.islSealCount)) (.island w.1) 0 []) s

/-- A record is sealed: it is the head of the log, and a MEASUREMENT now counts (R523, R534). -/
def islSealOne (s : State) (r : IslRec) : State :=
  let s := s.modIsl fun x => { x with log := x.log ++ [r] }
  let s := (s.setReg K.logHeadSeq r.seq).setBlob K.logHeadHash (r.data.drop 96)
  let s := if s.reg K.logOldestSeq = 0 then s.setReg K.logOldestSeq r.seq else s
  if byteOf r.data 4 = 3 then
    let s := s.setRegs [(K.jobLastLegal, toSigned 64 (leAt r.data 32 8)), (K.jobLastSeq, r.seq)]
    if s.isl.jobSeq < r.seq then s.bump K.jobPieces 32 else s
  else s

/-- The oldest block has been erased: its pages can be written again (R530). -/
def islErased (s : State) : State :=
  (s.modIsl fun x => { x with tail := x.tail + 1, erasing := false }).setReg K.logFree (s.regN K.logFree + 512 : Nat)

/-- What the end of the island's own flash operations does. -/
def islFlashDone (s : State) (f : IslFin) (code : Nat) : State :=
  match f with
  | .logPage =>
    if code ≠ 0 then islFault s 4
    else s.modIsl fun x =>
      { x with prog := (x.prog.takeWhile (·.done)) ++ match x.prog.dropWhile (·.done) with
          | p :: t => { p with done := true } :: t
          | [] => [] }
  | .logErase => if code ≠ 0 then islFault s 4 else islErased s
  | .store id =>
    if code ≠ 0 then islFault s 2
    else islSettle (s.modIsl fun x => { x with waits := x.waits.map fun w => if w.1 = id then (w.1, w.2.1, true) else w })
  | .fw n r =>
    if code ≠ 0 then reply s r code []
    else
      let s := reply (s.setReg K.sreqFwWritten n) r 0 []
      let c := islStaged s
      if s.reg K.islandState = 0 ∧ 512 + leAt (islHeader s c) 8 4 ≤ n ∧ islImageOk s c = true then
        (islRun s c).setReg K.islandState 1
      else s

end Sys2Proof.Machine
end

