-- ==== Sys2Proof/Machine/Storage.lean ====
section
/-! DEFINITION. The crucible's keys, protected storage, remelts and the NVMe host (spec/12 R451 to R454, R461 to R484). -/

namespace Sys2Proof.Machine

/-! ## Keys (12 R452 to R454, R474 to R476) -/

/-- FREE_SLOTS (12 R454). -/
def showSlots (s : State) : State := s.setReg K.slotSelFreeSlots (255 - (s.cip.slot.filter fun x => x.2.st != 0).length : Nat)

/-- Key work is refused while TAMPER_STATE is not 0 or a transition runs (17 R614, R624). -/
def keyWorkCode (s : State) : Option Nat := whenCode (s.reg K.tamperState != 0 || s.reg K.transitionState != 0) 0x08000022

/-- The refusal of a load or generate into a slot (12 R452, R484). -/
def slotCode (s : State) (i : Nat) : Option Nat :=
  if (s.keySlot i).st = 4 then some 0x0F000004 else whenCode ((s.keySlot i).st != 0) 0x08000022

/-- A key enters a free slot: its generation rises first, and one at its end retires the slot for good (12 R453). -/
def enterKey (s : State) (r : Req) (i : Nat) (persistent : Bool) (key : List Byte) : State :=
  let g := (s.keySlot i).gen
  if g = 0xFFFF then refuse (emcy (showSlots (s.modKey i fun x => { x with st := 4 })) 0xFF61 7 0xFF i) r 0x0F000004
  else ok (showSlots (s.modKey i fun x => { x with st := if persistent then 2 else 1, key := key, gen := g + 1, persistent := persistent })) r

/-- A wrapped record (12 R452): the plain key, or none if the tag fails. `label` names the derivation, `uid` the unit. -/
def unwrapKey (fk : List Byte) (label uid data : List Byte) : Option (List Byte) :=
  let kwk := kdf fk label (leNat (uid.take 8)) 0
  let iv := (data.drop 4).take 12
  let ct := (data.drop 16).take 32
  if gcmOk kwk iv (data.take 4 ++ uid) ct ((data.drop 48).take 16) then some (gcmText kwk iv ct) else none

/-- KEY_LOAD (12 R452, R453). -/
def keyLoad (r : Req) (data : List Byte) (s : State) : State :=
  let i := leAt data 0 1
  let flags := leAt data 1 1
  let own := firstSome [keyWorkCode s, slotCode s i]
  writeBytes s r K.keyRecord data { state := own, set := whenCode (i == 0 || decide (1 < flags) || leAt data 2 2 != 0) 0x06090030 } fun s =>
    match unwrapKey (fusedKey s) (asciiOf [75, 87, 82, 80]) (s.blob K.unitUid) data with
    | none => refuse s r 0x0F000009
    | some key => enterKey s r i (flags == 1) key

def execKeyLoad (r : Req) (data : List Byte) (s : State) : Out := .next (request s r K.keyRecord 4 (keyLoad r data))

/-- KEY_GENERATE (12 R452 to R454): the key is a free value. -/
def execKeyGenerate (r : Req) (v : BitVec 16) (s : State) : Out :=
  .next (request s r K.keyGenerate 2 fun s =>
    let i := v.toNat % 256
    writeEntry s r K.keyGenerate v.toNat
      { state := firstSome [keyWorkCode s, slotCode s i], set := whenCode (i == 0) 0x06090030 } fun s =>
      let k := drawnKey s.freeCtr
      enterKey { s with freeCtr := s.freeCtr + 32 } r i (v.toNat.testBit 8) k)

/-! ## Commands and queues (12 R480, R481) -/

def isAt (q : Nat) (c : StCmd) : Bool := c.q == q && c.atDrive
def isWaiting (q : Nat) (c : StCmd) : Bool := c.q == q && !c.atDrive

/-- WAITING and AT_DRIVE (12 R480). A queue being disabled that has nothing left is at state 0. -/
def showQueue (s : State) (q : Nat) : State :=
  let s := s.setRegs [(K.qWaiting q, (s.cip.cmds.filter (isWaiting q)).length), (K.qAtDrive q, (s.cip.cmds.filter (isAt q)).length)]
  if hq : q < 8 then
    if 3 ≤ s.reg (K.queueEnable q) ∧ (s.cip.cmds.all fun c => c.q != q) = true then
      completeAll (s.setReg (K.queueEnable q) 0) (.disable (.queue ⟨q, hq⟩)) 0 []
    else s
  else s

def modCmd (s : State) (id : Nat) (f : StCmd → StCmd) : State :=
  s.modCip fun x => { x with cmds := x.cmds.map fun c => if c.id == id then f c else c }

/-- A command enters its queue. -/
def addCmd (s : State) (c : StCmd) : State :=
  let id := s.cip.nextId
  showQueue (s.modCip fun x => { x with nextId := id + 1, cmds := x.cmds ++ [{ c with id := id }] }) c.q

/-- The key index that a queue's requests use (12 R449, R481). -/
def queueIndex (s : State) (q : Nat) : Nat := if s.cip.storageMode = 0 then 0 else s.regN (K.qKeyIndex q)

/-- Storage serves requests (12 R478, R479). -/
def storageUp (s : State) : Bool := s.reg K.storageState == 2 || s.reg K.storageState == 3

/-- Storage moves data: never in SAFE state, in a lower state or after PWR_DOWN# (16 R586; 18 R640). -/
def storageRuns (s : State) : Bool := storageUp s && s.mode != .safe && !s.power.down && s.power.low == 0

/-- The refusals of a request to a queue (12 R480, R481; 02 R80); without DRAM to stage data in there is no storage (01 R14). -/
def queueCode (s : State) (q : Nat) : Option Nat :=
  if 6 ≤ q then some 0x08000022
  else if s.reg (K.queueEnable q) ≠ 1 then some 0x0F000011
  else if !storageUp s || !dramUp s then some 0x06060000
  else whenCode (liveGen s (queueIndex s q) != some (if s.cip.storageMode = 0 then 0 else s.regN (K.queueGen q))) 0x0F000004

def State.sector (s : State) (lba : Nat) : Sector := tabGet (fun _ => {}) s.cip.sector lba
def sectorData (x : Sector) : List Byte := (x.data ++ zeros 4096).take 4096

/-! ## The mirror of the assay log (14 R532, R536) -/

def isMirror (c : StCmd) : Bool :=
  match c.op with
  | .mirror .. => true
  | _ => false

/-- The mirror stops: MIRROR_SEQ stays where it is (R532, R540). -/
def mirrorFails (s : State) : State :=
  emcy (s.modIsl fun x => { x with mirrorStop := true }) 0xFFC4 7 (ownParam s 1).toNat (s.regN K.mirrorSeq)

/-- A disable of the mirror is done: in the drain form once every sealed record is mirrored or the mirror has stopped. -/
def mirrorOff (s : State) : State :=
  let e := s.reg K.mirrorEnable
  if e = 4 ∨ (e = 3 ∧ (s.isl.mirrorStop = true ∨ s.reg K.logHeadSeq ≤ s.reg K.mirrorSeq)) then
    completeAll (s.setReg K.mirrorEnable 0) (.disable .mirror) 0 []
  else s

/-- SC1 copies the next sealed record to its slot, one at a time (R532). -/
def mirrorRun (s : State) : State :=
  if s.cip.cmds.any isMirror then s
  else
    let e := s.reg K.mirrorEnable
    let n := max (s.regN K.mirrorSeq + 1) (s.regN K.logOldestSeq)
    match s.isl.log.find? fun r => r.seq == n with
    | some r =>
      if (e = 1 ∨ e = 3) ∧ s.isl.mirrorStop = false then
        let q := s.regN K.mirrorQueue
        let lba := s.regN K.mirrorLbaFirst + (n - 1) / 32 % s.regN K.mirrorSectors
        if (queueCode s q).isSome ∨ s.regN K.stoProtectedSectors ≤ lba then mirrorOff (mirrorFails s)
        else
          addCmd s
            { id := 0, q := q, req := none, op := .mirror n (overwrite (sectorData (s.sector lba)) (128 * ((n - 1) % 32)) r.data),
              key := queueIndex s q, gen := (liveGen s (queueIndex s q)).getD 0, lba := lba, count := 1 }
      else mirrorOff s
    | none => mirrorOff s

/-- MIRROR_ENABLE written (R536; 02 R79 to R82): in the abort form a mirror write not yet at the drive is given up. -/
def mirrorEnableWrite (r : Req) (v : Nat) (s : State) : State :=
  let e := s.reg K.mirrorEnable
  writeEntry s r K.mirrorEnable v { state := whenCode (v == 1 && decide (3 ≤ e)) 0x08000022 } fun s =>
    if v = 1 then
      if e = 1 then ok s r else mirrorRun (ok ((s.setReg K.mirrorEnable 1).modIsl fun x => { x with mirrorStop := false }) r)
    else if e = 0 then ok s r
    else
      let s := await (s.setReg K.mirrorEnable (if v = 2 ∨ e = 4 then 4 else 3)) (.disable .mirror) r
      let s := if v = 2 then s.modCip fun x => { x with cmds := x.cmds.filter fun c => !(isMirror c && !c.atDrive) } else s
      mirrorRun s

/-- What the end of a command does to the mirror. -/
def mirrorEnded (s : State) (c : StCmd) (code : Nat) : State :=
  match c.op with
  | .mirror n _ => mirrorRun (if code = 0 then s.setReg K.mirrorSeq n else mirrorFails s)
  | _ => s

/-- A command ends. -/
def endCmd (s : State) (c : StCmd) (code : Nat) (data : List Byte) : State :=
  let s := s.modCip fun x => { x with cmds := x.cmds.filter fun d => d.id != c.id }
  let s := match c.req with
    | some r => reply s r code (if code = 0 then data else [])
    | none => s
  mirrorEnded (showQueue (requestEnded s (100, c.id)) c.q) c code

/-- The first sector of a DATA transfer, which over SDO and CoE advances LBA_BASE (12 R480). -/
def dataLba (s : State) (r : Req) (q offset : Nat) : Nat :=
  tabGet (fun _ => 0) (s.path r.path).lbaBase q + (match r.org with
    | .tag _ => offset / 4096
    | _ => 0)

def dataAdvance (s : State) (r : Req) (q n : Nat) : State :=
  match r.org with
  | .tag _ => s
  | _ => s.modPath r.path fun p => { p with lbaBase := tabSet (fun _ => 0) p.lbaBase q (tabGet (fun _ => 0) p.lbaBase q + n) }

def newCmd (s : State) (r : Req) (q : Nat) (op : StOp) (lba count : Nat) : StCmd :=
  { id := 0, q := q, req := some r, op := op, key := queueIndex s q, gen := (liveGen s (queueIndex s q)).getD 0, lba := lba, count := count }

/-- STORAGE_DATA_WRITE (12 R480). -/
def execStorageDataWrite (r : Req) (q : Fin 8) (offset : BitVec 32) (data : List Byte) (s : State) : Out :=
  .next (request s r (K.qData q) 4 fun s =>
    let n := data.length / 4096
    let lba := dataLba s r q offset.toNat
    writeBytes s r (K.qData q) data
      { state := queueCode s q,
        set := whenCode (data.length % 4096 != 0 || offset.toNat % 4096 != 0 || decide (s.regN K.stoProtectedSectors < lba + n)) 0x06090030 }
      fun s =>
        if n = 0 then ok s r else addCmd (dataAdvance s r q n) { newCmd s r q (.write data) lba n with crc := some (crc32c data) })

/-- STORAGE_DATA_READ (12 R480): a length of 0 asks for one sector, which is what a completion holds (02 R44). -/
def execStorageDataRead (r : Req) (q : Fin 8) (offset : BitVec 32) (length : Nat) (s : State) : Out :=
  .next (request s r (K.qData q) 3 fun s =>
    let n := (if length = 0 then 4096 else length) / 4096
    let lba := dataLba s r q offset.toNat
    if s.mode ≠ .run then refuse s r 0x08000022
    else
      match queueCode s q with
      | some c => refuse s r c
      | none =>
        if length % 4096 ≠ 0 ∨ offset.toNat % 4096 ≠ 0 ∨ s.regN K.stoProtectedSectors < lba + n then refuse s r 0x06090030
        else addCmd (dataAdvance s r q n) (newCmd s r q .read lba n))

/-- STORAGE_TRANSFER (12 R482). -/
def execStorageTransfer (r : Req) (q : Fin 8) (data : List Byte) (s : State) : Out :=
  .next (request s r (K.qTransfer q) 4 fun s =>
    let op := leAt data 0 1
    let key := leAt data 1 1
    let n := leAt data 4 4
    let lba := leAt data 8 8
    let addr := leAt data 16 8
    let bad := data.length != 24 || (op != 1 && op != 2) || leAt data 2 2 != 0 || n == 0 || decide (65536 < n) || addr % 4096 != 0
      || decide (s.regN K.stoProtectedSectors < lba + n)
    writeBytes s r (K.qTransfer q) data { state := queueCode s q, set := whenCode bad 0x06090030 } fun s =>
      if blocked s addr (4096 * n) then refuse s r 0x06060000
      else addCmd s (newCmd s r q (if op = 1 then .toDram key addr else .fromDram key addr) lba n))

/-- STORAGE_FLUSH (12 R480): every drive is to complete it. -/
def execStorageFlush (r : Req) (q : Fin 8) (s : State) : Out :=
  .next (request s r (K.qFlush q) 2 fun s =>
    writeEntry s r (K.qFlush q) 1 { state := queueCode s q } fun s =>
      addCmd s { newCmd s r q .flush 0 (if s.cip.layout = 1 then 1 else 2) with atDrive := true })

/-- QUEUE_ENABLE written (12 R481; 02 R79 to R83): the generation is taken at enable. -/
def queueEnableWrite (r : Req) (q : Fin 8) (v : Nat) (s : State) : State :=
  let e := s.reg (K.queueEnable q)
  writeEntry s r (K.queueEnable q) v { state := whenCode (v == 1 && decide (3 ≤ e)) 0x08000022 } fun s =>
    if v = 1 then
      if e = 1 then ok s r
      else ok (s.setRegs [(K.queueEnable q, 1), (K.queueGen q, (s.keySlot (s.regN (K.qKeyIndex q))).gen)]) r
    else if e = 0 then ok s r
    else
      let s := await (s.setReg (K.queueEnable q) (if v = 2 ∨ e = 4 then 4 else 3)) (.disable (.queue q)) r
      let gone := if v = 2 then s.cip.cmds.filter (isWaiting q) else []
      showQueue (gone.foldl (fun s c => endCmd s c 0x0F000002 []) s) q

/-! ## Sectors (12 R461 to R467) -/

def State.region (s : State) (r : Nat) : StRegion := tabGet (fun _ => {}) s.cip.region r
def State.modRegion (s : State) (r : Nat) (f : StRegion → StRegion) : State :=
  s.modCip fun x => { x with region := tabSet (fun _ => {}) x.region r (f (s.region r)) }
def State.setSector (s : State) (lba : Nat) (x : Sector) : State :=
  s.modCip fun c => { c with sector := tabSet (fun _ => {}) c.sector lba x }

/-- The key of a sector: KDF(K, "STRG", region, epoch) (12 R456). -/
def sectorKey (s : State) (lba key epoch : Nat) : List Byte := kdf (keyOf s key) (asciiOf [83, 84, 82, 71]) (lba / 2 ^ 18) epoch

/-- A command at the drive goes on under its key until the retirement of the index is through (12 R475 step 2). -/
def keyServes (s : State) (i gen : Nat) : Bool :=
  liveGen s i == some gen || ((s.keySlot i).st == 3 && i != 0 && (s.keySlot i).gen == gen)

/-- What stands on the drive for a sector (12 R463). -/
def sectorCipher (s : State) (lba : Nat) : List Byte :=
  let x := s.sector lba
  gcmText (sectorKey s lba x.key x.epoch) (leBytes 8 lba ++ leBytes 4 x.counter) (sectorData x)

/-- A sector's hallmark (12 R462, R463). -/
def sectorHallmark (s : State) (lba : Nat) : List Byte :=
  let x := s.sector lba
  if x.counter = 0 then zeros 32
  else
    gcmSeal (sectorKey s lba x.key x.epoch) (leBytes 8 lba ++ leBytes 4 x.counter)
        (leBytes 8 lba ++ leBytes 4 x.counter ++ leBytes 1 x.key ++ leBytes 2 x.gen) (sectorCipher s lba)
      ++ leBytes 4 x.counter ++ leBytes 1 x.epoch ++ leBytes 1 (b2n x.poisoned) ++ zeros 10

/-- The journal state of a sector's chunk: 0 OLD, 1 MIXED, 2 NEW (12 R470, R471). -/
def chunkState (s : State) (lba : Nat) : Nat :=
  match s.cip.active with
  | some (r, cs) => if lba / 2 ^ 18 = r then cs.getD (lba % 2 ^ 18 / 2 ^ 14) 0 else 0
  | none => 0

def remelting (s : State) (r : Nat) : Bool := s.cip.active.any fun x => x.1 == r

/-- The threshold queue's length shows (12 R473). -/
def showRemelts (s : State) : State := s.setReg K.rekeyRemeltQueue s.cip.remeltQ.length

/-- A region needs a remelt: it is queued, at the head if its writes stall; at its last epoch it becomes read-only
(12 R466). -/
def queueRemelt (s : State) (r : Nat) (head : Bool) : State :=
  if (s.region r).epoch = 0xFFFF then
    if (s.region r).ro then s else emcy (s.modRegion r fun x => { x with ro := true }) 0xFF60 7 0xFF r
  else if remelting s r then s
  else
    let q := s.cip.remeltQ
    let q := if head then r :: q.filter (· != r) else if q.contains r then q else q ++ [r]
    showRemelts (s.modCip fun x => { x with remeltQ := q })

/-- The ceiling raised in steps of 2 ^ 16 so that a counter may be issued (12 R465). -/
def raiseCeiling (c counter : Nat) : Nat := if counter ≤ c then c else c + (counter - c + 65535) / 65536 * 65536

/-- The next counter of a region for a sector, and the region that has issued it (12 R465). -/
def issue (x : StRegion) (sec : Sector) (next : Bool) : Nat × StRegion :=
  if next then
    let c := max (if sec.epoch = x.epoch + 1 then sec.counter else 0) x.issuedNext + 1
    (c, { x with issuedNext := c })
  else
    let x := if x.opened then x else { x with opened := true, issued := max x.issued x.ceiling, ceiling := x.ceiling + 65536 }
    let c := max (if sec.epoch = x.epoch then sec.counter else 0) x.issued + 1
    (c, { x with issued := c, ceiling := raiseCeiling x.ceiling c })

/-- The binding of a region for a write: a code, or the state in which it is bound to the key (12 R467). -/
def bindRegion (s : State) (r key gen : Nat) : State × Nat :=
  let x := s.region r
  match x.bound with
  | none => (s.modRegion r fun x => { x with bound := some (key, gen) }, 0)
  | some (k, g) =>
    if k = key ∧ g = gen then (s, 0)
    else if liveGen s k = some g then (s, 0x0F000012)
    else if x.epoch = 0xFFFF then (queueRemelt s r false, 0x0F000010)
    else (s.modRegion r fun x => { x with bound := some (key, gen), epoch := x.epoch + 1, ceiling := 0, issued := 0, opened := false, ro := false, stalled := false }, 0)

/-- One sector is written: the state and a code; none while the write waits (12 R463 to R467, R471). -/
def writeSector (s : State) (lba key gen : Nat) (data : List Byte) : State × Option Nat :=
  let r := lba / 2 ^ 18
  if !keyServes s key gen then (s, some 0x0F000004)
  else if (s.region r).ro && (s.region r).bound == some (key, gen) then (s, some 0x0F000010)
  else
    let b := bindRegion s r key gen
    let s := b.1
    if b.2 ≠ 0 then (s, some b.2)
    else if chunkState s lba = 1 then (s, none)
    else
      let x := s.region r
      let next := chunkState s lba == 2
      let i := issue x (s.sector lba) next
      if 2 ^ 32 - 1 ≤ i.1 then
        if x.stalled then (s, none)
        else (emcy (queueRemelt (s.modRegion r fun x => { x with stalled := true }) r true) 0xFF62 7 0xFF r, none)
      else
        let s := s.modRegion r fun _ => i.2
        let s := if !next && decide (2 ^ 32 - 2 ^ 16 < i.2.ceiling) then queueRemelt s r false else s
        (s.setSector lba ⟨data, i.1, if next then x.epoch + 1 else x.epoch, key, gen, false⟩, some 0)

/-- A sector fails its hallmark (12 R460, R471, R485). -/
def sectorFails (s : State) (lba : Nat) : State := emcy (s.bump K.ciStorageIntegrityFails 32) 0xFF63 7 0xFF (lba % 2 ^ 32)

/-- One sector is read: the state, a code, and 4,096 bytes (12 R463, R467, R471, R479). -/
def readSector (s : State) (lba key gen : Nat) (how : SectorRead) : State × Nat × List Byte :=
  let x := s.sector lba
  let r := s.region (lba / 2 ^ 18)
  if !keyServes s key gen then (s, 0x0F000004, [])
  else
    match r.bound with
    | none => (s, 0, zeros 4096)
    | some (k, g) =>
      if k ≠ key ∨ g ≠ gen then (s, if liveGen s k = some g then 0x0F000012 else 0x0F000004, [])
      else if x.counter = 0 ∨ how = .zeroed then (s, 0, zeros 4096)
      else
        let st := chunkState s lba
        let epoch := if st = 0 then x.epoch == r.epoch else if st = 2 then x.epoch == r.epoch + 1
          else x.epoch == r.epoch || x.epoch == r.epoch + 1
        let sound := how == .good || (how == .oneCopy && s.cip.layout == 3)
        if x.poisoned || !epoch || x.key != key || x.gen != gen || !sound then (sectorFails s lba, 0x06060000, [])
        else (s, 0, sectorData x)

/-- The first command of a queue that still has sectors to pass through the cipher, reads or writes. -/
def nextCmd (s : State) (q : Nat) (write : Bool) : Option StCmd :=
  s.cip.cmds.find? fun c => c.q == q && c.code == 0 && decide (c.done < c.count) && (match c.op with
    | .read => !write
    | .toDram .. => !write
    | .write _ => write
    | .fromDram .. => write
    | .mirror .. => write
    | _ => false)

/-- A command's next sector has passed, or failed with a code: sectors before it stay (12 R482). -/
def passed1 (s : State) (c : StCmd) (code : Nat) (data : List Byte) : State :=
  showQueue (modCmd s c.id fun c => { c with atDrive := true, done := c.done + 1, code := code, data := c.data ++ data }) c.q

/-! ## The payload's own check (13 R500 to R502) -/

/-- The CRC-32C of a command's payload verifies over its bytes. -/
def payloadOk (c : StCmd) (bs : List Byte) : Bool :=
  match c.crc with
  | some v => crc32c bs == v
  | none => true

/-- A payload CRC fails as its data leave a domain: 1 frame, 2 payload, 3 scratchpad, 4 DRAM, 5 storage (13 R502). The spec
names no bit of the error register (DESIGN CHOICE, log payloadCrc). -/
def payloadFails (s : State) (c : StCmd) (domain : Nat) : State :=
  match c.req with
  | some r => emcy s 0xFFB0 7 0xFF (pathNo r.path + 256 * domain)
  | none => s

/-- SECTOR_WRITE (12 R463, R465, R467; 13 R501, R502): CK1 checks the payload at the cipher input; then the next sector of the first command of the queue that writes. A command that finds no
DRAM to stage its data in ends with an error (01 R14). -/
def execSectorWrite (q : Fin 8) (s : State) : Out :=
  .next (
    match nextCmd s q true with
    | none => s
    | some c =>
      if !storageRuns s then s
      else if !dramUp s then passed1 s c 0x06060000 []
      else
        let src := match c.op with
          | .write d => if payloadOk c d then (s, 0, (d.drop (4096 * c.done)).take 4096) else (payloadFails s c 4, 4, [])
          | .mirror _ d => (s, 0, (d.drop (4096 * c.done)).take 4096)
          | .fromDram k a => if blocked s (a + 4096 * c.done) 4096 then (s, 2, []) else readDram s (a + 4096 * c.done) 4096 k
          | _ => (s, 0, [])
        if src.2.1 ≠ 0 then passed1 src.1 c (dramAbort src.2.1) []
        else
          let w := writeSector src.1 (c.lba + c.done) c.key c.gen src.2.2
          match w.2 with
          | none => w.1
          | some code => passed1 w.1 c code [])

/-- SECTOR_READ (12 R463, R467, R471): the next sector of the first command of the queue that reads. -/
def execSectorRead (q : Fin 8) (how : SectorRead) (s : State) : Out :=
  .next (
    match nextCmd s q false with
    | none => s
    | some c =>
      if !storageRuns s then s
      else if !dramUp s then passed1 s c 0x06060000 []
      else
        let x := readSector s (c.lba + c.done) c.key c.gen how
        if x.2.1 ≠ 0 then passed1 x.1 c x.2.1 []
        else
          match c.op with
          | .toDram k a =>
            let a := a + 4096 * c.done
            let w := if blocked x.1 a 4096 then (x.1, 2) else writeDram x.1 a k x.2.2
            passed1 w.1 c (dramAbort w.2) []
          | _ =>
            let s := passed1 x.1 c 0 x.2.2
            modCmd s c.id fun c => { c with crc := some (crc32c c.data) })

/-! ## Drives (12 R461, R477 to R479) -/

/-- P of a drive of `n` sectors (12 R461). -/
def protectedOf (n : Nat) : Nat := n * 128 / 129 / 2 ^ 18 * 2 ^ 18

def driveState (s : State) (d : Nat) : Nat := s.regN K.stoDriveState / 4 ^ d % 4

def setDrive (s : State) (d v : Nat) : State :=
  let other := s.regN K.stoDriveState / 4 ^ (1 - d) % 4
  s.setReg K.stoDriveState (v * 4 ^ d + other * 4 ^ (1 - d) : Nat)

/-- CURRENT (12 R473): region and chunk of any remelt running. -/
def showCurrent (s : State) : State :=
  s.setReg K.rekeyCurrent (match s.cip.active with
    | none => 0xFFFFFFFF
    | some (r, cs) => (((16 * r + (cs.filter (· == 2)).length) % 2 ^ 32 : Nat) : Int))

/-- The first chunk that is not NEW becomes MIXED. -/
def beginChunk (cs : List Nat) : List Nat := cs.take (cs.filter (· == 2)).length ++ [1] ++ cs.drop ((cs.filter (· == 2)).length + 1)

/-- A re-key that waited for storage goes on, and an unfinished remelt resumes (12 R472, R484). -/
def resumeRemelt (s : State) : State :=
  let s := if s.reg K.rekeyState = 3 then s.setReg K.rekeyState 1 else s
  match s.cip.active with
  | some (r, cs) =>
    let s := emcy s 0xFF66 7 0xFF r
    if cs.contains 1 ∨ (s.reg K.rekeyState = 2 ∧ s.cip.rekeyQ.contains r = true) then s
    else showCurrent (s.modCip fun x => { x with active := some (r, beginChunk cs) })
  | none => s

/-- STORAGE_READY (12 R472, R478): SC1 has enumerated the drives, with the sectors of each that it found. The layout's
drives are ready; a mirror with one drive is degraded; otherwise storage has failed. -/
def execStorageReady (drive0 drive1 : Option Nat) (s : State) : Out :=
  .next (if s.reg K.storageState = 1 then
    let p := fun d : Option Nat => protectedOf (d.getD 0)
    let s := s.setReg K.stoDriveState (b2n drive0.isSome + (if s.cip.layout = 1 then 0 else 4 * b2n drive1.isSome) : Nat)
    let n := b2n drive0.isSome + b2n drive1.isSome
    let total := if s.cip.layout = 1 then p drive0 else if s.cip.layout = 2 then p drive0 + p drive1
      else if n = 2 then min (p drive0) (p drive1) else p drive0 + p drive1
    let all := if s.cip.layout = 1 then drive0.isSome else n == 2
    if all || (s.cip.layout == 3 && n == 1) then
      resumeRemelt (s.setRegs [(K.storageState, if all then 2 else 3), (K.stoProtectedSectors, (min total (2 ^ 33) : Nat))])
    else s.setReg K.storageState 4
   else s)

/-- A drive has failed for good (12 R479, R484). -/
def driveFailed (s : State) (d status : Nat) : State :=
  let s := emcy (setDrive s d 2) 0xFF64 7 d status
  if s.cip.layout = 3 ∧ driveState s (1 - d) = 1 then s.setReg K.storageState (if s.reg K.storageState = 2 then 3 else s.reg K.storageState)
  else
    let s := s.setReg K.storageState 4
    let s := if s.reg K.rekeyState = 1 then s.setReg K.rekeyState 3 else s
    s.cip.cmds.foldl (fun s c => endCmd s c 0x06060000 []) s

/-- A command at a drive has failed: it is issued once more, and a second failure fails the drive (12 R479). -/
def cmdFailed (s : State) (d status : Nat) (c : StCmd) : State :=
  if c.again then driveFailed (endCmd s c 0x06060000 []) d status
  else modCmd s c.id fun c => { c with again := true }

/-- A rebuild has copied `n` more sectors (12 R478, R479). -/
def rebuildOn (s : State) (d n : Nat) : State :=
  match s.cip.rebuild with
  | none => s
  | some r =>
    let t := s.regN K.stoRebuildDone + n
    let s := s.setReg K.stoRebuildDone (min t (s.regN K.stoProtectedSectors) : Nat)
    if s.regN K.stoProtectedSectors ≤ t then
      ok ((setDrive (s.modCip fun x => { x with rebuild := none }) d 1).setReg K.storageState 2) r
    else s

/-- DRIVE_COMPLETION (12 R468, R477, R479): a command at a drive has ended; queue 8 is SC1's own admin queue, of which a
failure fails the drive. -/
def execDriveCompletion (d : Fin 2) (q : Fin 9) (status : BitVec 16) (count : Nat) (s : State) : Out :=
  .next (
    if q.val = 8 then
      if s.cip.layout = 0 ∨ (s.cip.layout = 1 ∧ d.val = 1) ∨ status = 0 then s else driveFailed s d status.toNat
    else if q.val = 7 ∧ s.cip.rebuild.isSome ∧ driveState s d = 3 then
      (if status = 0 then rebuildOn s d count else s)
    else
      match s.cip.cmds.find? fun c => c.q == q.val && c.atDrive && (c.code != 0 || decide (c.count ≤ c.done) || c.op == .flush) with
      | none => s
      | some c =>
        if status ≠ 0 then cmdFailed s d status.toNat c
        else if c.op = .flush ∧ c.done + 1 < c.count then modCmd s c.id fun c => { c with done := c.done + 1 }
        else if c.op = .read ∧ c.code = 0 ∧ payloadOk c c.data = false then endCmd (payloadFails s c 3) c 0x06060000 []
        else endCmd s c c.code c.data)

/-- DRIVE_COMMAND_TIMEOUT (12 R479): the controller is reset and what was at the drive is issued once more. -/
def execDriveCommandTimeout (d : Fin 2) (q : Fin 8) (s : State) : Out :=
  .next (
    match s.cip.cmds.find? (isAt q) with
    | none => s
    | some c =>
      if c.again then cmdFailed s d 0 c
      else s.modCip fun x => { x with cmds := x.cmds.map fun c => if c.atDrive then { c with again := true } else c })

/-- REBUILD (12 R478, R479): of a degraded mirror whose other drive is fitted. -/
def execRebuild (r : Req) (s : State) : Out :=
  .next (request s r K.stoRebuild 2 fun s =>
    let d := if driveState s 0 = 1 then 1 else 0
    writeEntry s r K.stoRebuild 1
      { state := whenCode (s.cip.layout != 3 || s.reg K.storageState != 3 || s.cip.rebuild.isSome || driveState s d == 1) 0x08000022 }
      fun s => (setDrive s d 3 |>.setReg K.stoRebuildDone 0).modCip fun x => { x with rebuild := some r })

/-! ## Remelts and re-keys (12 R470 to R473) -/

/-- The running re-key reaches its end (12 R473). -/
def rekeyEnd (s : State) : State :=
  if s.cip.rekeyQ = [] ∧ s.reg K.rekeyState ≠ 0 then s.setReg K.rekeyState 0 else s

/-- REMELT_REGION_START (12 R470): threshold remelts go first, then the regions of a running re-key; a rebuild goes before
both. -/
def execRemeltRegionStart (s : State) : Out :=
  .next (
    if s.cip.active.isSome || !storageRuns s || s.cip.rebuild.isSome || s.power.step != 0 then s
    else
      let start := fun (s : State) (r : Nat) =>
        showCurrent ((s.modRegion r fun x => { x with issuedNext := 0 }).modCip fun x => { x with active := some (r, beginChunk (List.replicate 16 0)) })
      match s.cip.remeltQ, s.cip.rekeyQ with
      | r :: rest, _ => start (showRemelts (s.modCip fun x => { x with remeltQ := rest })) r
      | [], r :: _ => if s.reg K.rekeyState = 1 then start s r else s
      | [], [] => s)

/-- A written sector of a chunk moves to the next epoch; one that fails its tag is poisoned (12 R470, R471). -/
def moveSector (bad : List Nat) (r : Nat) (s : State) (lba : Nat) : State :=
  let x := s.sector lba
  let e := (s.region r).epoch
  if x.counter = 0 ∨ x.epoch = e + 1 then s
  else
    let i := issue (s.region r) { x with epoch := e } true
    let s := s.modRegion r fun _ => i.2
    let b := (s.region r).bound
    if bad.contains lba || x.epoch != e || x.poisoned || b != some (x.key, x.gen) then
      sectorFails (s.setSector lba { x with counter := i.1, epoch := e + 1, poisoned := true }) lba
    else s.setSector lba { x with counter := i.1, epoch := e + 1 }

/-- A region has been remelted (12 R470 step 5). -/
def regionDone (s : State) (r : Nat) : State :=
  let s := s.modRegion r fun x =>
    { x with
      epoch := x.epoch + 1, issued := x.issuedNext, issuedNext := 0, ceiling := raiseCeiling 0 x.issuedNext, opened := true,
      stalled := false }
  let s := s.modCip fun x => { x with active := none }
  let s := if s.cip.rekeyQ.contains r then
      (s.modCip fun x => { x with rekeyQ := x.rekeyQ.filter (· != r) }).bump K.rekeyRegionsDone 32 else s
  rekeyEnd (showCurrent s)

/-- REMELT_CHUNK_DONE (12 R470, R471, R473): the chunk is rewritten in ascending LBA, flushed and journalled NEW; a pause
takes effect here, and so does entry to a lower power state (16 R576). `bad` lists the sectors whose hallmark failed. -/
def execRemeltChunkDone (bad : List Nat) (s : State) : Out :=
  .next (
    match s.cip.active with
    | none => s
    | some (r, cs) =>
      let c := (cs.filter (· == 2)).length
      if !storageRuns s || cs.getD c 0 != 1 then s
      else
        let lo := r * 2 ^ 18 + c * 2 ^ 14
        let s := ((s.cip.sector.map (·.1)).filter fun l => decide (lo ≤ l ∧ l < lo + 2 ^ 14)).foldl (moveSector bad r) s
        let cs := cs.take c ++ [2] ++ cs.drop (c + 1)
        let s := s.modCip fun x => { x with active := some (r, cs) }
        if c = 15 then regionDone s r
        else if s.power.step ≠ 0 then showCurrent s
        else if s.cip.pauseReq && s.cip.rekeyQ.contains r then
          showCurrent ((s.modCip fun x => { x with pauseReq := false }).setReg K.rekeyState 2)
        else showCurrent (s.modCip fun x => { x with active := some (r, beginChunk cs) }))

/-- REKEY_START (12 R473, R484). -/
def execRekeyStart (r : Req) (s : State) : Out :=
  .next (request s r K.rekeyControl 2 fun s =>
    let i := s.regN K.rekeyIndex
    writeEntry s r K.rekeyControl 1 { state := whenCode (s.reg K.rekeyState != 0 || (s.keySlot i).st == 3) 0x08000022 } fun s =>
      let rs := (s.cip.region.filter fun x => x.2.bound == (liveGen s i).map fun g => (i, g)).filter fun x => x.2.bound.isSome
      let s := s.modCip fun x => { x with rekeyQ := rs.map (·.1), pauseReq := false }
      let s := s.setRegs [(K.rekeyState, if storageUp s then 1 else 3), (K.rekeyRegionsTotal, rs.length), (K.rekeyRegionsDone, 0)]
      ok (rekeyEnd s) r)

/-- REKEY_PAUSE (12 R473): at the next chunk boundary, at once where no chunk of the re-key is being moved. -/
def execRekeyPause (r : Req) (s : State) : Out :=
  .next (request s r K.rekeyControl 2 fun s =>
    writeEntry s r K.rekeyControl 2 {} fun s =>
      let busy := match s.cip.active with
        | some (i, _) => s.cip.rekeyQ.contains i
        | none => false
      ok (if s.reg K.rekeyState ≠ 1 then s else if busy then s.modCip fun x => { x with pauseReq := true } else s.setReg K.rekeyState 2) r)

/-- REKEY_RESUME (12 R473). -/
def execRekeyResume (r : Req) (s : State) : Out :=
  .next (request s r K.rekeyControl 2 fun s =>
    writeEntry s r K.rekeyControl 3 {} fun s =>
      if s.reg K.rekeyState = 2 then
        let s := s.setReg K.rekeyState (if storageUp s then 1 else 3)
        let s := match s.cip.active with
          | some (i, cs) => if s.cip.rekeyQ.contains i then s.modCip fun x => { x with active := some (i, beginChunk cs) } else s
          | none => s
        ok s r
      else ok (s.modCip fun x => { x with pauseReq := false }) r)

/-! ## Retiring a key (12 R474, R475, R484) -/

/-- A re-key of a retired index ends at once (12 R484). -/
def dropRekey (s : State) (i : Nat) : State :=
  if s.reg K.rekeyState ≠ 0 ∧ s.regN K.rekeyIndex = i then
    let s := s.modCip fun x => { x with active := match x.active with
      | some (r, cs) => if x.rekeyQ.contains r then none else some (r, cs)
      | none => none }
    showCurrent (rekeyEnd (s.modCip fun x => { x with rekeyQ := [], pauseReq := false }))
  else s

/-- RETIRE_DRAINED (12 R475 steps 3 to 5): nothing carries the index any more. -/
def execRetireDrained (s : State) : Out :=
  .next (
    let i := s.regN K.retiring
    if i = 0 ∨ (s.cip.cmds.any fun c => c.key == i) = true then s
    else
      let s := s.modKey i fun x => { st := if x.gen = 0xFFFF then 4 else 0, gen := x.gen }
      completeAll (showSlots (s.setReg K.retiring 0)) .retire 0 [])

end Sys2Proof.Machine
end

