-- ==== Sys2Proof/Machine/Reel.lean ====
section
/-! DEFINITION. The reel: sampling, the ring, and its chunks on their way to storage (spec/11 R443 to R447, 12 R483). -/

namespace Sys2Proof.Machine

def State.modReel (s : State) (f : ReelSt → ReelSt) : State := { s with reel := f s.reel }

/-- Bytes of the ring. -/
def ringBytes (s : State) : Nat := s.regN K.reelRingSize * 2 ^ 20

/-- The reel reaches state 0. -/
def reelOff (s : State) : State := completeAll (s.setReg K.reelEnable 0) (.disable .reel) 0 []

/-- The signals of a record, up to the first 0 (11 R444). -/
def reelSignals (s : State) : List Nat := ((List.range 63).map fun i => s.regN (K.signal i)).takeWhile (· != 0)

/-- The value of a signal (11 R444). -/
def signalValue (s : State) (x : Nat) : Nat :=
  let n := x / 256
  let c := x % 256
  let i64 := fun v : Int => ofSigned 64 v
  if c = 0x01 then i64 (s.engine n).x
  else if c = 0x02 then i64 (s.reg (K.engSetpoint n))
  else if c = 0x03 then i64 (s.reg (K.engFollowingError n))
  else if c = 0x04 then s.regN (K.engVelActual n)
  else if c = 0x05 then i64 (s.engine n).demand
  else if c = 0x06 then i64 (s.reg (K.tapCorrection n))
  else if c = 0x07 then s.regN (K.engStatus n) + 2 ^ 32 * s.regN (K.clampCmStatus n)
  else if c = 0x08 then s.regN (K.fbsStatus n)
  else if c = 0x10 then s.regN (K.gstPathVelocity n)
  else if c = 0x11 then s.regN (K.gstSegIdActive n) + 2 ^ 32 * s.regN (K.gstGroupState n)
  else 0

/-- A record (11 R445). -/
def reelRecord (s : State) : List Byte :=
  leBytes 8 (s.regN K.tickCount % 2 ^ 48 + 2 ^ 48 * min 65535 s.reel.gap) ++ (reelSignals s).flatMap fun x => leBytes 8 (signalValue s x)

/-- The reel's chunk goes to the drive through queue 6 (11 R446; 12 R483). -/
def sendChunk (s : State) (start : Nat) : State :=
  let first := s.regN K.reelSReelLbaFirst
  let n := s.regN K.reelSectors
  let lba := s.regN K.reelSReelNext
  let next := if first + n ≤ lba + 256 then first else lba + 256
  let s := (s.modReel fun x => { x with sent := x.sent + 1 }).setReg K.reelSReelNext next
  let k := queueIndex s 6
  addCmd s { id := 0, q := 6, req := none, op := .reelChunk (s.regN K.reelRingBase + start), key := k, gen := (liveGen s k).getD 0,
             lba := lba, count := 256, atDrive := true }

/-- Full lines enter DRAM; a filled chunk is sent in mode 1. The answer is the first failure's status. -/
def putLines : Nat → State → State × Nat
  | 0, s => (s, 0)
  | fuel + 1, s =>
    if s.reel.line.length < 64 then (s, 0)
    else
      let pos := s.reel.pos
      let w := writeDram s (s.regN K.reelRingBase + pos) (s.regN K.reelKeyIndex) (s.reel.line.take 64)
      if w.2 ≠ 0 then w
      else
        let s := w.1.modReel fun x => { x with line := x.line.drop 64, pos := (pos + 64) % ringBytes s }
        let s := if s.reg K.reelMode = 1 ∧ (pos + 64) % 2 ^ 20 = 0 then sendChunk s (pos + 64 - 2 ^ 20) else s
        putLines fuel s

/-- The take ends as an abort-form disable (11 R447; 12 R484): chunks not yet at the drive are discarded. -/
def reelAbort (s : State) : State :=
  let s := s.modReel fun x => { x with line := [] }
  if s.reel.sent = 0 then reelOff s else s.setReg K.reelEnable 4

/-- DRAM becomes unavailable (11 R438), and so a reel take ends (R446). -/
def dramLost (s : State) : State :=
  let s := s.setReg K.dramState 4
  if s.reg K.reelEnable = 0 then s else reelAbort s

/-- RING_FILL after `n` more bytes (11 R443). -/
def fillUp (s : State) (n : Nat) : State :=
  s.setReg K.reelRingFill (min (ringBytes s) (s.regN K.reelRingFill + n) : Nat)

/-- Step 4 of 01 R21: every DECIMATE-th tick writes a record; in mode 1 one that finds no free chunk is dropped (11 R443,
R445, R446). -/
def reelSample (s : State) : State :=
  if s.reg K.reelEnable ≠ 1 then s
  else if !dramUp s then reelAbort s
  else
    let s := s.modReel fun x => { x with count := x.count + 1 }
    if s.reel.count % s.regN K.reelDecimate ≠ 0 then s
    else
      let rec' := reelRecord s
      if s.reg K.reelMode = 1 ∧ ringBytes s < s.regN K.reelRingFill + rec'.length then
        let s := if s.reel.gap = 0 then emcy s 0xFF90 7 0xFF s.reel.chunk else s
        (s.modReel fun x => { x with gap := x.gap + 1 }).bump K.reelLostTicks 64
      else
        let s := s.modReel fun x => { x with line := x.line ++ rec', chunk := if x.gap = 0 then x.chunk else x.gap, gap := 0 }
        let w := putLines (rec'.length / 64 + 2) ((fillUp s rec'.length).bump K.reelTakeRecords 64)
        if w.2 = 0 then w.1 else reelAbort w.1

/-- The conditions of an enable (11 R446; 12 R483). -/
def reelBad (s : State) : Bool :=
  s.reg K.dramState != 3 || blocked s (s.regN K.reelRingBase) (ringBytes s)
    || (s.reg K.reelMode == 1 && (s.reg K.reelSectors == 0 || !storageUp s))
    || (liveGen s (dramIndex s (s.regN K.reelKeyIndex))).isNone

/-- Pads the last line with zeros (11 R445). -/
def padLine (s : State) : State :=
  if s.reel.line = [] then s
  else (putLines 1 (s.modReel fun x => { x with line := (x.line ++ zeros 64).take 64 })).1

/-- In the drain form of mode 1 every filled chunk and the padded last one go to storage (11 R447). -/
def reelDrain (s : State) : State :=
  let s := padLine s
  let part := s.reel.pos % 2 ^ 20
  let s := if part = 0 then s else
    let start := s.reel.pos - part
    let w := writeDram s (s.regN K.reelRingBase + s.reel.pos) (s.regN K.reelKeyIndex) (zeros (2 ^ 20 - part))
    sendChunk (w.1.modReel fun x => { x with pos := (start + 2 ^ 20) % ringBytes s }) start
  if s.reel.sent = 0 then reelOff s else s.setReg K.reelEnable 3

/-- REEL_ENABLE written (11 R443, R446, R447; 02 R79 to R82); each enable starts a new take. -/
def reelEnableWrite (r : Req) (v : Nat) (s : State) : State :=
  let e := s.reg K.reelEnable
  writeEntry s r K.reelEnable v { state := whenCode (v == 1 && (decide (3 ≤ e) || (e == 0 && reelBad s))) 0x08000022 } fun s =>
    if v = 1 then
      if e = 1 then ok s r
      else
        let s := (s.bump K.reelTakeId 32).setRegs [(K.reelEnable, 1), (K.reelTakeRecords, 0), (K.reelLostTicks, 0), (K.reelRingFill, 0),
          (K.reelSTakeStart, s.reg K.reelSReelNext)]
        ok { s with reel := {} } r
    else if e = 0 then ok s r
    else
      let s := await s (.disable .reel) r
      if s.reg K.reelMode = 0 then reelOff (padLine s)
      else if v = 2 then reelAbort (if e = 1 then padLine s else s)
      else if e = 1 then reelDrain s else s

/-- A sector's worth of a chunk in the ring. A chunk at the drive is past its point of no return: it is read under a key that
is being retired too (11 R447; 12 R475 step 2). -/
def chunkPart (s : State) (addr : Nat) : State × List Byte :=
  let k := s.regN K.reelKeyIndex
  if (s.keySlot (dramIndex s k)).st = 3 then (s, (List.range 64).flatMap fun j => lineData (dramLine s (addr / 64 + j)))
  else
    let d := readDram s addr 4096 k
    (d.1, d.2.2)

/-- The sectors of a chunk written through the cipher (12 R465). -/
def chunkSectors (s : State) (c : StCmd) (addr : Nat) : State :=
  (List.range 256).foldl (fun s i =>
    let d := chunkPart s (addr + 4096 * i)
    (writeSector d.1 (c.lba + i) c.key c.gen d.2).1) s

/-- REEL_CHUNK_DONE (11 R446, R447): the drive completes the oldest chunk, which is freed. -/
def execReelChunkDone (good : Bool) (s : State) : Out :=
  .next (
    match s.cip.cmds.find? fun c => c.q == 6 with
    | none => s
    | some c =>
      let addr := match c.op with
        | .reelChunk a => a
        | _ => 0
      if !good then cmdFailed s 0 0 c
      else
        let s := endCmd (chunkSectors s c addr) c 0 []
        let s := s.modReel fun x => { x with sent := x.sent - 1 }
        let s := s.setReg K.reelRingFill (s.regN K.reelRingFill - 2 ^ 20 : Nat)
        if s.reel.sent = 0 ∧ 3 ≤ s.reg K.reelEnable then reelOff s else s)

/-! ## Retiring a key of a take (12 R474, R475, R484) -/

/-- A take that uses a key index being retired, for its ring or for its chunks, ends as an abort-form disable (12 R484). -/
def reelRetire (s : State) (i : Nat) : State :=
  let used := dramIndex s (s.regN K.reelKeyIndex) == i || (s.reg K.reelMode == 1 && queueIndex s 6 == i)
  if s.reg K.reelEnable ≠ 0 ∧ used = true then reelAbort s else s

/-- KEY_RETIRE (12 R474, R475 steps 1 and 2). -/
def execKeyRetire (r : Req) (v : BitVec 8) (s : State) : Out :=
  .next (request s r K.retire 2 fun s =>
    let i := v.toNat
    writeEntry s r K.retire i
      { state := whenCode (s.reg K.transitionState != 0 || (s.regN K.retiring != 0 && s.regN K.retiring != i)) 0x08000022 } fun s =>
      if (s.keySlot i).st = 0 ∨ (s.keySlot i).st = 4 then ok s r
      else if (s.keySlot i).st = 3 then await s .retire r
      else
        let s := reelRetire s i
        let s := await (dropRekey ((s.modKey i fun x => { x with st := 3, pend := true }).setReg K.retiring i) i) .retire r
        (s.cip.cmds.filter fun c => c.key == i && !c.atDrive).foldl (fun s c => endCmd s c 0x0F000004 []) s)

end Sys2Proof.Machine
end

