-- ==== Sys2Proof/Machine/FabricPorts.lean ====
section
/-! DEFINITION. Regions, seams and fabric ports: the operations that loading and the fabric's commands share (spec/08 R298
to R325, 09 R353 to R355, R700). -/

namespace Sys2Proof.Machine

def State.modFab (s : State) (f : FabSt → FabSt) : State := { s with fab := f s.fab }
def State.port (s : State) (p : Nat) : FabPort := tabGet (fun _ => {}) s.fab.port p
def State.modPort (s : State) (p : Nat) (f : FabPort → FabPort) : State :=
  s.modFab fun x => { x with port := tabSet (fun _ => {}) x.port p (f (s.port p)) }

def regionMask (r : Nat) : Nat := 2 ^ r

/-- Masks joined: the bits of both. -/
def maskOr (a b : Nat) : Nat := a ||| b

/-- A region is marked unusable (08 R302; 18 R639). -/
def regionUnusable (s : State) (r : Nat) : Bool := s.bad.contains (0x12, r)

/-! ## Rails and seams (08 R303, R307 to R309, R312) -/

def railSet (s : State) (q : Nat) : Int := s.reg (K.railVccq0Set + q)
def railMeas (s : State) (q : Nat) : Int := s.reg (K.railVccq0Meas + q)
def State.rail (s : State) (q : Nat) : RailSt := tabGet (fun _ => {}) s.fab.rail q
def State.modRail (s : State) (q : Nat) (f : RailSt → RailSt) : State :=
  s.modFab fun x => { x with rail := tabSet (fun _ => {}) x.rail q (f (s.rail q)) }

/-- A rail is being set. -/
def railBusy (s : State) (q : Nat) : Bool := (s.rail q).target != 0

/-- RAIL MAP gives quadrant q's rail a regulator (16 R591). -/
def railPresent (s : State) (q : Nat) : Bool := (tabGet (fun _ => 0) s.power.railMap q).testBit 15

/-- The quadrants of a seam's regions, the lower-numbered region's first. -/
def seamQuads (k : Nat) : Nat × Nat := ((seamRegions k).1 / 4, (seamRegions k).2 / 4)

/-- R308: the rails differ by more than 50 mV, in their set or their measured values. -/
def seamApart (s : State) (k : Nat) : Bool :=
  let q := seamQuads k
  decide (50 < (railSet s q.1 - railSet s q.2).natAbs) || decide (50 < (railMeas s q.1 - railMeas s q.2).natAbs)

def seamInUse (s : State) (k : Nat) : Bool :=
  s.reg (K.seamRequested k) != 0 && regionLoaded s (seamRegions k).1 && regionLoaded s (seamRegions k).2

def sameClock (s : State) (k : Nat) : Bool := s.reg (K.regionClockSource (seamRegions k).1) == s.reg (K.regionClockSource (seamRegions k).2)

/-- The mode a seam in use has to run in (R307, R308): 1 SYNC or 2 FIFO. A seam in FIFO stays there while one of its rails
is being set (R309 step 4). -/
def seamWant (s : State) (k : Nat) : Nat :=
  let q := seamQuads k
  let wait := s.reg (K.seamMode k) == 2 && (railBusy s q.1 || railBusy s q.2)
  if s.reg (K.seamRequested k) = 1 ∧ sameClock s k = true ∧ seamApart s k = false ∧ wait = false then 1 else 2

/-- A seam follows its regions, rails and request: a seam that has to change mode begins to switch (R309). -/
def showSeam (s : State) (k : Nat) : State :=
  let f := s.regN (K.seamFlags k)
  if seamInUse s k then
    let sync := s.reg (K.seamRequested k) == 1
    let f := setBitTo (setBitTo f 0 (sync && seamApart s k)) 1 (sync && !sameClock s k)
    let m := s.regN (K.seamMode k)
    s.setRegs [(K.seamFlags k, f), (K.seamMode k, (if m = 0 then seamWant s k else if m = 3 ∨ m = seamWant s k then m else 3 : Nat))]
  else s.setRegs [(K.seamFlags k, (setBitTo (setBitTo f 0 false) 1 false : Nat)), (K.seamMode k, 0)]

def showSeams (s : State) : State := forN 24 showSeam s

/-! ## Words on a seam (08 R306, R307, R309; 09 R354, R355)

Direction `i` of the 48 is seam `i / 2`; the table has no row for a word of the fabric's logic, so these operations are what
a sender and a receiver see (log seamWords). -/

def State.seamDir (s : State) (i : Nat) : SeamDir := tabGet (fun _ => {}) s.fab.seam i
def State.modSeam (s : State) (i : Nat) (f : SeamDir → SeamDir) : State :=
  s.modFab fun x => { x with seam := tabSet (fun _ => {}) x.seam i (f (s.seamDir i)) }

/-- READY as the sender sees it: 0 while the seam switches or a side is unloaded, and while its FIFO of eight is full. -/
def seamReady (s : State) (i : Nat) : Bool :=
  s.reg (K.seamMode (i / 2)) == 1 || s.reg (K.seamMode (i / 2)) == 2 && decide ((s.seamDir i).words.length < 8)

/-- VALID and the word as the receiver sees them: none while a side is unloaded; a seam that switches empties first. -/
def seamShown (s : State) (i : Nat) : Option (BitVec 256) :=
  if s.reg (K.seamMode (i / 2)) = 0 then none else (s.seamDir i).words.head?

/-- A sender clock edge with VALID and a word: the word passes at READY, and else stays on offer. In SYNC mode the word
registered before it has arrived at this edge. -/
def seamSend (s : State) (i : Nat) (w : BitVec 256) : State :=
  if seamReady s i then s.modSeam i fun d =>
    { offer := none, words := if s.reg (K.seamMode (i / 2)) = 1 then [w] else d.words ++ [w] }
  else s.modSeam i fun d => { d with offer := some w }

/-- A receiver clock edge at which the receiver takes the word shown. -/
def seamTake (s : State) (i : Nat) : State :=
  if seamShown s i = none then s else s.modSeam i fun d => { d with words := d.words.drop 1 }

/-- The seams of a set of regions are emptied: the words in them are discarded. -/
def emptySeams (s : State) (m : Nat) : State :=
  forN 48 (fun s i =>
    let r := seamRegions (i / 2)
    if m.testBit r.1 || m.testBit r.2 then s.modSeam i fun d => { d with words := [] } else s) s

/-- SEAM_SWITCH_DONE (R309): the seam has emptied and changes mode. -/
def execSeamSwitchDone (k : Fin 24) (s : State) : Out :=
  .next (if s.reg (K.seamMode k) = 3 ∧ (s.seamDir (2 * k)).words = [] ∧ (s.seamDir (2 * k + 1)).words = [] then s.setReg (K.seamMode k) (seamWant (s.setReg (K.seamMode k) 0) k) else s)

/-- A VCCQ rail starts to be set (R309 step 1): the seams that would differ too much switch first. -/
def startRail (s : State) (q mv : Nat) (loader : Bool) : State :=
  let s := s.setReg (K.railVccq0Set + q) mv
  showSeams (s.modRail q fun x => { x with target := mv, loader := x.loader || loader, sent := false, odd := 0 })

/-- Step 1 of R309 is done: no seam of the quadrant is switching. -/
def seamsStill (s : State) (q : Nat) : Bool :=
  (List.range 24).all fun k => !((seamQuads k).1 == q || (seamQuads k).2 == q) || s.reg (K.seamMode k) != 3

/-- The highest region clock at a rail's value, in kHz (R303). -/
def clockLimit (mv : Nat) : Nat := if 850 ≤ mv then 400000 else if 800 ≤ mv then 320000 else 250000

/-! ## Ports (08 R319, R321 to R324) -/

/-- A port is the last to be served of its region's work: nothing in flight. -/
def portIdle (s : State) (p : Nat) : Bool := (s.port p).mem.isEmpty && (s.port p).objs.isEmpty

/-- A port reaches enable state 0 (02 R81, R82): its flags are cleared (R319). -/
def portOff (s : State) (p : Nat) : State :=
  let s := (s.setReg (K.portEnable p) 0).modFab fun x => { x with flags := clearMask x.flags (0xFF * 2 ^ (8 * p)) }
  if hp : p < 8 then completeAll s (.disable (.port ⟨p, hp⟩)) 0 [] else s

/-- A disable in progress is done once nothing is in flight. -/
def portCheck (s : State) (p : Nat) : State := if 3 ≤ s.reg (K.portEnable p) ∧ portIdle s p = true then portOff s p else s

/-- The port's requests to published entries end with a code. -/
def endObjs (s : State) (p code : Nat) : State :=
  (s.port p).objs.foldl (fun s o => refuse s o.req code) (s.modPort p fun x => { x with objs := [] })

/-- The abort form (R324, 02 R80): requests that the port has not answered end with ABORTED_BY_DISABLE. -/
def portAbort (s : State) (p : Nat) : State :=
  if s.reg (K.portEnable p) = 0 then s else portCheck (endObjs (s.setReg (K.portEnable p) 4) p 0x0F000002) p

/-- PORT_ENABLE written (R323, R324; 02 R79 to R82). -/
def portEnableWrite (r : Req) (p : Fin 8) (v : Nat) (s : State) : State :=
  let e := s.reg (K.portEnable p)
  writeEntry s r (K.portEnable p) v
    { state := whenCode (v == 1 && (decide (3 ≤ e) || !regionLoaded s (hostRegion p))) 0x08000022 } fun s =>
    if v = 1 then ok (s.setReg (K.portEnable p) 1) r
    else if e = 0 then ok s r
    else
      let s := await s (.disable (.port p)) r
      if v = 2 ∨ e = 4 then portAbort s p else portCheck (s.setReg (K.portEnable p) 3) p

/-- The declaration of an entry. -/
def declOf (s : State) (key : Nat) : Option Decl := s.fab.objects.find? fun d => d.key == key

/-- OBJECT_FIRST and OBJECT_COUNT of a port whose region counts as loaded (R323). -/
def showPort (s : State) (p : Nat) : State :=
  let ds := if regionLoaded s (hostRegion p) then s.fab.objects.filter (·.port == p) else []
  s.setRegs [(K.portObjectCount p, ds.length),
    (K.portObjectFirst p, (ds.foldl (fun a d => if a = 0 ∨ d.key / 256 < a then d.key / 256 else a) 0 : Nat))]

/-- TAGS_IN_USE (R323). -/
def showTags (s : State) (p : Nat) : State := s.setReg (K.portTagsInUse p) (s.port p).mem.length

/-- The ports of a set of regions. -/
def portsIn (m : Nat) : List Nat := (List.range 8).filter fun p => m.testBit (hostRegion p)

/-! ## Regions (09 R353 to R355, R700) -/

def showLoaded (s : State) : State := s.setReg K.ingotLoadedMap s.fab.loaded

/-- The start of an unload (08 R325): every port in the regions is disabled in abort form. -/
def startUnload (s : State) (m : Nat) : State := (portsIn m).foldl portAbort s

def unloadReady (s : State) (m : Nat) : Bool := (portsIn m).all fun p => s.reg (K.portEnable p) == 0

/-- Regions are unloaded: they count as unloaded from here on (09 R700). -/
def dropRegions (s : State) (m : Nat) : State :=
  let s := s.modFab fun x =>
    { x with
      loaded := clearMask x.loaded m, written := clearMask x.written m, uses := clearMask x.uses m,
      frozen := x.frozen.filter fun f => !m.testBit (f / 1408) }
  let s := (bitsOf m 16).foldl (fun s r => s.setRegs [(K.regionState r, if regionUnusable s r then 3 else 0),
    (K.regionClockSource r, 0xFF), (K.regionClockFreq r, 0)]) s
  showSeams (showLoaded ((portsIn m).foldl showPort (emptySeams s m)))

/-- The value the device holds for a stored entry that a port publishes (R322): what the store last held for it. -/
def storedBytes (s : State) (d : Decl) : List Byte := tabGet (fun _ => d.dflt) s.host.store.fabric d.key

/-- The user pins that a region owns under the hold states in effect, as bits (09 R337). -/
def pinsOf (s : State) (r : Nat) : Nat :=
  ((List.range s.fab.hold.length).filter fun p =>
    let b := (s.fab.hold.getD p 0).toNat
    b / 16 == r && b % 16 != 15).foldl (fun m p => maskOr m (2 ^ p)) 0

/-- A region is released (09 R350, R351, R700; 08 R322, R323): it counts as loaded, its port is enabled if the ingot uses
it, and the stored values are written to it in ascending index order before any host request. -/
def releaseRegion (s : State) (r : Nat) : State :=
  let s := s.modFab fun x =>
    { x with
      loaded := setBitTo x.loaded r true, written := setBitTo x.written r false, ranPins := maskOr x.ranPins (pinsOf s r) }
  let s := s.setReg (K.regionState r) 2
  let s := (portsIn (regionMask r)).foldl (fun s p =>
    let s := s.setReg (K.portEnable p) (b2i (s.fab.uses.testBit r))
    let ds := (s.fab.objects.filter fun d => d.port == p && d.acc.testBit 2)
    let given := ds.foldl (fun t d => tabInsert t d.key (storedBytes s d)) []
    showPort (s.modPort p fun x => { x with given := given }) p) s
  showSeams (showLoaded s)

/-- Every region that is loaded and waits for its release is released together. -/
def releaseAll (s : State) : State := (bitsOf s.fab.written 16).foldl releaseRegion s

end Sys2Proof.Machine
end

