-- ==== Sys2Proof/Machine/Flash.lean ====
section
/-! DEFINITION. On-chip flash and its controller (spec/10). -/

namespace Sys2Proof.Machine

def State.modFlash (s : State) (f : FlashSt → FlashSt) : State := { s with flash := f s.flash }
def State.modFlBlock (s : State) (k : Nat) (f : FlBlock → FlBlock) : State :=
  s.modFlash fun x => { x with block := tabSet (fun _ => {}) x.block k (f (s.flBlock k)) }
def State.flBank (s : State) (b : Nat) : FlBank := tabGet (fun _ => {}) s.flash.bank b
def State.modFlBank (s : State) (b : Nat) (f : FlBank → FlBank) : State :=
  s.modFlash fun x => { x with bank := tabSet (fun _ => {}) x.bank b (f (s.flBank b)) }

def masterNo : FlashMaster → Nat
  | .sc0 => 0
  | .sc1 => 1
  | .sc2 => 2
  | .sc3 => 3
  | .fabric => 4
  | .island => 5

def State.flMaster (s : State) (m : FlashMaster) : FlMaster := tabGet (fun _ => {}) s.flash.master (masterNo m)
def State.modFlMaster (s : State) (m : FlashMaster) (f : FlMaster → FlMaster) : State :=
  s.modFlash fun x => { x with master := tabSet (fun _ => {}) x.master (masterNo m) (f (s.flMaster m)) }

/-! ## The array (10 R388, R389, R391, R405) -/

/-- Bytes written to the array. -/
def putArray (s : State) (a : Nat) (bs : List Byte) : State :=
  s.modFlash fun x => { x with array := (((List.range bs.length).zip bs).foldl (fun t ib => tabSet (fun _ => 0xFF#8) t (a + ib.1) ib.2) x.array) }

/-- A block's cells erased. -/
def wipeBlock (s : State) (k : Nat) : State :=
  s.modFlash fun x => { x with array := tabKeep (fun a => decide (a / 0x40000 ≠ k)) x.array }

/-- The valid info row of a block (10 R405). -/
def infoRow (s : State) (k : Nat) : List Byte :=
  let b := s.flBlock k
  let body := leBytes 4 0x4F464E49 ++ leBytes 4 b.seq ++ leBytes 4 b.erases ++ leBytes 1 (b2n b.incomplete + 2 * b2n b.prot)
    ++ zeros 3 ++ leBytes 8 b.lastErase ++ leBytes 4 b.refreshes ++ zeros 480
  body ++ leBytes 4 (crc32c body)

/-- The calibration row (10 R391): trims and factory results are the unit's own. -/
def calRow (s : State) : List Byte :=
  let own := fun (o n : Nat) => (List.range n).map fun i => BitVec.ofNat 8 (Config.measured 391 (o + i))
  let code := partBytes s
  let body := (s.blob K.unitUid ++ zeros 16).take 16 ++ (code ++ zeros 16).take 16 ++ [0x42#8] ++ zeros 31 ++ own 64 4028
  body ++ leBytes 4 (crc32c body)

/-! ## Access and status (10 R394, R398) -/

/-- A block a master may command (10 R394). -/
def mayCommand (m : FlashMaster) (k : Nat) : Bool :=
  match m with
  | .sc2 => !(decide (176 ≤ k) && decide (k < 192))
  | .fabric => decide (192 ≤ k)
  | .island => decide (176 ≤ k) && decide (k < 192)
  | _ => false

/-- A window address a master may read (10 R394). -/
def mayRead (m : FlashMaster) (a : Nat) : Bool :=
  let k := a / 0x40000
  let cal := decide (0x4000000 ≤ a) && decide (a < 0x4001000)
  let st := decide (0x4001000 ≤ a) && decide (a < 0x4001008)
  match m with
  | .sc2 => decide (a < 0x4002000)
  | .fabric => (decide (192 ≤ k) && decide (a < 0x4000000)) || cal || st
  | .island => (decide (176 ≤ k) && decide (k < 192)) || cal
  | _ => (decide (48 ≤ k) && decide (k < 64)) || (decide (112 ≤ k) && decide (k < 128)) || cal || st

/-- The status word (10 R398); `errs` holds bits 18:10 in place. -/
def statusWord (own busy susp : Bool) (op errs block : Nat) : Nat :=
  0xFB000000 + 2 ^ 23 * b2n own + 2 ^ 22 * b2n busy + 2 ^ 21 * b2n susp + 2 ^ 19 * op + errs + block % 256

def opCode : FlOp → Nat
  | .program .. => 1
  | .erase .. => 2
  | .protect .. => 3
  | .protectMap _ => 3
  | .password _ => 3

def opBlock : FlOp → Nat
  | .program k .. => k
  | .erase k => k
  | .protect k _ => k
  | .protectMap _ => 0
  | .password _ => 0

/-- A master's last outcome (10 R393, R398). -/
def outcome (s : State) (m : FlashMaster) (op errs k : Nat) : State :=
  s.modFlMaster m fun x => { x with status := statusWord true false false op errs k }

/-- What a read of a busy bank returns (10 R398, R406). -/
def bankWord (s : State) (m : FlashMaster) (b : Nat) : Nat :=
  let x := s.flBank b
  match x.op, x.susp with
  | some j, su => statusWord (decide (j.master = m)) true su.isSome (opCode j.op) 0 (opBlock j.op)
  | none, some j => statusWord (decide (j.master = m)) false true (opCode j.op) 0 (opBlock j.op)
  | none, none => 0xFB000000

/-- BANK_STATE (10 R415). -/
def showBanks (s : State) : State :=
  s.setReg K.flBankState (((List.range 4).map fun b =>
    let x := s.flBank b
    2 ^ (4 * b) * (match x.op with
      | some j => if opCode j.op = 3 then 4 else opCode j.op
      | none => if x.susp.isSome then 3 else 0)).sum : Nat)

/-- The abort code of a flash error (10 R399), as its bit in the status word. -/
def flashAbort (errs : Nat) : Nat :=
  if errs.testBit 16 || errs.testBit 12 then 0x0F00000B
  else if errs.testBit 14 then 0x0F000003
  else if errs.testBit 15 then 0x06090030
  else if errs.testBit 18 || errs.testBit 17 then 0x06060000
  else if errs.testBit 11 then 0x06010000
  else 0x08000000

/-! ## Runs of operations -/

/-- Operations of one run enter their bank's queue; the bank is not moved on. -/
def appendRun (s : State) (b : Nat) (m : FlashMaster) (rank : Nat) (ops : List FlOp) (fin : FlFin) : State :=
  let run := s.flash.nextRun
  let jobs := ((List.range ops.length).zip ops).map fun io =>
    { op := io.2, master := m, rank := rank, run := run, last := io.1 + 1 == ops.length, fin := fin : FlJob }
  let s := s.modFlash fun x => { x with nextRun := run + 1 }
  s.modFlBank b fun x => { x with queue := x.queue ++ jobs }

/-- The page programs that put bytes at an address; a last page that is not full is filled with erased bytes. -/
def pageOps (a : Nat) (data : List Byte) : List FlOp :=
  (List.range ((data.length + 511) / 512)).map fun i =>
    .program ((a + 512 * i) / 0x40000) ((a + 512 * i) % 0x40000 / 512)
      (((data.drop (512 * i)).take 512 ++ List.replicate 512 0xFF#8).take 512)

/-- The erases of a slot (09 R343). -/
def slotErases (slot : Nat) : List FlOp := (List.range 48).map fun i => .erase (64 * slot + i)

/-- SLOT_ID, SLOT_VERSION, SLOT_ROLLBACK and SLOT_RESULT after a check (09 R360). -/
def showSlot (s : State) (slot cause : Nat) : State :=
  let b := if cause = 1 then [] else slotSlate s slot
  s.setRegs [(K.slotId slot, slId b), (K.slotVersion slot, slVersion b), (K.slotRollback slot, slRollback b),
    (K.slotResult slot, cause)]

/-- Bytes staged into a slot (09 R364, R381). -/
def stageCount (s : State) (slot n : Nat) (cfg good : Bool) : State :=
  if good then
    let s := if slot = 0 then s else s.bumpBy K.stageWritten 32 n
    if cfg then { s with fab := { s.fab with cfgCount := s.fab.cfgCount + n } } else s
  else s.setReg (K.slotState slot) 5

/-- The staging ingot is copied to the erased golden slot (09 R373). -/
def promoteCopy (s : State) : State :=
  let st := slotOf s 2
  appendRun s 0 .sc2 4 (pageOps 0 (arrayBytes s (slotBase st) (imageLength (slotSlate s st)))) .promoteCopy

/-- The copy of a promotion ends: it is verified next, or has failed (09 R373). -/
def promoteEnd (s : State) (code : Nat) : State :=
  if code = 0 then s.setReg (K.slotState 0) 3
  else
    let s := s.setRegs [(K.slotState 0, 5), (K.slotResult 0, 16)]
    completeAll { s with fab := { s.fab with promote := false } } .promote code []

/-- A run of operations has ended with a code. -/
def finishRun (s : State) (f : FlFin) (code : Nat) : State :=
  match f with
  | .none => s
  | .wait w => completeAll s w code []
  | .user r => reply s r code []
  | .reply r => reply s r code []
  | .stageData slot n r =>
    let s := stageCount s slot n r.isNone (code == 0)
    match r with
    | some r => reply s r code []
    | none => s
  | .stageOpen slot =>
    let s := s.setReg (K.slotState slot) (if code = 0 ∧ s.reg (K.slotState slot) = 1 then 2 else 5)
    completeAll s .stageOpen code []
  | .promoteErase => if code = 0 then promoteCopy s else promoteEnd s code
  | .promoteCopy => promoteEnd s code
  | .fwData n r => reply (if code = 0 then { s with fw := { s.fw with written := s.fw.written + n } } else s) r code []
  | .fwOpen => completeAll s .fwOpen code []
  | .island f => islFlashDone s f code

/-- The user area has nothing left of what a host asked: a disable in progress is done (02 R81). -/
def userIdle (s : State) : Bool :=
  (List.range 4).all fun b =>
    let x := s.flBank b
    (x.op.toList ++ x.susp.toList ++ x.queue).all fun j => match j.fin with
      | .user _ => false
      | .wait .userErase => false
      | _ => true

def userDrained (s : State) : State :=
  if 3 ≤ s.reg K.userEnable ∧ userIdle s = true then completeAll (s.setReg K.userEnable 0) (.disable .user) 0 [] else s

/-- The checks with which an operation starts (10 R401, R409, R412): an error bit, or 0. -/
def startErr (s : State) (j : FlJob) : Nat :=
  let k := opBlock j.op
  let b := s.flBlock k
  if 192 ≤ k ∧ b.prot = true ∧ opCode j.op ≠ 3 then 2 ^ 16
  else
    match j.op with
    | .erase _ => 0
    | .protect .. => 0
    | .protectMap _ => 0
    | .password _ => 0
    | .program _ page _ => if b.incomplete then 2 ^ 14 else if page < b.top then 2 ^ 15 else 0

/-- INCOMPLETE_BLOCKS (10 R415). -/
def countIncomplete (s : State) : State := s.setReg K.flIncompleteBlocks ((s.flash.block.filter fun x => x.2.incomplete).length)

/-- An erase begins: the info row says so (10 R403 step 2, R411). -/
def beginErase (s : State) (k : Nat) : State :=
  let n := (s.flBlock k).erases + 1
  let s := s.modFlBlock k fun b => { b with seq := (b.seq + 1) % 2 ^ 32, erases := n, incomplete := true }
  countIncomplete (if n = 10001 then showReserve (emcy s 0xFF54 7 (k / 64) k) else s)

/-- Flash programs are possible: VCC_SYS and the flash controller serve (14 R506). -/
def flashServes (s : State) : Bool :=
  s.power.low == 0 && (s.power.stage == 0 || decide (4 ≤ s.power.stage)) && s.reg K.safeStSafeCause != 5

/-- An operation may start: in SAFE state and after PWR_DOWN# only the assay island's own (16 R586; 18 R640). -/
def mayStart (s : State) (j : FlJob) : Bool :=
  flashServes s && (j.master == .island || (s.mode != .safe && !s.power.down))

/-- The lines of a block leave the prefetch buffer and the branch cache (10 R408). -/
def dropLines (s : State) (k : Nat) : State :=
  s.modFlash fun x =>
    { x with
      ahead := x.ahead.filter fun l => l / 0x2000 != k,
      branch := x.branch.filter fun l => l / 0x2000 != k }

/-- A bank takes the next operation that may run: the highest rank first, in order of arrival, none of an erase while one
is suspended, none in its block (10 R397, R406, R407). With nothing to do it goes on with a suspended erase. -/
def pump : Nat → State → Nat → State
  | 0, s, _ => s
  | fuel + 1, s, b =>
    let x := s.flBank b
    if x.op.isSome then s
    else
      let may := fun j : FlJob => match x.susp with
        | none => true
        | some e => match j.op with
          | .erase _ => false
          | _ => opBlock j.op != opBlock e.op || opCode j.op == 3
      let ok := x.queue.filter fun j => mayStart s j && may j
      match ok.foldl (fun acc j => match acc with
          | none => some j
          | some a => some (if j.rank < a.rank then j else a)) none with
      | none =>
        match x.susp with
        | some e => if x.asked || x.auto || !mayStart s e then s else s.modFlBank b fun x => { x with op := some e, susp := none }
        | none => s
      | some j =>
        let s := s.modFlBank b fun x => { x with queue := x.queue.erase j }
        let err := startErr s j
        if err = 0 then
          let s := match j.op with
            | .erase k => beginErase (dropLines s k) k
            | .program k .. => dropLines s k
            | _ => s
          s.modFlBank b fun x => { x with op := some j }
        else
          let s := outcome s j.master (opCode j.op) err (opBlock j.op)
          let s := s.modFlBank b fun x => { x with queue := x.queue.filter fun i => i.run != j.run || i.run == 0 }
          pump fuel (finishRun s j.fin (flashAbort err)) b

/-- The bank goes on; the entries follow. -/
def pumpBank (s : State) (b : Nat) : State := userDrained (showBanks (pump ((s.flBank b).queue.length + 1) s b))

/-- Every bank goes on: operations may start again. -/
def pumpBanks (s : State) : State := forN 4 pumpBank s

/-- Operations of one run enter their bank's queue. -/
def enqueueRun (s : State) (b : Nat) (m : FlashMaster) (rank : Nat) (ops : List FlOp) (fin : FlFin) : State :=
  pumpBank (appendRun s b m rank ops fin) b

/-- An operation of a bank ends with an error bit, or 0: its run goes on, or ends (10 R420). -/
def endOp (s : State) (b : Nat) (j : FlJob) (err : Nat) : State :=
  let s := outcome (s.modFlBank b fun x => { x with op := none }) j.master (opCode j.op) err (opBlock j.op)
  let cut := match j.op with
    | .program .. => j.abort
    | _ => false
  let s := if err = 0 then (if j.last then finishRun s j.fin (if cut then 0x0F000002 else 0) else s)
    else finishRun (s.modFlBank b fun x => { x with queue := x.queue.filter fun i => i.run != j.run }) j.fin (flashAbort err)
  pumpBank s b

/-! ## Sequences (10 R395, R396) -/

/-- The master's decoder of the bank holds a partial page program: the words of another command break it (10 R396). -/
def sequence (s : State) (m : FlashMaster) (b : Nat) (k : State → State) : State :=
  if (s.flMaster m).part.any fun x => x.1 == b then
    outcome (s.modFlMaster m fun x => { x with part := x.part.filter fun y => y.1 != b }) m 0 (2 ^ 13) 0
  else k s

/-- A command that a master gives for a block: refused outside its areas, and from the fabric on a busy bank (10 R394,
R397). -/
def command (s : State) (m : FlashMaster) (k : Nat) (op : FlOp) : State :=
  let b := k / 64
  let x := s.flBank b
  let clash := match x.susp with
    | some e => (match op with
      | .program p .. => p == opBlock e.op
      | _ => true)
    | none => false
  if !mayCommand m k then outcome s m (opCode op) (2 ^ 11) k
  else if (x.op.isSome && m == .fabric) || clash then outcome s m (opCode op) (2 ^ 10) k
  else enqueueRun s b m (match m with
    | .island => 3
    | .fabric => 6
    | _ => 4) [op] .none

/-- PAGE_PROGRAM (10 R395, R401): with 128 data words the program starts; with fewer the sequence stays open. -/
def execPageProgram (m : FlashMaster) (k : BitVec 8) (page : BitVec 9) (words : List (BitVec 32)) (s : State) : Out :=
  .next (sequence s m (k.toNat / 64) fun s =>
    if words.length < 128 then s.modFlMaster m fun x => { x with part := x.part ++ [(k.toNat / 64, words.length)] }
    else command s m k.toNat (.program k.toNat page.toNat ((words.take 128).flatMap fun w => leBytes 4 w.toNat)))

/-- BLOCK_ERASE (10 R395, R403): the block-number word must name the block. -/
def execBlockErase (m : FlashMaster) (k : BitVec 8) (named : BitVec 32) (s : State) : Out :=
  .next (sequence s m (k.toNat / 64) fun s =>
    if named.toNat = k.toNat then command s m k.toNat (.erase k.toNat) else outcome s m 2 (2 ^ 13) k.toNat)

/-- ERASE_SUSPEND (10 R397, R406). -/
def execEraseSuspend (m : FlashMaster) (b : Fin 4) (s : State) : Out :=
  .next (sequence s m b fun s =>
    let x := s.flBank b
    match x.op with
    | some j =>
      (match j.op with
      | .erase k =>
        if j.master ≠ m then outcome s m 2 (2 ^ 11) k
        else if x.asked then outcome s m 2 (2 ^ 10) k
        else s.modFlBank b fun x => { x with asked := true }
      | _ => if x.susp.isSome then outcome s m (opCode j.op) (2 ^ 10) (opBlock j.op) else s)
    | none => match x.susp with
      | some e => outcome s m 2 (2 ^ 10) (opBlock e.op)
      | none => s)

/-- ERASE_RESUME (10 R397, R406). -/
def execEraseResume (m : FlashMaster) (b : Fin 4) (s : State) : Out :=
  .next (sequence s m b fun s =>
    match (s.flBank b).susp with
    | some e =>
      if e.master ≠ m then outcome s m 2 (2 ^ 11) (opBlock e.op)
      else pumpBank (s.modFlBank b fun x => { x with asked := false }) b
    | none => match (s.flBank b).op with
      | some j => if j.master = m then s.modFlBank b fun x => { x with asked := false } else s
      | none => s)

/-- SUSPEND_EFFECTIVE (10 R406, R420): the erase has run 1 ms. An erase that a disable aborts ends here. -/
def execSuspendEffective (b : Fin 4) (s : State) : Out :=
  .next (
    let x := s.flBank b
    match x.op with
    | some j =>
      (match j.op with
      | .erase k =>
        if j.abort then
          pumpBank (finishRun (outcome (s.modFlBank b fun x => { x with op := none, asked := false }) j.master 2 0 k) j.fin 0x0F000002) b
        else if x.asked || x.auto then pumpBank (s.modFlBank b fun x => { x with op := none, susp := some j }) b
        else s
      | _ => s)
    | none => s)

/-- ERASE_AUTO_RESUME (10 R407). -/
def execEraseAutoResume (b : Fin 4) (s : State) : Out :=
  .next (if (s.flBank b).auto then pumpBank (s.modFlBank b fun x => { x with auto := false }) b else s)

/-- INFO_READ (10 R395). -/
def execInfoRead (m : FlashMaster) (k : BitVec 8) (s : State) : Out :=
  .next (sequence s m (k.toNat / 64) fun s =>
    if mayCommand m k.toNat then
      s.modFlMaster m fun x => { x with info := k.toNat :: x.info.filter fun j => j / 64 != k.toNat / 64 }
    else outcome s m 0 (2 ^ 11) k.toNat)

/-! ## Protection (10 R412 to R414, R417) -/

/-- Sessions are numbered 1 to 4 for the host paths and from 8 for the flash masters. -/
def sessionNo : SessionOf → Nat
  | .path p => pathNo p
  | .master m => 8 + masterNo m

def sessionOpen (s : State) (o : SessionOf) : Bool := s.flash.sessions.contains (sessionNo o)

/-- Protection changes are locked after 16 wrong passwords (10 R413). -/
def protLocked (s : State) : Bool := decide (16 ≤ s.flash.fails)

def closeSession (s : State) (o : SessionOf) : State :=
  s.modFlash fun x => { x with sessions := x.sessions.filter fun i => i != sessionNo o }

/-- A password opens a session, or counts as a failure; the answer says whether it was right (10 R413). -/
def tryPassword (s : State) (o : SessionOf) (pw : Nat) : State × Bool :=
  if protLocked s then (s, false)
  else if pw = s.flash.password then
    ((closeSession s o).modFlash fun x => { x with fails := 0, sessions := sessionNo o :: x.sessions }, true)
  else
    let s := s.modFlash fun x => { x with fails := x.fails + 1 }
    (if 16 ≤ s.flash.fails then emcy (s.modFlash fun x => { x with sessions := [] }) 0xFF53 7 0xFF 0 else s, false)

/-- Protection of a block (10 R412): kept in its info row. -/
def setProt (s : State) (k : Nat) (p : Bool) : State :=
  if (s.flBlock k).prot = p then s else s.modFlBlock k fun b => { b with prot := p, seq := (b.seq + 1) % 2 ^ 32 }

/-- OPEN_PROTECTION_SESSION (10 R395, R413): bank 3 only. -/
def execOpenProtectionSession (m : FlashMaster) (b : Fin 4) (pw : BitVec 64) (s : State) : Out :=
  .next (sequence s m b fun s =>
    if b ≠ 3 then outcome s m 3 (2 ^ 13) 0
    else if !(m == .sc2 || m == .fabric) then outcome s m 3 (2 ^ 11) 0
    else
      let t := tryPassword s (.master m) pw.toNat
      outcome t.1 m 3 (if t.2 then 0 else 2 ^ 12) 0)

def protectCmd (m : FlashMaster) (k : Nat) (p : Bool) (s : State) : State :=
  sequence s m (k / 64) fun s =>
    if k < 192 ∨ mayCommand m k = false then outcome s m 3 (2 ^ 11) k
    else if !sessionOpen s (.master m) then outcome s m 3 (2 ^ 12) k
    else if m == .fabric && (s.flBank (k / 64)).op.isSome then outcome s m 3 (2 ^ 10) k
    else enqueueRun s (k / 64) m (if m = .fabric then 6 else 4) [.protect k p] .none

/-- PROTECT_BLOCK (10 R412). -/
def execProtectBlock (m : FlashMaster) (k : BitVec 8) (s : State) : Out := .next (protectCmd m k.toNat true s)

/-- UNPROTECT_BLOCK (10 R412). -/
def execUnprotectBlock (m : FlashMaster) (k : BitVec 8) (s : State) : Out := .next (protectCmd m k.toNat false s)

/-- CHANGE_PASSWORD (10 R414). -/
def execChangePassword (m : FlashMaster) (b : Fin 4) (pw : BitVec 64) (s : State) : Out :=
  .next (sequence s m b fun s =>
    if b ≠ 3 then outcome s m 3 (2 ^ 13) 0
    else if !sessionOpen s (.master m) then outcome s m 3 (2 ^ 12) 0
    else if m == .fabric && (s.flBank 3).op.isSome then outcome s m 3 (2 ^ 10) 0
    else enqueueRun s 3 m (if m = .fabric then 6 else 4) [.password pw.toNat] .none)

/-- RESET_SEQUENCE (10 R395): no effect on a running operation. -/
def execResetSequence (m : FlashMaster) (b : Fin 4) (s : State) : Out :=
  .next (sequence s m b fun s =>
    closeSession (s.modFlMaster m fun x => { x with info := x.info.filter fun k => k / 64 != b.val }) (.master m))

/-- FLASH_SEQUENCE_TIMEOUT (10 R396): the partial sequence is discarded. -/
def execFlashSequenceTimeout (m : FlashMaster) (b : Fin 4) (s : State) : Out := .next (sequence s m b fun s => s)

/-- PROTECTION_SESSION_TIMEOUT (10 R413). -/
def execProtectionSessionTimeout (o : SessionOf) (s : State) : Out := .next (closeSession s o)

/-- FLASH_PASSWORD (10 R413, R417). -/
def execFlashPassword (r : Req) (pw : BitVec 64) (s : State) : Out :=
  .next (request s r K.protPassword 2 fun s =>
    writeEntry s r K.protPassword pw.toNat {} fun s =>
      let t := tryPassword s (.path r.path) pw.toNat
      reply t.1 r (if t.2 then 0 else 0x0F00000B) [])

/-- FLASH_NEW_PASSWORD (10 R414, R417). -/
def execFlashNewPassword (r : Req) (pw : BitVec 64) (s : State) : Out :=
  .next (request s r K.protNewPassword 2 fun s =>
    writeEntry s r K.protNewPassword pw.toNat { state := whenCode (!sessionOpen s (.path r.path)) 0x0F00000B } fun s =>
      enqueueRun s 3 .sc2 5 [.password pw.toNat] (.reply r))

/-- PROTECT_MAP_WRITE (10 R412, R417). -/
def execProtectMapWrite (r : Req) (v : BitVec 64) (s : State) : Out :=
  .next (request s r K.protectMap 2 fun s =>
    writeEntry s r K.protectMap v.toNat { state := whenCode (!sessionOpen s (.path r.path)) 0x0F00000B } fun s =>
      enqueueRun s 3 .sc2 5 [.protectMap v.toNat] (.reply r))

/-- FLASH_SESSION_CLOSE (10 R413, R417). -/
def execFlashSessionClose (r : Req) (s : State) : Out :=
  .next (request s r K.protClose 2 fun s => writeEntry s r K.protClose 1 {} fun s => ok (closeSession s (.path r.path)) r)

/-! ## Ends of operations (10 R398, R400, R403) -/

/-- A page takes its data, or free values where its verify failed (10 R398). -/
def programPage (s : State) (k page : Nat) (data : List Byte) (good : Bool) : State :=
  let a := k * 0x40000 + page * 512
  let bs := if good then data else (List.range 512).map fun i => BitVec.ofNat 8 (Config.free (s.freeCtr + i))
  let s := if good then s else { s with freeCtr := s.freeCtr + 512 }
  (putArray s a bs).modFlBlock k fun b => { b with top := page + 1 }

/-- PROGRAM_DONE (10 R400, R401, R415). -/
def execProgramDone (b : Fin 4) (good : Bool) (s : State) : Out :=
  .next (
    match (s.flBank b).op with
    | some j =>
      (match j.op with
      | .program k page data =>
        endOp ((programPage s k page data good).bump K.flOperations 32) b j (if good then 0 else 2 ^ 18)
      | _ => s)
    | none => s)

/-- The block is erased and its info row written clean (10 R403 steps 3 and 4). -/
def eraseClean (s : State) (k : Nat) : State :=
  let t := if s.reg K.rtcValid = 1 then s.regN K.rtcSeconds else 0
  countIncomplete ((wipeBlock s k).modFlBlock k fun b =>
    { b with incomplete := false, seq := (b.seq + 1) % 2 ^ 32, lastErase := t, top := 0, due := false })

/-- ERASE_DONE (10 R398, R403). -/
def execEraseDone (b : Fin 4) (good : Bool) (s : State) : Out :=
  .next (
    match (s.flBank b).op with
    | some j =>
      (match j.op with
      | .erase k =>
        let s := (if good then eraseClean s k else s).bump K.flOperations 32
        let s := s.modFlBank b fun x => { x with asked := false, auto := false }
        endOp s b j (if good then 0 else 2 ^ 17)
      | _ => s)
    | none => s)

/-- INFO_ROW_WRITE_DONE (10 R397, R400, R412, R414): an info or protection write has been made, and its bank is idle. -/
def execInfoRowWriteDone (b : Fin 4) (s : State) : Out :=
  .next (
    match (s.flBank b).op with
    | some j =>
      (match j.op with
      | .protect k p => endOp (setProt s k p) b j 0
      | .protectMap v => endOp (forN 64 (fun s k => setProt s (192 + k) (v.testBit k)) s) b j 0
      | .password pw => endOp (s.modFlash fun x => { x with password := pw }) b j 0
      | _ => s)
    | none => s)

/-! ## Reads (10 R393, R398, R402, R409, R410) -/

/-- The first early-warning mark of a block after reset (10 R410). -/
def markEarly (s : State) (k : Nat) : State :=
  let s := s.modFlBlock k fun b => { b with due := true }
  if (s.flBlock k).ew then s
  else emcy ((s.modFlBlock k fun b => { b with ew := true }).bump K.flEwBlocks 16) 0xFF50 7 (k / 64) k

/-- A line of the array is read with `bad` bits in error: the code of 10 R402 and what it does. -/
def readLine (s : State) (k page bad : Nat) : State × Nat :=
  let inc := (s.flBlock k).incomplete
  let code := if inc then 15 else if bad ≤ 4 then bad else 14
  let s := s.modFlBlock k fun b => { b with maxCode := max b.maxCode code }
  let s := if code ≤ 4 then s.bumpBy K.flCorrected 32 code else s
  let s := if code = 14 then
      let s := s.bump K.flUncorrectable 32
      if (s.flBlock k).uncTold then s
      else emcy (s.modFlBlock k fun b => { b with uncTold := true }) 0xFF55 7 (k / 64) (k + 256 * page)
    else s
  let s := if code = 15 ∨ (s.reg K.flcEwThreshold ≤ code ∧ code ≤ 14) then markEarly s k else s
  (s, code)

/-- The fetches of 10 R407 that suspend an erase without a command. -/
def autoSuspends (m : FlashMaster) : Bool := m == .island || m == .sc0 || m == .sc1 || m == .sc3

/-- A service core's read of a firmware area is the execute path's; SC2, which reads every area as data, is left out
(DEDUCED, log execPath). -/
def executes (m : FlashMaster) (a : Nat) : Bool :=
  (m == .sc0 || m == .sc1 || m == .sc3) && decide (a < 0x4000000) && mayRead m a

/-- The line is in the prefetch buffer or the branch cache (10 R408). -/
def lineHeld (s : State) (l : Nat) : Bool := s.flash.ahead.contains l || s.flash.branch.contains l

/-- The execute path has fetched a line (10 R408): the line that follows the last one is a sequential line, any other a
branch target. A line that is held stays where it is; the buffer keeps its 4 latest lines, the cache the 32 used last. -/
def fetchLine (s : State) (l : Nat) : State :=
  s.modFlash fun x =>
    let next := x.fetched == some (l - 1) && l != 0
    if x.branch.contains l then { x with branch := l :: x.branch.erase l, fetched := some l }
    else if x.ahead.contains l then { x with fetched := some l }
    else if next then { x with ahead := (l :: x.ahead).take 4, fetched := some l }
    else { x with branch := (l :: x.branch).take 32, fetched := some l }

/-- A read of the window's 32 bytes at an address (10 R393, R394, R398). -/
def windowRead (s : State) (m : FlashMaster) (a bad : Nat) : State :=
  let k := a / 0x40000
  let b := k / 64
  let x := s.flBank b
  let put := fun (s : State) (line : List Byte) => s.modFlMaster m fun y => { y with line := line }
  if !mayRead m a then put s (zeros 32)
  else if a < 0x4000000 then
    if x.op.isSome && !autoSuspends m then put s ((List.replicate 8 (leBytes 4 (bankWord s m b))).flatten)
    else
      let s := if x.op.isSome then s.modFlBank b fun y => { y with auto := true } else s
      if (match x.susp with
        | some e => opBlock e.op == k
        | none => false) && !autoSuspends m then put s ((List.replicate 8 (leBytes 4 (bankWord s m b))).flatten)
      else if (s.flMaster m).info.contains k then put s (((infoRow s k).drop (a % 512 / 32 * 32)).take 32)
      else
        let r := readLine s k (a % 0x40000 / 512) bad
        put (r.1.modFlMaster m fun y => { y with corrected := r.2 }) (arrayBytes r.1 (a / 32 * 32) 32)
  else if a < 0x4001000 then put s (((calRow s).drop (a % 4096 / 32 * 32)).take 32)
  else put s ((leBytes 4 (s.flMaster m).status ++ leBytes 4 (s.flMaster m).corrected ++ zeros 24))

/-- FLASH_ARRAY_READ (10 R402, R408): the execute path takes a line it holds without a read of the array. -/
def execFlashArrayRead (m : FlashMaster) (addr : BitVec 32) (bad : Nat) (s : State) : Out :=
  .next (
    let a := addr.toNat
    if executes m a then
      fetchLine (if lineHeld s (a / 32) then s.modFlMaster m fun y => { y with line := arrayBytes s (a / 32 * 32) 32 }
        else windowRead s m a bad) (a / 32)
    else windowRead s m a bad)

/-! ## Refresh and finish (10 R409, R410) -/

/-- Blocks that SC2 refreshes (10 R410): slots, firmware areas, and the user area if the policy says so. -/
def refreshable (s : State) (k : Nat) : Bool :=
  decide (k < 176) || (decide (192 ≤ k) && s.reg K.flcAutoRefreshUser == 1)

/-- BLOCK_REFRESH (10 R410): a marked block of an idle bank, copied away, erased and programmed back; protection and
program order stay. -/
def execBlockRefresh (k : BitVec 8) (s : State) : Out :=
  .next (
    let i := k.toNat
    let x := s.flBank (i / 64)
    let b := s.flBlock i
    if b.due && refreshable s i && x.op.isNone && x.susp.isNone then
      let s := beginErase (dropLines s i) i
      let t := if s.reg K.rtcValid = 1 then s.regN K.rtcSeconds else 0
      countIncomplete (s.modFlBlock i fun y =>
        { y with
          incomplete := false, seq := (y.seq + 1) % 2 ^ 32, lastErase := t, refreshes := (y.refreshes + 1) % 2 ^ 32, due := false })
    else s)

/-- AUTO_FINISH_ERASE (10 R409): after release, with AUTO_FINISH 1, at rank 4. -/
def execAutoFinishErase (k : BitVec 8) (s : State) : Out :=
  .next (
    let i := k.toNat
    if s.released && s.reg K.flcAutoFinish == 1 && (s.flBlock i).incomplete && (decide (i < 176) || decide (192 ≤ i)) then
      enqueueRun s (i / 64) .sc2 4 [.erase i] .none
    else s)

/-! ## The user area (10 R419, R420) -/

/-- The offset of a transfer: the request's over tags, USER_OFFSET over SDO and CoE. -/
def userFrom (s : State) (r : Req) (offset : Nat) : Nat :=
  match r.org with
  | .tag _ => offset
  | _ => (s.path r.path).userOffset

def userAdvance (s : State) (r : Req) (n : Nat) : State :=
  match r.org with
  | .tag _ => s
  | _ => s.modPath r.path fun p => { p with userOffset := (p.userOffset + n) % 2 ^ 32 }

def userOffCode (s : State) : Option Nat := whenCode (s.reg K.userEnable != 1) 0x0F000011

/-- The pages of a user-area write. -/
def userPages (o : Nat) (data : List Byte) : List FlOp :=
  (List.range (data.length / 512)).map fun i =>
    let p := o / 512 + i
    .program (192 + p / 512) (p % 512) ((data.drop (512 * i)).take 512)

def userWrite (r : Req) (offset : Nat) (data : List Byte) (s : State) : State :=
  let o := userFrom s r offset
  writeBytes s r K.userData data
    { state := userOffCode s, set := whenCode (o % 512 != 0 || data.length % 512 != 0 || decide (0x1000000 < o + data.length)) 0x06090030 }
    fun s =>
      let s := userAdvance s r data.length
      if data = [] then ok s r else enqueueRun s 3 .sc2 5 (userPages o data) (.user r)

/-- USER_DATA_WRITE (10 R419, R420). -/
def execUserDataWrite (r : Req) (offset : BitVec 32) (data : List Byte) (s : State) : Out :=
  .next (request s r K.userData 4 (userWrite r offset.toNat data))

/-- Bytes of the user area: as many as asked, at most 4,096, and no further than its end (02 R44). -/
def userRead (r : Req) (offset length : Nat) (s : State) : State :=
  let o := userFrom s r offset
  if s.mode = .run ∧ s.reg K.userEnable ≠ 1 then refuse s r 0x0F000011
  else if 0x1000000 < o then refuse s r 0x06090030
  else
    let n := min (if length = 0 then 4096 else min length 4096) (0x1000000 - o)
    reply (userAdvance s r n) r 0 (arrayBytes s (0x3000000 + o) n)

/-- USER_DATA_READ (10 R419). -/
def execUserDataRead (r : Req) (offset : BitVec 32) (length : Nat) (s : State) : Out :=
  .next (request s r K.userData 3 (userRead r offset.toNat length))

/-- USER_ERASE (10 R419). -/
def execUserErase (r : Req) (v : BitVec 8) (s : State) : Out :=
  .next (request s r K.userErase 2 fun s =>
    writeEntry s r K.userErase v.toNat { state := userOffCode s } fun s =>
      enqueueRun s 3 .sc2 5 [.erase (192 + v.toNat)] (.user r))

def isUser (j : FlJob) : Bool :=
  match j.fin with
  | .user _ => true
  | _ => false

/-- The abort form (10 R420): what is queued or suspended ends, a running program finishes, and a running erase stops at
its next suspend point. -/
def abortUser (s : State) : State :=
  let x := s.flBank 3
  let running := x.op.map (·.run)
  let gone := (x.queue.filter fun j => isUser j && j.last && running != some j.run) ++ x.susp.toList.filter isUser
  let s := s.modFlBank 3 fun x =>
    { x with
      queue := x.queue.filter fun j => !isUser j, susp := x.susp.filter fun j => !isUser j,
      op := x.op.map fun j => if isUser j then (match j.op with
        | .erase _ => { j with abort := true }
        | .program .. => { j with abort := !j.last, last := true }
        | _ => j) else j }
  pumpBank (gone.foldl (fun s j => finishRun s j.fin 0x0F000002) s) 3

/-- USER_ENABLE written (02 R79 to R82; 10 R420). -/
def userEnableWrite (r : Req) (v : Nat) (s : State) : State :=
  let e := s.reg K.userEnable
  writeEntry s r K.userEnable v { state := whenCode (v == 1 && decide (3 ≤ e)) 0x08000022 } fun s =>
    if v = 1 then ok (s.setReg K.userEnable 1) r
    else if e = 0 then ok s r
    else
      let s := await (s.setReg K.userEnable (if v = 2 ∨ e = 4 then 4 else 3)) (.disable .user) r
      userDrained (if v = 2 ∧ e ≠ 4 then abortUser s else s)

end Sys2Proof.Machine
end

