-- ==== Sys2Proof/Machine/Ingots.lean ====
section
/-! DEFINITION. The configuration engine: loading, fallback, staging, cutover, promotion and partial images (spec/09). -/

namespace Sys2Proof.Machine

/-! ## PLL outputs as region clocks (09 R348; 15 R546, R548) -/

/-- A PLL output serves a region: one that counts as loaded, or waits for its release. -/
def outServes (s : State) (c except : Nat) : Bool :=
  (List.range 16).any fun r => r != except && (s.fab.loaded.testBit r || s.fab.written.testBit r) && s.reg (K.regionClockSource r) == c

/-- A frequency in kHz lies within 1 in `n` of another. -/
def within (n a b : Nat) : Bool := decide ((a - b + (b - a)) * n ≤ b)

/-- Cause 13 of 09 R346: the clock of a region, with `kHz` measured where the source is a pin; the divider is set where
the output serves no other region. None if the source cannot give REGION_FREQ. -/
def takeClock (s : State) (b : List Byte) (r kHz : Nat) : Option State :=
  let c := slClock b r
  let f := slFreq b r
  let out := s.setReg (K.regionClockSource r) c
  if clockLimit (slRailMin b (r / 4)) < f then none
  else if 0x80 ≤ c then (if within 100 kHz f then some out else none)
  else
    let p := c / 8
    let o := c % 8
    let vco := 1000 * s.regN (K.pllVcoInUse p)
    let d := if outServes s c r then s.regN (K.pllOut0Div p + o) else (2 * vco + f) / (2 * f)
    if o < (sysOuts p).length ∨ d = 0 ∨ 512 < d then none
    else if within 1000 vco (f * d) then some (out.setRegs [(K.pllOut0Div p + o, d), (K.pllOut0En p + o, 1)]) else none

/-! ## The load's steps -/

def State.modLoad (s : State) (f : LoadSt → LoadSt) : State := s.modFab fun x => { x with load := x.load.map f }

/-- The next region gets its rail, or is shown as loading (R347, R350). -/
def prepare (s : State) : State :=
  match s.fab.load with
  | some l =>
    if l.begun ∧ l.rail.isNone then
      match l.order with
      | r :: _ =>
        let q := r / 4
        if railSet s q < slRailMin l.slate q ∧ !l.railBad then
          if railPresent s q then startRail (s.modLoad fun l => { l with rail := some q }) q (slRailMin l.slate q) true
          else (s.setReg (K.railVccq0Set + q) (slRailMin l.slate q)).setReg (K.regionState r) 1
        else s.setReg (K.regionState r) 1
      | [] => s
    else s
  | none => s

/-- The running ingot changes: seams and declarations follow its slate (R321, R335). -/
def takeSlate (s : State) (b : List Byte) : State :=
  let s := s.modFab fun x => { x with slate := b, objects := slDecls b, changed := 0 }
  forN 24 (fun s k => s.setReg (K.seamRequested k) (slSeam b k)) s

/-- INGOT STATUS shows the ingot of a slot (R359). -/
def showRunning (s : State) (slot : Nat) : State :=
  s.setRegs [(K.ingotRunningSlot, slot), (K.ingotRunningId, slId s.fab.slate), (K.ingotRunningVersion, slVersion s.fab.slate)]

/-- The own load has ended at power-up: the CFG_DONE driver is released and the done condition waited for (R350 step 5,
R383). -/
def loadEnd (s : State) : State :=
  let s := s.setReg K.cfgDoneLine (setBitTo (s.regN K.cfgDoneLine) 1 true)
  if s.reg K.ingotReleaseState = 0 then s.setReg K.ingotReleaseState 1 else s

/-- Pins keep the hold states of the last slate whose signature verified (R357). -/
def keepHolds (s : State) : State := if s.fab.signedHold = [] then s else s.modFab fun x => { x with hold := x.signedHold }

/-- No ingot can be loaded (R357): the device runs with its fabric unloaded; at power-up it goes on to its release. -/
def noFabric (s : State) (atStart : Bool) : State :=
  let m := maskOr s.fab.loaded s.fab.written
  let s := startUnload (keepHolds s) m
  let s := s.setRegs [(K.ingotRunningSlot, 0xFF), (K.ingotRunningId, 0), (K.ingotRunningVersion, 0)]
  let s := s.modFab fun x => { x with drop := maskOr x.drop m, objects := [], slate := [] }
  let s := forN 24 (fun s k => s.setReg (K.seamRequested k) 0) s
  if atStart then loadEnd (s.modFab fun x => { x with load := none })
  else s.modLoad fun l => { l with purpose := .backGolden, order := [], unload := 0, rail := none, begun := true }

/-- The hold states of a slate take effect, as far as 09 R349 and R357 allow. -/
def takeHolds (s : State) (b : List Byte) (cause : Nat) : State :=
  s.modFab fun x =>
    { x with
      signedHold := if slateSigned cause then slPins b else x.signedHold,
      hold := if cause = 0 then slPins b else x.hold }

/-- A load from a slot begins with the regions it has to unload. The regions that are unusable are left out of the golden
ingot (08 R302). -/
def startLoad (s : State) (purpose : LoadFor) (slot : Nat) (b : List Byte) : State :=
  let m := maskOr s.fab.loaded s.fab.written
  let order := if slot = 0 then (slOrder b).filter fun r => !regionUnusable s r else slOrder b
  startUnload (s.modFab fun x => { x with load := some ⟨purpose, slot, b, m, order, none, false, false⟩ }) m

/-- The golden ingot is taken, from step 3 of R350 (R356, R357). -/
def loadGolden (s : State) (atStart : Bool) : State :=
  let b := slotSlate s 0
  let c := if unreadable s 0 4096 then 16 else slateCause s 0 b
  let s := takeHolds s b c
  if c = 0 then startLoad s (if atStart then .golden else .backGolden) 0 b
  else noFabric (emcy s 0xFF46 7 0xFF c) atStart

/-- R356: an ingot has failed; the golden one follows. -/
def fallBack (s : State) (atStart : Bool) (slot c r i : Nat) : State :=
  let s := if atStart then s.setRegs [(K.ingotFallbackCause, c), (K.ingotFallbackSlot, slot), (K.ingotFallbackWhere, 256 * r + i)] else s
  loadGolden (emcy s 0xFF40 7 r (c + 2 ^ 8 * slot + 2 ^ 16 * r + 2 ^ 24 * i)) atStart

/-- The golden slot is checked from its slate (R361). -/
def checkGolden (s : State) : State :=
  let b := slotSlate s 0
  let c := if unreadable s 0 4096 then 16 else slateCause s 0 b
  let st := s.regN (K.slotState 0)
  let s := if c ≠ 0 then (showSlot s 0 c).setReg (K.slotState 0) (if c = 1 then 0 else 5) else if st = 4 then showSlot s 0 0 else s
  if s.reg (K.slotState 0) = 4 then s else emcy s 0xFF47 7 0xFF (s.regN (K.slotResult 0))

/-- Step 3 of R350: the directory and the slates are read. What may be loaded depends on the lifecycle state (17 R603). -/
def bootLoad (s : State) : State :=
  let s := checkGolden s
  let st := lifeState s
  if st = 4 then
    let slot := slotOf s 1
    let b := slotSlate s slot
    let c := if unreadable s (slotBase slot) 4096 then 16 else slateCause s slot b
    let s := takeHolds s b c
    if c = 0 then startLoad s .powerUp slot b else fallBack s true slot c 0xFF 0xFF
  else if st = 3 ∧ (ownerRec s).isSome then loadGolden s true
  else noFabric s true

/-- R370: the former ingot is loaded again; if that cannot be, the golden one (R356). -/
def loadBack (s : State) : State :=
  let slot := slotOf s 1
  let b := slotSlate s slot
  let c := if unreadable s (slotBase slot) 4096 then 16 else slateCause s slot b
  let s := takeHolds s b c
  if c = 0 then startLoad s .back slot b else fallBack s false slot c 0xFF 0xFF

/-- A partial stream ends with a cause; regions that have been unloaded stay so (R377). -/
def partialEnd (s : State) (c r : Nat) (unloaded : Bool) : State :=
  let s := s.setRegs [(K.fcpResult, c), (K.fcpState, 0)]
  let s := s.modFab fun x => { x with fcp := none }
  if unloaded then
    let m := match s.fab.load with
      | some l => slMap l.slate
      | none => 0
    emcy (startUnload (s.modFab fun x => { x with load := none, drop := maskOr x.drop m }) m) 0xFF43 7 r c
  else s

/-- A load fails with a cause at a region and bundle (R346, R356, R357, R370, R377). -/
def loadFailed (s : State) (l : LoadSt) (c r i : Nat) : State :=
  match l.purpose with
  | .powerUp => fallBack s true l.slot c r i
  | .golden => noFabric (emcy s 0xFF46 7 r c) true
  | .cutover => loadBack ((s.setReg (K.slotState l.slot) 5).setReg (K.slotResult l.slot) c |>.modFab fun x => { x with cutCause := c })
  | .back => fallBack s false l.slot c r i
  | .backGolden => noFabric (emcy s 0xFF46 7 r c) false
  | .reload =>
    let m := (l.order.map regionMask).sum
    let s := emcy (startUnload (s.modFab fun x => { x with load := none, drop := maskOr x.drop m }) m) 0xFF43 7 r c
    completeAll s .reload (causeAbort c) []
  | .partialImage => partialEnd s c r true

/-- The last region of a load is in (R350 steps 5 and 6, R368 step 4, R375 step 4). -/
def loadDone (s : State) (l : LoadSt) : State :=
  match l.purpose with
  | .powerUp => loadEnd ((showRunning s l.slot).modFab fun x => { x with load := none })
  | .golden => loadEnd ((showRunning s l.slot).modFab fun x => { x with load := none })
  | .cutover => releaseAll (showRunning s l.slot)
  | .back => releaseAll (showRunning s l.slot)
  | .backGolden => releaseAll (showRunning s l.slot)
  | .reload => completeAll (s.modFab fun x => { x with load := none }) .reload 0 []
  | .partialImage =>
    let s := s.setRegs [(K.ingotRunningVersion, slVersion l.slate), (K.fcpResult, 0), (K.fcpState, 0)]
    s.modFab fun x => { x with load := none, fcp := none, changed := maskOr x.changed (slMap l.slate) }

/-- The regions to unload are unloaded: the new ingot is the running one from here on. -/
def unloadedStep (s : State) (l : LoadSt) : State :=
  let s := s.modLoad fun l => { l with unload := 0, begun := true }
  match l.purpose with
  | .reload => s
  | .partialImage =>
    let mine := (slDecls l.slate).filter fun d => (slMap l.slate).testBit (hostRegion d.port)
    s.modFab fun x => { x with objects := (x.objects.filter fun d => !(slMap l.slate).testBit (hostRegion d.port)) ++ mine }
  | .cutover => takeSlate (s.setReg K.cutoverState 3) l.slate
  | .powerUp => takeSlate s l.slate
  | .golden => takeSlate s l.slate
  | .back => takeSlate s l.slate
  | .backGolden => takeSlate s l.slate

/-! ## A partial image as it arrives (R375) -/

/-- The bundles of the partial image that have arrived whole are checked in their order (R341, R346, R375 step 3). -/
def fcpBundles (s : State) (l : LoadSt) (f : FcpSt) : State :=
  let table := (f.buf.drop 4096).take 8192
  let have' := min ((f.buf.length - 12288) / 32768) (22 * popCount (slMap l.slate) 16)
  if f.buf.length < 12288 then s
  else if !tagDigestOk l.slate table then partialEnd s 10 0xFF true
  else
    match l.order with
    | [] => s
    | r :: _ =>
      if regionUnusable s r then partialEnd s 11 r true
      else if l.railBad then partialEnd s 12 r true
      else
        let bad := ((List.range have').drop f.bundles).foldl (fun acc n =>
          if acc.2 ≠ 0 then acc
          else
            let r := (bitsOf (slMap l.slate) 16).getD (n / 22) 0
            (r, bundleCause s l.slate table r (n % 22) ((f.buf.drop (12288 + 32768 * n)).take 32768))) (0xFF, 0)
        if bad.2 ≠ 0 then partialEnd s bad.2 bad.1 true
        else s.modFab fun x => { x with fcp := some { f with bundles := have' } }

/-- The stream goes on as far as its bytes allow: the slate first (R375 steps 1 and 2), then the bundles. -/
def fcpAdvance (s : State) : State :=
  match s.fab.fcp with
  | none => s
  | some f =>
    if !f.checked then
      if f.buf.length < 4096 then s
      else
        let b := f.buf.take 4096
        let c := partialCause s b
        if c ≠ 0 then partialEnd s c 0xFF false
        else
          let own := fun (p : Byte × Byte) => if p.1.toNat % 16 ≠ 15 ∧ (slMap b).testBit (p.1.toNat / 16) = true then p.1 else p.2
          let s := s.modFab fun x =>
            { x with
              fcp := some { f with checked := true },
              load := some ⟨.partialImage, 0xFF, b, maskOr x.loaded 0 &&& slMap b, slOrder b, none, false, false⟩,
              hold := ((slPins b).zip (x.hold ++ zeros 448)).map own }
          startUnload (s.setReg K.fcpState 3) (slMap b)
    else
      match s.fab.load with
      | some l => if l.purpose = .partialImage ∧ l.begun ∧ l.rail.isNone then fcpBundles s l f else s
      | none => s

/-- The engine goes on after a port has reached state 0, a rail has settled, or data have arrived: regions whose ports are
disabled are unloaded, the load takes its next step, and a load of no region ends. -/
def pumpLoad (s : State) : State :=
  let s := if s.fab.drop ≠ 0 ∧ unloadReady s s.fab.drop = true then
      dropRegions (s.modFab fun x => { x with drop := 0 }) s.fab.drop else s
  let step := fun (s : State) =>
    match s.fab.load with
    | none => s
    | some l =>
      let s := if l.unload ≠ 0 then (if unloadReady s l.unload then unloadedStep (dropRegions s l.unload) l else s)
        else if l.begun then s else unloadedStep s l
      match s.fab.load with
      | none => s
      | some l =>
        let open' := l.purpose == .cutover || l.purpose == .back || l.purpose == .backGolden
        if l.begun ∧ l.order = [] ∧ open' = false then loadDone s l else prepare s
  step (fcpAdvance (step (fcpAdvance s)))

/-- A region's last bundle is written (R350, R375): it is released at once if it is early, or if its load is a partial one
or a reload. -/
def regionWritten (s : State) (l : LoadSt) (r kHz : Nat) (uses : Bool) : State :=
  let s := s.modFab fun x => { x with written := setBitTo x.written r true, uses := setBitTo x.uses r uses }
  let s := (s.setReg (K.regionClockFreq r) kHz).modLoad fun l => { l with order := l.order.drop 1 }
  let now := (slEarly l.slate).testBit r || l.purpose == .reload || l.purpose == .partialImage
  let s := if now then releaseRegion s r else s
  let s := if l.purpose = .reload then s.modFab fun x => { x with changed := setBitTo x.changed r false } else s
  if l.order.drop 1 = [] then loadDone s l else prepare s

/-- REGION_LOADED (R341, R346 to R348, R350): the next region of the load, with its clock as measured in kHz, the bundle at
which the flash could not be read, and whether the ingot uses the region's port. -/
def execRegionLoaded (kHz : Nat) (bad : Option (Fin 22)) (uses : Bool) (s : State) : Out :=
  .next (
    match s.fab.load with
    | none => s
    | some l =>
      match l.order with
      | [] => s
      | r :: _ =>
        if !l.begun ∨ l.rail.isSome then s
        else if keyMissing s l.slate then pumpLoad (loadFailed s l 8 r 0xFF)
        else if l.purpose = .partialImage then
          match s.fab.fcp with
          | none => s
          | some f =>
            if f.bundles < 22 * (regionRank l.slate r + 1) then s
            else
              match takeClock s l.slate r kHz with
              | none => partialEnd s 13 r true
              | some t => pumpLoad (regionWritten t l r kHz uses)
        else if !tagDigestOk l.slate (slotTable s l.slot) then pumpLoad (loadFailed s l 10 0xFF 0xFF)
        else if regionUnusable s r then pumpLoad (loadFailed s l 11 r 0xFF)
        else if l.railBad then pumpLoad (loadFailed s l 12 r 0xFF)
        else
          match takeClock s l.slate r kHz with
          | none => pumpLoad (loadFailed s l 13 r 0xFF)
          | some t =>
            let c := regionCause s l.slot l.slate r
            let c := match bad with
              | some i => if c.1 = 0 ∨ i.val ≤ c.2 then (16, i.val) else c
              | none => c
            if c.1 ≠ 0 then pumpLoad (loadFailed s l c.1 r c.2)
            else pumpLoad (regionWritten t l r kHz uses))

/-! ## Collisions (R386) -/

def cutting (s : State) : Bool := s.reg K.cutoverState == 1 || s.reg K.cutoverState == 2 || s.reg K.cutoverState == 3

def loading (s : State) : Bool := s.fab.load.isSome

/-! ## Staging (R362 to R365) -/

/-- STAGE_COMMAND 1: the staging slot is claimed for a path and erased. -/
def stageOpen (r : Req) (s : State) : State :=
  let slot := slotOf s 2
  let own := s.regN K.stageOwner
  let st := s.regN (K.slotState slot)
  writeEntry s r K.stageCommand 1
    { state := whenCode ((own != 0 && own != pathNo r.path) || cutting s || s.fab.promote || st == 1 || st == 3) 0x08000022 } fun s =>
    let s := s.setRegs [(K.stageOwner, pathNo r.path), (K.slotState slot, 1), (K.stageWritten, 0)]
    enqueueRun (await s .stageOpen r) slot .sc2 4 (slotErases slot) (.stageOpen slot)

def execStageOpen (r : Req) (s : State) : Out := .next (request s r K.stageCommand 2 (stageOpen r))

/-- A slot is verified in full and its claim ends (R365). -/
def verifySlot (s : State) (slot : Nat) : State × Nat :=
  let c := imageCause s slot
  ((showSlot s slot c).setReg (K.slotState slot) (if c = 0 then 4 else 5), c)

/-- IMAGE_VERIFY_DONE (R365, R373, R381): the read-through of a closed, broadcast or promoted image ends; the slot is
verified or invalid, its claim ends, and what waits for it completes. -/
def execImageVerifyDone (slot : Fin 3) (s : State) : Out :=
  .next (if s.reg (K.slotState slot) = 3 then
    let t := verifySlot s slot
    let s := t.1
    if slot = 0 ∧ s.fab.promote = true then
      completeAll (s.modFab fun x => { x with promote := false }) .promote (causeAbort t.2) []
    else
      let s := s.modFab fun x => if x.cfgSlot = some slot.val then { x with cfgSlot := none, cfgCount := 0 } else x
      completeAll (if slot = 0 then s else s.setReg K.stageOwner 0) .stageClose (causeAbort t.2) []
   else s)

/-- Nothing of the staging slot is in the flash queues. -/
def stageIdle (s : State) (slot : Nat) : Bool :=
  let x := s.flBank slot
  (x.op.toList ++ x.susp.toList ++ x.queue).all fun j => match j.fin with
    | .stageData .. => false
    | .stageOpen _ => false
    | _ => true

/-- STAGE_COMMAND 2. -/
def stageClose (r : Req) (s : State) : State :=
  let slot := slotOf s 2
  writeEntry s r K.stageCommand 2
    { state := whenCode (s.regN K.stageOwner != pathNo r.path || s.reg (K.slotState slot) == 1 || s.reg (K.slotState slot) == 3
        || !stageIdle s slot) 0x08000022 } fun s =>
    await (s.setReg (K.slotState slot) 3) .stageClose r

def execStageClose (r : Req) (s : State) : Out := .next (request s r K.stageCommand 2 (stageClose r))

def isStage (j : FlJob) : Bool :=
  match j.fin with
  | .stageData .. => true
  | .stageOpen _ => true
  | _ => false

/-- STAGE_COMMAND 3: what is queued for the slot ends; an operation that runs finishes. -/
def stageDiscard (r : Req) (s : State) : State :=
  let slot := slotOf s 2
  writeEntry s r K.stageCommand 3 { state := whenCode (s.regN K.stageOwner != pathNo r.path || cutting s) 0x08000022 } fun s =>
    let x := s.flBank slot
    let ends := (x.op.toList ++ x.queue).filter fun j => isStage j && j.last
    let s := s.modFlBank slot fun x =>
      { x with
        queue := x.queue.filter fun j => !isStage j,
        op := x.op.map fun j => if isStage j then { j with fin := .none, last := true } else j }
    let s := ends.foldl (fun s j => match j.fin with
      | .stageData _ _ (some q) => refuse s q 0x0F000002
      | _ => s) (completeAll (completeAll s .stageOpen 0x0F000002 []) .stageClose 0x0F000002 [])
    ok (s.setRegs [(K.stageOwner, 0), (K.slotState slot, 5)]) r

def execStageDiscard (r : Req) (s : State) : Out := .next (request s r K.stageCommand 2 (stageDiscard r))

/-- STAGE_DATA (R364): over SDO and CoE the bytes go on at STAGE_WRITTEN. -/
def stageData (r : Req) (offset : Nat) (data : List Byte) (s : State) : State :=
  let slot := slotOf s 2
  let w := s.regN K.stageWritten
  let o := match r.org with
    | .tag _ => offset
    | _ => w
  writeBytes s r K.stageData data
    { state := whenCode (s.regN K.stageOwner != pathNo r.path || s.reg (K.slotState slot) != 2) 0x08000022,
      set := whenCode (o != w || data.length % 512 != 0 || decide (0xC00000 < w + data.length) || !stageIdle s slot) 0x06090030 } fun s =>
    if data = [] then ok s r
    else enqueueRun s slot .sc2 4 (pageOps (slotBase slot + w) data) (.stageData slot data.length (some r))

def execStageData (r : Req) (offset : BitVec 32) (data : List Byte) (s : State) : Out :=
  .next (request s r K.stageData 4 (stageData r offset.toNat data))

/-! ## Cutover (R367 to R372) -/

/-- CUTOVER 1 or 2. -/
def cutoverStart (r : Req) (how : Nat) (s : State) : State :=
  let slot := slotOf s 2
  writeEntry s r K.cutover how
    { state := whenCode (s.reg (K.slotState slot) != 4 || s.fab.fcp.isSome || s.fab.promote || cutting s || loading s) 0x08000022 } fun s =>
    let c := slateCause s slot (slotSlate s slot)
    if c ≠ 0 then refuse (s.setReg (K.slotResult slot) c) r (causeAbort c)
    else
      let s := s.setRegs [(K.slotState slot, 6), (K.cutoverState, 1)]
      await (s.modFab fun x => { x with cut := how }) .cutover r

def execCutoverNextTick (r : Req) (s : State) : Out := .next (request s r K.cutover 2 (cutoverStart r 1))
def execCutoverAtTime (r : Req) (s : State) : Out := .next (request s r K.cutover 2 (cutoverStart r 2))

/-- CUTOVER 0. -/
def cutoverCancel (r : Req) (s : State) : State :=
  let st := s.reg K.cutoverState
  writeEntry s r K.cutover 0 { state := whenCode (st == 2 || st == 3) 0x08000022 } fun s =>
    if st = 1 then
      let s := s.setRegs [(K.slotState (slotOf s 2), 4), (K.cutoverState, 0)]
      ok (completeAll (s.modFab fun x => { x with cut := 0 }) .cutover 0x0F000003 []) r
    else ok s r

def execCutoverCancel (r : Req) (s : State) : Out := .next (request s r K.cutover 2 (cutoverCancel r))

/-- CUTOVER_BEGIN (R368 steps 1 and 2): the chosen output instant of a pending cutover. -/
def execCutoverBegin (s : State) : Out :=
  .next (if s.reg K.cutoverState = 1 ∧ (s.fab.cut = 1 ∨ s.regN K.cutoverAt ≤ s.regN K.linkCellTime) then
    let slot := slotOf s 2
    let b := slotSlate s slot
    let s := takeHolds (s.setReg K.cutoverState 2) b 0
    pumpLoad (startLoad (s.modFab fun x => { x with cut := 0 }) .cutover slot b)
   else s)

/-- CUTOVER_DONE (R368 step 5, R369, R370): the roles are swapped, or the way back has ended. -/
def execCutoverDone (s : State) : Out :=
  .next (
    match s.fab.load with
    | none => s
    | some l =>
      if !l.begun ∨ l.order ≠ [] then s
      else
        let s' := s.modFab fun x => { x with load := none }
        match l.purpose with
        | .cutover =>
          let old := slotOf s 1
          let s := showRunning (releaseAll s') l.slot
          let keep := decide (s.regN K.cutRollbackFloor ≤ s.regN (K.slotRollback old))
          let s := s.setRegs [(K.slotRole l.slot, 1), (K.slotRole old, 2), (K.slotState l.slot, 4), (K.slotState old, if keep then 4 else 5),
            (K.cutoverState, 4)]
          completeAll s .cutover 0 []
        | .back =>
          let s := emcy (showRunning (releaseAll s') l.slot) 0xFF45 7 0xFF s.fab.cutCause
          completeAll (s.setReg K.cutoverState 5) .cutover 0x08000000 []
        | .backGolden => completeAll ((releaseAll s').setReg K.cutoverState 6) .cutover 0x08000000 []
        | .powerUp => s
        | .golden => s
        | .reload => s
        | .partialImage => s)

/-! ## Promotion and the rollback floor (R345, R373) -/

/-- PROMOTE_GOLDEN. -/
def promoteGolden (r : Req) (s : State) : State :=
  let st := slotOf s 2
  let b := slotSlate s st
  let fit := s.reg (K.slotState st) == 4 && (slFlags b).testBit 1 && slKey b == 0 && s.reg (K.slotState (slotOf s 1)) == 4
  writeEntry s r K.cutPromoteGolden 1
    { state := whenCode (!fit || cutting s || s.fab.promote || s.fab.cfgSlot == some 0) 0x08000022 } fun s =>
    let s := (s.setReg (K.slotState 0) 7).modFab fun x => { x with promote := true }
    enqueueRun (await s .promote r) 0 .sc2 4 (slotErases 0) .promoteErase

def execPromoteGolden (r : Req) (s : State) : Out := .next (request s r K.cutPromoteGolden 2 (promoteGolden r))

/-- ROLLBACK_COMMIT (R345). -/
def execRollbackCommit (r : Req) (v : BitVec 32) (s : State) : Out :=
  .next (request s r K.cutRollbackCommit 2 fun s =>
    let v := v.toNat
    let golden := if s.reg (K.slotState 0) = 4 then s.regN (K.slotRollback 0) else 0
    writeEntry s r K.cutRollbackCommit v { set := whenCode (decide (slRollback s.fab.slate < v) || decide (golden < v)) 0x06090031 } fun s =>
      if s.regN K.cutRollbackFloor < v then storeOk r K.cutRollbackFloor v s else ok s r)

/-! ## Partial streams and reload (R375 to R377) -/

/-- The stream takes bytes of a source (0 the fabric, else a host path). -/
def fcpTake (s : State) (src : Nat) (data : List Byte) : State :=
  let f := match s.fab.fcp with
    | some f => { f with buf := f.buf ++ data }
    | none => { src := src, buf := data }
  let s := if s.fab.fcp.isNone then s.setReg K.fcpState (if src = 0 then 2 else 1) else s
  pumpLoad (s.modFab fun x => { x with fcp := some f })

/-- FCP_STREAM_DATA of a host path: ascending OFFSET from 0, whole multiples of 512 bytes (R364, R375, R376). -/
def fcpHost (r : Req) (offset : Nat) (data : List Byte) (s : State) : State :=
  let have' := match s.fab.fcp with
    | some f => f.buf.length
    | none => 0
  let other := match s.fab.fcp with
    | some f => f.src != pathNo r.path
    | none => loading s
  let o := match r.org with
    | .tag _ => offset
    | _ => have'
  writeBytes s r K.fcpStream data
    { state := whenCode (other || cutting s) 0x08000022, set := whenCode (o != have' || data.length % 512 != 0) 0x06090030 } fun s =>
    if data = [] then ok s r
    else
      let t := fcpTake s (pathNo r.path) data
      if t.fab.fcp.isNone && t.reg K.fcpResult != 0 then refuse t r (causeAbort (t.regN K.fcpResult)) else ok t r

/-- FCP_STREAM_DATA (R375): of a host path, or of the region that the running ingot names as its FCP master. -/
def execFcpStreamData (src : FcpSource) (offset : BitVec 32) (data : List Byte) (s : State) : Out :=
  .next (
    match src with
    | .host r => request s r K.fcpStream 4 (fcpHost r offset.toNat data)
    | .fabric region =>
      let mine := match s.fab.fcp with
        | some f => f.src == 0
        | none => !loading s
      if slFcpMaster s.fab.slate = region.val ∧ regionLoaded s region = true ∧ mine = true ∧ cutting s = false then fcpTake s 0 data else s)

/-- FCP_STALLED (R377): no data for 100 ms. -/
def execFcpStalled (s : State) : Out :=
  .next (
    match s.fab.fcp with
    | none => s
    | some f => pumpLoad (partialEnd s 19 (match s.fab.load with
      | some l => l.order.headD 0xFF
      | none => 0xFF) f.checked))

/-- RELOAD (R377). -/
def reload (r : Req) (m : Nat) (s : State) : State :=
  let slot := slotOf s 1
  let b := slotSlate s slot
  let stale := s.regN K.ingotRunningVersion != slVersion b && (s.fab.changed &&& m) != 0
  writeEntry s r K.fcpReload m
    { state := whenCode (stale || cutting s || loading s || s.fab.fcp.isSome) 0x08000022, set := whenCode (clearMask m (slMap b) != 0) 0x06090030 } fun s =>
    if m = 0 then ok s r
    else
      let c := slateCause s slot b
      if c ≠ 0 then refuse s r (causeAbort c)
      else
        let l : LoadSt := ⟨.reload, slot, b, m, (slOrder b).filter m.testBit, none, false, false⟩
        pumpLoad (startUnload (await (s.modFab fun x => { x with load := some l }) .reload r) m)

def execReload (r : Req) (m : BitVec 16) (s : State) : Out := .next (request s r K.fcpReload 2 (reload r m.toNat))

/-! ## The CFG port (R379 to R382) -/

/-- What a section is to this device (R380, R381): broken, of another device, or its own. -/
inductive SectionFor where
  | broken | other | own
deriving DecidableEq, Repr

def sectionFor (s : State) (x : List Byte) : SectionFor :=
  let n := leAt x 28 4
  if x.length ≠ 36 + n ∨ leAt x 0 4 ≠ 0x21474643 ∨ leAt x (32 + n) 4 ≠ crc32c (x.take (32 + n)) then .broken
  else
    let mode := byteOf x 5
    if mode = 0 ∨ (mode = 1 ∧ byteOf x 6 = s.regN K.cfgId) ∨ (mode = 2 ∧ (x.drop 8).take 16 = (s.blob K.unitUid ++ zeros 16).take 16) then .own
    else .other

/-- The port is served in every state but SAFE (R379). -/
def cfgServed (s : State) : Bool := decide (s.mode ≠ .safe)

/-- A section is discarded (R381): a DATA section makes the slot that the port holds invalid. -/
def cfgDiscard (s : State) (data : Bool) : State :=
  let s := s.bump K.cfgErrors 32
  match s.fab.cfgSlot with
  | some slot => if data then s.setReg (K.slotState slot) 5 else s
  | none => s

/-- The slot a section names: 0 the golden slot, else the staging slot. -/
def cfgTarget (s : State) (x : List Byte) : Nat := if byteOf x 7 = 1 then 0 else slotOf s 2

/-- A CFG section as a command: `kind` is the KIND the row stands for; `ok` says whether R363, R364 and R381 admit it. -/
def cfgSection (s : State) (x : List Byte) (kind : Nat) (fits : State → Bool) (k : State → State) : State :=
  if !cfgServed s then s
  else
    match sectionFor s x with
    | .broken => cfgDiscard s (kind == 3 - 1)
    | .other => s
    | .own => if byteOf x 4 = kind ∧ fits s = true then k (s.bump K.cfgSections 32) else cfgDiscard s (kind == 3 - 1)

/-- CFG_OPEN. -/
def execCfgOpen (x : List Byte) (s : State) : Out :=
  .next (
    let slot := cfgTarget s x
    let st := s.regN (K.slotState slot)
    cfgSection s x 1 (fun s => leAt x 28 4 == 0 && decide (byteOf x 7 ≤ 1) && !cutting s && !s.fab.promote
        && (if slot = 0 then st == 0 || st == 5 else s.regN K.stageOwner == 0 || s.regN K.stageOwner == 5)
        && st != 1 && st != 3) fun s =>
      let s := (s.setReg (K.slotState slot) 1).modFab fun x => { x with cfgSlot := some slot, cfgCount := 0 }
      let s := if slot = 0 then s else s.setRegs [(K.stageOwner, 5), (K.stageWritten, 0)]
      enqueueRun s slot .sc2 4 (slotErases slot) (.stageOpen slot))

/-- CFG_DATA. -/
def execCfgData (x : List Byte) (s : State) : Out :=
  .next (
    let slot := cfgTarget s x
    let n := leAt x 28 4
    let w := s.fab.cfgCount
    cfgSection s x 2 (fun s => s.fab.cfgSlot == some slot && s.reg (K.slotState slot) == 2 && leAt x 24 4 == w && n % 512 == 0
        && decide (n ≤ 65536) && decide (w + n ≤ 0xC00000) && stageIdle s slot) fun s =>
      if n = 0 then s
      else enqueueRun s slot .sc2 4 (pageOps (slotBase slot + w) ((x.drop 32).take n)) (.stageData slot n none))

/-- CFG_CLOSE: the slot is verified, and the claim ends with that; an invalid slot stays so. -/
def execCfgClose (x : List Byte) (s : State) : Out :=
  .next (
    let slot := cfgTarget s x
    cfgSection s x 3 (fun s => leAt x 28 4 == 0 && s.fab.cfgSlot == some slot && s.reg (K.slotState slot) != 1
        && s.reg (K.slotState slot) != 3 && stageIdle s slot) fun s =>
      if s.reg (K.slotState slot) = 5 then
        (if slot = 0 then s else s.setReg K.stageOwner 0).modFab fun x => { x with cfgSlot := none, cfgCount := 0 }
      else s.setReg (K.slotState slot) 3)

end Sys2Proof.Machine
end

