-- ==== Sys2Proof/Machine/S4.lean ====
section
/-! DEFINITION. The test records of system block S4 (18 R630, R632, R636) and WRAP RECORD (18 R635). -/

namespace Sys2Proof.Machine

/-- The four bytes of an entry of REPAIR_MAP: class, unit, index (R632). -/
def mapEntry (e : Nat × Nat × Nat) : List Byte := leBytes 1 e.1 ++ leBytes 1 e.2.1 ++ leBytes 2 e.2.2

/-- Spares left for classes 1 to 7; 0 for a class that is not present. -/
def reserveLeft (s : State) : List Byte :=
  (List.range 7).flatMap fun i => leBytes 2 (((spares s (i + 1)).map (·.1)).getD 0)

/-- RTC seconds, or 0 while the RTC is invalid. -/
def rtcTime (s : State) : Nat := if s.reg K.rtcValid = 0 then 0 else s.regN K.rtcSeconds

/-- A record (R632): KIND 1 START, 2 CLEAN, 3 WRAP, 4 REPAIR; `left` and `map` are empty where the kind carries none. -/
def s4Record (s : State) (kind result failures ms : Nat) (left : List Byte) (map : List (Nat × Nat × Nat)) : List Byte :=
  let body := leBytes 4 0x50415257 ++ leBytes 4 (s.test.seq + 1) ++ leBytes 1 kind ++ leBytes 1 result ++ leBytes 2 failures
    ++ leBytes 4 ms ++ leBytes 8 (rtcTime s) ++ (left ++ zeros 14).take 14 ++ zeros 2
    ++ ((map.take 116).flatMap mapEntry ++ zeros 464).take 464 ++ zeros 4
  body ++ leBytes 4 (crc32c body)

def recKind (r : List Byte) : Nat := (r.getD 8 0).toNat

/-- A record's CHECK is right (R632). -/
def recOk (r : List Byte) : Bool := r.length == 512 && leAt r 508 4 == crc32c (r.take 508)

/-- The records from the newest WRAP with a right CHECK on. -/
def fromWrap (l : List (List Byte)) : List (List Byte) :=
  let rest := l.reverse.takeWhile fun r => !(recKind r == 3 && recOk r)
  l.drop (l.length - rest.length - 1)

/-- The newest WRAP record with a right CHECK (R630, R636). -/
def newestWrap (l : List (List Byte)) : Option (List Byte) := l.reverse.find? fun r => recKind r == 3 && recOk r

/-- When S4 is full, its block is written anew with the newest WRAP record and the later REPAIR records (R632). -/
def trimS4 (l : List (List Byte)) : List (List Byte) :=
  if l.length < 512 then l
  else
    let keep := if (newestWrap l).isSome then fromWrap l else l
    keep.filter fun r => recKind r == 3 || recKind r == 4

/-- A record is appended. -/
def appendS4 (s : State) (rec : List Byte) : State :=
  { s with test := { s.test with s4 := trimS4 s.test.s4 ++ [rec], seq := s.test.seq + 1 } }

/-- The entries of a record's REPAIR_MAP. -/
def recMap (r : List Byte) : List (Nat × Nat × Nat) :=
  ((List.range 116).map fun i =>
    let o := 40 + 4 * i
    ((r.getD o 0).toNat, (r.getD (o + 1) 0).toNat, leAt r (o + 2) 2)).filter fun e => e.1 != 0

/-- The repair map in force: the newest WRAP record's and that of every later REPAIR record (R636). -/
def repairMap (s : State) : List (Nat × Nat × Nat) :=
  let l := if (newestWrap s.test.s4).isSome then fromWrap s.test.s4 else s.test.s4
  (l.filter fun r => (recKind r == 3 || recKind r == 4) && recOk r).flatMap recMap

/-- A REPAIR record for findings that the map does not hold (R636). -/
def appendRepair (s : State) (found : List (Nat × Nat × Nat)) : State :=
  let new := found.filter fun e => !(repairMap s).contains e
  if new.isEmpty then s else appendS4 s (s4Record s 4 0 new.length 0 (reserveLeft s) new)

/-- WRAP RECORD (R635). -/
def wrapEntry (s : State) (key : Nat) : Option Int :=
  let w := (newestWrap s.test.s4).getD []
  if key = K.wrecWrapSeq then some (leAt w 4 4)
  else if key = K.wrecWrapTime then some (leAt w 16 8)
  else if key = K.wrecWrapResult then some (leAt w 9 1)
  else if key = K.wrapScheduled then some (b2i (s.reg K.wrapAtOff == 1 || s.test.wrapNext))
  else none

end Sys2Proof.Machine
end

