-- ==== Sys2Proof/Machine/Fabric.lean ====
section
/-! DEFINITION. What the loaded fabric does: memory, axis words, flags and published entries, its seams' monitors and the
scrubber (spec/08 R308 to R329). -/

namespace Sys2Proof.Machine

/-! ## Rail monitors and gradients (08 R308, R311; 16 R587) -/

/-- One quadrant's rail is measured; ten samples in a row more than 30 mV below RAIL_MIN unload its regions while PG1 is
lost (16 R587). -/
def railSample (s : State) (q mv : Nat) : State :=
  let s := s.setReg (K.railVccq0Meas + q) mv
  let low := s.fab.slate != [] && decide (mv + 30 < slRailMin s.fab.slate q)
  let n := if low then (s.rail q).low + 1 else 0
  let s := s.modRail q fun x => { x with low := min n 10 }
  let m := s.fab.loaded &&& (0xF * 2 ^ (4 * q))
  if 10 ≤ n ∧ s.power.pg.testBit 1 = false ∧ m ≠ 0 then
    startUnload (s.modFab fun x => { x with drop := maskOr x.drop m }) m
  else s

/-- RAIL_MONITOR_SAMPLE (R308, R312): the quadrant rails and VCC_SYS in mV; seams follow. -/
def execRailMonitorSample (vccq : List Nat) (vccSys : Nat) (s : State) : Out :=
  .next (
    let s := (s.setReg K.railVccSysMeas vccSys)
    let s := forN 4 (fun s q => railSample s q (vccq.getD q 0)) s
    let s := forN 24 (fun s k => s.setReg (K.seamRailDiff k) (railMeas s (seamQuads k).1 - railMeas s (seamQuads k).2)) s
    pumpLoad (showSeams s))

/-- The seam monitors after the regions' temperatures have been read (R311). -/
def gradients (s : State) : State :=
  forN 24 (fun s k =>
    let r := seamRegions k
    let d := s.reg (K.regionTemperature r.1) - s.reg (K.regionTemperature r.2)
    let s := s.setReg (K.seamGradientNow k) d
    if s.regBit (K.seamFlags k) 2 then (if d.natAbs < 270 then s.setBit (K.seamFlags k) 2 false else s)
    else if 300 < d.natAbs then emcy (s.setBit (K.seamFlags k) 2 true) 0xFF42 3 r.1 (k + 2 ^ 16 * d.natAbs)
    else s) s

/-! ## Memory (08 R315 to R317) -/

/-- The scratchpad as a port sees it: every bank of the request must be its own and out of a handover (R316, 11 R429). -/
def spOwned (s : State) (p a n : Nat) : Bool :=
  decide (a + n ≤ 0x400000) && (List.range 16).all fun b =>
    !(decide (a < 0x40000 * (b + 1)) && decide (0x40000 * b < a + n)) || (bankOwner s b == 0x30 + p && !bankBusy s b)

def spBytes (s : State) (a n : Nat) : List Byte := (List.range n).map fun i => tabGet (fun _ => 0#8) s.mem.sp (a + i)

def putSp (s : State) (a : Nat) (bs : List Byte) : State :=
  s.modMem fun m => { m with sp := ((List.range bs.length).zip bs).foldl (fun t ib => tabSet (fun _ => 0#8) t (a + ib.1) ib.2) m.sp }

/-- A request reaches the scratchpad: the state, a status of R317 and the data of a read. The row of an uncorrectable
word goes into a REPAIR record; which row a word lies in is a free value (18 R636). -/
def spAccess (s : State) (p : Nat) (q : FabMem) (a n : Nat) : State × Nat × List Byte :=
  let b := a / 0x40000
  if !spOwned s p a n then (s, 1, zeros n)
  else if q.write then (putSp s a ((q.data ++ zeros n).take n), 0, [])
  else if q.fault = 2 then (appendRepair (emcy s 0xFF5B 7 b (a % 0x40000)) [(0x17, b, Config.measured 636 a % 65536)], 4, zeros n)
  else (if q.fault = 1 then s.bump (K.bankCorrected b) 32 else s, 0, spBytes s a n)

/-- A request reaches the DRAM through the cipher. -/
def dramAccess (s : State) (q : FabMem) (a n : Nat) : State × Nat × List Byte :=
  if !dramUp s then (s, 6, zeros n)
  else if blocked s a n then (s, 2, zeros n)
  else if q.write then
    let w := writeDram s a q.key.toNat ((q.data ++ zeros n).take n)
    (w.1, w.2, [])
  else readDram s a n q.key.toNat

/-- FABRIC_MEMORY_REQUEST (R315 to R317, R324): a port of a region that counts as loaded; a tag in flight takes no second
request. The access is made as the on-chip network accepts it, so that requests take effect in the order of issue. -/
def execFabricMemoryRequest (p : Fin 8) (q : FabMem) (s : State) : Out :=
  .next (
    let n := 32 * (q.more.val + 1)
    let a := 32 * q.word.toNat
    if !regionLoaded s (hostRegion p) || (s.port p).mem.any (fun m => m.tag == q.tag.val) then s
    else
      let x := if s.reg (K.portEnable p) ≠ 1 then (s, 5, if q.write then [] else zeros n)
        else if q.dram then dramAccess s q a n else spAccess s p q a n
      let data := if x.2.1 = 0 then x.2.2 else if q.write then [] else zeros n
      showTags (x.1.modPort p fun y => { y with mem := y.mem ++ [⟨q.tag, x.2.1, data⟩] }) p)

/-- FABRIC_MEMORY_RESPONSE (R315, R317): the response of a tag returns; a range write that waited for it may go on (11
R442), and a disable of the port may be done. -/
def execFabricMemoryResponse (p : Fin 8) (tag : Fin 64) (s : State) : Out :=
  .next (
    match (s.port p).mem.find? fun m => m.tag == tag.val with
    | none => s
    | some m =>
      let s := s.modPort p fun y => { y with mem := y.mem.filter (fun x => x.tag != tag.val), got := some m }
      let s := if m.status = 0 then s else s.bump (K.portErrors p) 32
      pumpLoad (portCheck (requestEnded (showTags s p) (p, tag)) p))

/-! ## Axis words and flags (08 R318, R319; 05 R211) -/

/-- What a word from the fabric carries (05 R211): the correction of bits 63:0, the set-point of bits 127:64 and DEMAND of bits
159:128, each if its valid flag in bits 162:160 is 1. -/
def wordCorr (w : BitVec 256) : Option Int := if w.getLsbD 160 then some (w.extractLsb' 0 64).toInt else none
def wordSp (w : BitVec 256) : Option Int := if w.getLsbD 161 then some (w.extractLsb' 64 64).toInt else none
def wordDem (w : BitVec 256) : Option Int := if w.getLsbD 162 then some (w.extractLsb' 128 32).toInt else none

/-- FABRIC_AXIS_WORD: `late` words arrive after T + 1.0 µs: their correction and set-point count for the next tick (05
R211). A word for an axis that does not name the port is discarded. -/
def execFabricAxisWord (p : Fin 8) (axis : BitVec 6) (w : BitVec 256) (late : Bool) (s : State) : Out :=
  .next (
    let n := axis.toNat
    if 48 ≤ n ∨ s.regN (K.tapPort n) ≠ p.val ∨ portServes s p = false then s
    else
      let c := wordCorr w
      let x := wordSp w
      let d := wordDem w
      s.modEng n fun e =>
        if late then { e with nCorr := c.or e.nCorr, nSp := x.or e.nSp, wDem := d.or e.wDem }
        else { e with wCorr := c.or e.wCorr, wSp := x.or e.wSp, wDem := d.or e.wDem })

/-- The tap word of an axis (05 R211), as one number of 256 bits. -/
def tapWord (s : State) (n : Nat) : Nat :=
  let f := fun (v : Int) (w : Nat) => ofSigned w v
  f (s.reg K.tickCount) 32 * 2 ^ 224 + f (s.reg (K.engStatus n)) 32 * 2 ^ 192 + f (s.fb n).stat 32 * 2 ^ 160
    + f (s.reg (K.cmDemand n)) 32 * 2 ^ 128 + f (s.reg (K.engSetpoint n)) 64 * 2 ^ 64 + f (s.engine n).x 64

/-- The tap words of a tick leave every port that serves, in ascending axis order (R318). -/
def sendTaps (s : State) : State :=
  forN 8 (fun s p =>
    let ns := if portServes s p then (List.range 48).filter fun n => s.reg (K.tapEnable n) == 1 && s.regN (K.tapPort n) == p else []
    s.modPort p fun y => { y with taps := ns.map fun n => (n, tapWord s n) }) s

/-- AXES of a port (R323). -/
def portAxes (s : State) (p : Nat) : Nat :=
  (((List.range 48).filter fun n => s.regN (K.tapPort n) == p && (s.reg (K.tapEnable n) == 1 || s.reg (K.tapCorrEnable n) == 1)).map
    (2 ^ ·)).sum

/-- FABRIC_FLAG_WRITE (R319): flag 8p + f of a port that serves keeps the value. -/
def execFabricFlagWrite (p f : Fin 8) (v : Bool) (s : State) : Out :=
  .next (if portServes s p then s.modFab fun x => { x with flags := setBitTo x.flags (8 * p.val + f.val) v } else s)

/-- The path engine samples the flags at step 3 of the tick: edges since its last sample meet the waits armed for them
(R319; 06 R245). -/
def sampleFlags (s : State) : State :=
  let old := s.fab.sampled
  let new := s.fab.flags
  let s := s.modFab fun x => { x with sampled := new }
  if old = new then s
  else meetWaits s fun w => w.src == 2 && ((w.cond == 0 && !old.testBit w.num && new.testBit w.num)
    || (w.cond == 1 && old.testBit w.num && !new.testBit w.num))

/-! ## Published entries (08 R321; 02 R32) -/

/-- How a request to a published entry came: its OPCODE, OFFSET and LENGTH, and the bytes of a write (02 R44). -/
structure Access where
  op : Nat
  off : Nat := 0
  len : Nat := 0
  data : List Byte := []

def Access.write (x : Access) : Bool := x.op == 2 || x.op == 4

/-- The bytes of a value encode one of its type: a BOOLEAN is 0 or 1, a REAL32 or REAL64 is finite (02 R35, R698 step 6). -/
def encodingOk (ty : Nat) (data : List Byte) : Bool :=
  let v := leNat data
  if ty = 0x01 then decide (v ≤ 1) else if ty = 0x08 then field v 23 8 != 255 else if ty = 0x11 then fFinite v else true

/-- The length of a request suits the type: of a write its data, of a READ its LENGTH (02 R44, R698 step 3). -/
def accessLength (ty : Nat) (x : Access) : Bool :=
  match (ciaType ty).bind Ty.size with
  | some n => if x.write then x.data.length == n else x.len == 0 || x.len == n
  | none => !x.write || decide (x.off + x.data.length ≤ if ty = 9 then 64 else if ty = 0xA then 256 else 4096)

/-- The first check of 02 R698 that a request to a published entry fails. -/
def objCode (s : State) (d : Decl) (x : Access) : Option Nat :=
  firstSome [whenCode (!portServes s d.port) 0x08000022, whenCode (x.write && !d.acc.testBit 1) 0x06010002,
    whenCode (!x.write && !d.acc.testBit 0) 0x06010001, whenCode (decide (3 ≤ x.op) && d.ty != 0x0F) 0x06010000,
    whenCode (!accessLength d.ty x) 0x06070010, whenCode (x.write && decide (s.mode ≠ .run)) 0x08000022,
    whenCode (s.reg (K.portEnable d.port) != 1) 0x0F000011, whenCode (x.write && !encodingOk d.ty x.data) 0x06090030]

/-- A request to a published entry is checked by SC0 and waits to be passed to its port (02 R32, R35; R321, R324). -/
def objAccess (s : State) (r : Req) (key : Nat) (x : Access) : State :=
  match declOf s key with
  | none => refuse s r (if s.fab.objects.any fun d => d.key / 256 == key / 256 then 0x06090011 else 0x06020000)
  | some d =>
    match objCode s d x with
    | some c => refuse s r c
    | none => s.modPort d.port fun y =>
      { y with objs := y.objs ++ [⟨r, keyIndex key, keySub key, x.op, x.off, x.len, x.data, false⟩] }

def passFirst : List ObjReq → List ObjReq
  | [] => []
  | o :: t => if o.passed then o :: passFirst t else { o with passed := true } :: t

/-- FABRIC_OBJECT_REQUEST: the oldest request that waits goes to the port. -/
def execFabricObjectRequest (p : Fin 8) (s : State) : Out := .next (s.modPort p fun y => { y with objs := passFirst y.objs })

/-- The oldest request that the port holds ends with a code and data. -/
def endObj (s : State) (p abort : Nat) (data : List Byte) : State :=
  match (s.port p).objs.find? (·.passed) with
  | none => s
  | some o =>
    let s := s.modPort p fun y => { y with objs := y.objs.erase o }
    let x := if abort = 0 then readPart o.op o.offset o.length data else (abort, [])
    pumpLoad (portCheck (reply s o.req x.1 x.2) p)

/-- FABRIC_OBJECT_ANSWER: the fabric answers with OK or with a CiA 301 abort code. -/
def execFabricObjectAnswer (p : Fin 8) (abort : BitVec 32) (data : List Byte) (s : State) : Out := .next (endObj s p abort.toNat data)

/-- FABRIC_OBJECT_TIMEOUT: no answer within 10 ms. -/
def execFabricObjectTimeout (p : Fin 8) (s : State) : Out := .next (endObj s p 0x06060000 [])

/-! ## Configuration cells (08 R326 to R329) -/

/-- A frame's copy in flash verifies: its bundle and its own CRC (R327, R328). -/
def frameCopyOk (s : State) (frame : Nat) : Bool :=
  let slot := s.regN K.ingotRunningSlot
  let b := s.fab.slate
  let r := frame / 1408
  let i := frame % 1408 / 64
  decide (slot < 3) && (slMap b).testBit r && !keyMissing s b && !unreadable s (slotBase slot + bodyOffset b r + 32768 * i) 32768
    && bundleCause s b (slotTable s slot) r i (slotBundle s slot b r i) == 0

/-- A frame is lost (R328): its region is unloaded. -/
def frameLost (s : State) (frame : Nat) : State :=
  let m := regionMask (frame / 1408)
  let s := (s.bump K.scrubUnrecovered 16).setReg K.scrubLastFrame frame
  let s := emcy s 0xFF41 7 (frame / 1408) (frame + 2 ^ 31)
  pumpLoad (startUnload (s.modFab fun x => { x with drop := maskOr x.drop m }) m)

/-- The last frame of a pass: that of the highest loaded region (R326). -/
def lastFrame (s : State) (frame : Nat) : Bool :=
  frame % 1408 == 1407 && clearMask s.fab.loaded (2 ^ (frame / 1408 + 1) - 1) == 0

/-- SCRUB_FRAME_READ (R326 to R328). -/
def execScrubFrameRead (frame : Fin 22528) (how : FrameRead) (s : State) : Out :=
  .next (
    let r := frame.val / 1408
    if !regionLoaded s r then s
    else
      let s := if lastFrame s frame then s.bump K.scrubPasses 32 else s
      match how with
      | .good => s
      | .single => (s.bump K.scrubCorrected 32).bump (K.regionFrameErrors r) 32
      | .double =>
        if s.fab.frozen.contains frame.val then s
        else if frameCopyOk s frame then
          (s.setReg (K.regionState r) 4).modFab fun x => { x with frozen := x.frozen ++ [frame.val] }
        else frameLost s frame)

/-- FRAME_REWRITE_DONE (R327): the column runs again. -/
def execFrameRewriteDone (frame : Fin 22528) (s : State) : Out :=
  .next (
    let r := frame.val / 1408
    if s.fab.frozen.contains frame.val then
      let s := s.modFab fun x => { x with frozen := x.frozen.filter (· != frame.val) }
      let s := if s.fab.frozen.any fun f => f / 1408 == r then s else s.setReg (K.regionState r) 2
      emcy ((s.bump K.scrubRewritten 32).setReg K.scrubLastFrame frame.val) 0xFF41 7 r frame.val
    else s)

end Sys2Proof.Machine
end

