-- ==== Sys2Proof/Machine/Check.lean ====
section
/-! DEFINITION. The check units: CRCs of any width under DMA (spec/13). -/

namespace Sys2Proof.Machine

/-! ## The register (13 R488, R489) -/

/-- One bit enters a CRC register of `w` bits, most significant bit first. -/
def crcBit (w poly reg : Nat) (b : Bool) : Nat :=
  let r := 2 * reg % 2 ^ w
  if (reg.testBit (w - 1)) != b then r ^^^ poly else r

/-- The bits of a byte in the order in which they enter: least significant first under REFIN. -/
def byteBits (refin : Bool) (b : Byte) : List Bool :=
  (List.range 8).map fun i => b.toNat.testBit (if refin then i else 7 - i)

/-- Bytes enter the register. -/
def crcBytes (w poly : Nat) (refin : Bool) (reg : Nat) (bs : List Byte) : Nat :=
  (bs.flatMap (byteBits refin)).foldl (crcBit w poly) reg

/-- The lowest `w` bits of a number in reverse order. -/
def reverseBits (w v : Nat) : Nat := (List.range w).foldl (fun a i => 2 * a + b2n (v.testBit i)) 0

/-- The check value of a register. -/
def checkOf (w : Nat) (refout : Bool) (xorout reg : Nat) : Nat := (if refout then reverseBits w reg else reg) ^^^ xorout

/-- The check bytes: ceil(W / 8), least significant first when REFOUT is 1. -/
def checkBytes (w : Nat) (refout : Bool) (v : Nat) : List Byte :=
  if refout then leBytes ((w + 7) / 8) v else (leBytes ((w + 7) / 8) v).reverse

/-- The presets of R489: W, POLY, INIT, REFLECT, XOROUT. -/
def presets (v : Nat) : Nat × Nat × Nat × Nat × Nat :=
  match v with
  | 1 => (8, 0x07, 0, 0, 0)
  | 2 => (16, 0x1021, 0xFFFF, 0, 0)
  | 3 => (32, 0x04C11DB7, 0xFFFFFFFF, 3, 0xFFFFFFFF)
  | 4 => (32, 0x1EDC6F41, 0xFFFFFFFF, 3, 0xFFFFFFFF)
  | _ => (64, 0x42F0E1EBA9EA3693, 0, 0, 0)

/-! ## Entries (13 R490, R491) -/

/-- The set of R491 is consistent: POLY, INIT and XOROUT have no bits above W - 1. -/
def ckSetOk (s : State) (k : Nat) : Bool :=
  [s.regN (K.ckPoly k), s.regN (K.ckInit k), s.regN (K.ckXorout k)].all fun v => decide (v < 2 ^ s.regN (K.ckWidth k))

/-- A write to sub-indices 02 to 0A: refused while the chain runs, or where it would leave the set inconsistent. -/
def ckOwn (s : State) (k key : Nat) (v : Int) : Own :=
  { state := whenCode (s.reg (K.ckState k) == 1) 0x08000022,
    set := whenCode (!ckSetOk (s.setReg key v) k) 0x06090030 }

/-- CK_PRESET (R489, R491): all six parameters at once; RUNNING is not changed. -/
def execCkPreset (r : Req) (k : Fin 8) (v : BitVec 8) (s : State) : Out :=
  .next (request s r (K.ckPreset k) 2 fun s =>
    if k.val < 2 then refuse s r 0x06010002
    else
      writeEntry s r (K.ckPreset k) v.toNat { state := whenCode (s.reg (K.ckState k) == 1) 0x08000022 } fun s =>
        let p := presets v.toNat
        ok (s.setRegs [(K.ckWidth k, (p.1 : Nat)), (K.ckPoly k, (p.2.1 : Nat)), (K.ckInit k, (p.2.2.1 : Nat)),
          (K.ckReflect k, (p.2.2.2.1 : Nat)), (K.ckXorout k, (p.2.2.2.2 : Nat))]) r)

/-! ## Running a chain (13 R497 to R499) -/

/-- The chain has ended: START and a disable in progress complete. -/
def ckEnd (s : State) (k : Fin 8) (state : Nat) (code : Nat) : State :=
  let s := completeAll (s.setReg (K.ckState k) state) (.chain k) code []
  if 3 ≤ s.reg (K.ckEnable k) then completeAll (s.setReg (K.ckEnable k) 0) (.disable (.check k)) 0 [] else s

/-- CK_START (R497, R499). -/
def execCkStart (r : Req) (k : Fin 8) (v : BitVec 8) (s : State) : Out :=
  .next (request s r (K.ckStart k) 2 fun s =>
    if k.val < 2 then refuse s r 0x06010002
    else
      writeEntry s r (K.ckStart k) v.toNat
        { state := if s.reg (K.ckEnable k) ≠ 1 then some 0x0F000011
            else if s.bad.contains (0x1B, k.val) then some 0x06060000
            else whenCode (s.reg (K.ckState k) == 1) 0x08000022 } fun s =>
        await (s.setRegs [(K.ckState k, 1), (K.ckChainNext k, s.reg (K.ckChainAddr k))]) (.chain k) r)

/-- CK_ENABLE written (R498; 02 R79 to R82): the chain runs to its end, or to the end of the current descriptor. -/
def ckEnableWrite (r : Req) (k : Fin 8) (v : Nat) (s : State) : State :=
  let e := s.reg (K.ckEnable k)
  if k.val < 2 then refuse s r 0x06010002
  else
    writeEntry s r (K.ckEnable k) v { state := whenCode (v == 1 && decide (3 ≤ e)) 0x08000022 } fun s =>
      if v = 1 then ok (s.setReg (K.ckEnable k) 1) r
      else if e = 0 then ok s r
      else if s.reg (K.ckState k) ≠ 1 then ok (s.setReg (K.ckEnable k) 0) r
      else await (s.setReg (K.ckEnable k) (if v = 2 ∨ e = 4 then 4 else 3)) (.disable (.check k)) r

/-- The abort code of a descriptor status (R495). -/
def ckAbort (st : Nat) : Nat :=
  match st with
  | 1 => 0
  | 2 => 0x0F000013
  | 3 => 0x0F00000C
  | 6 => 0x0F000004
  | 7 => 0x06090030
  | _ => 0x06060000

/-- The descriptor status of a DRAM status of 08 R317. -/
def ckStatus (st : Nat) : Nat :=
  match st with
  | 2 => 4
  | 3 => 6
  | 4 => 5
  | 6 => 8
  | _ => 1

/-- A read by a check unit: protected ranges and the user region bound it (R496, R499). -/
def ckRead (s : State) (addr n key : Nat) : State × Nat × List Byte :=
  if !dramUp s then (s, 6, zeros n) else if blocked s addr n then (s, 2, zeros n) else readDram s addr n key

/-- A write by a check unit. -/
def ckWrite (s : State) (addr key : Nat) (data : List Byte) : State × Nat :=
  if !dramUp s then (s, 6) else if blocked s addr data.length then (s, 2) else writeDram s addr key data

/-- A descriptor's fields are in their ranges (R492 to R494). -/
def ckFormatOk (d : List Byte) (c : Nat) : Bool :=
  let len := leAt d 16 4
  let op := byteAt d 20
  let fl := byteAt d 21
  decide (op ≤ 2) && decide (fl < 32) && decide (1 ≤ len) && decide (len ≤ 16777216)
    && !(op == 2 && fl.testBit 2 && decide (len ≤ c))

/-- What a descriptor leaves: the state, its status and its RESULT. Where a read or a write fails on the way, how many
bytes have gone through the register before it is a free value. -/
def ckRun (s : State) (k : Nat) (d : List Byte) : State × Nat × Nat :=
  let w := s.regN (K.ckWidth k)
  let poly := s.regN (K.ckPoly k)
  let refl := s.regN (K.ckReflect k)
  let xo := s.regN (K.ckXorout k)
  let c := (w + 7) / 8
  let src := leAt d 0 8
  let dst := leAt d 8 8
  let len := leAt d 16 4
  let op := byteAt d 20
  let fl := byteAt d 21
  let key := byteAt d 22
  let run := s.regN (K.ckRunning k) % 2 ^ w
  if ckFormatOk d c = false then (s, 7, run)
  else if fl.testBit 4 ∨ fl.testBit 3 then (s, 3, run)
  else
    let reg0 := if fl.testBit 1 then s.regN (K.ckInit k) else run
    let fin := fl.testBit 2
    let body := if op = 2 ∧ fin = true then len - c else len
    let out := if op = 0 then 0 else if op = 1 ∧ fin = true then len + c else body
    let x := ckRead s src len key
    let s := x.1
    let result := fun (reg : Nat) => if fin then checkOf w (refl.testBit 1) xo reg else reg
    if x.2.1 = 0 ∧ (out = 0 ∨ blocked s dst out = false) then
      let data := x.2.2.take body
      let reg := crcBytes w poly (refl.testBit 0) reg0 data
      let check := checkBytes w (refl.testBit 1) (checkOf w (refl.testBit 1) xo reg)
      let s := (s.setReg (K.ckRunning k) reg).setReg (K.ckBytes k) ((s.regN (K.ckBytes k) + len) % 2 ^ 64 : Nat)
      let y := if out = 0 then (s, 0) else ckWrite s dst key (data ++ (if op = 1 ∧ fin = true then check else []))
      if y.2 ≠ 0 then (y.1, ckStatus y.2, result reg)
      else if op = 2 ∧ fin = true ∧ x.2.2.drop body ≠ check then (y.1, 2, result reg)
      else (y.1, 1, result reg)
    else if x.2.1 ≠ 4 then (s, if x.2.1 = 0 then 4 else ckStatus x.2.1, run)
    else
      let f := s.fresh
      let n := Config.free f.1 % (len + 1)
      let part := readDram f.2 src n key
      let reg := crcBytes w poly (refl.testBit 0) reg0 (if part.2.1 = 0 then part.2.2 else [])
      let s := (f.2.setReg (K.ckRunning k) reg).setReg (K.ckBytes k) ((s.regN (K.ckBytes k) + n) % 2 ^ 64 : Nat)
      let s := if op = 0 ∨ part.2.1 ≠ 0 then s else (ckWrite s dst key part.2.2).1
      (s, 5, result reg)

/-- CK_DESCRIPTOR_DONE (R492, R495, R497, R498): the engine ends its current descriptor and writes DSTATUS and RESULT
back; the chain goes on, stops, or has ended. While the late part of a roll check runs, the chain waits (18 R634). -/
def execCkDescriptorDone (k : Fin 8) (s : State) : Out :=
  .next (
    if s.reg (K.ckState k) ≠ 1 ∨ s.test.late = true then s
    else
      let a := s.regN (K.ckChainNext k)
      let ckey := s.regN (K.ckChainKey k)
      let d := ckRead s a 32 ckey
      if d.2.1 ≠ 0 then ckEnd d.1 k 2 (ckAbort (ckStatus d.2.1))
      else
        let x := ckRun d.1 k d.2.2
        let back := ckWrite x.1 (a + 23) ckey (leBytes 1 x.2.1 ++ leBytes 8 x.2.2)
        let s := back.1
        if back.2 ≠ 0 then ckEnd s k 2 (ckAbort (ckStatus back.2))
        else if x.2.1 ≠ 1 then ckEnd s k 2 (ckAbort x.2.1)
        else
          let s := (s.bump (K.ckDescriptors k) 32).setReg (K.ckChainNext k) (a + 32 : Nat)
          if s.reg (K.ckEnable k) = 4 then ckEnd s k 0 0x0F000002
          else if (byteAt d.2.2 21).testBit 0 then ckEnd s k 0 0
          else s)

end Sys2Proof.Machine
end

