-- ==== Sys2Proof/Machine/Island.lean ====
section
/-! DEFINITION. The assay island's commands: signed requests, firmware, jobs, sealing, export and starts (spec/14). -/

namespace Sys2Proof.Machine

/-! ## Flash work of the island (14 R506, R513, R527, R530) -/

/-- The flash block of a log page. -/
def logBlock (page : Nat) : Nat := 184 + page / 512 % 8

/-- The oldest block is erased once every record in it is acknowledged and the pages have gone on (R530). -/
def logTrim (s : State) : State :=
  let x := s.isl
  let old := x.log.takeWhile fun r => decide (r.page / 512 ≤ x.tail)
  if x.tail < x.pos / 512 ∧ x.erasing = false ∧ old.all (fun r => decide (r.seq ≤ s.regN K.logAckSeq)) = true
    ∧ x.prog.all (fun p => decide (x.tail < p.page / 512)) = true then
    let log := x.log.drop old.length
    let s := (s.modIsl fun x => { x with log := log, erasing := true }).setReg K.logOldestSeq
      ((log.head?.map (·.seq)).getD (s.regN K.logHeadSeq + 1) : Nat)
    enqueueRun s 2 .island 3 [.erase (184 + x.tail % 8)] (.island .logErase)
  else s

/-- A page of the log is handed to the flash: up to four records, unused slots zeros (R527). LOG_FREE falls; below 1,024 it
is reported, at 16 the job ends (R524, R530). -/
def islPage (s : State) : State :=
  let x := s.isl
  if x.recs = [] ∨ s.reg K.logFree = 0 ∨ flashServes s = false then s
  else
    let page := x.pos
    let rs := (x.recs.take 4).map fun r => { r with page := page }
    let data := (rs.flatMap (·.data) ++ zeros 512).take 512
    let free := s.regN K.logFree - 1
    let s := (s.modIsl fun x => { x with recs := x.recs.drop 4, prog := x.prog ++ [⟨page, rs, false⟩], pos := page + 1 }).setReg K.logFree free
    let s := enqueueRun s 2 .island 3 [.program (logBlock page) (page % 512) data] (.island .logPage)
    let s := if free = 1023 then emcy s 0xFFC0 7 (ownParam s 1).toNat free else s
    logTrim (if free ≤ 16 then islEndJob s 3 else s)

/-- Every waiting record is handed to the flash, in SEQ order. -/
def islPages (s : State) : State := forN ((s.isl.recs.length + 3) / 4) (fun s _ => islPage s) s

/-- ASSAY_PAGE_PROGRAM (R527). -/
def execAssayPageProgram (s : State) : Out := .next (islPage s)

/-- ASSAY_DEFERRED_SEAL (R506): flash programs have become possible again. -/
def execAssayDeferredSeal (s : State) : Out := .next (islPages s)

/-- ASSAY_RECORD_SEALED (R523, R527, R532): the page programmed first verifies; its records are sealed, mirrored and
counted. -/
def execAssayRecordSealed (s : State) : Out :=
  .next (
    match s.isl.prog with
    | p :: t =>
      if p.done then
        let s := s.modIsl fun x => { x with prog := t }
        mirrorRun (islSettle (p.recs.foldl islSealOne s))
      else s
    | [] => s)

/-- An update of the seal store: one page, appended to its block; a full block makes the other one be erased first (R513).
The page's layout is not stated, so its bytes are free values. -/
def storeWrite (s : State) (id : Nat) : State :=
  let n := s.isl.storePage
  let block := 182 + n / 512 % 2
  let f := s.freeCtr
  let data := (List.range 512).map fun i => BitVec.ofNat 8 (Config.free (f + i))
  let s := { s with freeCtr := f + 512 }.modIsl fun x => { x with storePage := n + 1 }
  let ops := (if n % 512 = 0 ∧ 512 ≤ n then [FlOp.erase block] else []) ++ [.program block (n % 512) data]
  enqueueRun s 2 .island 3 ops (.island (.store id))

/-! ## Signed requests (14 R514 to R516) -/

/-- The abort codes of R516. -/
def sealAbort (res : Nat) : Nat :=
  match res with
  | 1 => 0x0F000014
  | 2 => 0x06090030
  | 3 => 0x08000022
  | 4 => 0x0F000009
  | 5 => 0x0F00000F
  | 6 => 0x0F000009
  | 7 => 0x06090030
  | _ => 0x08000022

def sealBody (d : List Byte) : List Byte := (d.drop 48).take (leAt d 6 2)

/-- The length of BODY by OP (R515). -/
def bodyLenOk (op n : Nat) : Bool :=
  match op with
  | 1 => decide (16 ≤ n) && decide (n ≤ 256) && n % 16 == 0
  | 2 => n == 32
  | 3 => n == 96
  | 4 => n == 96
  | 5 => n == 0
  | _ => false

/-- MAGIC, OP, BODY_LEN and the zero fields are right. -/
def sealFormatOk (d : List Byte) : Bool :=
  let op := byteOf d 4
  let n := leAt d 6 2
  leAt d 0 4 == 0x4C414553 && bodyLenOk op n && d.length == 144 + n && byteOf d 5 == 0 && leAt d 28 4 == 0
    && (op != 1 || (List.range (n / 16)).all fun i => zeroRun d (48 + 16 * i + 2) 6)

/-- The key that a request must be signed with (R515). -/
def sealKey (s : State) (d : List Byte) : List Byte := if byteOf d 4 = 3 then sealBody d else s.isl.makerKey

/-- A VALUE as the entry or parameter holds it. -/
def sealValue (s : State) (id v : Nat) : Int :=
  match tapKey s id with
  | some key =>
    match rowOf (keyIndex key) (keySub key) with
    | some ⟨_, _, _, _, _, _, _, .int n, _, _, _, _, _, _, _⟩ => toSigned (8 * n) v
    | _ => v
  | none => v

/-- One parameter is set, with no record; none where the value is outside its range (R510). -/
def setParam (s : State) (id v : Nat) : Option State :=
  if ownId id then
    if paramOk id v then some (s.modIsl fun x => { x with params := tabSet paramDefault x.params id v }) else none
  else
    match tapKey s id with
    | none => none
    | some key =>
      let x := sealValue s id v
      match rowOf (keyIndex key) (keySub key) with
      | none => none
      | some w =>
        if (rangeCode w.rng x).isSome then none
        else
          let p := (key / 256 - 0x4000) / 0x40
          if key = K.fbMode p ∨ key = K.fbDirInvert p then some (fbChange s p key x.toNat)
          else if keyIndex key = 0x4003 + 0x40 * p ∧ keySub key ≤ 5 then
            some ((s.setReg key x).modFb p fun f => { f with corrPend := true })
          else some (s.setReg key x)

/-- The entries of a SET body: PARAM_ID and VALUE. -/
def setEntries (d : List Byte) : List (Nat × Nat) :=
  let b := sealBody d
  (List.range (b.length / 16)).map fun i => (leAt b (16 * i) 2, leAt b (16 * i + 8) 8)

/-- The entries applied together, tentatively. -/
def setAll (s : State) (es : List (Nat × Nat)) : Option State := es.foldl (fun o e => o.bind fun s => setParam s e.1 e.2) (some s)

/-- No port is tapped twice, and the tapped ports' entries are consistent (R510; 03 R97). -/
def tapsOk (s : State) : Bool :=
  let ps := (List.range 4).filterMap (tapPort s)
  decide ps.Nodup && ps.all (fbSetOk s)

/-- The entries of a SET that change a value, each with the value it finds. -/
def setChanges (s : State) (es : List (Nat × Nat)) : Nat :=
  (es.foldl (fun (acc : State × Nat) e =>
    ((setParam acc.1 e.1 e.2).getD acc.1, if paramOf acc.1 e.1 = some (sealValue acc.1 e.1 e.2) then acc.2 else acc.2 + 1)) (s, 0)).2

/-- The result of R516 for a request; 0 accepts it. -/
def sealResult (s : State) (d : List Byte) : Nat :=
  let op := byteOf d 4
  let st := s.regN K.islandState
  let n := leAt d 6 2
  let count := s.regN K.islSealCount
  if s.reg K.islAseal = 0 then 1
  else if sealFormatOk d = false then 2
  else if (op = 3 ∧ st ≠ 1) ∨ (op ≠ 3 ∧ st ≤ 1) then 3
  else if (d.drop 8).take 16 ≠ unitUid s then 4
  else if (d.drop 32).take 16 ≠ (s.blob K.islNonce ++ zeros 16).take 16 ∨ leAt d 24 4 ≠ count then 5
  else if sigOk (sealKey s d) (d.take (48 + n)) (d.drop (48 + n)) = false then 6
  else if op = 1 ∧ ((setAll s (setEntries d)).map tapsOk) ≠ some true then 7
  else if op = 2 ∧ (islImageOk s (islStaged s) = false ∨ islDigest s (islStaged s) ≠ sealBody d) then 7
  else if 0xFFFFFFFF < count + (if op = 1 then setChanges s (setEntries d) else 1) then 9
  else 0

/-- SEAL_COUNT goes on by one (R512). -/
def sealStep (s : State) : State := s.setReg K.islSealCount (s.regN K.islSealCount + 1 : Nat)

/-- Ports that are tapped follow the sealed parameters (03 R140). -/
def showTaps (s : State) : State :=
  let ps := (List.range 4).filterMap (tapPort s)
  forN 48 (fun s n => s.modFb n fun f => { f with tapped := ps.contains n }) s

/-- SET: every value that changes writes one PARAMETER record (R515). -/
def acceptSet (s : State) (d : List Byte) : State :=
  showTaps ((setEntries d).foldl (fun s e =>
    let old := (paramOf s e.1).getD 0
    match setParam s e.1 e.2 with
    | none => s
    | some t =>
      if paramOf t e.1 = some old then t
      else islRecord (sealStep t) 5 (leBytes 2 e.1 ++ zeros 6 ++ leBytes 8 (ofSigned 64 old) ++ leBytes 8 e.2)) s)

/-- A FIRMWARE record (R526). -/
def firmwareRecord (s : State) : State := islRecord s 9 (s.isl.digest.take 28 ++ leBytes 4 (s.regN K.islFwVersion))

/-- FIRMWARE: the staged copy runs (R518). -/
def acceptFirmware (s : State) (d : List Byte) : State :=
  let s := islRun (sealStep s) (islStaged s)
  let s := (s.modIsl fun x => { x with digest := sealBody d }).setReg K.sreqFwWritten 0
  let s := if s.reg K.islFaultCause = 1 then s.setRegs [(K.islandState, 3), (K.islFaultCause, 0)] else s
  firmwareRecord s

/-- A maker key is in force, with its SEAL_KEY record (R515, R526). -/
def sealKeyRecord (s : State) (key : List Byte) : State :=
  let h := sha256 key
  islRecord ((s.modIsl fun x => { x with makerKey := key }).setBlob K.islSealKeyHash h) 10 h

/-- FIRST_SEAL (R520 step 3): GENESIS, SEAL_KEY and FIRMWARE records, and ISLAND_STATE 3. -/
def acceptFirstSeal (s : State) (d : List Byte) : State :=
  let c := s.isl.copy.getD 0
  let s := (sealStep s).modIsl fun x => { x with digest := islDigest s c }
  let s := islRecord (s.setReg K.islandState 3) 1 (unitUid s ++ leBytes 4 (s.regN K.islFwVersion))
  firmwareRecord (sealKeyRecord s (sealBody d))

/-- CHAIN_BREAK (R529): EVENT 6 names the first failed record, and the chain goes on from it. -/
def acceptChainBreak (s : State) : State :=
  let s := sealStep s
  let broken := s.reg K.islandState == 4 && (s.reg K.islFaultCause == 3 || s.reg K.islFaultCause == 4)
  let s := if broken then s.setRegs [(K.islandState, 3), (K.islFaultCause, 0)] else s
  let bad := s.isl.firstBad
  let s := islRecord s 7 (leBytes 2 6 ++ zeros 6 ++ leBytes 16 bad)
  if broken then s.modIsl fun x => { x with firstBad := 0 } else s

/-- A signed request of an OP: checked, and if accepted carried out; it completes once its records are sealed and the
seal store is updated (R516). NONCE is renewed either way. -/
def signedRequest (op : Nat) (accept : State → List Byte → State) (r : Req) (data : List Byte) (s : State) : State :=
  request s r K.sreqSignedRequest 4 fun s =>
    let d := overwrite data 4 (leBytes 1 op)
    writeBytes s r K.sreqSignedRequest d {} fun s =>
      let res := sealResult s d
      let s := s.setReg K.sreqLastResult res
      if res ≠ 0 then refuse (islNonce s) r (sealAbort res)
      else
        let s := islNonce (accept s d)
        let id := s.isl.nextId
        let s := s.modIsl fun x => { x with nextId := id + 1, waits := x.waits ++ [(id, x.seq, false)] }
        storeWrite (await s (.island id) r) id

/-- SET (R515, R520 step 4). -/
def execSet (r : Req) (data : List Byte) (s : State) : Out := .next (signedRequest 1 acceptSet r data s)

/-- FIRMWARE (R515, R518). -/
def execFirmware (r : Req) (data : List Byte) (s : State) : Out := .next (signedRequest 2 acceptFirmware r data s)

/-- FIRST_SEAL (R515, R520 step 3). -/
def execFirstSeal (r : Req) (data : List Byte) (s : State) : Out := .next (signedRequest 3 acceptFirstSeal r data s)

/-- NEW_KEY (R515). -/
def execNewKey (r : Req) (data : List Byte) (s : State) : Out :=
  .next (signedRequest 4 (fun s d => sealKeyRecord (sealStep s) (sealBody d)) r data s)

/-- CHAIN_BREAK (R515, R529). -/
def execChainBreak (r : Req) (data : List Byte) (s : State) : Out :=
  .next (signedRequest 5 (fun s _ => acceptChainBreak s) r data s)

/-- A SIGNED_REQUEST of an OP that is none of R514: FORMAT, or SEAL_CLOSED before it (R516). -/
def unknownRequest (r : Req) (data : List Byte) (s : State) : State :=
  writeBytes s r K.sreqSignedRequest data {} fun s =>
    let res : Nat := if s.reg K.islAseal = 0 then 1 else 2
    refuse (islNonce (s.setReg K.sreqLastResult res)) r (sealAbort res)

/-- FW_IMAGE (R518): in ascending OFFSET, in multiples of 512 bytes, while ASEAL is high. The first bytes erase the copy. -/
def execFwImage (r : Req) (offset : BitVec 32) (data : List Byte) (s : State) : Out :=
  .next (request s r K.sreqFwImage 4 fun s =>
    let o := offset.toNat
    let n := data.length
    let base := islCopyBase (islStaged s)
    writeBytes s r K.sreqFwImage data
      { state := whenCode (s.reg K.islAseal == 0) 0x0F000014,
        set := whenCode (decide (n = 0 ∨ n % 512 ≠ 0 ∨ 786432 < o + n ∨ (o ≠ 0 ∧ o ≠ s.regN K.sreqFwWritten))) 0x06090030 } fun s =>
      let s := if o = 0 then s.setReg K.sreqFwWritten 0 else s
      let erases := if o = 0 then (List.range 3).map fun i => FlOp.erase (base / 0x40000 + i) else []
      enqueueRun s 2 .island 3 (erases ++ pageOps (base + o) data) (.island (.fw (o + n) r)))

/-! ## Jobs (14 R521 to R524) -/

/-- JOB_START (R521): JOB_START carries the input at that moment. -/
def execJobStart (r : Req) (s : State) : Out :=
  .next (request s r K.jobCommand 2 fun s =>
    let v := islInput s
    writeEntry s r K.jobCommand 1
      { state := firstSome
          [whenCode (s.reg K.islandState != 2 || s.isl.job.isSome || decide (2048 ≤ islUnsealed s)) 0x08000022,
            whenCode (!v.2.2 || (ownParam s 8 == 1 && s.reg K.rtcValid == 0)) 0x0F000016,
            whenCode (decide (s.regN K.logFree < 128)) 0x0F000015] } fun s =>
      let mode := (ownParam s 4).toNat
      let s := (newPiece s).modIsl fun x => { x with job := some { id := s.regN K.jobId, mode := mode, start := v.1, piece := none } }
      let s := s.setRegs [(K.jobState, 1), (K.jobPieces, 0), (K.jobLiveLength, 0)]
      let s := islRecord s 2 (leBytes 8 (ofSigned 64 v.1) ++ leBytes 1 mode)
      ok (s.modIsl fun x => { x with jobSeq := x.seq }) r)

/-- JOB_STOP (R524). -/
def execJobStop (r : Req) (s : State) : Out :=
  .next (request s r K.jobCommand 2 fun s => writeEntry s r K.jobCommand 2 {} fun s => ok (islEndJob s 1) r)

/-- ASSAY_TRIGGER (R509, R522): an edge of an event channel; the active edge of the trigger channel latches the measuring
input, in MODE 1 ends a piece and starts the next. The channel's EV_MODE and DEBOUNCE do not matter. -/
def execAssayTrigger (k : Channel) (rising : Bool) (t : Nat) (interp : Int) (s : State) : Out :=
  .next (
    match s.isl.job with
    | none => s
    | some j =>
      if j.mode = 1 ∧ ownParam s 5 = k.val + (if rising then 0 else 0x80) then
        let v := islInput s
        let at' := match tapPort s ((ownParam s 1).toNat - 2) with
          | some p => if 2 ≤ ownParam s 1 then capValue (s.fb p) t interp else v.1
          | none => v.1
        let s := match j.piece with
          | some v0 => islMeasure s v0 at' v.2.1
          | none => s
        let s := (newPiece s).modIsl fun x => { x with job := x.job.map fun j => { j with piece := some at' } }
        islFull (s.setReg K.jobLiveLength 0)
      else s)

/-- LIVE_LENGTH_UPDATE (R534): the length since the present piece began, to the nearest nanometre. -/
def execLiveLengthUpdate (s : State) : Out :=
  .next (
    match s.isl.job with
    | none => s
    | some j =>
      match (if j.mode = 0 then some j.start else j.piece) with
      | some v0 => s.setReg K.jobLiveLength (wrap64 (roundAway (islDelta s v0 (islInput s).1 * ownParam s 2) (2 ^ 32)))
      | none => s)

/-! ## Export (14 R531, R535) -/

/-- EXPORT_ACK (R531). -/
def execExportAck (r : Req) (data : List Byte) (s : State) : Out :=
  .next (request s r K.logExportAck 2 fun s =>
    let seq := leAt data 0 4
    let rec' := s.isl.log.find? fun x => x.seq == seq
    writeBytes s r K.logExportAck data {} fun s =>
      if seq ≤ s.regN K.logAckSeq then ok s r
      else if s.regN K.logHeadSeq < seq then refuse s r 0x06090031
      else if (rec'.map fun x => x.data.drop 96) ≠ some (data.drop 4) then refuse s r 0x0F000009
      else
        let s := s.setReg K.logAckSeq seq
        let s := if islSealed s then islRecord s 8 (leBytes 4 seq) else s
        ok (logTrim s) r)

/-- The sealed records that a read of RECORDS returns (R535). -/
def recordsAt (s : State) (p : Path) : List IslRec := (s.isl.log.filter fun x => decide ((s.path p).readSeq ≤ x.seq)).take 32

/-- A read of RECORDS as READ (1) or DOMAIN_READ (3), with its OFFSET and LENGTH (02 R44): up to 32 sealed records from
READ_SEQ, which goes on past them. -/
def recordsRead (r : Req) (op off len : Nat) (s : State) : State :=
  let rs := recordsAt s r.path
  let x := readPart op off len (rs.flatMap (·.data))
  if x.1 ≠ 0 then refuse s r x.1
  else
    let s := match rs.getLast? with
      | some x => s.modPath r.path fun p => { p with readSeq := x.seq + 1 }
      | none => s
    reply s r 0 x.2

/-- ASSAY_RECORDS_READ (R535). -/
def execAssayRecordsRead (r : Req) (s : State) : Out := .next (request s r K.logRecords 3 (recordsRead r 3 0 0))

/-! ## The seal and starts (14 R519, R520, R524, R528, R529, R537) -/

/-- ASEAL_RISE (R524, R537): a running job ends with reason 2 and the seal opens. -/
def execAsealRise (s : State) : Out :=
  .next (
    let s := s.setReg K.islAseal 1
    if s.reg K.islandState = 2 then (islEndJob s 2).setReg K.islandState 3 else s)

/-- ASEAL_FALL (R520 step 5). -/
def execAsealFall (s : State) : Out :=
  .next (
    let s := s.setReg K.islAseal 0
    if s.reg K.islandState = 3 then s.setReg K.islandState 2 else s)

/-- The island's part of a power-down warning (R528): POWER with KIND 1, programmed at once. -/
def islPowerDown (s : State) : State := if islSealed s then islPages (islRecord s 6 (leBytes 1 1)) else s

/-- The copy of the firmware whose digest is in the seal store. -/
def sealedCopy (s : State) : Option Nat := (List.range 2).find? fun c => islDigest s c == s.isl.digest && islImageOk s c

/-- ISLAND_START (R519, R526, R528, R529): VAS has come up. What waited in SRAM is lost, the sealed copy runs, the chain of
the last 64 sealed records is verified, and POWER is written; a job that power cut is ended. -/
def execIslandStart (check : IslandCheck) (s : State) : Out :=
  .next (
    let lost := s.isl.waits
    let clean := match s.isl.log.getLast? with
      | some r => byteOf r.data 4 == 6 && byteOf r.data 32 == 1
      | none => false
    let job := s.isl.job
    let s := islNonce (s.modIsl fun x =>
      { x with recs := [], prog := [], waits := [], erasing := false, job := none, copy := none, am0 := { a := x.am0.a, b := x.am0.b },
               am1 := { a := x.am1.a, b := x.am1.b }, seq := s.regN K.logHeadSeq, hash := s.blob K.logHeadHash })
    let s := s.setRegs [(K.jobState, 0), (K.jobLiveLength, 0), (K.islFwVersion, 0)]
    let s := lost.foldl (fun s w => completeAll s (.island w.1) 0x06060000 []) s
    let head := s.regN K.logHeadSeq
    let bad := match check with
      | .chain q => if q.toNat ≤ head ∧ head < q.toNat + 64 then q.toNat else s.isl.firstBad
      | _ => if head < s.isl.firstBad + 64 then s.isl.firstBad else 0
    if s.isl.digest = [] ∧ s.reg K.islSealCount = 0 then s.setRegs [(K.islandState, 0), (K.islFaultCause, 0)]
    else if check = .store then islFault s 2
    else
      match sealedCopy s with
      | none => islFault s 1
      | some c =>
        let s := islRun s c
        if check = .log then islFault s 4
        else if bad ≠ 0 then islFault (s.modIsl fun x => { x with firstBad := bad }) 3
        else
          let s := s.setRegs [(K.islandState, if s.reg K.islAseal = 1 then 3 else 2), (K.islFaultCause, 0)]
          let s := islRecord s 6 (leBytes 1 (if clean then 2 else 3))
          match job with
          | some j => islJobEnd (s.modIsl fun x => { x with job := some j }) 4
          | none => s)

end Sys2Proof.Machine
end

