-- ==== Sys2Proof/Machine/Safe.lean ====
section
/-! DEFINITION. SAFE state (18 R637 to R640), blocks marked unusable, and the bridge between the dies (01 R10 to R12). -/

namespace Sys2Proof.Machine

/-- A block is marked unusable: emergency 0xFF81 (R637). -/
def markBad (s : State) (cls unit : Nat) : State :=
  if s.bad.contains (cls, unit) then s else emcy { s with bad := s.bad ++ [(cls, unit)] } 0xFF81 7 unit cls

/-- A group in SAFE state: flushed with FLUSH_CAUSE 5 and in state 6; a disable that waits takes place (R640; 06 R270). -/
def safeGroup (s : State) (g : Nat) : State :=
  let s := endFull s g 0x08000022
  let s := if s.reg (K.dmaEnable g) = 0 then s else dmaOff (s.modGrp g fun x => { x with dmaLeft := 0 }) g
  let s := setGroupState (flushGroup s g (flushCode s g) 5) g 6
  if hg : g < 8 then
    let s := completeAll s (.enable (.group ⟨g, hg⟩)) 0x08000022 []
    if (s.group g).disable = 0 then s else groupOff s g hg
  else s

/-- Every fabric region is unloaded, and nothing more is loaded; a cutover, reload or partial stream ends (R640). -/
def safeFabric (s : State) : State :=
  let m := maskOr s.fab.loaded s.fab.written
  let s := if cutting s then s.setReg K.cutoverState 6 else s
  let s := completeAll (completeAll (completeAll s .cutover 0x08000000 []) .reload 0x08000022 []) .fcp 0x08000022 []
  let s := s.modFab fun x => { x with load := none, fcp := none, cut := 0, drop := maskOr x.drop m }
  pumpLoad (startUnload (s.setReg K.fcpState 0) m)

/-- The dictionary is served in SAFE state, unless SC0 or SP0 has failed (R640). -/
def safeServes (s : State) (cls unit : Nat) : State :=
  if (cls = 9 ∧ unit = 0) ∨ (cls = 6 ∧ unit = 0) then stopServing s else s

/-- Entry to SAFE state for a block of an essential class (R640, R642). -/
def safeEntry (s : State) (cls unit : Nat) : State :=
  if s.mode = .safe then s
  else
    let s := { s with mode := .safe }
    let s := clampAll s 6 0
    let s := safeFabric (forN 8 safeGroup s)
    let s := s.modFn fun f => { f with al := .init }
    let t := if s.reg K.rtcValid = 0 then 0 else s.regN K.rtcSeconds
    let s := (s.bump K.safeStSafeCount 32).setRegs [(K.powerState, 3), (K.safeStSafeCause, cls), (K.safeStSafeUnit, unit),
      (K.safeStSafeTime, t)]
    safeServes (emcy s 0xFF82 0 unit cls) cls unit

/-! ## The die bridge (01 R10 to R12) -/

/-- BRIDGE_FLIT (01 R10): a flit that arrives whole ends a run of replays; one whose CRC fails is replayed. -/
def execBridgeFlit (crcGood : Bool) (s : State) : Out :=
  .next { s with fe := { s.fe with replays := if crcGood then 0 else s.fe.replays + 1 } }

/-- BRIDGE_DOWN (01 R12): after the flit itself, sixteen replays of it in a row have arrived bad. -/
def execBridgeDown (s : State) : Out :=
  .next (
    if 17 ≤ s.fe.replays ∧ s.fe.bridgeDown = false then
      safeEntry { s with fe := { s.fe with bridgeDown := true } } 2 0xFF
    else s)

end Sys2Proof.Machine
end

