-- ==== Sys2Proof/Machine/Clocks.lean ====
section
/-! DEFINITION. Crystals, PLLs and the RTC calendar (spec/15 R541 to R559). -/

namespace Sys2Proof.Machine

/-! ## Reference crystals (15 R542 to R545) -/

def crystalGood (s : State) (x : Nat) : Bool := s.regBit K.xoHealth x

/-- Steps 2 and 3 of R543: the reference moves to a crystal and every PLL locks to it again. -/
def switchCrystal (s : State) (x : Nat) : State :=
  emcy ((s.bump K.xoSwitchovers 32).setReg K.xoInUse x) 0xFF71 0 x x

/-- CRYSTAL_LOSS (R542, R543): crystal `x` is lost; if it is in use and the other is good, the reference moves. -/
def execCrystalLoss (x : Fin 2) (s : State) : Out :=
  .next (
    if crystalGood s x then
      let s := s.setBit K.xoHealth x false
      if s.reg K.xoInUse = (x.val : Int) ∧ crystalGood s (1 - x.val) = true then switchCrystal s (1 - x.val) else s
    else s)

/-- CRYSTAL_RESTORED (R542, R543): the device does not return to it on its own. -/
def execCrystalRestored (x : Fin 2) (s : State) : Out := .next (s.setBit K.xoHealth x true)

/-- BOTH_CRYSTALS_LOST (R544): the PLLs hold over, and every moving group makes its quick stop. -/
def execBothCrystalsLost (s : State) : Out :=
  .next (
    if s.mode = .run ∧ s.clock.lost = false ∧ s.power.low = 0 ∧ s.reg K.xoInUse ≠ 2 then
      let s := { s.setReg K.xoHealth 0 with clock := { s.clock with lost := true } }
      let s := forN 8 (fun s p => if s.reg (K.pllState p) = 3 then s.setReg (K.pllState p) 4 else s) s
      let s := emcy s 0xFF77 0 0xFF 0
      forN 8 (fun s g => if groupMoves s g then stopGroup s g true false 5 else s) s
    else s)

/-- The clapper link, the field network and storage stop (R544; 16 R584). -/
def limpStops (s : State) : State :=
  let s := s.modFn fun f => { f with al := .init }
  s.setRegs [(K.linkState, 0), (K.storageState, 0)]

/-- LIMP_ENTRY (R544): every group is at rest, or 1 s has passed. The engines are disabled without DISABLE_DELAY. -/
def execLimpEntry (waited : Bool) (s : State) : Out :=
  .next (
    if s.mode = .run ∧ s.clock.lost = true ∧ (waited || !anyGroupMoves s) = true then
      let s := { s with mode := .limp }
      let s := (limpStops s).setRegs [(K.powerState, 2), (K.xoInUse, 2)]
      let s := forN 48 (fun s n => disableNow s n 5) s
      emcy s 0xFF83 0 0xFF 0
    else s)

/-- XO_SELECT (R545). -/
def execXoSelect (r : Req) (v : BitVec 8) (s : State) : Out :=
  .next (request s r K.xoSelect 2 fun s =>
    writeEntry s r K.xoSelect v.toNat { state := whenCode (decide (v.toNat < 2) && !crystalGood s v.toNat) 0x08000022 } fun s =>
      ok (if s.reg K.xoInUse = (v.toNat : Int) then s else switchCrystal s v.toNat) r)

/-! ## PLLs (15 R546 to R551) -/

/-- A VCO at which every system output of the PLL reaches its frequency (R547). -/
def vcoPlanOk (p : Nat) (v : Int) : Bool :=
  decide (2000 ≤ v) && decide (v ≤ 4000) && (sysOuts p).all fun f => v.toNat % f == 0 && decide (v.toNat / f ≤ 512)

/-- A pending or running cutover, or a partial load, is about to clock a region from an output (09 R386). -/
def outAwaited (s : State) (c : Nat) : Bool :=
  match s.fab.load with
  | some l => (List.range 16).any fun r => (slMap l.slate).testBit r && slClock l.slate r == c
  | none => false

def pllKey (p : Nat) (e : PllField) (o : Nat) : Nat :=
  match e with
  | .div => K.pllOut0Div p + o
  | .phase => K.pllOut0Phase p + o
  | .en => K.pllOut0En p + o

/-- PLL_OUTPUT_WRITE (R548; 08 R305; 09 R386). -/
def execPllOutputWrite (r : Req) (p : Fin 8) (e : PllField) (o : Fin 7) (v : BitVec 16) (s : State) : Out :=
  .next (request s r (pllKey p e o) 2 fun s =>
    let c := 8 * p.val + o.val
    writeEntry s r (pllKey p e o) v.toNat
      { state := whenCode (decide (o.val < (sysOuts p).length) || outServes s c 16 || outAwaited s c) 0x08000022 }
      (storeOk r (pllKey p e o) v.toNat))

/-- The band slots of a PLL, least recently used first. -/
def pllBands (s : State) (p : Nat) : List BandSlot := tabGet (fun _ => []) s.clock.bands p

def setBands (s : State) (p : Nat) (l : List BandSlot) : State :=
  { s with clock := { s.clock with bands := tabSet (fun _ => []) s.clock.bands p l } }

/-- A slot with the VCO in use, found within 15 degrees of the present temperature (R549). -/
def bandFor (s : State) (p : Nat) (temp : Int) : Option BandSlot :=
  (pllBands s p).find? fun b => b.vco == s.regN (K.pllVcoInUse p) && decide ((b.temp - temp).natAbs ≤ 150)

/-- A PLL starts to lock: by a hop, or by a search (R549). -/
def startPll (s : State) (p : Nat) : State :=
  s.setReg (K.pllState p) (if (bandFor s p (s.reg K.thermTjNow)).isSome then (2 : Int) else 1)

/-- A search writes its result over the slot least recently used: one never used, while there is any (R549). -/
def newBand (l : List BandSlot) (vco band : Nat) (temp : Int) : List BandSlot :=
  if l.length < 8 then l ++ [⟨l.length, vco, band, temp⟩]
  else
    match l with
    | b :: t => t ++ [⟨b.slot, vco, band, temp⟩]
    | [] => l

/-- PLL_LOCKED (R549): by a hop where a slot fits the present temperature, else by a search that found `band`. -/
def execPllLocked (p : Fin 8) (temp : Int) (band : Nat) (s : State) : Out :=
  .next (
    if s.reg (K.pllState p) = 3 ∨ s.power.low ≠ 0 then s
    else
      let s := s.setReg (K.pllState p) 3
      match bandFor s p temp with
      | some b =>
        ((setBands s p ((pllBands s p).erase b ++ [b])).bump (K.pllHops p) 32).setReg (K.pllBandSlot p) b.slot
      | none =>
        let l := newBand (pllBands s p) (s.regN (K.pllVcoInUse p)) band temp
        ((setBands s p l).bump (K.pllSearches p) 32).setReg (K.pllBandSlot p) ((l.getLast?.map (·.slot)).getD 0 : Nat))

/-- PLL_LOCK_LOSS (R550): a second loss within 1 s of a PLL that serves a system domain, as each does, is the failure of an
essential block. -/
def execPllLockLoss (p : Fin 8) (again : Bool) (s : State) : Out :=
  .next (
    if s.reg (K.pllState p) = 3 then
      let s := startPll (s.bump (K.pllLockLosses p) 32) p
      let s := emcy s 0xFF75 7 p (s.regN (K.pllLockLosses p))
      if again ∧ sysOuts p ≠ [] then safeEntry s 0x0A p else s
    else s)

/-! ## The RTC calendar (15 R552 to R559) -/

/-- The last second of the calendar (R552). -/
def rtcLast : Nat := 6311433599

def leapYear (y : Nat) : Bool := (y % 4 == 0 && y % 100 != 0) || y % 400 == 0

def monthDays (y m : Nat) : Nat :=
  if m = 2 then (if leapYear y then 29 else 28) else if m = 4 ∨ m = 6 ∨ m = 9 ∨ m = 11 then 30 else 31

def yearDays (y : Nat) : Nat := if leapYear y then 366 else 365

/-- Days from 2000-01-01 to a date. -/
def daysTo (y m d : Nat) : Nat :=
  ((List.range (y - 2000)).map fun i => yearDays (2000 + i)).sum + ((List.range (m - 1)).map fun i => monthDays y (i + 1)).sum + (d - 1)

/-- The bytes of RTC_CALENDAR as a count, if they spell a date and time (R554, R555). -/
def calendarSeconds (b : List Byte) : Option Nat :=
  let y := leNat (b.take 2)
  let f := fun i => (b.getD i 0).toNat
  if 2000 ≤ y ∧ y ≤ 2199 ∧ 1 ≤ f 2 ∧ f 2 ≤ 12 ∧ 1 ≤ f 3 ∧ f 3 ≤ monthDays y (f 2) ∧ f 4 ≤ 23 ∧ f 5 ≤ 59 ∧ f 6 ≤ 59 then
    some (daysTo y (f 2) (f 3) * 86400 + f 4 * 3600 + f 5 * 60 + f 6)
  else none

/-- Takes whole units off a number of days, as long as they fit: how many, and what is left. -/
def takeUnits (len : Nat → Nat) : Nat → Nat → Nat → Nat × Nat
  | 0, u, d => (u, d)
  | fuel + 1, u, d => if len u ≤ d then takeUnits len fuel (u + 1) (d - len u) else (u, d)

/-- RTC_CALENDAR as read (R555). -/
def calendarBytes (n : Nat) : List Byte :=
  let days := n / 86400
  let y := takeUnits yearDays 200 2000 days
  let m := takeUnits (monthDays y.1) 12 1 y.2
  leBytes 2 y.1 ++ leBytes 1 m.1 ++ leBytes 1 (m.2 + 1) ++ leBytes 1 (n / 3600 % 24) ++ leBytes 1 (n / 60 % 60) ++ leBytes 1 (n % 60)
    ++ leBytes 1 ((days + 5) % 7 + 1)

/-- An accepted write sets the count and RTC_VALID; the island records it (R554, R559; 14 R537). -/
def setRtc (s : State) (n : Nat) : State :=
  let old := s.regN K.rtcSeconds
  let s := (s.bump K.rtcWrites 32).setRegs [(K.rtcSeconds, n), (K.rtcValid, 1)]
  islEvent s 1 (leBytes 8 old ++ leBytes 8 n)

/-- RTC_SECONDS_WRITE (R554). -/
def execRtcSecondsWrite (r : Req) (v : BitVec 64) (s : State) : Out :=
  .next (request s r K.rtcSeconds 2 fun s =>
    writeEntry s r K.rtcSeconds v.toNat { set := whenCode (decide (rtcLast < v.toNat)) 0x06090031 } fun s =>
      ok (setRtc s v.toNat) r)

/-- RTC_CALENDAR_WRITE (R554, R555): the checks of WEEKDAY and of the date. -/
def execRtcCalendarWrite (r : Req) (data : List Byte) (s : State) : Out :=
  .next (request s r K.rtcCalendar 2 fun s =>
    let n := calendarSeconds data
    writeBytes s r K.rtcCalendar data
      { set := if data.getD 7 0 ≠ 0 then some 0x06090030 else whenCode n.isNone 0x0F000005 } fun s =>
      ok (setRtc s (n.getD 0)) r)

/-- The island records that the RTC has become invalid during a job (14 R537). -/
def rtcLost (s : State) : State :=
  let s := s.setReg K.rtcValid 0
  if s.isl.job.isSome then islEvent s 5 [] else s

/-- RTC_SECOND (R552, R556): at the end of its range the RTC stops until it is written. -/
def execRtcSecond (s : State) : Out :=
  .next (
    let n := s.regN K.rtcSeconds
    if n < rtcLast then s.setReg K.rtcSeconds (n + 1 : Nat)
    else if s.reg K.rtcValid = 1 then emcy (rtcLost s) 0xFF74 7 0xFF 0
    else s)

end Sys2Proof.Machine
end

