-- ==== Sys2Proof/Machine/Life.lean ====
section
/-! DEFINITION. Lifecycle transitions, debug grants, the battery-backed key and TAMPER# (spec/17). -/

namespace Sys2Proof.Machine

/-- Random bytes: free values. -/
def draw (s : State) (n : Nat) : List Byte × State :=
  ((List.range n).map fun i => BitVec.ofNat 8 (Config.free (s.freeCtr + i)), { s with freeCtr := s.freeCtr + n })

/-- A new DEVICE_NONCE (R610). -/
def newNonce (s : State) : State :=
  let d := draw s 32
  d.2.setBlob K.transDeviceNonce d.1

/-! ## Zeroisation (R612, R623) -/

/-- A slot of the crucible is emptied; its generation is kept, and one retired for good stays so. -/
def emptySlot (x : KeySlot) : KeySlot := { st := if x.st = 4 ∨ x.gen = 0xFFFF then 4 else 0, gen := x.gen }

/-- BK is gone. -/
def dropBk (s : State) : State := (s.modCip fun x => { x with bk := none }).setReg K.bkState 0

/-- The ephemeral key and every crucible slot are zeroised: requests with any key index end with KEY_RETIRED, and DRAM is
unavailable until the next start (R623). -/
def zeroiseCrucible (s : State) : State :=
  let s := s.modCip fun x => { x with slot := tabMap (fun _ => {}) (fun _ e => emptySlot e) x.slot, noEphemeral := true }
  let s := completeAll (showSlots (s.setReg K.retiring 0)) .retire 0 []
  let s := if s.reg K.dramState = 0 then s else dramLost s
  let s := dropRekey s (s.regN K.rekeyIndex)
  (s.cip.cmds.filter fun c => !c.atDrive).foldl (fun s c => endCmd s c 0x0F000004 []) s

/-- Key records are removed from S5, and the event is told (R623 steps 2 and 3). -/
def tamperDone (s : State) : State :=
  let s := { s.setReg K.tamperState 2 with life := { s.life with owed := false } }
  islEvent (emcy s 0xFF15 7 0xFF (s.regN K.tamperCount)) 3 []

/-- The debug grant ends; cores that it had halted run on (R616; DESIGN CHOICE for the cores, log debugEnd). -/
def closeDebug (s : State) : State := { s.setReg K.dbgDebugScope 0 with life := { s.life with halted := 0 } }

/-- TAMPER (R622, R623): TAMPER# has been low for 10 us. With VCC_SYS off the rest follows at the next start. -/
def execTamper (s : State) : Out :=
  .next (
    let s := dropBk { s with life := { s.life with tamperPin := false, owed := true } }
    let t := if s.reg K.rtcValid = 0 then 0 else s.regN K.rtcSeconds
    let s := closeDebug ((s.bump K.tamperCount 32).setRegs [(K.tamperState, 1), (K.tamperTime, t)])
    if sysOn s then
      let s := zeroiseCrucible s
      if s.power.low = 0 then tamperDone s else s
    else s)

/-- TAMPER_CLEAR (R624): `high` says that TAMPER# has been high for 1 s. -/
def execTamperClear (r : Req) (high : Bool) (s : State) : Out :=
  .next (request s r K.tamperClear 2 fun s =>
    writeEntry s r K.tamperClear 1 { state := whenCode (s.reg K.tamperState != 0 && (!high || s.reg K.tamperState == 1)) 0x08000022 } fun s =>
      ok { s.setReg K.tamperState 0 with life := { s.life with tamperPin := true } } r)

/-! ## The battery-backed key (R621, R624) -/

/-- A load of BK: in OWNED only, while none is present. -/
def bkLoad (r : Req) (data : List Byte) (s : State) : State :=
  let own := firstSome [whenCode (lifeState s != 4) 0x0F000008, keyWorkCode s, whenCode s.cip.bk.isSome 0x08000022]
  writeBytes s r K.bkRecord data { state := own, set := whenCode (!zeroRun data 0 4) 0x06090030 } fun s =>
    match unwrapKey (fusedKey s) (asciiOf [66, 75, 87, 80]) (unitUid s) data with
    | none => refuse s r 0x0F000009
    | some key => ok ((s.modCip fun x => { x with bk := some key }).setReg K.bkState 1) r

def execBkRecord (r : Req) (data : List Byte) (s : State) : Out := .next (request s r K.bkRecord 4 (bkLoad r data))

/-- BK_CLEAR (R621). -/
def execBkClear (r : Req) (s : State) : Out :=
  .next (request s r K.bkClear 2 fun s => writeEntry s r K.bkClear 1 {} fun s => ok (dropBk s) r)

/-! ## Transitions (R605 to R615) -/

/-- The log's entry for a state code. -/
def logEntry (code : Nat) : Nat := 16 * code + (15 - code)

/-- Whether the present TEST entry was made from FIELD_RETURN (R607). -/
def testFromReturn (s : State) : Bool := (s.life.log.filter (· != 0)).dropLast.getLast? == some 0x5A

/-- The transitions of R607. -/
def transitionExists (s : State) (a b : Nat) : Bool :=
  (a == 1 && b == 2) || (a == 2 && b == 3) || (a == 2 && b == 5 && testFromReturn s) || (a == 3 && b == 2) || (a == 3 && b == 4)
    || (a == 4 && b == 5) || (a == 5 && b == 2) || (a == 5 && b == 4) || (decide (1 ≤ a) && decide (a ≤ 5) && b == 6)

/-- A transition spends a token: an entry to TEST from PROVISIONED or FIELD_RETURN. -/
def spendsToken (a b : Nat) : Bool := b == 2 && (a == 3 || a == 5)

def tokenBytes (i : Nat) : List Byte := (List.range 16).map fun j => BitVec.ofNat 8 (Config.tokenByte i j)

def transportKey : List Byte := (List.range 32).map fun j => BitVec.ofNat 8 (Config.transportByte j)

/-- FORMAT (R608, R611): also a TOKEN where the transition takes none, or none where it takes one. -/
def transFormatOk (d : List Byte) : Bool :=
  let spends := spendsToken (byteOf d 4) (byteOf d 5)
  d.length == 312 && leAt d 0 4 == 0x4546494C && byteOf d 7 == 0 && zeroRun d 148 4
    && (if spends then decide (byteOf d 6 < 16) else byteOf d 6 == 0xFF && zeroRun d 56 32) && (byteOf d 5 == 4 || zeroRun d 88 128)

/-- Something runs that a transition may not cut (R611 result 7). -/
def transBusy (s : State) : Bool :=
  cutting s || s.reg K.stageOwner != 0 || s.power.target != 0 || s.reg K.rekeyState == 1 || s.cip.active.isSome
    || !s.cip.remeltQ.isEmpty || !s.mem.remelts.isEmpty || s.reg K.tamperState != 0 || s.life.trans

/-- The checks of results 1 to 7, in order (R611). -/
def transResult (s : State) (d : List Byte) : Nat :=
  let a := byteOf d 4
  let b := byteOf d 5
  let tok := byteOf d 6
  let nonce := (d.drop 24).take 32
  let uid := (d.drop 8).take 16
  let proof := !spendsToken a b || sha256 (tokenBytes tok ++ nonce) == (d.drop 56).take 32
  let wrap := b != 4 || gcmOk transportKey ((d.drop 88).take 12) (uid ++ nonce) ((d.drop 100).take 32) ((d.drop 132).take 16)
  if !transFormatOk d then 1
  else if moving s then 2
  else if a ≠ lifeState s ∨ transitionExists s a b = false ∨ s.mode ≠ .run ∨ (spendsToken a b && s.life.spent.testBit tok) = true
      ∨ (b = 4 ∧ 4 ≤ s.life.records.length) then 3
  else if uid ≠ unitUid s then 4
  else if nonce ≠ s.blob K.transDeviceNonce then 5
  else if !(sigOk (vendorKey 2) (d.take 216) ((d.drop 216).take 96) && wrap && proof) then 6
  else if transBusy s then 7
  else 0

/-- The abort codes of R611. -/
def transAbort (res : Nat) : Nat :=
  match res with
  | 0 => 0
  | 1 => 0x06090030
  | 2 => 0x0F000001
  | 3 => 0x0F000008
  | 4 => 0x0F000009
  | 5 => 0x0F00000F
  | 6 => 0x0F000009
  | 7 => 0x08000022
  | _ => 0x0F00000D

/-- A block is erased for good, protection or not (R612 step 2). -/
def eraseNow (s : State) (k : Nat) : State := (eraseClean (beginErase s k) k).bump K.flOperations 32

/-- Steps 1 and 2 of R612: keys, ingots, the user area and the parameter store. -/
def destroySecrets (s : State) : State :=
  let s := zeroiseCrucible (dropBk s)
  let s := ((List.range 256).filter fun k => decide (k < 48) || (decide (64 ≤ k) && decide (k < 112)) || (decide (128 ≤ k) && decide (k < 176))
    || decide (192 ≤ k)).foldl eraseNow s
  let s := forN 3 (fun s k => s.setRegs [(K.slotState k, 0), (K.slotId k, 0), (K.slotVersion k, 0), (K.slotRollback k, 0)]) s
  { s with host := { s.host with store := { s.host.store with copyA := ⟨0, false, [], []⟩, copyB := ⟨0, false, [], []⟩ } } }

/-- The record in use is revoked: its key reads all ones (R612 step 3). -/
def revokeRecord (s : State) : State :=
  { s with life := { s.life with records := s.life.records.map fun x => if x.revoked then x else { x with fk := List.replicate 32 0xFF#8, revoked := true } } }

/-- The attestation key of a number, a scalar of the curve (02 R86). -/
def attestScalar (i : Nat) : Nat := 1 + Config.attestDraw i % (p384N - 1)

/-- ATTEST_CERTIFICATE (02 R86): the public key of the attestation key, and what certifies it, which the spec does not lay
out. -/
def certificate (s : State) : List Byte :=
  match s.life.attest with
  | none => []
  | some i => publicKey (attestScalar i)
    ++ (List.range (Config.measured K.attestCertificate 0 % 4001)).map fun j => BitVec.ofNat 8 (Config.measured K.attestCertificate (j + 1))

/-- From TEST to PROVISIONED the unit draws its attestation key and blows it into fuses (02 R86; R606). Fuses that hold a
key take no second one (R605). -/
def drawAttest (s : State) : State :=
  match s.life.attest with
  | some _ => s
  | none => { s with life := { s.life with attest := some (s.freeCtr + 1) }, freeCtr := s.freeCtr + 1 }

/-- The fuses of step 4 of R614: the log entry, then the token, the attestation key, the owner record or its revocation. -/
def blowFuses (s : State) (d : List Byte) : State :=
  let a := byteOf d 4
  let b := byteOf d 5
  let s := { s with life := { s.life with log := s.life.log ++ [logEntry b] } }
  let s := if spendsToken a b then { s with life := { s.life with spent := setBitTo s.life.spent (byteOf d 6) true } } else s
  let s := if a = 2 ∧ b = 3 then drawAttest s else s
  if b = 4 then
    let fk := gcmText transportKey ((d.drop 88).take 12) ((d.drop 100).take 32)
    { s with life := { s.life with records := s.life.records ++ [⟨fk, (d.drop 152).take 32, (d.drop 184).take 32, false⟩] } }
  else if b = 5 ∨ b = 6 then revokeRecord s
  else s

/-- An accepted request (R614): `margin` is what the margin monitor found, all ones where every check passed (R613). -/
def transAccepted (r : Req) (d : List Byte) (margin : Nat) (s : State) : State :=
  let b := byteOf d 5
  let s := if b = 5 ∨ b = 6 then destroySecrets s else s
  let s := s.setReg K.transMargin margin
  if margin ≠ 31 then refuse (newNonce (s.setReg K.transLastResult 8)) r (transAbort 8)
  else
    let s := blowFuses (s.setRegs [(K.transLastResult, 0), (K.transitionState, 2)]) d
    let s := newNonce { s with life := { s.life with trans := true } }
    ok (islEvent s 4 []) r

/-- A transition request: the table of R611 settles what the checks of 02 R698 would. -/
def transRequest (r : Req) (d : List Byte) (margin : Nat) (s : State) : State :=
  let res := transResult s d
  if res = 0 then transAccepted r d margin s
  else refuse (newNonce (s.setReg K.transLastResult res)) r (transAbort res)

/-- TRANSITION_REQUEST (R607 to R614). -/
def execTransitionRequest (r : Req) (data : List Byte) (margin : Fin 32) (s : State) : Out :=
  .next (request s r K.transitionRequest 4 (transRequest r data margin.val))

/-! ## Debug (R616 to R620) -/

/-- A read of DEBUG_CHALLENGE as READ (1) or DOMAIN_READ (3), with its OFFSET and LENGTH (02 R44): a new nonce is drawn for
its path. -/
def challengeRead (r : Req) (op off len : Nat) (s : State) : State :=
  let d := draw s 32
  let x := readPart op off len
    (unitUid s ++ d.1 ++ leBytes 1 (lifeState s) ++ zeros 3 ++ leBytes 4 s.host.attCounter ++ zeros 8)
  if x.1 ≠ 0 then refuse s r x.1 else reply (d.2.modPath r.path fun p => { p with dbgNonce := d.1 }) r 0 x.2

/-- DEBUG_CHALLENGE (R619). -/
def execDebugChallenge (r : Req) (s : State) : Out := .next (request s r K.dbgDebugChallenge 3 (challengeRead r 3 0 0))

/-- The fields of a grant (R619). -/
def grantFormatOk (s : State) (d : List Byte) : Bool :=
  leAt d 0 4 == 0x47554244 && decide (leAt d 4 4 < 16) && zeroRun d 56 8
    && (lifeState s == 4 || (zeroRun d 64 96 && zeroRun d 256 96))

/-- The refusals of a grant of good form (R620). -/
def grantCode (s : State) (r : Req) (d : List Byte) : Option Nat :=
  let owned := lifeState s == 4
  let consent := (d.drop 64).take 96
  let good := (d.drop 8).take 16 == unitUid s && sigOk (vendorKey 3) (d.take 160) ((d.drop 160).take 96)
    && (!owned || (some (sha256 consent) == (ownerRec s).map (·.consentHash) && sigOk consent (d.take 256) ((d.drop 256).take 96)))
  if !grantFormatOk s d then some 0x06090030
  else if !good then some 0x0F000009
  else whenCode ((s.path r.path).dbgNonce.isEmpty || (d.drop 24).take 32 != (s.path r.path).dbgNonce) 0x0F00000F

/-- A grant (R620, R624): refused in the states that admit none before any other check. -/
def debugGrant (r : Req) (d : List Byte) (s : State) : State :=
  let st := lifeState s
  if st ≠ 3 ∧ st ≠ 4 ∧ st ≠ 5 then refuse s r 0x0F000008
  else
    writeBytes s r K.dbgDebugGrant d { state := keyWorkCode s, set := grantCode s r d } fun s =>
      ok (emcy ((closeDebug s).setReg K.dbgDebugScope (leAt d 4 4)) 0xFF16 7 0xFF (leAt d 4 4)) r

def execDebugGrant (r : Req) (data : List Byte) (s : State) : Out := .next (request s r K.dbgDebugGrant 4 (debugGrant r data))

/-- DEBUG_CLOSE (R616). -/
def execDebugClose (r : Req) (s : State) : Out :=
  .next (request s r K.dbgDebugClose 2 fun s => writeEntry s r K.dbgDebugClose 1 {} fun s => ok (closeDebug s) r)

/-! ## LIFECYCLE (R626) -/

/-- The entries of LIFECYCLE that hold a number, as they read. -/
def lifeEntry (s : State) (key : Nat) : Option Int :=
  if key = K.lifeState then some (lifeState s)
  else if key = K.lifeTokensLeft then some (16 - (bitsOf s.life.spent 16).length : Nat)
  else if key = K.lifeOwnerRecord then some (if (ownerRec s).isSome then ((s.life.records.length - 1 : Nat) : Int) else 0xFF)
  else if key = K.lifeRecordsLeft then some (4 - s.life.records.length : Nat)
  else none

/-- The hashes of the record in use, zero if none. -/
def lifeHash (s : State) (key : Nat) : Option (List Byte) :=
  let zero := zeros 32
  if key = K.lifeImageKeyHash then some (((ownerRec s).map (·.imageHash)).getD zero)
  else if key = K.lifeConsentKeyHash then some (((ownerRec s).map (·.consentHash)).getD zero)
  else none

end Sys2Proof.Machine
end

