-- ==== Sys2Proof/Machine/Store.lean ====
section
/-! DEFINITION. The parameter store: storing, restoring, and what a start reads from it (spec/02 R37 to R42; 08 R322). -/

namespace Sys2Proof.Machine

def State.modStore (s : State) (f : StoreSt → StoreSt) : State := { s with host := { s.host with store := f s.host.store } }

/-- The range of an index as a bit of a mask (R38): 1 communication, 2 application, 4 fabric. -/
def rangeOf (key : Nat) : Nat :=
  let i := keyIndex key
  if 0x1000 ≤ i ∧ i < 0x2000 then 1 else if 0x2000 ≤ i ∧ i < 0x4D00 then 2 else 4

/-- The ranges of sub-index 1 + `which` of 0x1010 and 0x1011. -/
def rangesOf (which : Nat) : Nat := match which with
  | 0 => 7
  | 1 => 1
  | 2 => 2
  | _ => 4

def inRanges (m key : Nat) : Bool := m &&& rangeOf key != 0

/-- An entry is in the parameter store. -/
def isStored (key : Nat) : Bool := ((rowOf (keyIndex key) (keySub key)).map (·.stored)).getD false

/-- The state in use of a biquad or a notch, which the store keeps with the stored entries (05 R193). -/
def isFilterEnable (key : Nat) : Bool :=
  let i := keyIndex key
  let o := (i - 0x4000) % 0x40
  decide (0x4000 ≤ i ∧ i < 0x4C00) && ((o == 0x15 && (keySub key == 1 || keySub key == 7)) || (o == 0x16 && keySub key == 1))

/-- The newest copy that verifies (R40). -/
def newestCopy (s : State) : Option StoreCopy :=
  let a := s.host.store.copyA
  let b := s.host.store.copyB
  if a.good && (!b.good || decide (b.seq < a.seq)) then some a else if b.good then some b else none

/-- A copy takes the place of the older one (R40). -/
def putCopy (s : State) (entries : List (Nat × Int)) (fabric : List (Nat × List Byte)) : State :=
  s.modStore fun x =>
    let older := x.copyA.good && (!x.copyB.good || decide (x.copyB.seq < x.copyA.seq))
    let n : StoreCopy := ⟨(if older then x.copyA.seq else x.copyB.seq) + 1, true, entries, fabric⟩
    if older then { x with copyB := n } else { x with copyA := n }

/-- The fabric's values of the stored entries of loaded regions (08 R322): bytes of the right length that the fabric gives,
and for an entry whose region is unloaded what was stored before. -/
def fabricSnapshot (s : State) : List (Nat × List Byte) × State :=
  (s.fab.objects.filter fun d => d.acc.testBit 2).foldl (fun a d =>
    if portServes a.2 d.port then
      let f := a.2.fresh
      let n := match (ciaType d.ty).bind Ty.size with
        | some n => n
        | none => Config.free f.1 % (if d.ty = 9 then 65 else if d.ty = 0xA then 257 else 4097)
      let bytes := (List.range n).map fun i => BitVec.ofNat 8 (Config.measured 322 (f.1 + i))
      (a.1 ++ [(d.key, bytes)], f.2)
    else (a.1 ++ [(d.key, storedBytes a.2 d)], a.2)) ([], s)

/-- STORE_PARAMETERS (R38, R39): a snapshot (that of an SSI port lists POS_ORIGIN also where it is 0; 03 R138; the filters
in use are in it, 05 R193); one store runs at a time. Marks of the ranges it covers are cleared (R41). -/
def storeParameters (r : Req) (which : Nat) (s : State) : State :=
  writeEntry s r (K.storeAll + which) 0x65766173 {} fun s =>
    let m := rangesOf which
    let f := if m &&& 4 = 0 then ([], s) else fabricSnapshot s
    let s := f.2
    let id := s.host.store.nextId
    let origins := if m &&& 2 = 0 then [] else
      ((List.range 48).filter fun n => s.reg (K.fbMode n) == 4 && s.reg (K.refPosOrigin n) == 0).map fun n => (K.refPosOrigin n, 0)
    let job : StoreJob := ⟨id, m, (s.regs.filter fun e => (isStored e.1 || isFilterEnable e.1) && inRanges m e.1) ++ origins, f.1⟩
    await (s.modStore fun x => { x with jobs := x.jobs ++ [job], nextId := id + 1, marks := clearMask x.marks m }) (.store id) r

def execStoreParameters (r : Req) (which : Fin 4) (s : State) : Out :=
  .next (request s r (K.storeAll + which) 2 (storeParameters r which))

/-- STORE_VERIFIED (R39, R40): the running store has been written to the older copy and verified: its ranges from the
snapshot, the others as the newest copy has them. -/
def execStoreVerified (s : State) : Out :=
  .next (
    match s.host.store.jobs with
    | [] => s
    | j :: t =>
      if s.power.down ∨ s.power.low ≠ 0 then s
      else
        let c := (newestCopy s).getD ⟨0, false, [], []⟩
        let s := putCopy s (c.entries.filter (fun e => !inRanges j.ranges e.1) ++ j.entries)
          (if j.ranges &&& 4 = 0 then c.fabric else j.fabric)
        completeAll (s.modStore fun x => { x with jobs := t }) (.store j.id) 0 [])

/-- RESTORE_DEFAULTS (R38, R41): the ranges are marked; they start on defaults at the next reset. -/
def execRestoreDefaults (r : Req) (which : Fin 4) (s : State) : Out :=
  .next (request s r (K.restoreAll + which) 2 fun s =>
    writeEntry s r (K.restoreAll + which) 0x64616F6C {} fun s =>
      ok (s.modStore fun x => { x with marks := x.marks ||| rangesOf which }) r)

/-- A store that ran is cut: the copy it was writing no longer verifies (R40). -/
def cutStore (s : State) : State :=
  if s.host.store.jobs.isEmpty then s
  else s.modStore fun x =>
    let older := x.copyA.good && (!x.copyB.good || decide (x.copyB.seq < x.copyA.seq))
    let x := { x with jobs := [] }
    if older then { x with copyB := { x.copyB with good := false } } else { x with copyA := { x.copyA with good := false } }

/-- At a reset: a store that ran is cut; the newest good copy is read, or none verifies; the marked ranges start on defaults,
and the store is written afresh (R40, R41). Entries that `held` names keep what they have. -/
def loadStore (held : Nat → Bool) (s : State) : State :=
  let s := cutStore s
  let s := s.modStore fun x => { x with lost := (newestCopy s).isNone }
  let c := (newestCopy s).getD ⟨0, false, [], []⟩
  let m := s.host.store.marks
  let es := c.entries.filter fun e => !inRanges m e.1
  let f := if m &&& 4 = 0 then c.fabric else []
  let s := if m = 0 then s else (putCopy s es f).modStore fun x => { x with marks := 0 }
  (s.modStore fun x => { x with fabric := f }).setRegs (es.filter fun e => !held e.1)

end Sys2Proof.Machine
end

