-- ==== Sys2Proof/Machine/Release.lean ====
section
/-! DEFINITION. The release of the device and what it waits for (09 R350, R351, R383, R384). -/

namespace Sys2Proof.Machine

/-- A port with a range other than BIP switches its network, without a ramp (04 R166 step 3). -/
def releaseRange (s : State) (n : Nat) : State :=
  let v := s.regN (K.cmRange n)
  if (s.cm n).driven ∧ (s.cm n).rangePhase = 0 ∧ (s.cm n).rangeUse ≠ v then
    cmBit ((s.modCm n fun c => { c with rangePhase := 4, rangeNew := v, rangeUse := v }).setReg (K.cmDacCode n) (zeroCode v)) n 28 true
  else s

/-- A bank takes the owner it starts with (11 R433); what a retained bank kept over DEEP SLEEP stays its owner (11 R432). -/
def releaseBankOwner (mailbox : Nat) (s : State) (b : Nat) : State :=
  if b < 4 then s
  else if s.bad.contains (0x18, b) then s.setReg (K.bankOwner b) 0
  else if b = mailbox then s.setReg (K.bankOwner b) 0x40
  else if s.power.kept.testBit b then s
  else
    let o := s.regN (K.bankStartOwner b)
    s.setReg (K.bankOwner b) (if 0x30 ≤ o ∧ o ≤ 0x37 ∧ regionLoaded s (hostRegion (o - 0x30)) = true then (o : Int) else 0)

/-- Blocks whose erase was cut are reported at every release: emergency 0xFF51 with the bank and the block (10 R405). -/
def releaseBlocks (s : State) : State :=
  s.flash.block.foldl (fun s b => if b.2.incomplete then emcy s 0xFF51 7 (b.1 / 64) b.1 else s) s

/-- A feedback port starts again by 03 R99, with HOMED only as 03 R138 allows (16 R578); the port of a tapped input goes on
(03 R140). -/
def restartFb (s : State) (n : Nat) : State :=
  if s.reg (K.fbMode n) = 0 ∨ ((s.fb n).tapped = true ∧ (s.fb n).modeUse ≠ 0) then s
  else
    let s := fbBit (fbBit s n 31 false) n 30 false
    let s := gapPort (s.modFb n fun f => { f with modePend := true, started := false }) n
    let stored := ((newestCopy s).map fun c => c.entries.any fun e => e.1 == K.refPosOrigin n).getD false
    if s.reg (K.fbMode n) = 4 ∧ s.reg (K.ssiWrap n) = 0 ∧ stored = true then fbBit s n 30 true else s

/-- What a feedback port and its axis take in at the release (03 R96; 04 R166). -/
def releaseAxis (s : State) (n : Nat) : State :=
  let s := restartFb s n
  releaseRange s n

/-- Lows of RESET# that were taken are counted and reported at release; LAST_SOURCE they have set when taken (04 R176). -/
def tellResets (s : State) : State :=
  let s := (List.range s.fe.safe.resets).foldl (fun s _ =>
    emcy (s.bump K.safeStopCount 32) 0xFF23 5 0xFF 3) s
  s.modSafe fun x => { x with resets := 0 }

/-- The release of the device: the regions that wait start together; RELEASE_STATE is 2, or 3 after a timeout (R350 step 6,
R351; 01 R18, R699; 11 R433; 15 R564; 16 R582, R584; 18 R648). -/
def deviceRelease (s : State) (how loadTime waited wakeTime : Nat) : State :=
  let s := releaseAll s
  let s := { s with released := true, power := { s.power with stage := 0, attempts := 0, target := 0, step := 0 } }
  let cell := if s.link.timed then s.regN K.linkCellTime else if s.reg K.rtcValid = 0 then 0 else s.regN K.rtcSeconds * 1000000000
  let s := s.setRegs [(K.ingotReleaseState, how), (K.ingotLoadTime, loadTime), (K.cfgDoneWaited, waited),
    (K.powWakeTime, wakeTime), (K.tickCount, 0), (K.tickState, if s.reg K.tickSource = 0 then 0 else 2), (K.linkCellTime, cell)]
  let s : State := { s with link := { s.link with base := cell } }
  let s := forN 16 (releaseBankOwner (ownParam s 9).toNat) s
  let s := forN 32 evEnter (forN 48 releaseAxis { s with power := { s.power with kept := 0 } })
  let s := releaseBlocks s
  let s := if s.mode = .limp then emcy s 0xFF83 0 0xFF 0 else s
  let s := if s.reg K.pfaultFaultStage = 0 then s else emcy s 0xFFA6 2 0xFF (s.regN K.pfaultFaultAttempts)
  let s := tellResets (tellReserve s)
  if s.isl.resetSeen then (islEvent s 2 []).modIsl fun i => { i with resetSeen := false } else s

/-- The done condition of the running slate (R384), the line as read and the clapper link as it stands. -/
def doneMet (s : State) (ball : Bool) : Bool :=
  let cell := (s.reg K.linkState == 2 || s.reg K.linkState == 3) && s.regBit K.cfgDoneLine 2
  match slDoneMode s.fab.slate with
  | 1 => cell
  | 2 => ball && cell
  | _ => ball

/-- DONE_CONDITION_MET (R350 step 6, R384): the line as read, the load time (R359), the microseconds waited and those since the
wake trigger (16 R574). -/
def execDoneConditionMet (ball : Bool) (loadTime waited wakeTime : BitVec 32) (s : State) : Out :=
  .next (
    if s.reg K.ingotReleaseState = 1 ∧ s.mode ≠ .safe then
      let s := s.setBit K.cfgDoneLine 0 ball
      if doneMet s ball then deviceRelease s 2 loadTime.toNat waited.toNat wakeTime.toNat else s
    else s)

/-- DONE_TIMEOUT (R384): the time of the slate has run out first. -/
def execDoneTimeout (loadTime wakeTime : BitVec 32) (s : State) : Out :=
  .next (
    let ms := slDoneTimeout s.fab.slate
    if s.reg K.ingotReleaseState = 1 ∧ s.mode ≠ .safe ∧ ms ≠ 0 then
      deviceRelease (emcy s 0xFF44 4 0xFF ms) 3 loadTime.toNat (1000 * ms) wakeTime.toNat
    else s)

end Sys2Proof.Machine
end

