-- ==== Sys2Proof/Machine/Debug.lean ====
section
/-! DEFINITION. The debug master behind the JTAG port: what the lifecycle state and a grant open, what no scope reaches, and
what the master does with it (spec/17 R603, R616 to R618; 11 R440). Its accesses come over TCK, so no command of the table
calls them; they are operations on State as those commands are. -/

namespace Sys2Proof.Machine

/-! ## What is open (17 R603, R616, R617) -/

/-- The scopes, as the bits of SCOPE (17 R617). -/
inductive DebugScope where
  | extest | cores | fabric | memory
deriving DecidableEq, Repr

def DebugScope.bit : DebugScope → Nat
  | .extest => 0
  | .cores => 1
  | .fabric => 2
  | .memory => 3

/-- A scope is open: always in BLANK and TEST, by the grant in PROVISIONED, OWNED and FIELD_RETURN, and never in SCRAPPED and
INVALID (17 R603, R616). -/
def scopeOpen (s : State) (x : DebugScope) : Bool :=
  match lifeState s with
  | 1 => true
  | 2 => true
  | 3 => (s.regN K.dbgDebugScope).testBit x.bit
  | 4 => (s.regN K.dbgDebugScope).testBit x.bit
  | 5 => (s.regN K.dbgDebugScope).testBit x.bit
  | _ => false

/-- The instructions of the boundary scan (17 R603, R618). -/
inductive ScanInstr where
  | idcode | bypass | sample | extest
deriving DecidableEq, Repr

/-- An instruction is served. SAMPLE is open in every state (17 R618), although R603 names IDCODE and BYPASS alone for SCRAPPED
and INVALID (DESIGN CHOICE, log scanSample). -/
def scanServes (s : State) (i : ScanInstr) : Bool :=
  match i with
  | .extest => scopeOpen s .extest
  | _ => true

/-- The balls with a boundary-scan cell (17 R617, R618). -/
inductive ScanCell where
  | userIo (n : Nat) | hpi (n : Nat) | mii (n : Nat) | fb (n : Nat) | cm (n : Nat) | ev (n : Nat) | am (n : Nat) | uf (n : Nat)
deriving DecidableEq, Repr

/-- EXTEST drives a cell: those of the logic die's user I/O, the HPI and the MII; the others observe only (17 R617, R618). -/
def extestDrives (s : State) (c : ScanCell) : Bool :=
  scopeOpen s .extest &&
    match c with
    | .userIo _ => true
    | .hpi _ => true
    | .mii _ => true
    | _ => false

/-! ## What a scope reaches (17 R617, R618) -/

/-- What a debugger may ask for. -/
inductive DebugTarget where
  | core (c : Fin 4) | region (r : Nat) | scratchpad (addr len : Nat) | dram (addr len : Nat)
  | crucible | batteryKey | fuseKey | transportKey | token (i : Nat) | attestKey | keyRecords | island
deriving DecidableEq, Repr

/-- The debug master reaches a target: through a scope, a region only while it is loaded, DRAM only outside the protected
ranges; keys, tokens, the key records of S5 and the island through none (17 R617, R618; 11 R440). -/
def debugReaches (s : State) (x : DebugTarget) : Bool :=
  match x with
  | .core _ => scopeOpen s .cores
  | .region r => scopeOpen s .fabric && s.fab.loaded.testBit r
  | .scratchpad addr len => scopeOpen s .memory && decide (addr + len ≤ 16 * 0x40000)
  | .dram addr len => scopeOpen s .memory && !blocked s addr len
  | .crucible => false
  | .batteryKey => false
  | .fuseKey => false
  | .transportKey => false
  | .token _ => false
  | .attestKey => false
  | .keyRecords => false
  | .island => false

/-! ## The debug master's accesses (17 R617; 11 R440) -/

/-- A service core is halted. -/
def haltCore (s : State) (c : Fin 4) : State :=
  if debugReaches s (.core c) then { s with life := { s.life with halted := setBitTo s.life.halted c.val true } } else s

/-- A halted core runs on. -/
def resumeCore (s : State) (c : Fin 4) : State :=
  if debugReaches s (.core c) then { s with life := { s.life with halted := setBitTo s.life.halted c.val false } } else s

/-- The device watchdog is served: SC3 runs (17 R618; 18 R644). -/
def watchdogServed (s : State) : Bool := !s.life.halted.testBit 3

/-- A read of scratchpad: zeros where the scope is closed. -/
def debugSpRead (s : State) (addr len : Nat) : List Byte :=
  if debugReaches s (.scratchpad addr len) then spBytes s addr len else zeros len

/-- A write of scratchpad: dropped where the scope is closed. -/
def debugSpWrite (s : State) (addr : Nat) (data : List Byte) : State :=
  if debugReaches s (.scratchpad addr data.length) then putSp s addr data else s

/-- A read of DRAM through the cipher under key index 0. A blocked one gives zeros (11 R440). -/
def debugDramRead (s : State) (addr len : Nat) : State × List Byte :=
  if debugReaches s (.dram addr len) then
    let x := readDram s addr len 0
    (x.1, x.2.2)
  else (s, zeros len)

/-- A write of DRAM. A blocked one is dropped (11 R440). -/
def debugDramWrite (s : State) (addr : Nat) (data : List Byte) : State :=
  if debugReaches s (.dram addr data.length) then (writeDram s addr 0 data).1 else s

end Sys2Proof.Machine
end

