-- ==== Sys2Proof/Machine/Firmware.lean ====
section
/-! DEFINITION. Firmware: staging, checking, switching and confirming a copy (spec/19 R664 to R668). -/

namespace Sys2Proof.Machine

def State.modFw (s : State) (f : FwSt → FwSt) : State := { s with fw := f s.fw }

/-! ## The copies (R664) -/

/-- The first block of a copy: A in bank 0, B in bank 1 (10 R389). -/
def fwBlock (c : Nat) : Nat := if c = 0 then 48 else 112

/-- The copy that is not running. -/
def fwOther (s : State) : Nat := 1 - s.regN K.fwRunning

def fwHeader (s : State) (c : Nat) : List Byte := arrayBytes s (0x40000 * fwBlock c) 512

def fwNamed (h : List Byte) : Bool := leAt h 0 4 == 0x4D524946

/-- PROTO_LEVEL of a copy; the copy that the unit left the factory with has none in the model: level 1, version 0. -/
def fwLevel (h : List Byte) : Nat := if fwNamed h then leAt h 6 2 else 1
def fwVersion (h : List Byte) : Nat := if fwNamed h then leAt h 20 4 else 0
def fwRollback (h : List Byte) : Nat := if fwNamed h then leAt h 24 4 else 0
def fwMinCell (h : List Byte) : Nat := if fwNamed h then leAt h 8 2 else 1

/-- The checks of close in their order (R666): 0 good, else FW_RESULT; `n` bytes were written. -/
def fwCheck (s : State) (c n : Nat) : Nat :=
  let h := fwHeader s c
  let len := leAt h 28 4
  if n = 0 then 1
  else if !(fwNamed h && leAt h 4 2 == 1 && zeroRun h 10 2 && zeroRun h 17 3 && zeroRun h 64 352
      && decide (1 ≤ len ∧ len ≤ 4193792 ∧ 512 + len ≤ n)) then 2
  else if !sigOk (vendorKey 1) (h.take 416) ((h.drop 416).take 96) then 3
  else if !(leAt h 12 4 == 0x4896 && byteOf h 16 == 0x42) then 4
  else if leAt h 24 4 < s.regN K.fwFloor then 5
  else if sha256 (arrayBytes s (0x40000 * fwBlock c + 512) len) != (h.drop 32).take 32 then 6
  else 0

/-- The code with which a check ends (R666, as 09 R365). -/
def fwAbort (c : Nat) : Nat := if c = 0 then 0 else if c = 3 then 0x0F000009 else 0x08000000

/-! ## Staging (R665; 09 R363, R364) -/

def isFw (j : FlJob) : Bool :=
  match j.fin with
  | .fwData .. => true
  | .fwOpen => true
  | _ => false

def fwOpening (s : State) : Bool := awaited s .fwOpen

def fwBusy (s : State) : Bool :=
  let x := s.flBank (fwOther s)
  (x.op.toList ++ x.susp.toList ++ x.queue).any isFw

/-- FW_OPEN: the copy that is not running is claimed for a path and erased. -/
def execFwOpen (r : Req) (s : State) : Out :=
  .next (request s r K.fwCommand 2 fun s =>
    let c := fwOther s
    writeEntry s r K.fwCommand 1
      { state := whenCode ((s.fw.owner != 0 && s.fw.owner != pathNo r.path) || s.fw.due || fwOpening s) 0x08000022 } fun s =>
      let s := (s.modFw fun x => { x with owner := pathNo r.path, written := 0 }).setRegs [(K.fwOtherState, 1), (K.fwOtherVersion, 0)]
      enqueueRun (await s .fwOpen r) c .sc2 4 ((List.range 16).map fun i => .erase (fwBlock c + i)) .fwOpen)

/-- FW_DATA: OFFSET is the count so far, and lengths are multiples of 512; over SDO and CoE the bytes go on at the count. -/
def execFwData (r : Req) (offset : BitVec 32) (data : List Byte) (s : State) : Out :=
  .next (request s r K.fwData 4 fun s =>
    let w := s.fw.written
    let o := match r.org with
      | .tag _ => offset.toNat
      | _ => w
    writeBytes s r K.fwData data
      { state := whenCode (s.fw.owner != pathNo r.path || s.reg K.fwOtherState != 1 || fwOpening s) 0x08000022,
        set := whenCode (o != w || data.length % 512 != 0 || decide (0x400000 < w + data.length) || fwBusy s) 0x06090030 } fun s =>
      if data = [] then ok s r
      else
        let c := fwOther s
        enqueueRun s c .sc2 4 (pageOps (0x40000 * fwBlock c + w) data) (.fwData data.length r))

/-- FW_CLOSE: the staged image is checked in full and the claim ends (R666). -/
def execFwClose (r : Req) (s : State) : Out :=
  .next (request s r K.fwCommand 2 fun s =>
    writeEntry s r K.fwCommand 2 { state := whenCode (s.fw.owner != pathNo r.path || fwBusy s) 0x08000022 } fun s =>
      let c := fwCheck s (fwOther s) s.fw.written
      let s := (s.modFw fun x => { x with owner := 0 }).setRegs
        [(K.fwResult, c), (K.fwOtherState, if c = 0 then 2 else 3), (K.fwOtherVersion, fwVersion (fwHeader s (fwOther s)))]
      reply s r (fwAbort c) [])

/-- FW_DISCARD: what is queued for the copy ends; an operation that runs finishes; the copy is invalid. -/
def execFwDiscard (r : Req) (s : State) : Out :=
  .next (request s r K.fwCommand 2 fun s =>
    writeEntry s r K.fwCommand 3 { state := whenCode (s.fw.owner != pathNo r.path) 0x08000022 } fun s =>
      let b := fwOther s
      let x := s.flBank b
      let ends := (x.op.toList ++ x.susp.toList ++ x.queue).filter fun j => isFw j && j.last
      let s := s.modFlBank b fun x =>
        { x with
          queue := x.queue.filter fun j => !isFw j,
          op := x.op.map fun j => if isFw j then { j with fin := .none, last := true } else j,
          susp := x.susp.map fun j => if isFw j then { j with fin := .none, last := true } else j }
      let s := ends.foldl (fun s j => match j.fin with
        | .fwData _ q => refuse s q 0x0F000002
        | _ => s) (completeAll s .fwOpen 0x0F000002 [])
      ok ((s.modFw fun x => { x with owner := 0 }).setReg K.fwOtherState 3) r)

/-! ## Switch, confirm and the floor (R665 to R668) -/

/-- The conditions of 16 R575 other than those that end with REFUSED_MOVING. -/
def powerBusy (s : State) : Bool :=
  ((List.range 48).any fun n => (s.cm n).rangePhase != 0) || cutting s || s.fab.fcp.isSome || s.fab.promote
    || s.reg K.stageOwner != 0 || s.fab.cfgSlot.isSome || s.reg K.reelEnable != 0 || s.reg K.jobState != 0
    || s.host.fn.al == .safeOp || s.host.fn.al == .op || s.power.target != 0

/-- FW_SWITCH (R666, R667 step 1). -/
def execFwSwitch (r : Req) (s : State) : Out :=
  .next (request s r K.fwCommand 2 fun s =>
    let low := s.reg K.fwOtherState == 2 && decide (s.regN K.cellLevel < fwMinCell (fwHeader s (fwOther s)))
    let s := if low && decide (s.mode = .run) then s.setReg K.fwResult 7 else s
    writeEntry s r K.fwCommand 4
      { state := firstSome [whenCode (s.reg K.fwOtherState != 2) 0x08000022, whenCode low 0x0F00000A,
          whenCode (powerBusy s || s.fw.due) 0x08000022],
        move := whenCode (moving s) 0x0F000001 } fun s =>
      ok (s.modFw fun x => { x with due := true }) r)

/-- FW_CONFIRM (R668): the running copy is the confirmed one. -/
def execFwConfirm (r : Req) (s : State) : Out :=
  .next (request s r K.fwCommand 2 fun s =>
    writeEntry s r K.fwCommand 5 {} fun s =>
      ok ((s.modFw fun x => { x with confirmed := s.regN K.fwRunning }).setReg K.fwTrial 0) r)

/-- FW_FLOOR_COMMIT (R665; 09 R345): the floor rises, to no more than the ROLLBACK of the running confirmed copy. -/
def execFwFloorCommit (r : Req) (v : BitVec 32) (s : State) : Out :=
  .next (request s r K.fwFloorCommit 2 fun s =>
    let top := fwRollback (fwHeader s (s.regN K.fwRunning))
    writeEntry s r K.fwFloorCommit v.toNat
      { state := whenCode (s.reg K.fwTrial == 1) 0x08000022, set := whenCode (decide (top < v.toNat)) 0x06090031 } fun s =>
      ok (s.setReg K.fwFloor (max (s.regN K.fwFloor) v.toNat : Nat)) r)

/-- A copy runs: what its entries show. -/
def fwRun (s : State) (c : Nat) : State :=
  let h := fwHeader s c
  let o := fwHeader s (1 - c)
  s.setRegs [(K.fwRunning, c), (K.fwOtherVersion, fwVersion o), (K.unitFirmwareVersion, fwVersion h),
    (K.identRevision, 0x00020000 + fwLevel h), (K.cellOwnLevel, fwLevel h)]

/-- A trial ends without confirm (R668): the former copy runs; emergency 0xFF7A with the rejected version. The rejected
copy stays verified. -/
def fwTrialEnds (s : State) : State :=
  let bad := fwVersion (fwHeader s (s.regN K.fwRunning))
  let s := (fwRun s s.fw.confirmed).setRegs [(K.fwTrial, 0), (K.fwOtherState, 2)]
  emcy s 0xFF7A 7 0 bad

/-- A start of the cores by a reset (R668): a trial ends; what waits for a restart is forgotten. -/
def fwReset (s : State) : State :=
  let s := s.modFw fun x => { x with owner := 0, due := false, written := 0 }
  let s := if s.reg K.fwOtherState = 1 then s.setReg K.fwOtherState 3 else s
  if s.reg K.fwTrial = 1 then fwTrialEnds s else s

/-- The check of the copy that starts fails (R668; 01 R14): the other copy, if it is verified, starts and becomes
confirmed; else there is none. -/
def fwCopyFails (s : State) : Option State :=
  if s.reg K.fwOtherState = 2 then
    let c := fwOther s
    some (((fwRun s c).setRegs [(K.fwTrial, 0), (K.fwOtherState, 3)]).modFw fun x => { x with confirmed := c })
  else none

end Sys2Proof.Machine
end

