-- ==== Sys2Proof/Machine/StandIn.lean ====
section
/-! DEFINITION. Stand-ins (spec/05 R215 to R223): checks, repeats, votes and takeovers. A healthy engine and a healthy
stand-in return the same result (05 R183), so a result is held here as its error. -/

namespace Sys2Proof.Machine

def siState (s : State) (j : Nat) : Nat := s.regN (K.sijSiState j)

/-- A stand-in is free in states 0 to 2 (05 R215, R223). -/
def siFree (s : State) (j : Nat) : Bool := decide (siState s j ≤ 2)

def freeStandIns (s : State) : List Nat := (List.range 4).filter (siFree s)

/-- The unit that computes an axis: its own engine, or 0x30 to 0x33 (05 R213 SERVED_BY, R220). -/
def unitOf (s : State) (n : Nat) : Nat := if s.reg (K.engServedBy n) = 0xFF then n else s.regN (K.engServedBy n)

/-- The error of a unit's result in this tick. -/
def errOf (faults : List (Nat × UnitErr)) (u : Nat) : UnitErr := ((faults.find? fun x => x.1 == u).map (·.2)).getD {}

/-- Two results differ in some value by more than 1 LSB of its format, or in the EN request (05 R216). -/
def apart (a b : UnitErr) : Bool :=
  a.en != b.en || [a.demand - b.demand, a.yI - b.yI, a.bq1 - b.bq1, a.bq2 - b.bq2, a.notch - b.notch].any fun d => decide (1 < d.natAbs)

/-- The blocks by the number of free stand-ins (05 R215, R220). -/
def regroup (s : State) : State :=
  let free := freeStandIns s
  let m := free.length
  let had := s.reg K.siFreeCount
  let size := if m = 0 then 0 else 48 / m
  let s := s.setRegs [(K.siFreeCount, m), (K.siCheckInterval, size)]
  let s := forN 4 (fun s j =>
    let i := (free.takeWhile fun x => x != j).length
    let s := s.modSi j fun x => { x with cursor := 0 }
    if free.contains j then s.setRegs [(K.sijBlockFirst j, (i * size : Nat)), (K.sijBlockLast j, (i * size + size - 1 : Nat))]
    else s.setRegs [(K.sijBlockFirst j, 0xFF), (K.sijBlockLast j, 0xFF)]) s
  showReserve (if m = 0 ∧ had ≠ 0 then emcy s 0xFF32 7 0xFF 0 else s)

/-- A check ends without or after a verdict: the stand-in returns to its block (05 R217, R219). -/
def endCheck (s : State) (j : Nat) : State :=
  (s.modSi j fun x => { x with axis := 0xFF, due := 0 }).setReg (K.sijSiState j) 0

/-- A takeover that a vote decided acts at this tick; voters return; the blocks follow (05 R218, R220). -/
def siBegin (s : State) : State :=
  let s := forN 4 (fun s j => if siState s j = 2 ∧ (s.standIn j).due = 0 ∧ s.si.takeover.map (·.2) ≠ some j then endCheck s j else s) s
  let s := match s.si.takeover with
    | none => s
    | some (n, j) =>
      let old := s.regN (K.engServedBy n)
      let s := if old = 0xFF then s.setReg K.retiredEngines (setBitTo (s.regN K.retiredEngines) n true : Nat)
        else s.setRegs [(K.sijSiState (old - 0x30), 4), (K.sijSiAxis (old - 0x30), 0xFF)]
      let s := (s.modSi j fun x => { x with axis := 0xFF, due := 0 }).setRegs
        [(K.sijSiState j, 3), (K.sijSiAxis j, n), (K.engServedBy n, (0x30 + j : Nat))]
      let s := (engStatusBit s n 26 true).bump K.siTakeovers 8
      let s := emcy s 0xFF31 7 n (n + 256 * (0x30 + j))
      { s with si := { s.si with takeover := none, regroup := true } }
  if s.si.regroup then regroup { s with si := { s.si with regroup := false } } else s

/-- The vote cannot judge (05 R219): the group makes its quick stop and the axis is disabled when it is at rest. -/
def unresolved (s : State) (j : Nat) (involved : Nat) : State :=
  let n := (s.standIn j).axis
  let s := emcy (engStatusBit s n 8 true) 0xFF33 7 n involved
  let s := if (groupOf s n).isNone then endAtOutput s n 0 else quickStopOf (s.modEng n fun e => { e with afterStop := true }) n 4
  endCheck s j

/-- The voter for a check of stand-in `j`: the lowest-numbered other one in state 0 (05 R218). -/
def voterFor (s : State) (j : Nat) : Option Nat := (List.range 4).find? fun v => v != j && siState s v == 0

/-- A vote with its voter's result (05 R218, R219). -/
def vote (s : State) (j v : Nat) (w : UnitErr) : State :=
  let x := s.standIn j
  let s := s.setRegs [(K.sijSiState j, 2), (K.sijSiState v, 2)]
  if apart x.engErr x.siErr && apart x.engErr w && !apart x.siErr w then
    let s := s.modSi j fun x => { x with due := 0 }
    { s with si := { s.si with takeover := some (x.axis, j) } }
  else if apart x.siErr x.engErr && apart x.siErr w && !apart x.engErr w then
    let s := (s.modSi j fun x => { x with axis := 0xFF, due := 0 }).setReg (K.sijSiState j) 4
    emcy { s with si := { s.si with regroup := true } } 0xFF34 7 x.axis j
  else unresolved s j (2 ^ j + 2 ^ v)

/-- The axis under check no longer runs its loop (05 R217). -/
def checkGone (s : State) (j : Nat) : Bool := !(s.engine (s.standIn j).axis).out

/-- The results of both parties in this tick. -/
def latchErrs (s : State) (faults : List (Nat × UnitErr)) (j : Nat) : State :=
  s.modSi j fun x => { x with engErr := errOf faults (unitOf s x.axis), siErr := errOf faults (0x30 + j) }

/-- The votes of a tick: the delayed ones first, one at a time (05 R218, R219). `busy` says that one has run. -/
def votes (faults : List (Nat × UnitErr)) (due : Nat) (acc : State × Bool) : State × Bool :=
  (List.range 4).foldl (fun acc j =>
    let s := acc.1
    if (s.standIn j).due ≠ due then acc
    else if checkGone s j then (endCheck s j, acc.2)
    else if (freeStandIns s).filter (· != j) = [] then (unresolved s j (2 ^ j), acc.2)
    else
      match (if acc.2 then none else voterFor s j) with
      | some v => (vote s j v (errOf faults (0x30 + v)), true)
      | none =>
        if due = 3 then (unresolved s j (2 ^ j), acc.2)
        else ((latchErrs s faults j).modSi j fun x => { x with due := 4 }, acc.2)) acc

/-- A repeat (05 R217): agreement makes the event a transient, a second disagreement asks for a vote. -/
def repeatCheck (s : State) (faults : List (Nat × UnitErr)) (j : Nat) : State :=
  if checkGone s j then endCheck s j
  else
    let s := (latchErrs s faults j).bump K.siChecks 64
    let x := s.standIn j
    if apart x.engErr x.siErr then s.modSi j fun x => { x with due := 5 }
    else endCheck (s.bump K.siTransients 32) j

/-- The next axis of a block that its engine or stand-in computes (05 R216). -/
def nextAxis (s : State) (j : Nat) : Option (Nat × Nat) :=
  let f := s.regN (K.sijBlockFirst j)
  let size := s.regN (K.sijBlockLast j) + 1 - f
  let c := (s.standIn j).cursor
  ((List.range size).map fun i => (c + i) % size).findSome? fun o =>
    let n := f + o
    if (s.engine n).out && (s.reg (K.axLoopMode n) != 2 || (s.engine n).fallback) then some (n, (o + 1) % size) else none

/-- A shadow computation (05 R216). -/
def shadow (s : State) (faults : List (Nat × UnitErr)) (j : Nat) : State :=
  match nextAxis s j with
  | none => s
  | some (n, c) =>
    let s := (s.modSi j fun x => { x with cursor := c, axis := n }).bump K.siChecks 64
    let s := latchErrs s faults j
    let x := s.standIn j
    if apart x.engErr x.siErr then
      emcy ((s.modSi j fun x => { x with due := 6 }).setReg (K.sijSiState j) 1) 0xFF30 7 n n
    else s.modSi j fun x => { x with axis := 0xFF }

/-- The stand-ins in a tick, after the engines have computed (05 R216 to R219). What falls due next tick is marked 4 to 6
until the tick is over. -/
def siTick (s : State) (faults : List (Nat × UnitErr)) : State :=
  let idle := (List.range 4).filter fun j => siState s j == 0 && (s.standIn j).due == 0
  let s := (votes faults 2 (votes faults 3 (s, false))).1
  let s := forN 4 (fun s j => if (s.standIn j).due = 1 then repeatCheck s faults j else s) s
  let s := idle.foldl (fun s j => if siState s j = 0 then shadow s faults j else s) s
  forN 4 (fun s j => s.modSi j fun x => { x with due := if x.due = 4 then 3 else if x.due = 5 then 2 else if x.due = 6 then 1 else x.due }) s

end Sys2Proof.Machine
end

