-- ==== Sys2Proof/Machine/SelfTest.lean ====
section
/-! DEFINITION. Roll checks, repair from spares, the wrap test and the service hours (spec/18 R628 to R649; 17 R604; 20 R682). -/

namespace Sys2Proof.Machine

/-! ## Which roll check applies (R630) -/

/-- The last START record is followed by a CLEAN or WRAP record. -/
def cleanEnd (l : List (List Byte)) : Bool :=
  let kinds := l.reverse.map recKind
  kinds.contains 1 && (kinds.takeWhile (· != 1)).any fun k => k == 2 || k == 3

/-- ROLL_REASON: 0 the quick roll check applies, else the first condition that fails. -/
def quickReason (s : State) : Nat :=
  if s.reg K.rtcValid = 0 then 1
  else
    match newestWrap s.test.s4 with
    | none => 2
    | some w =>
      let t := leAt w 16 8
      let now := s.regN K.rtcSeconds
      if now < t ∨ t + 259200 < now then 3 else if cleanEnd s.test.s4 then 0 else 4

/-! ## Repair from spares (R636 to R639) -/

/-- Columns of a region: SPARES shows what is substituted and what has failed (08 R300, R302, R313); a second failed
column, or a failed spare that is needed, makes the region unusable. -/
def showColumns (s : State) (r : Nat) : State :=
  let kind := fun m : Bool => decide (0 < columnsBad s r m)
  let v := b2n (kind false && !spareBad s r false) + 2 * b2n (kind true && !spareBad s r true)
    + 4 * b2n (spareBad s r false) + 8 * b2n (spareBad s r true)
  let s := s.setReg (K.regionSpares r) v
  let spent := [false, true].any fun m => decide (1 < columnsBad s r m) || (kind m && spareBad s r m)
  if spent then (markBad s 0x12 r).setReg (K.regionState r) 3 else s

/-- A column that has failed; `hard` says that it counts even where no spare is left for it. -/
def repairColumn (s : State) (hard : Bool) (r col : Nat) : State :=
  let m := decide (col = 64 ∨ col = 65 ∨ col = 67)
  if s.fab.badCols.contains (r, col) ∨ (!hard && spareGone s r m) = true then s
  else showColumns (s.modFab fun x => { x with badCols := x.badCols ++ [(r, col)] }) r

/-- An engine that fails at a start is replaced by the lowest-numbered free stand-in (05 R222). -/
def repairEngine (s : State) (hard : Bool) (n : Nat) : State :=
  if s.reg (K.engServedBy n) ≠ 0xFF then s
  else
    match freeStandIns s with
    | j :: _ =>
      let s := s.setRegs [(K.sijSiState j, 3), (K.sijSiAxis j, n), (K.engServedBy n, (0x30 + j : Nat)),
        (K.retiredEngines, (setBitTo (s.regN K.retiredEngines) n true : Nat))]
      regroup (engStatusBit s n 26 true)
    | [] => if hard then markBad s 0x13 n else s

/-- A stand-in that fails at a start; the axis that it served needs another one. -/
def repairStandIn (s : State) (hard : Bool) (j : Nat) : State :=
  let n := s.regN (K.sijSiAxis j)
  let served := siState s j == 3
  let s := regroup (s.setRegs [(K.sijSiState j, 5), (K.sijSiAxis j, 0xFF)])
  if served then repairEngine (s.setReg (K.engServedBy n) 0xFF) hard n else s

/-- The spare converter pairs that are good and serve no port (03 R91, R93). -/
def freePairs (fe : FeSt) : List Nat :=
  [48, 49, 50, 51].filter fun p => !fe.badPairs.contains p && !fe.pairs.any fun x => x.2 == p

/-- The spare pairs left are counted anew. -/
def countPairs (s : State) : State := { s with fe := { s.fe with spares := (freePairs s.fe).length } }

/-- A port whose pair has failed: a spare pair takes its place, or the port is unusable and OFF (03 R93). -/
def serveByPair (s : State) (hard : Bool) (n : Nat) : State :=
  match freePairs s.fe with
  | p :: _ => { s with fe := { s.fe with pairs := s.fe.pairs ++ [(n, p)] } }
  | [] =>
    if hard then markBad (fbBit ((s.modFb n fun f => { f with unusable := true }).setReg (K.fbMode n) 0) n 15 true) 0x15 n else s

/-- A converter pair that has failed; of a spare pair that serves a port, that port needs another one (03 R93). -/
def repairPair (s : State) (hard : Bool) (n : Nat) : State :=
  if s.fe.badPairs.contains n then s
  else
    let s : State := { s with fe := { s.fe with badPairs := s.fe.badPairs ++ [n] } }
    if n < 48 then countPairs (serveByPair s hard n)
    else
      match s.fe.pairs.find? fun x => x.2 == n with
      | some x => countPairs (serveByPair { s with fe := { s.fe with pairs := s.fe.pairs.filter fun y => y.2 != n } } hard x.1)
      | none => countPairs s

/-- A scratchpad row: a spare row of its bank, or the bank is unusable, SP0 to SP3 being essential. -/
def repairRow (s : State) (hard : Bool) (b row : Nat) : State :=
  if s.test.rows.contains (b, row) then s
  else if (s.test.rows.filter fun x => x.1 == b).length < 8 then { s with test := { s.test with rows := s.test.rows ++ [(b, row)] } }
  else if !hard then s
  else if b < 4 then safeEntry s 6 b
  else markBad s 0x18 b

/-- CK0 or CK1: the highest-numbered healthy engine of CK7 down to CK2 takes its place. -/
def repairCheck (s : State) (k : Nat) : State :=
  match [7, 6, 5, 4, 3, 2].find? fun j => !s.bad.contains (0x1B, j) with
  | some j => markBad s 0x1B j
  | none => safeEntry s 0x0B k

/-- A failed firmware copy: the other one starts, or the device is in SAFE state (01 R14; 19 R668). -/
def repairCopy (s : State) (u : Nat) : State :=
  match fwCopyFails s with
  | some t => t
  | none => safeEntry s 8 u

/-- One failed block, by its class (R636, R639); an unusable command port is clamped with cause 7 (04 R161). -/
def repairOne (s : State) (hard : Bool) (e : Nat × Nat × Nat) : State :=
  let c := e.1
  let u := e.2.1
  if c = 0x08 then repairCopy s u
  else if c < 0x10 then safeEntry s c u
  else if c = 0x10 ∨ c = 0x11 then (if u < 16 then repairColumn s hard u e.2.2 else s)
  else if c = 0x13 then (if u < 48 then repairEngine s hard u else s)
  else if c = 0x14 then (if u < 4 then repairStandIn s hard u else s)
  else if c = 0x15 then repairPair s hard u
  else if c = 0x16 then
    (if u < 48 ∧ hard = true then
      markBad (cmBit (clampPort (s.modCm u fun x => { x with unusable := true }) u 7 0 5) u 15 true) 0x16 u
    else s)
  else if c = 0x17 then (if u < 16 then repairRow s hard u e.2.2 else s)
  else if c = 0x1B ∧ u < 2 then repairCheck s u
  else if c = 0x12 ∨ c = 0x18 ∨ c = 0x1B ∨ c = 0x1C then (if hard then markBad s c u else s)
  else s

/-- Failed blocks in order; CK0 and CK1 last, once the other check engines are known. -/
def repairAll (s : State) (es : List (Bool × Nat × Nat × Nat)) : State :=
  let late := fun e : Bool × Nat × Nat × Nat => e.2.1 == 0x1B && decide (e.2.2.1 < 2)
  (es.filter (fun e => !late e) ++ es.filter late).foldl (fun s e => repairOne s e.1 e.2) s

def entryOf (f : Finding) : Nat × Nat × Nat := (f.cls.toNat, f.unit.toNat, f.index.toNat)

/-! ## The roll check (R628 to R636) -/

/-- What a new roll check judges anew: units marked unusable, columns, rows and pairs out of use. -/
def rollClear (s : State) : State :=
  let s := forN 48 (fun s n =>
    let s := (openClamp s n fun c => c == 7).modFb n fun f => { f with unusable := false }
    fbBit (cmBit (s.modCm n fun c => { c with unusable := false }) n 15 false) n 15 false) s
  let s := forN 16 (fun s r => (s.setReg (K.regionSpares r) 0).setReg (K.regionState r) 0) s
  { s with bad := [], fab := { s.fab with badCols := [] }, fe := { s.fe with spares := 4, badPairs := [], pairs := [] }, test := { s.test with rows := [] } }

/-- The gating part of the roll check that applies: the repair map and what it has found are applied, what is new is
recorded, and the late part is still to come (R630, R634, R636, R638). -/
def rollCheck (s : State) (found : List Finding) : State :=
  let reason := quickReason s
  let new := found.map entryOf
  let map := repairMap s
  let es := (map.map fun e => (reason == 0 || new.contains e, e)) ++ ((new.filter fun e => !map.contains e).map fun e => (true, e))
  let s := repairAll (rollClear s) es
  let s := appendRepair s (new.filter fun e => decide (0x10 ≤ e.1))
  let s := s.setRegs [(K.wrapLastRoll, if reason = 0 then 1 else 2), (K.wrapRollReason, reason), (K.wrapRollFailures, new.length)]
  showReserve { s with test := { s.test with late := true } }

/-- What the late part of a roll check looks at and the repair map codes: CK2 to CK7 (R634, R639). -/
def lateBlock (e : Nat × Nat × Nat) : Bool := e.1 == 0x1B && decide (2 ≤ e.2.1) && decide (e.2.1 < 8)

/-- ROLL_CHECK_LATE_DONE (R634, R635): the late part ends. A chain that waits for an engine found failed ends. -/
def execRollCheckLateDone (found : List Finding) (rollTime : BitVec 32) (s : State) : Out :=
  .next (
    if s.test.late then
      let new := (found.map entryOf).filter lateBlock
      let s := { s with test := { s.test with late := false } }
      let s := s.setRegs [(K.wrapRollTime, rollTime.toNat), (K.wrapRollFailures, ((s.regN K.wrapRollFailures + new.length) % 65536 : Nat))]
      let s := repairAll s (new.map fun e => (true, e))
      let s := appendRepair s (new.filter fun e => decide (0x10 ≤ e.1))
      (List.finRange 8).foldl (fun (s : State) (k : Fin 8) =>
        if s.bad.contains (0x1B, k.val) ∧ s.reg (K.ckState k) = 1 then ckEnd s k 2 0x06060000 else s) s
    else s)

/-! ## The test engine's fence (R645, R646; 17 R604) -/

/-- A block may be handed over: its function is in enable state 0, its region is unloaded, or its bank has owner NONE (R645).
A converter pair and a command port go with the engine of their axis; a stand-in must be free. -/
def mayHand (s : State) (b : TestBlock) : Bool :=
  match b with
  | .engine n => decide (n < 48) && engState s n == 0
  | .standIn j => decide (j < 4) && siFree s j
  | .path g => decide (g < 8) && groupState s g == 0
  | .converter n => decide (n < 52) && (decide (48 ≤ n) || engState s n == 0)
  | .command n => decide (n < 48) && engState s n == 0
  | .region r => decide (r < 16) && !s.fab.loaded.testBit r
  | .bank b => decide (4 ≤ b) && decide (b < 16) && bankOwner s b == 0 && !bankBusy s b
  | .check k => decide (k < 8) && s.reg (K.ckState k) == 0

/-- SC3 hands a block over (R645). -/
def handOver (s : State) (b : TestBlock) : State :=
  if mayHand s b && !s.test.handed.contains b then { s with test := { s.test with handed := s.test.handed ++ [b] } } else s

/-- The decoder: what is not handed over it does not decode (R645). -/
def testReaches (s : State) (b : TestBlock) : Bool := s.test.handed.contains b

/-- A bank is zeroed. What the other blocks hold for a test is no state of the model, and their functions hold nothing while
they are disabled or unloaded. -/
def zeroBlock (s : State) (b : TestBlock) : State :=
  match b with
  | .bank b => s.modMem fun m => { m with sp := tabKeep (fun a => decide (a / 0x40000 ≠ b)) m.sp }
  | _ => s

/-- After its test a block is zeroed and handed back (R645). -/
def handBack (s : State) (b : TestBlock) : State :=
  if testReaches s b then { zeroBlock s b with test := { s.test with handed := s.test.handed.erase b } } else s

/-- Memory factory test modes, and operations of the test engine that write memory, are open (17 R604). -/
def testModes (s : State) : Bool := s.host.testUp && lifeState s == 2

/-- A write of the test engine into a bank at the test port's word: in TEST alone, and only in a bank handed over (17 R604;
R645). -/
def testWrite (s : State) (a : Nat) (data : List Byte) : State :=
  if testModes s && testReaches s (.bank (a / 0x40000)) && decide (a % 0x40000 + data.length ≤ 0x40000) then putSp s a data else s

/-- The blocks of a wrap test (R629). -/
def wrapBlocks : List TestBlock :=
  (List.range 48).map .engine ++ (List.range 4).map .standIn ++ (List.range 8).map .path ++ (List.range 52).map .converter
    ++ (List.range 48).map .command ++ (List.range 16).map .region ++ (List.range 16).map .bank ++ (List.range 8).map .check

/-- Every block that R645 lets SC3 hand over is handed over for the wrap test (R631), and handed back after it. -/
def handAll (s : State) : State := wrapBlocks.foldl handOver s

def handAllBack (s : State) : State := s.test.handed.foldl handBack s

/-! ## Wrap test (R631 to R633) -/

/-- WRAP_NEXT (R635). -/
def execWrapNext (r : Req) (v : BitVec 8) (s : State) : Out :=
  .next (request s r K.wrapNext 2 fun s =>
    writeEntry s r K.wrapNext v.toNat {} fun s => ok { s with test := { s.test with wrapNext := v == 1 } } r)

/-- A wrap test is due at this entry to OFF (R631). -/
def wrapDue (s : State) : Bool := s.reg K.wrapAtOff == 1 || s.test.wrapNext

/-- A read-margin check of a block found a code: at EW_THRESHOLD or above the block is to be refreshed (R629). -/
def marginMark (s : State) (m : Fin 256 × Fin 256) : State :=
  if s.regN K.flcEwThreshold ≤ m.2.val then s.modFlBlock m.1 fun b => { b with due := true } else s

/-- WRAP_RESULT of what a test found (R632): judged as the repair of the next start would go. -/
def wrapResult (s : State) (new : List (Nat × Nat × Nat)) : Nat :=
  let t := repairAll s (new.map fun e => (true, e))
  if new = [] then 0
  else if t.mode = .safe then 3
  else if s.bad.length < t.bad.length then 2
  else 1

/-- The wrap record is committed to S4 (R631 to R633). -/
def wrapCommit (s : State) (found : List Finding) (margins : List (Fin 256 × Fin 256)) (limit : Bool) (ms : Nat) : State :=
  let new := found.map entryOf
  let s := margins.foldl marginMark s
  let result := if limit then 4 else wrapResult s new
  let map := repairMap s ++ (new.filter fun e => !(repairMap s).contains e && decide (0x10 ≤ e.1))
  let rec' := s4Record s 3 result new.length ms (reserveLeft s) map
  let s := handAllBack (appendS4 s rec')
  { s with power := { s.power with wrapping := false } }

/-! ## Hours (R649; 20 R682) -/

/-- SERVICE_HOUR: SERVICE_HOURS and what is kept per hour advance; the estimates follow. -/
def execServiceHour (s : State) : Out :=
  .next (
    if !sysOn s then s
    else
      let h := s.regN K.resvServiceHours
      let s := s.bump K.resvServiceHours 32
      let now := s.reg K.thermTjNow
      let s := s.setReg K.thermTjAverage ((s.reg K.thermTjAverage * (h : Int) + now) / ((h : Int) + 1))
      let s := if 1000 < now then s.bump K.thermHoursHot 32 else s
      showReserve s)

/-- SAFE_RESET (R642): the device resets 2 ms after the completion is queued. -/
def execSafeReset (r : Req) (s : State) : Out :=
  .next (request s r K.safeStSafeReset 2 fun s =>
    writeEntry s r K.safeStSafeReset 1 {} fun s => ok { s with test := { s.test with resetDue := true } } r)

end Sys2Proof.Machine
end

