-- ==== Sys2Proof/Machine/Boot.lean ====
section
/-! DEFINITION. What a reset of any kind leaves (spec/18 R651), and the stages of a start (16 R580; 09 R350). -/

namespace Sys2Proof.Machine

/-! ## What a reset leaves in the dictionary -/

/-- Entries that count since manufacture, or that flash, fuses, BBRAM, the RTC and the assay island hold: a reset leaves
them as they are. -/
def keptKeys : List Nat :=
  [K.safeStopCount, K.safeLastSource, K.siFreeCount, K.siCheckInterval, K.siTransients, K.siTakeovers, K.retiredEngines,
    K.cutRollbackFloor, K.protFails, K.protectMap, K.dramRetiredRows, K.dramSpareRows, K.slotSelFreeSlots, K.rekeyIndex,
    K.rekeyState, K.rekeyRegionsTotal, K.rekeyRegionsDone, K.rekeyCurrent, K.rekeyRemeltQueue, K.retiring, K.reelSReelNext,
    K.mirrorSeq, K.rtcSeconds, K.rtcValid, K.wakeAlarm, K.powLastWake, K.powLastState, K.railVccq0Meas,
    K.railVccq1Meas, K.railVccq2Meas, K.railVccq3Meas, K.railVccSysMeas, K.transLastResult, K.bkState, K.safeStSafeCount,
    K.resvServiceHours, K.thermTjAverage, K.thermHoursHot, K.fwRunning, K.fwTrial, K.fwOtherState, K.fwOtherVersion,
    K.fwResult, K.fwFloor, K.unitFirmwareVersion, K.identRevision, K.cellOwnLevel]

/-- Objects that a reset leaves whole: slots, the assay island, the backup domain, the wake-fault record, TAMPER and the
stand-ins. -/
def keptIndex (i : Nat) : Bool :=
  (decide (0x2401 ≤ i) && decide (i ≤ 0x2403)) || (decide (0x5000 ≤ i) && decide (i ≤ 0x5004)) || i == 0x2103 || i == 0x2104
    || i == 0x2033 || (decide (0x4C01 ≤ i) && decide (i ≤ 0x4C04))

/-- Per-axis entries that a reset leaves: the port of a tapped input, of which a power-up leaves the sealed configuration
alone (03 R138, R140), CLAMP_COUNT (04 R161) and SERVED_BY. -/
def keptAxis (s : State) (cold : Bool) (key : Nat) : Bool :=
  let i := keyIndex key
  let o := i % 0x40
  decide (0x4000 ≤ i) && decide (i < 0x4C00) &&
    ((decide (o < 6) && !(cold && o == 1) && (s.fb ((i - 0x4000) / 0x40)).tapped) || (o == 0x0B && keySub key == 3) || (o == 0x1A && keySub key == 6))

/-- SEARCHES and HOPS of a PLL (15 R549). -/
def keptPll (key : Nat) : Bool :=
  decide (0x2220 ≤ keyIndex key) && decide (keyIndex key < 0x2228) && (keySub key == 6 || keySub key == 7)

def keptKey (s : State) (cold wake : Bool) (key : Nat) : Bool :=
  keptKeys.contains key || keptIndex (keyIndex key) || keptAxis s cold key || keptPll key
    || (wake && (key == K.linkWakeResult || key == K.linkWakeError))

/-! ## What a reset leaves in each block (18 R651) -/

/-- Host paths: every request in flight is discarded and every queue is empty (02 R54, R56). -/
def resetHost (s : State) : State :=
  { s with host :=
    { s.host with
      paths := [], waits := [], turn := 0, testUp := false, hpi := {}, fn := {},
      can0 := { nodeId := s.regN K.canNodeId0 }, can1 := { nodeId := s.regN K.canNodeId1 } } }

/-- The front-end die: ports start again but for those that the island taps (03 R139, R140); levels at the balls stay;
compare and capture units are disarmed (07 R290). With the rails down no port drives (04 R166 step 1). -/
def resetFrontEnd (cold : Bool) (s : State) : State :=
  let f := s.fe
  { s with fe :=
    { f with
      fb := tabMap (fun _ => {}) (fun _ x =>
        if x.tapped && !cold then x else { a := x.a, b := x.b, tapped := x.tapped }) f.fb,
      safe := if cold then { pin := f.safe.pin, resetLow := f.safe.resetLow, resetTaken := f.safe.resetTaken, resets := f.safe.resets } else f.safe,
      cm := tabMap (fun _ => {}) (fun _ x => { driven := x.driven && !cold, stp := x.stp, dir := x.dir, causes := if cold then [] else x.causes,
                                               closings := x.closings, told := false, fltBall := x.fltBall,
                                               fltFilt := x.fltFilt }) f.cm,
      ev := tabMap (fun _ => {}) (fun _ x => { ball := x.ball, filt := x.filt }) f.ev,
      cmp := [], cap := [], bridgeDown := false, replays := 0, tickHeard := 0, tickJoined := false, tickT := 0, ratePend := false,
      srcPend := false, ana18 := f.ana18 && !cold, ana50 := f.ana50 && !cold } }

/-! Requests that a reset or a restart of the cores discards (02 R54; 19 R667 step 2). -/

/-- A request that nobody waits for any more. -/
def orphan (r : Req) : Req := { r with org := .pdo }

def orphanIsl (f : IslFin) : IslFin :=
  match f with
  | .fw w r => .fw w (orphan r)
  | .logPage => .logPage
  | .logErase => .logErase
  | .store i => .store i

def orphanFin (f : FlFin) : FlFin :=
  match f with
  | .user r => .user (orphan r)
  | .reply r => .reply (orphan r)
  | .stageData k n r => .stageData k n (r.map orphan)
  | .fwData n r => .fwData n (orphan r)
  | .island i => .island (orphanIsl i)
  | .none => .none
  | .wait w => .wait w
  | .stageOpen k => .stageOpen k
  | .promoteErase => .promoteErase
  | .promoteCopy => .promoteCopy
  | .fwOpen => .fwOpen

def orphanJob (j : FlJob) : FlJob := { j with fin := orphanFin j.fin }

/-- A flash bank at a reset: a page program that has started completes, unless the supply has gone; an erase ends and
leaves its block ERASE_INCOMPLETE; what waited for a host is gone, and the island's work goes on without a completion (10
R403, R404, R409; 02 R54). -/
def resetBank (cold : Bool) (s : State) (b : Nat) : State :=
  let x := s.flBank b
  let keep : FlJob → FlJob := fun j => if j.master = .island then orphanJob j else { j with fin := .none, last := true }
  let cut := (x.op.toList ++ x.susp.toList).filter fun j => j.master = .island ∧ opCode j.op = 2
  let running := match x.op with
    | some j => if opCode j.op = 1 then some (keep j) else none
    | none => none
  let s := match cold, running with
    | true, some j => (match j.op with
      | .program k page data => programPage s k page data false
      | _ => s)
    | _, _ => s
  s.modFlBank b fun _ =>
    if cold then {} else { op := running, queue := (cut ++ x.queue.filter fun j => j.master = .island).map orphanJob }

/-- The flash controller: sessions close, and what is counted since reset starts anew (10 R413, R415). With VCC_SYS down
the count of wrong passwords goes too. -/
def resetFlash (cold : Bool) (s : State) : State :=
  let s := forN 4 (resetBank cold) s
  let s := s.modFlash fun x =>
    { x with
      master := [], sessions := [], ahead := [], branch := [], fetched := none, fails := if cold then 0 else x.fails,
      block := tabMap (fun _ => {}) (fun _ e => { e with ew := false, uncTold := false, maxCode := 0 }) x.block }
  if cold then s.setReg K.protFails 0 else s

/-- A slot that is not verified, invalid or empty reads invalid, as does one with a block whose erase was cut (09 R361; 10
R409). -/
def resetSlots (s : State) : State :=
  forN 3 (fun s i =>
    let cut := s.flash.block.any fun e => decide (64 * i ≤ e.1) && decide (e.1 < 64 * i + 48) && e.2.incomplete
    let st := s.regN (K.slotState i)
    if cut = true ∨ (st ≠ 0 ∧ st ≠ 4 ∧ st ≠ 5) then s.setReg (K.slotState i) 5 else s) s

/-- Sectors of a write that a reset has cut are undefined (12 R468). -/
def cutSectors (s : State) : State :=
  let cut := (s.cip.cmds.filter fun c => match c.op with
    | .write _ => true
    | .fromDram .. => true
    | .reelChunk _ => true
    | .mirror .. => true
    | _ => false).flatMap fun c => (List.range c.done).map (c.lba + ·)
  cut.foldl (fun s lba =>
    let d := draw s 4096
    d.2.setSector lba { d.2.sector lba with data := d.1 }) s

/-- The cipher: volatile slots are emptied, a retirement is finished, and a new ephemeral key is drawn; the journal stays
(12 R449, R451, R472, R476). -/
def resetCipher (s : State) : State :=
  let s := cutSectors s
  let f := s.freeCtr
  let s := { s with freeCtr := f + 32 }
  let s : State := s.modCip fun x =>
    { x with
      slot := tabMap (fun _ => {}) (fun _ e => if e.st = 1 ∨ e.st = 3 then emptySlot e else e) x.slot,
      ephemeral := f, noEphemeral := false, cmds := [], rebuild := none,
      region := tabMap (fun _ => {}) (fun _ e => { e with opened := false }) x.region }
  let s : State := if s.reg K.rekeyState = 1 then s.setReg K.rekeyState 3 else s
  showSlots (s.setReg K.retiring 0)

/-- The scratchpad is zeroed but for banks kept over DEEP SLEEP (11 R432, R433); the DRAM comes back under a new key. -/
def resetMem (kept : Nat) (s : State) : State :=
  s.modMem fun m => { sp := tabKeep (fun a => kept.testBit (a / 0x40000)) m.sp, retired := m.retired }

/-- Key records that TAMPER# owes are removed before any slot is loaded (17 R623). -/
def settleTamper (s : State) : State :=
  if s.life.owed then
    tamperDone (showSlots (s.modCip fun x => { x with slot := tabMap (fun _ => {}) (fun _ e => emptySlot e) x.slot }))
  else s

/-- Each PLL's VCO is that of its plan, and its system outputs divide it to their frequencies (15 R546, R547). -/
def planPlls (s : State) : State :=
  forN 8 (fun s p =>
    let v := s.regN (K.pllVcoPlan p)
    let s := s.setReg (K.pllVcoInUse p) v
    ((List.range (sysOuts p).length).zip (sysOuts p)).foldl (fun s x => s.setReg (K.pllOut0Div p + x.1) (v / x.2 : Nat)) s) s

/-- Settings that take effect at a reset (08 R332; 11 R439; 12 R450, R478; 16 R591). -/
def takeSettings (s : State) : State :=
  let s := s.setReg K.hpiAttachInUse (s.reg K.hpiAttach)
  let s := s.modMem fun m => { m with cap := s.regN K.dramCapacity }
  let s := s.modCip fun x =>
    { x with dramMode := s.regN K.ciDramKeyMode, storageMode := s.regN K.ciStorageKeyMode, layout := s.regN K.storageMode }
  let map := (List.range 11).foldl (fun t i => tabSet (fun _ => 0) t i (s.regN (K.railMapRail i))) []
  { s with power := { s.power with railMap := map } }

/-- The block after a reset: `cold` says that VCC_SYS has been down, `kept` which scratchpad banks kept their contents,
`wake` that it follows a lower state. The start has yet to run from the stage that the caller sets. -/
def deviceReset (cold wake : Bool) (kept : Nat) (s : State) : State :=
  let owners := (List.range 16).map fun b => (b, s.reg (K.bankOwner b))
  let s := resetMem kept (resetCipher (resetFlash cold s))
  let tapped := fun key => keptAxis s cold key
  let s := { s with regs := tabKeep (keptKey s cold wake) s.regs }
  let s := forN 48 (fun s n => if s.reg (K.engServedBy n) = 0xFF then s else engStatusBit s n 26 true) s
  let s := forN 4 (fun s j => if siFree s j then endCheck s j else s) s
  let s := loadStore tapped s
  let s := owners.foldl (fun s e => if kept.testBit e.1 then s.setReg (K.bankOwner e.1) e.2 else s) s
  let s := forN 8 (fun s k => s.setReg (K.ckRunning k) (s.reg (K.ckInit k))) s
  let s := takeSettings (planPlls (resetSlots (countIncomplete (resetFrontEnd cold (resetHost s)))))
  let s := s.setReg K.rateTickPeriod (periodOf (s.regN K.rateServoRate))
  let s := { s with eng := [], grp := [], reel := {}, link := {}, therm := {}, mode := .run, events := [], memUse := 0,
                    released := false, blobs := tabErase s.blobs K.cellLevels }
  let s := { s with fab := { badCols := s.fab.badCols }, si := { regroup := true }, clock := { s.clock with lost := false },
                    life := { s.life with trans := false, halted := 0 },
                    test := { s.test with late := false, resetDue := false, handed := [] } }
  let s := { s with power := { s.power with low := 0, wokeFrom := 0, target := 0, step := 0, wakes := 0, attempts := 0,
                                            wrapping := false, kept := kept } }
  showReserve (fwReset (settleTamper (forN 48 startFilters (forN 48 showFlt s))))

/-! ## The start (16 R580; 09 R350; 18 R630) -/

/-- What starts with the oscillator stage: every PLL is brought up (15 R549). -/
def oscillatorStage (s : State) : State := forN 8 startPll { s with power := { s.power with stage := 3 } }

/-- Every port starts again at step 2 of 04 R166, whatever clamp was latched (04 R179). -/
def restartPorts (s : State) : State :=
  let s := s.modSafe fun x => { x with resetLow := false, resetTaken := false, stop := false }
  let s := s.setReg K.safeStopState 0
  if s.fe.ana18 && s.fe.ana50 then stopIfLow (forN 48 (fun s n => restartPort s n 0 fun c => c != 8) s)
  else forN 48 (fun s n => openClamp s n fun c => c != 8) s

/-- A reset of the running device: the rails stay on, and the start goes on from the oscillator stage. -/
def warmReset (s : State) : State := restartPorts (oscillatorStage (deviceReset false false 0 s))

/-- A CANopen node starts: it announces itself (02 R54). -/
def bootNode (x : CanSt) : CanSt := { x with nmt := 127, bootups := x.bootups + 1 }

/-- SC0 begins to serve the dictionary (01 R14; 02 R58; 17 R603): the nodes announce themselves. -/
def startServing (s : State) : State :=
  let s := s.modHpi fun h => { h with served := true, busy := false }
  { s with host := { s.host with testUp := true, can0 := bootNode s.host.can0, can1 := bootNode s.host.can1 } }

/-- The lifecycle state says whether a host path is served at all, and 6 and 0xFF stand in SAFE state (17 R603). -/
def lifeStart (s : State) : State :=
  let st := lifeState s
  if st = 1 ∨ st = 2 then
    let s := s.modHpi fun h => { h with served := false, busy := true }
    { s with host := { s.host with can0 := { s.host.can0 with nmt := 0, bootups := 0 },
                                   can1 := { s.host.can1 with nmt := 0, bootups := 0 } } }
  else if st = 6 ∨ st = 0xFF then safeEntry s 0xFF 0xFF
  else s

/-- The memory stage and what follows it up to the load (16 R580 steps 4 and 5; 09 R350 steps 2 and 3; 18 R630, R634). -/
def memoryReady (calOk : Bool) (found : List Finding) (s : State) : State :=
  let s := newNonce (startServing { s with power := { s.power with stage := 5 } })
  let s := if s.host.store.lost then emcy s 0xFF52 7 0xFF 0 else s
  let s := rollCheck s found
  let s := appendS4 s (s4Record s 1 0 0 0 [] [])
  let s := if calOk then s else safeEntry (emcy s 0xFF56 0 0xFF 0) 7 0xFF
  let s := lifeStart s
  let s := if s.mem.cap = 0 then s else s.setReg K.dramState 1
  let s := if s.cip.layout = 0 ∨ s.mode = .limp then s else s.setReg K.storageState 1
  let s := if s.reg K.linkEnable = 0 ∨ s.mode = .limp then s else s.setReg K.linkState 1
  pumpBanks (if s.mode = .safe then s.setReg K.storageState 0 else bootLoad s)

/-- A reset that a command has asked for, taken up once no command waits: SAFE_RESET (18 R642). -/
def dueReset (s : State) : State := if s.test.resetDue then warmReset s else s

/-- TRANSITION_RESET (17 R614 step 6): the device resets into the new state. -/
def execTransitionReset (s : State) : Out := .next (if s.life.trans then warmReset s else s)

end Sys2Proof.Machine
end

