-- ==== Sys2Proof/Machine/Power.lean ====
section
/-! DEFINITION. RESET#, the lower power states and their wakes, the supplies, PMBus and the backup domain (spec/16; 20 R685;
04 R179; 08 R309). -/

namespace Sys2Proof.Machine

/-- The state that a command leaves. -/
def nextOf (s : State) (o : Out) : State :=
  match o with
  | .next t => t
  | _ => s

/-! ## Leaving for a lower state (16 R576, R577) -/

/-- A request for a lower state (16 R574, R575): accepted with OK at once. -/
def lowerRequest (r : Req) (v : Nat) (s : State) : State :=
  request s r K.powerRequest 2 fun s =>
    writeEntry s r K.powerRequest v { state := whenCode (powerBusy s) 0x08000022, move := whenCode (moving s) 0x0F000001 } fun s =>
      ok { s with power := { s.power with target := v, step := 0 } } r

def execSleepRequest (r : Req) (s : State) : Out := .next (lowerRequest r 2 s)
def execDeepSleepRequest (r : Req) (s : State) : Out := .next (lowerRequest r 3 s)
def execOffRequest (r : Req) (s : State) : Out := .next (lowerRequest r 4 s)

/-- POWER_ENTRY_BEGIN (16 R576 step 1): 2 ms after the completion, new requests are refused. -/
def execPowerEntryBegin (s : State) : Out :=
  .next (
    if s.power.target ≠ 0 ∧ s.power.step = 0 then
      { s.setReg K.powerState 1 with power := { s.power with step := 1 } }
    else s)

/-- What step 2 of 16 R576 waits for: flash, DRAM remelts, the chunk boundary of a storage remelt, commands at the drives. -/
def entryDrained (s : State) : Bool :=
  ((List.range 4).all fun b => (s.flBank b).op.isNone && (s.flBank b).susp.isNone && (s.flBank b).queue.isEmpty)
    && s.mem.remelts.isEmpty && (s.cip.cmds.all fun c => !c.atDrive)
    && !(match s.cip.active with
      | some (_, cs) => cs.contains 1
      | none => false)

/-- Steps 3 and 4 of 16 R576: the links go down, the tick stops, every CM port holds its zero code with EN low, the PLLs
stop. The reference of a wrap test keeps PL0, PL1 and PL6. A cell member notes how long it is to sleep (15 R568). -/
def stopAll (s : State) (wrap : Bool) : State :=
  let s := stopServing s
  let s := s.modFn fun f => { f with al := .init }
  let s : State := { s with host := { s.host with can0 := { s.host.can0 with nmt := 0 }, can1 := { s.host.can1 with nmt := 0 } } }
  let s := forN 48 (fun s n => if engState s n = 0 then s else disableNow s n 5) s
  let s := forN 48 (fun s n =>
    if (s.cm n).driven then
      enOutput ((s.modCm n fun c => { c with dem := 0, enReq := false }).setReg (K.cmDacCode n) (zeroCode (s.cm n).rangeUse)) n
    else s) s
  let s := if s.reg K.rekeyState = 1 then s.setReg K.rekeyState 3 else s
  let s : State := { s with link := { s.link with sleep := s.regN K.linkWakeAt - s.regN K.linkCellTime } }
  let s := s.setRegs [(K.linkState, 0), (K.storageState, 0)]
  let s := if dramUp s then s.setReg K.dramState 5 else s
  forN 8 (fun s p => if wrap ∧ (p = 0 ∨ p = 1 ∨ p = 6) then s else s.setReg (K.pllState p) 0) s

/-- The rails are off (16 R577): 3 DEEP SLEEP or 4 OFF. Ports are no longer driven (04 R166 step 1). -/
def railsOff (s : State) (low : Nat) : State :=
  { s with
    fe := { s.fe with ana18 := false, ana50 := false,
                      cm := tabMap (fun _ => {}) (fun _ x => { x with driven := false, en := false }) s.fe.cm },
    power := { s.power with low := low, stage := 0, target := 0, step := 0, wrapping := false, pg := 0, acked := 0 } }

/-- The island's records of the power-down are sealed at once (14 R528; 16 R577). -/
def sealNow (s : State) : State :=
  let s := islPowerDown s
  forN (s.isl.prog.length) (fun s _ => nextOf s (execProgramDone 2 true s)) s

/-! ## Waking (16 R578 to R585) -/

/-- The device leaves a lower state (16 R580, R581): from SLEEP at step 2, otherwise at step 1 with all but what the backup
domain and retained banks hold lost. -/
def wake (s : State) (bits : Nat) : State :=
  let low := s.power.low
  if low = 2 then
    let s := s.setRegs [(K.powLastWake, bits), (K.powLastState, 2)]
    { s with power := { s.power with low := 0, stage := 2, wokeFrom := 2, wakes := 0, target := 0, step := 0, acked := 0 } }
  else
    let kept := if low = 3 then (List.range 16).foldl (fun m b => if s.reg (K.bankRetain b) = 1 then m + 2 ^ b else m) 0 else 0
    let s := deviceReset true true kept s
    let s := s.setRegs [(K.powLastWake, bits), (K.powLastState, low)]
    { s with power := { s.power with stage := 1, wokeFrom := low, pg := 0, acked := 0 } }

/-- A wake source that came on the way in acts once the lower state is reached (16 R601). -/
def wakeOwed (s : State) : State := if s.power.wakes = 0 then s else wake s s.power.wakes

/-- The lower state is reached. -/
def enterLow (s : State) (low : Nat) : State :=
  wakeOwed (if low = 2 then { s with power := { s.power with low := 2, target := 0, step := 0 } } else railsOff (sealNow s) low)

/-- The end of entry to OFF (18 R628): what was asked of the next wrap test is spent. -/
def enterOff (s : State) : State := enterLow { s with test := { s.test with wrapNext := false } } 4

/-- POWER_ENTRY_DRAINED (16 R576 steps 2 to 4, R577; 18 R630, R631): a clean entry to DEEP SLEEP or OFF leaves its record in
S4; entry to OFF first runs the wrap test that is scheduled. -/
def execPowerEntryDrained (s : State) : Out :=
  .next (
    let t := s.power.target
    if t = 0 ∨ s.power.step ≠ 1 ∨ entryDrained s = false then s
    else if t = 4 ∧ s.power.down = false ∧ wrapDue s = true then
      let s := handAll (stopAll s true)
      { s with power := { s.power with step := 2, wrapping := true } }
    else
      let s := stopAll s false
      if t = 2 then enterLow s 2
      else
        let s := if s.power.down then s else appendS4 s (s4Record s 2 0 0 0 [] [])
        if t = 4 then enterOff s else enterLow s 3)

/-- WRAP_TEST_DONE (18 R631 to R633). -/
def execWrapTestDone (found : List Finding) (margins : List (Fin 256 × Fin 256)) (ms : BitVec 32) (s : State) : Out :=
  .next (if s.power.wrapping then enterOff (wrapCommit s found margins false ms.toNat) else s)

/-- WRAP_TEST_LIMIT (18 R633): 3 s have passed. -/
def execWrapTestLimit (found : List Finding) (margins : List (Fin 256 × Fin 256)) (s : State) : Out :=
  .next (if s.power.wrapping then enterOff (wrapCommit s found margins true 3000) else s)

/-- A wake source acts in a lower state, and is kept while one is entered (16 R579, R601). -/
def wakeFor (s : State) (bits : Nat) : State :=
  if s.power.low ≠ 0 then wake s bits
  else if s.power.target ≠ 0 then { s with power := { s.power with wakes := s.power.wakes ||| bits } }
  else s

/-- The state that a source finds: the one the device is in, or the one being entered. -/
def lowOf (s : State) : Nat := if s.power.low ≠ 0 then s.power.low else s.power.target

/-- WAKE_EVENT (16 R579): sources that WAKE_ENABLE admits; CAN and HPI_CS# in SLEEP only; RESET# always. -/
def execWakeEvent (src : WakeSource) (s : State) : Out :=
  .next (
    match src with
    | .pin => if s.regBit K.wakeEnable 0 then wakeFor s 0x02 else s
    | .can c => if s.regBit K.wakeEnable (2 + c.val) && lowOf s == 2 then wakeFor s 0x10 else s
    | .hpi => if s.regBit K.wakeEnable 4 && lowOf s == 2 then wakeFor s 0x20 else s
    | .reset => wakeFor s 0x40)

/-- RTC_ALARM (16 R579): the count has reached ALARM. -/
def execRtcAlarm (s : State) : Out :=
  .next (
    if s.reg K.rtcValid = 1 ∧ s.reg K.wakeAlarm ≠ 0 ∧ s.reg K.wakeAlarm ≤ s.reg K.rtcSeconds ∧ s.regBit K.wakeEnable 1 = true then
      wakeFor s 0x04
    else s)

/-- POWER_APPLIED (16 R580): the device starts from step 1 with nothing but what needs no supply. -/
def execPowerApplied (s : State) : Out :=
  .next (
    let low := s.power.low
    let s := railsOff (deviceReset true false 0 s) 0
    let s := s.setRegs [(K.powLastWake, 1), (K.powLastState, if low = 4 then 4 else 0)]
    { s with power := { s.power with stage := 1, wokeFrom := 0 } })

/-- The last step of a wake from SLEEP (16 R578, R581; 15 R563). -/
def shortWake (s : State) (wakeTime : Nat) : State :=
  let s := startServing { s with power := { s.power with stage := 0, attempts := 0 } }
  let s := forN 48 restartFb s
  let s := if s.reg K.dramState = 5 then s.setReg K.dramState 3 else s
  let limp := decide (s.mode = .limp)
  let s := s.setRegs [(K.powerState, if limp then 2 else if s.mode = .safe then 3 else 0), (K.powWakeTime, wakeTime),
    (K.tickState, if s.reg K.tickSource = 0 then 0 else 2)]
  let s := if limp then s else s.setRegs [(K.linkState, if s.reg K.linkEnable = 1 then 1 else 0), (K.storageState, if s.cip.layout = 0 then 0 else 1)]
  let s := pumpBanks (settleTamper s)
  let s := if s.reg K.pfaultFaultStage = 0 then s else emcy s 0xFFA6 2 0xFF (s.regN K.pfaultFaultAttempts)
  if limp then emcy s 0xFF83 0 0xFF 0 else s

/-- WAKE_STAGE_READY (16 R580, R581): the stages in their order. RESET# low holds the start. -/
def execWakeStageReady (what : WakeStage) (s : State) : Out :=
  .next (
    if s.fe.safe.resetTaken then s
    else
      match what with
      | .aon => if s.power.stage = 1 then { s with power := { s.power with stage := 2, attempts := 0, acked := 0 } } else s
      | .rails => if s.power.stage = 2 then oscillatorStage { s with power := { s.power with pg := 0x3F } } else s
      | .clocks xa xb =>
        if s.power.stage = 3 ∧ (xa || xb) = true ∧ ((List.range 8).all fun p => s.reg (K.pllState p) == 3) = true then
          let p := s.regN K.xoPreferred
          let good := if p = 0 then xa else xb
          let s := s.setRegs [(K.xoHealth, (b2n xa + 2 * b2n xb : Nat)), (K.xoInUse, if good then (p : Int) else 1 - (p : Int))]
          { s with power := { s.power with stage := 4 } }
        else s
      | .memory calOk found wakeTime =>
        if s.power.stage ≠ 4 then s
        else if s.power.wokeFrom = 2 then shortWake s wakeTime.toNat
        else memoryReady calOk found s)

/-- The rails in the order of step 2 of 16 R580, by sub-index of RAIL MAP. -/
def railOrder : List Nat := [0x05, 0x0A, 0x01, 0x02, 0x03, 0x04, 0x08, 0x09, 0x06, 0x07]

/-- RAIL MAP as it was taken at the last reset, by sub-index (16 R591). -/
def mapOf (s : State) (rail : Nat) : Nat := if rail = 0 then 0 else tabGet (fun _ => 0) s.power.railMap (rail - 1)

/-- A regulator answers for the rail. -/
def mapped (s : State) (rail : Nat) : Bool := (mapOf s rail).testBit 15

/-- REGULATOR_STAGE_TIMEOUT (16 R582): the rails go off and the stage is tried again; after the third such retry the wake
fault is recorded and the device returns to OFF. -/
def execRegulatorStageTimeout (s : State) : Out :=
  .next (
    if s.power.stage ≠ 2 ∨ s.fe.safe.resetTaken = true then s
    else
      let n := s.power.attempts + 1
      let first := ((railOrder.filter fun r => mapped s r && !s.power.acked.testBit r).head?).getD 0
      let s := if s.power.wokeFrom = 2 then
          { deviceReset true true 0 s with power := { (deviceReset true true 0 s).power with stage := 2 } } else s
      let s := railsOff s 0
      if n < 4 then { s with power := { s.power with stage := 2, wokeFrom := 0, attempts := n } }
      else
        let s := s.setRegs [(K.pfaultFaultStage, 1), (K.pfaultFaultRail, first), (K.pfaultFaultAttempts, n),
          (K.pfaultFaultTime, rtcTime s)]
        { s with power := { s.power with low := 4, faultPin := true } })

/-- OSCILLATOR_STAGE_TIMEOUT (16 R584): the device goes on in LIMP. -/
def execOscillatorStageTimeout (s : State) : Out :=
  .next (
    if s.power.stage = 3 ∧ s.fe.safe.resetTaken = false then
      let s := limpStops { s with mode := .limp, power := { s.power with stage := 4 } }
      forN 8 (fun s p => s.setReg (K.pllState p) 3) (s.setRegs [(K.powerState, 2), (K.xoInUse, 2)])
    else s)

/-- MEMORY_STAGE_TIMEOUT (16 R585): the flash controller is not ready, and SAFE state is entered. -/
def execMemoryStageTimeout (s : State) : Out :=
  .next (
    if s.power.stage = 4 ∧ s.fe.safe.resetTaken = false then
      safeEntry (startServing { s with power := { s.power with stage := 5 } }) 5 0xFF
    else s)

/-- FAULT_CLEAR (16 R583). -/
def execFaultClear (r : Req) (s : State) : Out :=
  .next (request s r K.pfaultFaultClear 2 fun s =>
    writeEntry s r K.pfaultFaultClear 1 {} fun s =>
      let s := s.setRegs [(K.pfaultFaultStage, 0), (K.pfaultFaultRail, 0), (K.pfaultFaultAttempts, 0), (K.pfaultFaultTime, 0)]
      ok { s with power := { s.power with faultPin := false } } r)

/-! ## RESET# (20 R685; 04 R176, R179) -/

/-- RESET_FALL (20 R685): the low still has to be qualified. -/
def execResetFall (s : State) : Out := .next (s.modSafe fun x => { x with resetLow := true })

/-- A low of RESET# has been taken: every port clamps and the device resets; in a lower state it is a wake (16 R601). -/
def resetTaken (s : State) (dt : Nat) : State :=
  let low := s.power.low
  let stage := if low = 3 ∨ low = 4 ∨ s.power.stage = 1 then 1 else if low = 2 ∨ s.power.stage = 2 then 2 else 3
  let s := (s.modSafe fun x => { x with resetTaken := true, resets := x.resets + 1 }).setReg K.safeLastSource 3
  let s := if sysOn s then s.modIsl fun x => { x with resetSeen := true } else s
  let s := if s.fe.ana18 then clampAll s 3 dt else s
  if low = 3 ∨ low = 4 then wake s 0x40
  else
    let s := deviceReset false (low ≠ 0) 0 s
    let s := if low = 0 then s else s.setRegs [(K.powLastWake, 0x40), (K.powLastState, 2)]
    { s with power := { s.power with stage := stage } }

/-- RESET_QUALIFIED (20 R685): RESET# has stayed low long enough; `dt` is what was left of the running step pulse. -/
def execResetQualified (dt : Nat) (s : State) : Out :=
  .next (if s.fe.safe.resetLow && !s.fe.safe.resetTaken then resetTaken s dt else s)

/-- RESET_RISE (04 R179): the clamp ends and the device starts from reset. -/
def execResetRise (s : State) : Out :=
  .next (
    if s.fe.safe.resetTaken then
      let s := restartPorts s
      if s.power.stage = 3 then oscillatorStage s else s
    else s.modSafe fun x => { x with resetLow := false })

/-! ## The supplies (16 R586, R587) -/

/-- PWR_DOWN# falls (16 R586, R601). -/
def powerDown (s : State) : State :=
  let s : State := { s with power := { s.power with down := true } }
  if s.power.low ≠ 0 then s
  else if s.power.stage ≠ 0 ∨ s.power.wrapping then railsOff s 4
  else
    let s := islPowerDown s
    forN 8 (fun s g => if groupMoves s g then stopGroup s g true false 5 else s) s

def execPwrDownFall (s : State) : Out := .next (if s.power.down then s else powerDown s)

/-- PWR_DOWN_RISE (16 R586): the device runs on, and flash work that waited starts. -/
def execPwrDownRise (s : State) : Out :=
  .next (if s.power.down then pumpBanks { s with power := { s.power with down := false } } else s)

/-- POWER_GOOD_LOST (16 R587; 04 R167; 11 R438): PG1 acts through the rail monitor, PG4 is reported only. -/
def execPowerGoodLost (i : Fin 6) (s : State) : Out :=
  .next (
    if s.power.pg.testBit i ∧ s.power.low = 0 ∧ (s.power.stage = 0 ∨ s.power.stage = 5) then
      let s : State := { s with power := { s.power with pg := setBitTo s.power.pg i false } }
      let s := emcy s 0xFFA5 2 i i
      if i = 0 ∨ i = 5 then (if s.power.down then s else powerDown s)
      else if i = 2 then nextOf s (execAna50Loss 0 s)
      else if i = 3 ∧ s.reg K.dramState ≠ 0 then emcy (dramLost s) 0xFF5C 7 0xFF 0
      else s
    else s)

/-! ## PMBus (16 R588 to R595) and the quadrant rails (08 R304, R309; 16 R590) -/

/-- The rail of a quadrant has settled (08 R309 steps 3 and 4): its seams, its requests and the loader go on. -/
def railDone (s : State) (q : Nat) : State :=
  let s := s.modRail q fun x => { x with target := 0, loader := false, sent := false, odd := 0 }
  let s := completeAll (showSeams s) (.vccq q) 0 []
  pumpLoad (s.modLoad fun l => if l.rail = some q then { l with rail := none } else l)

/-- A rail could not be set: what asked for it ends with 0x06060000, a load with cause 12 (16 R589; 09 R350). -/
def railFails (s : State) (q : Nat) : State :=
  let s := s.modRail q fun x => { x with target := 0, loader := false, sent := false, odd := 0 }
  let s := completeAll (showSeams s) (.vccq q) 0x06060000 []
  pumpLoad (s.modLoad fun l => if l.rail = some q then { l with rail := none, railBad := true } else l)

/-- The quadrant whose rail has a request at the bus that is not acknowledged. -/
def railAsked (s : State) (rail : Nat) : Option Nat :=
  if 1 ≤ rail ∧ rail ≤ 4 ∧ railBusy s (rail - 1) = true ∧ (s.rail (rail - 1)).sent = true then some (rail - 1) else none

/-- A transaction failed (16 R592, R593, R602). -/
def pmbFails (s : State) (rail addr : Nat) : State := emcy (s.bump K.pmbFailed 32) 0xFFA1 2 rail addr

/-- PMBUS_TRANSACTION (16 R592, R595): `losses` arbitrations lost before it ran, eight of which fail it. The request to a
quadrant rail goes out once its seams are still (08 R309). -/
def execPmbusTransaction (rail : Fin 12) (addr : BitVec 7) (losses : Fin 9) (how : PmbResult) (s : State) : Out :=
  .next (
    if mapped s rail.val ∧ mapOf s rail.val % 128 = addr.toNat then
      let s := s.bumpBy K.pmbArbLost 32 losses.val
      if losses.val = 8 then pmbFails s rail.val addr.toNat
      else
        match how with
        | .good =>
          let s := s.bump K.pmbTransactions 32
          let q := rail.val - 1
          if 1 ≤ rail.val ∧ rail.val ≤ 4 ∧ railBusy s q = true ∧ seamsStill s q = true then
            s.modRail q fun x => { x with sent := true }
          else s
        | .nack => pmbFails s rail.val addr.toNat
        | .pecError => pmbFails (s.bump K.pmbPecErrors 32) rail.val addr.toNat
    else s)

/-- PMBUS_SCL_TIMEOUT (16 R593): SCL was held low for 25 ms. -/
def execPmbusSclTimeout (rail : Fin 12) (addr : BitVec 7) (s : State) : Out :=
  .next (if mapped s rail.val ∧ mapOf s rail.val % 128 = addr.toNat then pmbFails s rail.val addr.toNat else s)

/-- STATUS_WORD acknowledges (16 R589): POWER_GOOD# 0 and no fault among bits 15, 14, 6 and 4. -/
def statusGood (status : Nat) : Bool := !status.testBit 11 && status &&& 0xC050 == 0

/-- PMBUS_ACK_POLL (16 R589): a rail of the regulator stage, or a quadrant rail within 15 mV of what was asked. Three polls at
another value mean another master has set it. -/
def execPmbusAckPoll (rail : Fin 12) (status mv : BitVec 16) (s : State) : Out :=
  .next (
    if s.power.stage = 2 then
      if mapped s rail.val ∧ statusGood status.toNat = true then
        { s with power := { s.power with acked := setBitTo s.power.acked rail.val true } }
      else s
    else
      match railAsked s rail.val with
      | none => s
      | some q =>
        let near := decide (((mv.toNat : Int) - ((s.rail q).target : Int)).natAbs ≤ 15)
        if statusGood status.toNat && near then railDone s q
        else if status.toNat.testBit 11 || near then s
        else
          let s := s.modRail q fun x => { x with odd := x.odd + 1 }
          if (s.rail q).odd < 3 then s
          else railFails (emcy (s.bump K.pmbForeign 16) 0xFFA2 2 rail.val mv.toNat) q)

/-- PMBUS_ACK_TIMEOUT (16 R589): 5 ms without acknowledgement. -/
def execPmbusAckTimeout (rail : Fin 12) (s : State) : Out :=
  .next (
    if s.power.stage = 2 then
      if mapped s rail.val && !s.power.acked.testBit rail.val then emcy s 0xFFA0 2 rail.val rail.val else s
    else
      match railAsked s rail.val with
      | none => s
      | some q => railFails (emcy s 0xFFA0 2 rail.val rail.val) q)

/-- PMBUS_ALERT (16 R594). -/
def execPmbusAlert (addr : BitVec 7) (status : BitVec 16) (s : State) : Out :=
  .next (emcy (s.setReg K.pmbLastAlert addr.toNat) 0xFFA4 2 addr.toNat status.toNat)

/-- PMBUS_TELEMETRY (16 R588): what is read goes to no entry. -/
def execPmbusTelemetry (_ : Fin 12) (s : State) : Out := .next s

/-- A load that still has to come works on the quadrant (09 R386). -/
def loadHolds (s : State) (q : Nat) : Bool :=
  match s.fab.load with
  | some l => l.purpose != .powerUp && l.purpose != .golden && (List.range 4).any fun i => (slMap l.slate).testBit (4 * q + i)
  | none => false

/-- VCCQ_SET (16 R590, R601; 08 R304, R309; 09 R386). A rail without a regulator is only noted. -/
def execVccqSet (r : Req) (q : Fin 4) (mv : BitVec 16) (s : State) : Out :=
  .next (request s r (K.railVccq0Set + q.val) 2 fun s =>
    let loaded := (s.fab.loaded / 2 ^ (4 * q.val)) % 16 != 0
    let low := loaded && decide (s.fab.slate ≠ []) && decide (mv.toNat < slRailMin s.fab.slate q.val)
    writeEntry s r (K.railVccq0Set + q.val) mv.toNat
      { state := whenCode (low || loadHolds s q.val || s.power.target != 0) 0x08000022 } fun s =>
      if railPresent s q.val then await (startRail s q.val mv.toNat false) (.vccq q.val) r
      else ok (showSeams (s.setReg (K.railVccq0Set + q.val) mv.toNat)) r)

/-! ## The backup domain (16 R596 to R599) -/

/-- The canary has failed: all that BBRAM held is lost (16 R597; 15 R557). -/
def bbramLost (s : State) : State :=
  let s := dropBk { s with clock := { s.clock with bands := [] }, power := { s.power with faultPin := false } }
  let s := s.setRegs [(K.pfaultFaultStage, 0), (K.pfaultFaultRail, 0), (K.pfaultFaultAttempts, 0), (K.pfaultFaultTime, 0),
    (K.batSwitches, 0)]
  let s := (s.setBlob K.batUserBbram []).setBit K.batBackupStatus 1 true
  emcy ((rtcLost s).setReg K.rtcSeconds 0) 0xFF70 7 0xFF 0

/-- BACKUP_SUPPLY_SWITCH (16 R596, R597): VBAT to VCC_AON, where the canary is checked, or back. -/
def execBackupSupplySwitch (toAon canaryOk : Bool) (s : State) : Out :=
  .next (
    if s.reg K.batSupplyInUse = b2i toAon then s
    else
      let s := (s.bump K.batSwitches 32).setReg K.batSupplyInUse (b2i toAon)
      if !toAon then s else if canaryOk then s.setBit K.batBackupStatus 1 false else bbramLost s)

/-- VBAT_MEASURE (16 R598): every 60 s while VCC_AON is present. -/
def execVbatMeasure (mv : BitVec 16) (s : State) : Out :=
  .next (
    if s.reg K.batSupplyInUse = 1 then
      let was := s.regBit K.batBackupStatus 0
      let s := (s.setReg K.batVbatMv mv.toNat).setBit K.batBackupStatus 0 (decide (mv.toNat < 2200))
      if mv.toNat < 2200 ∧ was = false then emcy s 0xFFA3 2 0xFF mv.toNat else s
    else s)

end Sys2Proof.Machine
end

