-- ==== Sys2Proof/Machine/Clapper.lean ====
section
/-! DEFINITION. The clapper link, cell time and the cell (spec/15 R560 to R568; spec/19 R652 to R663). -/

namespace Sys2Proof.Machine

def State.modLink (s : State) (f : LinkSt → LinkSt) : State := { s with link := f s.link }
def State.member (s : State) (i : Nat) : Member := tabGet (fun _ => {}) s.link.member i
def State.modMember (s : State) (i : Nat) (f : Member → Member) : State :=
  s.modLink fun l => { l with member := tabSet (fun _ => {}) l.member i (f (s.member i)) }

/-- The link runs: enabled, in a device that is up and not in LIMP (15 R567; 16 R584). -/
def linkOn (s : State) : Bool :=
  s.reg K.linkEnable == 1 && decide (s.mode ≠ .limp) && s.power.low == 0 && (s.power.stage == 0 || s.power.stage == 5)

/-- The link is locked as a ring or a chain. -/
def linkLocked (s : State) : Bool := s.reg K.linkState == 2 || s.reg K.linkState == 3

/-- A frame whose CRC is bad is dropped and counted (15 R561). -/
def frameIn (good : Bool) (s : State) (k : State → State) : State :=
  if !linkOn s then s else if good then k s else s.bump K.linkCrcErrors 32

def cellId (s : State) : Nat := s.regN K.cfgId

def memberPresent (s : State) (i : Nat) : Bool := s.regBit K.cellPresent i

/-! ## The tick and cell time (01 R18 to R20, R699; 15 R563, R564) -/

/-- The source of the tick is lost after it has been joined (01 R20). -/
def holdover (s : State) : State :=
  if s.reg K.tickSource ≠ 0 ∧ s.reg K.tickState = 0 then
    let src := s.regN K.tickSource
    let s := if src = 1 ∧ s.reg K.linkState ≠ 0 then (s.setReg K.linkState 4).modLink fun l => { l with inOrder := 0 } else s
    emcy (s.setReg K.tickState 1) 0xFF01 4 0xFF src
  else s

def execTickHoldover (s : State) : Out := .next (holdover s)

/-- TICK_SOURCE_WRITE (01 R18, R19, R699): an external source is waited for; a write of 0 acts at the next tick. -/
def execTickSourceWrite (r : Req) (v : BitVec 8) (s : State) : Out :=
  .next (request s r K.tickSource 2 fun s =>
    writeEntry s r K.tickSource v.toNat { move := whenCode (moving s) 0x0F000001 } fun s =>
      let s := s.setReg K.tickSource v.toNat
      let s : State := { s with fe := { s.fe with srcPend := decide (v.toNat = 0) } }
      ok (if v.toNat = 0 then s else s.setReg K.tickState 2) r)

/-- TICK_SOURCE_JOIN (01 R699): the source has delivered its last two ticks, nothing moves, and no ENABLE is active. -/
def execTickSourceJoin (s : State) : Out :=
  .next (
    if s.reg K.tickState = 2 ∧ s.reg K.tickSource ≠ 0 ∧ moving s = false ∧ (s.reg K.tickSource = 2 ∨ linkLocked s = true) then
      s.setReg K.tickState 0
    else s)

/-- CLAPPER_TICK_FRAME (15 R562, R563; 19 R652, R655, R657): the first copy counts; sixteen in order lock the link, but for a
member whose CFG_ID is taken or whose SERVO_RATE is another, or one in holdover that has not been told to rejoin. -/
def execClapperTickFrame (seq : BitVec 8) (s : State) : Out :=
  .next (
    let src := s.regN K.cellTimeSource
    if linkOn s = false ∨ src = 0xFF ∨ src = cellId s ∨ s.link.tickSeq = some seq.toNat then s
    else
      let next := s.link.tickSeq.all fun q => (q + 1) % 256 == seq.toNat
      let n := if next then min 16 (s.link.inOrder + 1) else 1
      let s := s.modLink fun l => { l with tickSeq := some seq.toNat, inOrder := n }
      let may := s.reg K.linkState == 1 || (s.reg K.linkState == 4 && s.reg K.tickState != 1)
      if n = 16 ∧ may = true ∧ s.link.dup = false ∧ (s.member src).rate = s.regN K.rateServoRate then
        s.setReg K.linkState (if s.regBit K.linkFlags 2 then 3 else 2)
      else s)

/-- CLAPPER_TIME_FRAME (15 R564, R568): cell time of the tick; once taken it never runs backwards. WAKE_AT sets the wake time
while CELL_WAKE is 1. -/
def execClapperTimeFrame (good : Bool) (t : BitVec 64) (wake : Option (BitVec 64 × BitVec 32)) (s : State) : Out :=
  .next (frameIn good s fun s =>
    let s := match wake with
      | some w => if s.reg K.wakeCellWake = 1 then s.setRegs [(K.linkWakeAt, w.1.toNat), (K.linkBurstPeriod, w.2.toNat)] else s
      | none => s
    if linkLocked s = false ∨ s.regN K.cellTimeSource = cellId s then s
    else if s.link.timed then
      let d := ((t.toNat : Int) - (s.link.base : Int)).natAbs
      let s := s.modLink fun l => { l with base := t.toNat }
      let s := if 3 ≤ d then s.bump K.linkTimeJumps 32 else s
      s.setReg K.linkCellTime (max (s.regN K.linkCellTime) t.toNat : Nat)
    else (s.modLink fun l => { l with base := t.toNat, timed := true }).setReg K.linkCellTime t.toNat)

/-- Cell time passes by a tick period (15 R564). -/
def tickCell (s : State) : State :=
  let b := s.link.base + s.regN K.rateTickPeriod
  (s.modLink fun l => { l with base := b }).setReg K.linkCellTime (max (s.regN K.linkCellTime) b : Nat)

/-! ## Members (15 R561; 19 R652 to R654, R659) -/

/-- What the entries of the cell show of the members. -/
def showCell (s : State) : State :=
  let others := (List.range 8).filter fun i => i != cellId s && memberPresent s i
  let done := linkOn s && s.regBit K.cfgDoneLine 1
    && (List.range 8).all fun i => i == cellId s || !s.regBit K.cellExpected i || (memberPresent s i && (s.member i).done)
  let s := (s.setReg K.linkMembers (1 + others.length : Nat)).setBit K.cfgDoneLine 2 done
  s.setBlob K.cellLevels ((List.range 8).flatMap fun i => leBytes 2 (s.member i).level)

/-- CLAPPER_STATUS_FRAME (15 R561, R562; 19 R652, R653): a member as it describes itself; the first copy of each counts. One
that carries this member's CFG_ID and a lower UID keeps it from locking. -/
def execClapperStatusFrame (good : Bool) (m : StatusFrame) (s : State) : Out :=
  .next (frameIn good s fun s =>
    if m.id.val = cellId s then
      if leAt (unitUid s) 0 4 ≤ m.uid.toNat ∨ s.link.dup = true then s
      else emcy ((s.setReg K.linkState 1).modLink fun l => { l with dup := true }) 0xFF78 4 m.id.val m.uid.toNat
    else if (s.member m.id.val).heard ∧ memberPresent s m.id.val = true ∧ (s.member m.id.val).seq = m.seq.toNat then s
    else
      let s := s.modMember m.id.val fun x =>
        { heard := true, uid := m.uid.toNat, level := max 1 m.level.toNat, done := m.done, locked := m.locked,
          eligible := m.eligible, rate := m.rate.toNat, priority := m.priority.toNat, seq := m.seq.toNat, published := x.published }
      showCell (s.setBit K.cellPresent m.id.val true))

/-- MEMBER_ABSENT (19 R653, R659): three STATUS frames in a row are missing; the level last heard stands. -/
def execMemberAbsent (m : Fin 8) (s : State) : Out :=
  .next (
    if m.val = cellId s ∨ memberPresent s m.val = false then s
    else showCell ((s.modMember m.val fun x => { x with published := 0 }).setBit K.cellPresent m.val false))

/-- CELL_LEVEL as it has to read (19 R659). -/
def cellLevelOf (s : State) : Nat :=
  (List.range 8).foldl (fun a i =>
    if s.regBit K.cellExpected i && i != cellId s then min a (if (s.member i).heard then (s.member i).level else 1) else a)
    (s.regN K.cellOwnLevel)

/-- CELL_LEVEL changes at a tick (19 R659, R660). -/
def tickLevel (s : State) : State :=
  let v := cellLevelOf s
  if s.regN K.cellLevel = v then s
  else
    let s := s.setReg K.cellLevel v
    if v < s.regN K.cellOwnLevel then emcy s 0xFF73 4 0xFF v else s

/-! ## Published axes (15 R565; 19 R661 to R663) -/

/-- The axes that follow an axis of a member (05 R208). -/
def followers (s : State) (src axis : Nat) : List Nat :=
  (List.range 48).filter fun n => s.reg (K.axSource n) == 4 && s.regN (K.axspCellAxis n) == 256 * src + axis

/-- A published set-point reaches its followers; one whose engine is not in servo is lost at once (19 R663). -/
def takeAxis (src : Nat) (s : State) (e : AxisEntry) : State :=
  (followers s src e.axis.val).foldl (fun s n =>
    if e.servo then s.modEng n fun x => { x with nCell := some e.sp.toInt }
    else if 2 ≤ engState s n ∧ follows s n = true then sourceLost (s.modEng n fun x => { x with missSrc := 2 }) n
    else s) s

/-- A follower has stopped: a source with STOP_ON_FOLLOWER quick-stops its group (19 R663). -/
def takeStop (s : State) (x : Fin 8 × Axis) : State :=
  if x.1.val = cellId s ∧ ((publication s x.2.val).map fun v => v.testBit 9) = some true then
    quickStopOf s x.2.val 5
  else s

/-- CLAPPER_AXIS_FRAME (15 R561, R565; 19 R662, R663): entries that come after T + 2.0 us count as missing. -/
def execClapperAxisFrame (good : Bool) (src : Fin 8) (entries : List AxisEntry) (stops : List (Fin 8 × Axis)) (late : Bool)
    (s : State) : Out :=
  .next (frameIn good s fun s =>
    if linkLocked s = false ∨ src.val = cellId s then s
    else
      let s := s.modMember src.val fun m => { m with published := entries.length }
      let s := if late then s else entries.foldl (takeAxis src.val) s
      stops.foldl takeStop s)

/-- A PUB entry (19 R661): no axis twice, and no more than twelve in the cell. -/
def pubCode (s : State) (key : Nat) (v : Int) : Own :=
  let n := v.toNat % 256
  let others := ((List.range 12).filter fun i => K.pub0 + i != key).map fun i => s.regN (K.pub0 + i) % 256
  let count := (others.filter fun x => x != 0xFF).length + (if n = 0xFF then 0 else 1)
    + ((List.range 8).map fun i => if memberPresent s i && i != cellId s then (s.member i).published else 0).sum
  { state := whenCode (n != 0xFF && decide (12 < count)) 0x08000022,
    set := whenCode (n != 0xFF && (decide (48 ≤ n) || others.contains n)) 0x06090030 }

/-- What this member's next AXIS frame carries: its published axes, and the axes that have left ENGINE_STATE 2 or set
FE_FAULT while they followed a member (15 R561; 19 R661, R663). -/
def axisFrameOut (s : State) : State :=
  let pubs := ((List.range 12).map fun i => s.regN (K.pub0 + i) % 256).filter (· < 48)
  let axes := pubs.map fun n =>
    (n, engState s n == 2, (delivered s n (s.regN (K.axSource n))).getD (s.engine n).sp)
  let now := (List.range 48).foldl (fun m n =>
    if s.reg (K.axSource n) = 4 ∧ engState s n = 2 ∧ s.regBit (K.engStatus n) 15 = false then m + 2 ^ n else m) 0
  let left := bitsOf (clearMask s.link.follow now) 48
  let on := linkOn s && linkLocked s
  s.modLink fun l =>
    { l with
      axes := if on then axes else [], follow := now,
      stops := if on then left.map fun n => (s.regN (K.axspCellAxis n) / 256 % 8, s.regN (K.axspCellAxis n) % 256) else [] }

/-! ## The ring (15 R560, R566) -/

/-- CLAPPER_DELAY_PROBE (15 R560, R563): a hop longer than 100 ns is refused. -/
def execClapperDelayProbe (good : Bool) (side : Fin 2) (ns path : BitVec 16) (s : State) : Out :=
  .next (frameIn good s fun s =>
    let s := s.setRegs [(K.linkHopDelay0 + side.val, ns.toNat), (K.linkPathDelay, path.toNat)]
    let s := s.setBit K.linkFlags side.val (decide (ns.toNat ≤ 100))
    s.setBit K.linkFlags 3 (decide (100 < s.reg K.linkHopDelay0 ∨ 100 < s.reg K.linkHopDelay1)))

/-- RING_BROKEN (15 R566): a neighbour link that was up fails, and the ring becomes a chain. -/
def execRingBroken (side : Fin 2) (s : State) : Out :=
  .next (
    if linkOn s && s.regBit K.linkFlags side.val then
      let s := (s.setBit K.linkFlags side.val false).setBit K.linkFlags 2 true
      emcy (if s.reg K.linkState = 2 then s.setReg K.linkState 3 else s) 0xFF76 4 0xFF side.val
    else s)

/-- NEIGHBOUR_LINK_RESTORED (15 R566): with both sides up the chain is a ring again. -/
def execNeighbourLinkRestored (side : Fin 2) (s : State) : Out :=
  .next (
    if linkOn s then
      let s := s.setBit K.linkFlags side.val true
      if s.regBit K.linkFlags 0 && s.regBit K.linkFlags 1 then
        let s := s.setBit K.linkFlags 2 false
        if s.reg K.linkState = 3 then s.setReg K.linkState 2 else s
      else s
    else s)

/-! ## The time source (19 R655 to R658) -/

/-- This member may be the time source (19 R655): its SERVO_RATE is that of the other eligible members. -/
def ownEligible (s : State) : Bool :=
  s.reg K.cellTimePriority != 0 && s.reg K.tickSource == 1 && decide (s.mode = .run) && !s.link.dup
    && (List.range 8).all fun i =>
      i == cellId s || !memberPresent s i || !(s.member i).eligible || (s.member i).rate == s.regN K.rateServoRate

def eligibleMember (s : State) (i : Nat) : Bool := if i = cellId s then ownEligible s else memberPresent s i && (s.member i).eligible

def priorityOf (s : State) (i : Nat) : Nat := if i = cellId s then s.regN K.cellTimePriority else (s.member i).priority

/-- The eligible member of the highest priority, and among equals of the lowest CFG_ID (19 R656). -/
def bestMember (s : State) : Option Nat :=
  (List.range 8).foldl (fun b i =>
    if eligibleMember s i then
      match b with
      | none => some i
      | some j => if priorityOf s j < priorityOf s i then some i else some j
    else b) none

/-- TIME_SOURCE_ELECTION (19 R656 to R658): a present source that is still eligible keeps its role. This member as the source
ticks from its own generator, with TICK_STATE 0 (DESIGN CHOICE, log electState); a member that followed another source is
in holdover. -/
def execTimeSourceElection (s : State) : Out :=
  .next (
    if linkOn s = false then s
    else
      let was := s.regN K.cellTimeSource
      let first := s.reg K.cellElections == 0
      let new := if was < 8 ∧ eligibleMember s was = true then was else (bestMember s).getD 0xFF
      let s := (s.bump K.cellElections 32).setReg K.cellTimeSource new
      let s := if new = was then s else s.modLink fun l => { l with inOrder := 0, tickSeq := none }
      let s := if new = 0xFF then holdover s
        else if new = cellId s then s.setRegs [(K.linkState, if s.regBit K.linkFlags 2 then 3 else 2), (K.tickState, 0)]
        else if was = cellId s then s.setRegs [(K.linkState, 1), (K.tickState, if s.reg K.tickSource = 1 then 2 else s.reg K.tickState)]
        else if new = was then s
        else holdover s
      if first then s else emcy s 0xFF79 4 (cellId s) new)

/-- LINK_ENABLE (02 R79 to R82; 15 R567; 19 R656): a disable of either form takes the link down at once. -/
def linkEnableWrite (r : Req) (v : Nat) (s : State) : State :=
  writeEntry s r K.linkEnable v { set := whenCode (decide (2 < v)) 0x06090030 } fun s =>
    if v = 1 then
      if s.reg K.linkEnable = 1 then ok s r
      else ok (s.setRegs [(K.linkEnable, 1), (K.linkState, if s.mode = .limp then 0 else 1)]) r
    else if s.reg K.linkEnable = 0 then ok s r
    else
      let s := s.modLink fun l => { base := l.base, timed := l.timed }
      let s := s.setRegs [(K.linkEnable, 0), (K.linkState, 0), (K.linkFlags, 0), (K.linkMembers, 1), (K.cellTimeSource, 0xFF),
        (K.cellPresent, (2 ^ cellId s : Nat))]
      ok (s.setBit K.cfgDoneLine 2 false) r

/-! ## Waking sleeping partners (15 R568) -/

/-- WAKE_AT, on the time source only: BURST_PERIOD follows, the larger of 10 s and 8 (50 ppm of the sleep + 1 ms), in whole
seconds. -/
def burstPeriod (now at' : Nat) : Nat :=
  let g := (at' - now) / 20000 + 1000000
  1000 * max 10 ((8 * g + 999999999) / 1000000000)

def wakeAtWrite (r : Req) (v : Nat) (s : State) : State :=
  writeEntry s r K.linkWakeAt v { state := whenCode (s.regN K.cellTimeSource != cellId s) 0x08000022 } fun s =>
    ok (s.setRegs [(K.linkWakeAt, v), (K.linkBurstPeriod, if v = 0 then 0 else burstPeriod (s.regN K.linkCellTime) v)]) r

/-- WAKE_WINDOW_OPEN (15 R568 steps 1 to 4): the time source wakes at WAKE_AT by its own clock; a member listens. -/
def execWakeWindowOpen (w : Fin 4) (s : State) : Out :=
  .next (
    if s.power.low = 0 ∨ s.reg K.linkWakeAt = 0 ∨ s.reg K.linkEnable = 0 then s
    else if s.regN K.cellTimeSource = cellId s then wake s 0x08
    else (s.setReg K.linkState 5).modLink fun l => { l with window := w.val + 1 })

/-- WAKE_WINDOW_CLOSE (15 R568): windows 1 to 3 close without a beacon. -/
def execWakeWindowClose (s : State) : Out :=
  .next (
    if 1 ≤ s.link.window ∧ s.link.window ≤ 3 ∧ s.power.low ≠ 0 then (s.setReg K.linkState 0).modLink fun l => { l with window := 0 }
    else s)

/-- CLAPPER_BEACON (15 R568 step 5): cell time is the beacon's, and the member wakes fully and trains. -/
def execClapperBeacon (good : Bool) (t : BitVec 64) (period : BitVec 32) (own : BitVec 64) (s : State) : Out :=
  .next (
    if s.link.window = 0 ∨ s.power.low = 0 then s
    else if !good then s.bump K.linkCrcErrors 32
    else
      let w := s.link.window
      let s := wake s 0x08
      let e := ((own.toNat : Int) - (t.toNat : Int)) / 1000000
      let s := s.setRegs [(K.linkWakeResult, w), (K.linkWakeError, toSigned 32 (ofSigned 32 e)), (K.linkCellTime, t.toNat),
        (K.linkBurstPeriod, period.toNat), (K.linkState, 1)]
      s.modLink fun l => { l with window := 0, base := t.toNat, timed := true })

/-- WAKE_SEARCH_TIMEOUT (15 R568 step 6). -/
def execWakeSearchTimeout (s : State) : Out :=
  .next (
    if s.link.window ≠ 4 ∨ s.power.low = 0 then s
    else
      let d := s.link.sleep / 1000000000
      let s := wake s 0x08
      let s := (s.setRegs [(K.linkWakeResult, 5), (K.linkState, 1)]).modLink fun l => { l with window := 0 }
      emcy s 0xFF72 4 0xFF d)

/-- BEACON_BURST (15 R568): the time source calls for 640 s at most, or until every member has advertised lock. -/
def execBeaconBurst (s : State) : Out :=
  .next (
    let all := (List.range 8).all fun i => i == cellId s || !s.regBit K.cellExpected i || (memberPresent s i && (s.member i).locked)
    if s.reg K.linkEnable = 1 ∧ s.power.low = 0 ∧ s.regBit K.powLastWake 3 = true ∧ all = false
      ∧ s.link.bursts * s.regN K.linkBurstPeriod < 640000 then
      s.modLink fun l => { l with bursts := l.bursts + 1 }
    else s)

end Sys2Proof.Machine
end

