-- ==== Sys2Proof/Machine/Operands.lean ====
section
/-! DEFINITION. The operand forms of host records: a request record and a completion or emergency record as bytes and as
16-bit words (spec/02 R44, R45, R53, R55). -/

namespace Sys2Proof.Machine

/-- A value as the field of a command. -/
def bv (w : Nat) (v : Int) : BitVec w := BitVec.ofInt w v

/-- A record as bytes: its header, its check and its data. -/
def recordBytes (head data : List Byte) : List Byte := head ++ leBytes 4 (crc32c (head ++ data)) ++ data

def encodeOut (x : OutRec) : List Byte :=
  match x with
  | .cpl tag status index sub opcode abort data =>
    recordBytes (leBytes 1 tag ++ leBytes 1 status ++ leBytes 2 index ++ leBytes 1 sub ++ leBytes 1 opcode ++ leBytes 2 data.length
      ++ leBytes 4 abort) data
  | .emcy code reg unit detail =>
    recordBytes (leBytes 1 0 ++ leBytes 1 0 ++ leBytes 2 code ++ leBytes 1 reg ++ leBytes 1 0x80 ++ leBytes 2 5 ++ leBytes 4 0)
      (leBytes 1 unit ++ leBytes 4 detail)

/-- Records on the HPI have an even number of bytes (02 R44, R45). -/
def padRecord (p : Path) (b : List Byte) : List Byte := if p = .hpi ∧ b.length % 2 = 1 then b ++ [0] else b

/-- Whole records that fit in `room` bytes, and the queue that is left. -/
def takeRecords (p : Path) (room : Nat) : List OutRec → List Byte × List OutRec
  | [] => ([], [])
  | x :: t =>
    let b := padRecord p (encodeOut x)
    if b.length ≤ room then
      let rest := takeRecords p (room - b.length) t
      (b ++ rest.1, rest.2)
    else ([], x :: t)

/-- Whether records of an OPCODE carry a payload: reads and CANCEL do not. -/
def carries (op : Nat) : Bool := op != 1 && op != 3 && op != 5

/-- The bytes of a request record before CHECK. -/
def headOf (op : Nat) (x : Rec) : List Byte :=
  leBytes 1 op ++ leBytes 1 x.tag ++ leBytes 2 x.index.toNat ++ leBytes 1 x.sub.toNat ++ leBytes 1 x.flags.toNat
    ++ leBytes 2 x.length.toNat ++ leBytes 4 x.offset.toNat

/-- A record of good form: known OPCODE, no reserved flags, LENGTH as the payload, and a CHECK that matches. -/
def recordOk' (op : Nat) (x : Rec) : Bool :=
  decide (1 ≤ op ∧ op ≤ 5) && decide (x.flags.toNat < 2) && decide (x.length.toNat ≤ 4096)
    && x.payload.length == (if carries op then x.length.toNat else 0)
    && x.check.toNat == crc32c (headOf op x ++ x.payload)

/-- A record as it stands in bytes: OPCODE and the other fields. -/
def recordOf (b : List Byte) : Nat × Rec :=
  (leAt b 0 1, ⟨Fin.ofNat 256 (leAt b 1 1), bv 16 (leAt b 2 2), bv 8 (leAt b 4 1), bv 8 (leAt b 5 1), bv 16 (leAt b 6 2),
    bv 32 (leAt b 8 4), bv 32 (leAt b 12 4), b.drop 16⟩)

/-- The bytes of a request record (02 R44). -/
def encodeRequest (op : Nat) (x : Rec) : List Byte := headOf op x ++ leBytes 4 x.check.toNat ++ x.payload

/-- The bytes that a record takes, from its header. -/
def recordSize (b : List Byte) : Nat := 16 + (if carries (leAt b 0 1) then leAt b 6 2 else 0)

/-- Whole records one after the other; none if the bytes are anything else (02 R53). -/
def splitRecords : Nat → List Byte → Option (List (List Byte))
  | 0, _ => none
  | fuel + 1, b =>
    if b.length < 16 ∨ b.length < recordSize b then none
    else if b.length = recordSize b then some [b]
    else (splitRecords fuel (b.drop (recordSize b))).map fun t => b.take (recordSize b) :: t

/-- The 16-bit words of bytes, the lower-addressed byte in bits 7:0 (R55). -/
def wordsOf (b : List Byte) : List (BitVec 16) := (List.range (b.length / 2)).map fun i => BitVec.ofNat 16 (leAt b (2 * i) 2)

/-- The bytes of a record being written that it takes, once its header tells. -/
def hpiNeeds (b : List Byte) : Option Nat := if b.length < 8 then none else some ((recordSize b + 1) / 2 * 2)

end Sys2Proof.Machine
end

