-- ==== Sys2Proof/Machine/Flags.lean ====
section
/-! DEFINITION. The flags that are computed when they are read: the pin HPI_RB, HPI_STAT, CFG_WAIT#, FAULT# and the user pins (spec/02 R55, R56, R58; 09 R337, R353, R382; 18 R643). -/

namespace Sys2Proof.Machine

/-- The HPI is attached to the fabric and Q0.0 is unloaded: the internal HPI_RB reads busy (08 R332, R333). SAFE and LIMP
states use the balls. -/
def hpiShut (s : State) : Bool := decide (s.mode = .run) && s.reg K.hpiAttachInUse != 0 && !regionLoaded s 0

/-- HPI_RB is busy: SC0 does not serve, the 16 KiB input buffer is full (R58), or nothing is attached to the HPI. -/
def hpiBusy (s : State) : Bool :=
  s.host.hpi.busy || !s.host.hpi.served || decide (16384 ≤ s.host.hpi.part.length) || hpiShut s

/-- Words of whole records waiting in the output queue, the rest of the one being read included (R55). -/
def hpiCplCount (s : State) : Nat :=
  s.host.hpi.cplWords.length + ((s.path .hpi).outq.map fun x => (padRecord .hpi (encodeOut x)).length / 2).sum

/-- HPI_CPLCNT as its 16 bits show it: at its largest value where more words wait (R55; DESIGN CHOICE, log hpiCount). -/
def hpiCplWord (s : State) : Nat := min 0xFFFF (hpiCplCount s)

/-- HPI_STAT (R56). -/
def hpiStat (s : State) : Nat :=
  let h := s.host.hpi
  32768 * b2n (!hpiBusy s) + 16384 * b2n (decide (0 < hpiCplCount s)) + 8192 * b2n h.resetSeen + 4096 * b2n h.protoErr
    + 2048 * b2n (decide (s.mode = .safe)) + 1024 * b2n (decide (s.mode = .limp)) + 512 * b2n h.attnEn
    + 256 * b2n (!h.part.isEmpty) + (if h.served then min 255 ((16384 - h.part.length) / 128) else 0)

/-- What a read at HPI_A gives beside HPI_CPL, which is a command of its own (R55 to R57): HPI_STAT, HPI_CTRL as it reads back,
HPI_CPLCNT and HPI_ID; 0 at 6 and 7. HPI_REQ has no read. -/
def hpiRead (s : State) (a : Nat) : Option Nat :=
  match a with
  | 2 => some (hpiStat s)
  | 3 => some (b2n s.host.hpi.attnEn)
  | 4 => some (hpiCplWord s)
  | 5 => some 0x4896
  | 6 => some 0
  | 7 => some 0
  | _ => none

/-- The device lets CFG_WAIT# go (09 R382): no open, close or DATA section of the CFG port is in hand, and the port is
served. A port that is not served holds nothing low (DEDUCED, log cfgWait). -/
def cfgWaitBall (s : State) : Bool :=
  match s.fab.cfgSlot with
  | some slot => s.reg (K.slotState slot) != 1 && s.reg (K.slotState slot) != 3 && stageIdle s slot
  | none => true

/-- What a user pin does (09 R337): `owner` follows its region's own logic, `last` keeps what the region drove. -/
inductive PinDrive where
  | highZ | pullUp | pullDown | drive0 | drive1 | last | owner
deriving DecidableEq, Repr

/-- A region runs its pins: it is released, and no unload of it has begun (09 R353, R368, R375). -/
def runsPins (s : State) (r : Nat) : Bool :=
  s.fab.loaded.testBit r && !s.fab.drop.testBit r && !(s.fab.load.any fun l => l.unload.testBit r)

/-- A user pin, numbered as in PIN_HOLD (09 R337, R349, R353). -/
def userPin (s : State) (p : Nat) : PinDrive :=
  match s.fab.hold[p]? with
  | none => .pullDown
  | some b =>
    if b.toNat % 16 = 15 then .pullDown
    else if runsPins s (b.toNat / 16) then .owner
    else
      match b.toNat % 16 with
      | 0 => .highZ
      | 1 => .pullUp
      | 2 => .pullDown
      | 3 => .drive0
      | 4 => .drive1
      | _ => if s.fab.ranPins.testBit p then .last else .pullDown

/-! ## The edge of an unpowered domain (16 R580, R582, R600) -/

/-- The groups of balls that float while their rail is down (16 R600). -/
inductive EdgeBalls where
  | cmOutputs | eventOutputs | ufOutputs | excitation | ubOutputs | hpiRb | miiTxEn | perst | ddrReset | fault
deriving DecidableEq, Repr

/-- A rail is up, as far as the state tells: `ana` VCC_ANA50, `aon` VCC_AON, else the rails of the regulator stage. -/
def railUp (s : State) (ana aon : Bool) : Bool :=
  if ana then s.fe.ana50
  else if aon then s.power.low != 4 && s.power.stage != 1
  else decide (s.power.low ≤ 2) && (s.power.stage == 0 || decide (3 ≤ s.power.stage))

/-- The group floats, so that the board's pull sets it (16 R600). -/
def floats (s : State) (b : EdgeBalls) : Bool :=
  !railUp s (b == .cmOutputs || b == .eventOutputs || b == .ufOutputs || b == .excitation) (b == .fault)

/-- WAKE# as the device leaves it: pulled low from the wake source until VCC_AON is good (16 R579, R580). -/
def wakeBall (s : State) : Bool := s.power.stage != 1

/-- PWR_FAULT# as the device leaves it (16 R582). -/
def pwrFaultBall (s : State) : Bool := !s.power.faultPin

/-- The nominal and data bit rates of a CAN FD controller (02 R73); in LIMP state it runs classic frames at 250 kbit/s at most,
with no data phase (16 R584). -/
def canRates (s : State) : Nat × Option Nat :=
  let n := s.regN K.canBitRate
  let d := s.regN K.canDataBitRate
  if s.mode = .limp then (min n 250000, none) else (n, if d = 0 then none else some d)

/-- This member's STATUS frame of a sequence number (15 R561; 19 R655): every member whose link runs sends one each ms. -/
def ownStatus (s : State) (seq : BitVec 16) : Option StatusFrame :=
  if linkOn s then
    some { id := ⟨cellId s % 8, Nat.mod_lt _ (by decide)⟩, uid := BitVec.ofNat 32 (leAt (unitUid s) 0 4),
           level := BitVec.ofNat 16 (s.regN K.cellOwnLevel), done := s.regBit K.cfgDoneLine 1, locked := linkLocked s,
           eligible := ownEligible s, rate := BitVec.ofNat 8 (s.regN K.rateServoRate),
           priority := BitVec.ofNat 8 (s.regN K.cellTimePriority), seq := seq }
  else none

/-- This member sends TICK and TIME: its link runs and it is the time source (15 R561; 19 R657). -/
def sendsTick (s : State) : Bool := linkOn s && s.regN K.cellTimeSource == cellId s

/-- FAULT# is high: the device is released and in neither SAFE nor LIMP state (18 R643). -/
def faultBall (s : State) : Bool := s.released && decide (s.mode = .run)

end Sys2Proof.Machine
end

