-- ==== Sys2Proof/Machine/Restart.lean ====
section
/-! DEFINITION. The restart of the service cores on another firmware copy (19 R667, R668), and temperature (20 R682, R683). -/

namespace Sys2Proof.Machine

/-! ## Requests that a restart of the cores discards (19 R667 step 2; 02 R54) -/

/-- Every request in flight is discarded, and every output queue is empty; what was accepted goes on without a completion.
A store is cut as by a reset (02 R40). -/
def dropRequests (s : State) : State :=
  let s := cutStore { s with host := { s.host with paths := [], waits := [] } }
  let s := forN 4 (fun s b => s.modFlBank b fun x =>
    { x with op := x.op.map orphanJob, susp := x.susp.map orphanJob, queue := x.queue.map orphanJob }) s
  let s := forN 8 (fun s g => s.modGrp g fun x => { x with full := [] }) s
  let s := forN 48 (fun s n => s.modCm n fun c => { c with rangeQ := [] }) s
  let s := s.modMem fun m => { m with rangeQ := [] }
  let s := s.modCip fun x => { x with cmds := x.cmds.map fun c => { c with req := none }, rebuild := x.rebuild.map orphan }
  forN 8 (fun s p => s.modPort p fun x =>
    { x with objs := (x.objs.filter (·.passed)).map fun o => { o with req := orphan o.req } }) s

/-- SC0 to SC3 start again on a copy (19 R667 steps 2 to 4). -/
def restartCores (s : State) (copy : Nat) : State :=
  let s := dropRequests s
  let s := s.modHpi fun _ => { busy := false, served := true }
  let s : State := { s with host := { s.host with can0 := bootNode { nodeId := s.regN K.canNodeId0 },
                                                  can1 := bootNode { nodeId := s.regN K.canNodeId1 } } }
  fwRun (s.modFw fun x => { x with due := false, owner := 0, written := 0 }) copy

/-- FW_SWITCH_RESTART (19 R667): 2 ms after the switch has completed, the cores start on the other copy, on trial. -/
def execFwSwitchRestart (s : State) : Out :=
  .next (
    if s.fw.due then
      let c := fwOther s
      (restartCores s c).setRegs [(K.fwTrial, if c = s.fw.confirmed then 0 else 1), (K.fwOtherState, 2)]
    else s)

/-- The moment at which 19 R666 allows a switch. -/
def fwMayRestart (s : State) : Bool := decide (s.mode = .run) && !moving s && !powerBusy s && !s.fw.due

/-- FW_TRIAL_TIMEOUT (19 R668, R671): TRIAL_TIMEOUT has run out, or CELL_LEVEL has fallen below MIN_CELL_LEVEL; the former copy
starts. -/
def execFwTrialTimeout (s : State) : Out :=
  .next (
    if s.reg K.fwTrial = 1 ∧ fwMayRestart s = true then
      let bad := fwVersion (fwHeader s (s.regN K.fwRunning))
      let s := (restartCores s s.fw.confirmed).setRegs [(K.fwTrial, 0), (K.fwOtherState, 2)]
      emcy s 0xFF7A 7 0 bad
    else s)

/-! ## Temperature (20 R682, R683; 08 R311) -/

/-- The highest of a list of readings, with its place. -/
def hottest : List Int → Nat → Option (Nat × Int)
  | [], _ => none
  | x :: t, i =>
    match hottest t (i + 1) with
    | some (j, y) => if x < y then some (j, y) else some (i, x)
    | none => some (i, x)

/-- TJ_NOW against GRADE_LIMIT (20 R683). -/
def thermLimits (s : State) (unit : Nat) : State :=
  let now := s.reg K.thermTjNow
  let lim := gradeLimit s
  let raw := ofSigned 32 now
  let s : State := if now ≤ lim - 50 then { s with therm := { told := false, hot := false } } else s
  let s := if lim ≤ now ∧ s.therm.told = false then emcy { s with therm := { s.therm with told := true } } 0xFFD0 3 unit raw else s
  if lim + 100 ≤ now ∧ s.therm.hot = false then emcy { s with therm := { s.therm with hot := true } } 0xFFD1 3 unit raw else s

/-- TEMPERATURE_SAMPLE (20 R682): the sensors of the 16 regions, four on the logic die and two on the front-end die. -/
def execTemperatureSample (sensors : List Int) (s : State) : Out :=
  .next (
    match sensors.length == 22, hottest sensors 0 with
    | true, some (i, v) =>
      let s := gradients (forN 16 (fun s r => s.setReg (K.regionTemperature r) (sensors.getD r 0)) s)
      let s := s.setRegs [(K.thermTjNow, v), (K.thermTjPeak, max (s.reg K.thermTjPeak) v)]
      thermLimits s i
    | _, _ => s)

end Sys2Proof.Machine
end

