-- ==== Sys2Proof/Machine/Tick.lean ====
section
/-! DEFINITION. The servo tick in its fixed order (01 R21): the tick itself, the sample instant and the output instant. -/

namespace Sys2Proof.Machine

/-- The tick runs: not in a lower state, and not before the logic stage of a start (16 R576, R580). -/
def ticking (s : State) : Bool :=
  s.power.low == 0 && (s.power.stage == 0 || s.power.stage == 5) && !s.power.wrapping

/-- The engines, the path engine and the front-end reference are clocked: PLL 6 has not lost its lock (15 R546, R550). -/
def axisClocked (s : State) : Bool := s.reg (K.pllState 6) != 1 && s.reg (K.pllState 6) != 2

/-- Settings of the tick that act at its boundary (05 R181; 01 R699). -/
def tickSettings (s : State) : State :=
  let s := if s.fe.ratePend then s.setReg K.rateTickPeriod (periodOf (s.regN K.rateServoRate)) else s
  let s := if s.fe.srcPend then s.setReg K.tickState 0 else s
  { s with fe := { s.fe with ratePend := false, srcPend := false } }

/-- Set-points of other members that came since the last tick serve this one (01 R26; 19 R662). -/
def tickCellSp (s : State) (n : Nat) : State := s.modEng n fun e => { e with cellSp := e.nCell, nCell := none }

/-- SERVO_TICK (01 R21 step 1): the ports are latched at `t`, captures published, and what waits for a boundary acts. -/
def execServoTick (t : Nat) (s : State) : Out :=
  .next (
    if ticking s = false then s
    else
      let redo := s.fe.ratePend
      let s := tickMembers (tickSettings s)
      let s := forN 48 tickCellSp { s with fe := { s.fe with tickT := t } }
      let s := reportClamps (publishCaptures (forN 48 (tickPort t) s))
      let s := forN 48 (tickEngine redo) s
      let s := if s.released then s.bump K.tickCount 64 else s
      tickLevel (tickCell s))

/-- What an engine keeps for the next tick once this one's values are taken (05 R206, R211; 19 R662). -/
def endSample (s : State) (n : Nat) : State :=
  s.modEng n fun e => { e with cIn := requestedCorr s n, wCorr := e.nCorr, wSp := e.nSp, nCorr := none, nSp := none, wDem := none, pdFresh := false, cellSp := none }

/-- Ticks in OP without process data are counted, up to two (02 R70). -/
def pdTick (s : State) : State :=
  if s.host.fn.al = .op then s.modFn fun f => { f with missed := if f.fresh then 0 else min 2 (f.missed + 1), fresh := false } else s

/-- SETPOINT_SAMPLE_INSTANT (01 R21 steps 3 to 5 and 7): engines, stand-ins, path engine, reel and taps. `faults` lists the
units whose result is wrong in this tick, and by how much. With PLL 6 relocking the tick passes without them (15 R550). -/
def execSetpointSampleInstant (faults : List (Nat × UnitErr)) (s : State) : Out :=
  .next (
    if ticking s = false ∨ axisClocked s = false then s
    else
      let s := siBegin (forN 8 takeOverride (sampleFlags (armsTaken s)))
      let s := forN 48 stepEngine s
      let s := siTick s faults
      let s := forN 48 (fun s n => deliver s n (errOf faults (unitOf s n))) s
      let s := axisFrameOut s
      let s := forN 48 (fun s n => s.modEng n fun e => { e with alignSp := delivered s n (s.regN (K.axSource n)) }) s
      let s := forN 8 planGroup s
      pdTick (forN 48 endSample (sendTaps (reelSample s))))

/-- An engine that goes off asks for no ENABLE and no demand (05 R201). -/
def leaveOutput (s : State) (n : Nat) : State :=
  if (s.engine n).leaving = .off ∧ s.fe.bridgeDown = false then s.modCm n fun c => { c with enReq := false, dem := 0, fresh := true } else s

/-- OUTPUT_INSTANT (01 R21 step 6): every port takes its value, engines that leave are off, and compare arms act. -/
def execOutputInstant (s : State) : Out :=
  .next (
    if ticking s = false then s
    else if axisClocked s = false then forN 48 portOutput s
    else armAtOutput (forN 48 engineOutput (forN 48 portOutput (forN 48 leaveOutput s))))

end Sys2Proof.Machine
end

