-- ==== Sys2Proof/Machine/Entries.lean ====
section
/-! DEFINITION. Writes and reads of entries that have no command of their own: the conditions that their chapters give, what a
write does beyond its entry, and what the computed entries read (02 R34, R35, R698 and the object tables). -/

namespace Sys2Proof.Machine

/-! ## Process data mapping (02 R66, R67) -/

/-- A mapping word names a mappable entry with its size in bits. -/
def mappable (w : Nat) : Bool :=
  match rowOf (w / 65536) (w / 256 % 256) with
  | some x => x.map && x.ty.size.map (8 * ·) == some (w % 256)
  | none => false

/-- The bits of a process image. -/
def imageBits (s : State) (assign map : Nat) : Nat := ((mapWords s assign map).map (· % 256)).sum

def isMapping (i : Nat) : Bool := decide (0x1600 ≤ i ∧ i < 0x1608) || decide (0x1A00 ≤ i ∧ i < 0x1A08)

/-- Mapping and assignment change in PRE-OP only. -/
def mapOwn (s : State) (key : Nat) (v : Int) : Own :=
  let t := s.setReg key v
  { state := whenCode (s.host.fn.al != .preOp) 0x08000022,
    set := firstSome [whenCode (isMapping (keyIndex key) && keySub key != 0 && v != 0 && !mappable v.toNat) 0x06040041,
      whenCode (decide (8192 < imageBits t 0x1C12 0x1600) || decide (8192 < imageBits t 0x1C13 0x1A00)) 0x06040042] }

/-! ## Axes (03, 04, 05, 07) -/

/-- The index of an axis entry from the start of its axis's range. -/
def axisOffset (i : Nat) : Nat := (i - 0x4000) % 0x40

/-- The consistency of the mode entries after a write: of the port, and of the ports that use its excitation; while MODE is 0
every entry may be written in any order (03 R97, R116). -/
def fbWriteOk (s : State) (n key : Nat) (v : Int) : Bool :=
  let t := s.setReg key v
  s.reg (K.fbMode n) == 0 || fbSetOk t n && (List.range 48).all fun m =>
    m == n || s.regN (K.fbMode m) != 3 || s.regN (K.resExcSource m) != n || fbSetOk t m || !fbSetOk s m

/-- The step entries meet the rule of the mode in use, 2 or 3 (04 R152): 10^9 / STEP_MAX against 2.5 times a count of
units of 2.5 ns. -/
def stepSetOk (s : State) (n : Nat) : Bool :=
  let m := s.reg (K.cmOutputMode n)
  let units := s.regN (K.stepPulseWidth n) + if m = 2 then s.regN (K.stepMinLow n) else 0
  (m != 2 && m != 3) || decide (5 * units * s.regN (K.stepMax n) ≤ 2000000000)

/-- What the chapters ask of a write to an axis entry that has no command of its own. -/
def axisOwn (s : State) (n o key : Nat) (v : Int) : Own :=
  let fb := whenCode (!fbWriteOk s n key v) 0x06090030
  if o < 6 ∧ o ≠ 1 then { state := whenCode (s.fb n).tapped 0x08000022, set := fb }
  else if o = 6 then { set := fb }
  else if o = 8 ∧ keySub key = 1 then { set := whenCode (((s.cm n).unusable && v != 0) || !stepSetOk (s.setReg key v) n) 0x06090030 }
  else if o = 9 then { set := whenCode (!stepSetOk (s.setReg key v) n) 0x06090030 }
  else if o = 0x11 ∧ keySub key = 2 then { set := whenCode (decide (48 ≤ v.toNat % 256)) 0x06090030 }
  else if o = 0x17 then
    let t := s.setReg key v
    { set := whenCode (decide (t.reg (K.limSoftMax n) ≤ t.reg (K.limSoftMin n))) 0x06090030 }
  else if o = 0x18 then
    let t := s.setReg key v
    { set := whenCode (decide (t.reg (K.feLimit n) ≤ t.reg (K.feWarn n))) 0x06090030 }
  else {}

/-! ## Groups (06) -/

/-- The set of GROUP AXES entries of a group is consistent (06 R226); by the rule of 03 R97 nothing is checked while
SLOT_COUNT is 0. -/
def slotSetOk (s : State) (g : Nat) : Bool :=
  let c := s.regN (K.slotsSlotCount g)
  let slot := fun i => s.regN (K.slotsSlot0Axis g + i)
  let used := (List.range c).map slot
  c == 0 || (used.all (· < 48) && decide used.Nodup && ((List.range (12 - c)).all fun i => slot (c + i) == 0xFF)
    && clearMask (s.regN (K.slotsPathMask g)) (2 ^ c - 1) == 0
    && (List.range 8).all fun h => h == g || (members s h).all fun n => !used.contains n)

def groupOwn (s : State) (g o key : Nat) (v : Int) : Own :=
  if o = 1 then { set := whenCode (!slotSetOk (s.setReg key v) g) 0x06090030 }
  else if o = 6 ∧ keySub key ≤ 2 then { state := whenCode (s.reg (K.dmaEnable g) != 0) 0x08000022 }
  else {}

/-- A write to WAIT_FLAGS: edges of the host flags meet the waits of the group that are armed for them (06 R245). -/
def hostFlags (s : State) (g old new : Nat) : State :=
  let edge := fun (w : Seg) => w.typ == 6 && w.armed && w.src == 3
    && ((w.cond == 0 && !old.testBit w.num && new.testBit w.num) || (w.cond == 1 && old.testBit w.num && !new.testBit w.num))
  s.modGrp g fun x => { x with queue := x.queue.map fun w => if edge w then { w with edge := true } else w }

/-! ## Every entry -/

/-- The conditions that the chapters give for a write to an entry that has no command of its own. -/
def ownOf (s : State) (key : Nat) (v : Int) : Own :=
  let i := keyIndex key
  let sub := keySub key
  if isMapping i ∨ i = 0x1C12 ∨ i = 0x1C13 then mapOwn s key v
  else if i = 0x1010 ∨ i = 0x1011 then { set := some 0x08000020 }
  else if 0x4000 ≤ i ∧ i < 0x4C00 then axisOwn s ((i - 0x4000) / 0x40) (axisOffset i) key v
  else if 0x3000 ≤ i ∧ i < 0x3100 then groupOwn s ((i - 0x3000) / 0x20) (i % 0x20) key v
  else if 0x2610 ≤ i ∧ i < 0x2618 then
    { state := if sub = 2 then whenCode (s.reg (K.queueEnable (i - 0x2610)) != 0) 0x08000022
        else whenCode (decide (0x2616 ≤ i ∧ 4 ≤ sub ∧ sub ≤ 7)) 0x08000022 }
  else if 0x2700 ≤ i ∧ i < 0x2710 ∧ sub = 5 then
    { state := whenCode (v == 1 && decide (8 ≤ ((List.range 16).filter fun b => b != i - 0x2700 && s.reg (K.bankRetain b) == 1).length)) 0x08000022 }
  else if 0x2800 ≤ i ∧ i < 0x2808 then ckOwn s (i - 0x2800) key v
  else if i = 0x2D01 ∨ (i = 0x2D00 ∧ sub ≠ 1) then { state := whenCode (s.reg K.reelEnable != 0) 0x08000022 }
  else if key = K.rekeyIndex then { state := whenCode (s.reg K.rekeyState != 0) 0x08000022 }
  else if i = 0x2621 then { state := whenCode (s.reg K.mirrorEnable != 0) 0x08000022 }
  else if key = K.jobId then { state := whenCode (s.reg K.jobState != 0) 0x08000022 }
  else if 0x2220 ≤ i ∧ i < 0x2228 then { set := whenCode (!vcoPlanOk (i - 0x2220) v) 0x06090030 }
  else if i = 0x2C02 then pubCode s key v
  else if key = K.wakeAlarm then
    { state := whenCode (s.reg K.rtcValid == 0) 0x08000022, set := whenCode (v != 0 && decide (v ≤ s.reg K.rtcSeconds)) 0x06090032 }
  else if key = K.logReadSeq then { set := whenCode (decide (v < s.reg K.logOldestSeq)) 0x06090032 }
  else {}

/-- The selectors and offsets that each host path has for itself. -/
def pathEntry (x : PathSt) (key : Nat) : Option Int :=
  if key = K.blkBlockSelect then some x.blockSel
  else if key = K.userOffset then some x.userOffset
  else if key = K.slotSelect then some x.slotSel
  else if key = K.logReadSeq then some x.readSeq
  else if key = K.paramSelect then some x.paramSel
  else if keySub key = 4 ∧ 0x2610 ≤ keyIndex key ∧ keyIndex key < 0x2618 then some (tabGet (fun _ => 0) x.lbaBase (keyIndex key - 0x2610) : Nat)
  else none

def setPathEntry (x : PathSt) (key v : Nat) : PathSt :=
  if key = K.blkBlockSelect then { x with blockSel := v }
  else if key = K.userOffset then { x with userOffset := v }
  else if key = K.slotSelect then { x with slotSel := v }
  else if key = K.logReadSeq then { x with readSeq := v }
  else if key = K.paramSelect then { x with paramSel := v }
  else { x with lbaBase := tabSet (fun _ => 0) x.lbaBase (keyIndex key - 0x2610) v }

/-- What a write does beyond its entry. -/
def afterWrite (key : Nat) (old : Int) (s : State) : State :=
  let i := keyIndex key
  if 0x4000 ≤ i ∧ i < 0x4C00 then
    let n := (i - 0x4000) / 0x40
    if axisOffset i = 3 ∧ keySub key ≤ 5 then s.modFb n fun f => { f with corrPend := true }
    else if axisOffset i = 0x0A ∧ keySub key = 2 then showFlt s n
    else if axisOffset i = 0x0C then evEnter s n
    else s
  else if 0x3000 ≤ i ∧ i < 0x3100 ∧ i % 0x20 = 6 ∧ keySub key = 5 then hostFlags s ((i - 0x3000) / 0x20) old.toNat (s.regN key)
  else if key = K.cellExpected then showCell s
  else s

/-- A value enters its entry, or the path's own copy of it (02 R34; 10 R418). -/
def putEntry (r : Req) (key : Nat) (v : Int) (s : State) : State :=
  if (pathEntry (s.path r.path) key).isSome then s.modPath r.path fun x => setPathEntry x key v.toNat
  else afterWrite key (s.reg key) (s.setReg key v)

/-- USER_BBRAM takes bytes at OFFSET, no further than its end (16 R599). -/
def bbramWrite (r : Req) (data : List Byte) (offset : Nat) (s : State) : State :=
  if 1024 < offset + data.length then refuse s r 0x06070010
  else writeBytes s r K.batUserBbram data {} fun s =>
    ok (s.setBlob K.batUserBbram (overwrite ((s.blob K.batUserBbram ++ zeros 1024).take 1024) offset data)) r

/-- A write of bytes of the right length to an entry without a command of its own. CK0 and CK1 are the device's (13 R490). -/
def entryWrite (r : Req) (key : Nat) (w : Row) (data : List Byte) (offset : Nat) (s : State) : State :=
  let v := valueOf w.ty data
  if w.ty.numeric then
    if 0x2800 ≤ keyIndex key ∧ keyIndex key < 0x2802 then refuse s r 0x06010002
    else writeEntry s r key v (ownOf s key v) fun s => ok (putEntry r key v s) r
  else if key = K.batUserBbram then bbramWrite r data offset s
  else writeBytes s r key data {} fun s => ok (s.setBlob key data) r

/-! ## Reads -/

/-- BLOCK INFO of a block (10 R418). -/
def blockEntry (s : State) (k sub : Nat) : Int :=
  let b := s.flBlock k
  if sub = 2 then b.erases
  else if sub = 3 then b2i b.incomplete + 2 * b2i b.prot + 4 * b2i b.ew + 8 * b2i b.due
  else if sub = 4 then b.maxCode
  else if sub = 5 then b.lastErase
  else b.refreshes

/-- A numeric entry that the device computes at the read. -/
def computed (s : State) (p : Path) (key : Nat) : Option Int :=
  let i := keyIndex key
  let sub := keySub key
  let x := s.path p
  if i = 0x2030 then lifeEntry s key
  else if key = K.thermGradeLimit then some (gradeLimit s)
  else if i = 0x2900 ∨ i = 0x2901 then wrapEntry s key
  else if i = 0x2303 ∧ 2 ≤ sub then some (blockEntry s x.blockSel sub)
  else if key = K.slotSelSlotState then some ((s.keySlot x.slotSel).st : Nat)
  else if key = K.slotSelGeneration then some ((s.keySlot x.slotSel).gen : Nat)
  else if key = K.tagInFlight then some (x.flights.length : Nat)
  else if key = K.identSerial then some (leAt (unitUid s) 0 4 : Nat)
  else if 0x2700 ≤ i ∧ i < 0x2710 ∧ sub = 1 then some (bankOwner s (i - 0x2700) : Nat)
  else if 0x2470 ≤ i ∧ i < 0x2478 ∧ sub = 2 then some (hostRegion (i - 0x2470) : Nat)
  else if 0x2470 ≤ i ∧ i < 0x2478 ∧ sub = 4 then some (portAxes s (i - 0x2470) : Nat)
  else if 0x2220 ≤ i ∧ i < 0x2228 ∧ sub = 0x1D then
    let p := i - 0x2220
    some ((((List.range 7).filter fun o => decide (o < (sysOuts p).length) || outServes s (8 * p + o) 16).map (2 ^ ·)).sum : Nat)
  else none

/-- An entry that shows a measured quantity, of which the spec gives the range only: a new free value at every read (15
R559; 17 R610). CELL_TIME goes on between ticks (15 R562). -/
def measuredEntry (s : State) (key : Nat) : Option Int :=
  let f := Config.measured key s.freeCtr
  if key = K.transMargin then some (f % 32 : Nat)
  else if key = K.rtcSubsec then some (f % 32768 : Nat)
  else if key = K.linkCellTime then some ((s.regN key + f % s.regN K.rateTickPeriod) % 2 ^ 64 : Nat)
  else none

/-- The value that a numeric entry shows to a path. -/
def shown (s : State) (p : Path) (key : Nat) : Int :=
  match pathEntry (s.path p) key, computed s p key, measuredEntry s key with
  | some v, _, _ => v
  | none, some v, _ => v
  | none, none, some v => v
  | none, none, none => s.reg key

def padTo (n : Nat) (b : List Byte) : List Byte := (b ++ zeros n).take n

/-- The bytes of an entry that is no number. -/
def shownBytes (s : State) (p : Path) (key : Nat) : List Byte :=
  if key = K.unitPartCode then partBytes s
  else if key = K.unitUid then unitUid s
  else if key = K.attestResponse then (s.path p).response
  else if key = K.attestCertificate then certificate s
  else if key = K.lifeImageKeyHash ∨ key = K.lifeConsentKeyHash then (lifeHash s key).getD []
  else if key = K.wrecWrapData then (newestWrap s.test.s4).getD []
  else if key = K.islNonce ∨ key = K.cellLevels then padTo 16 (s.blob key)
  else if key = K.islSealKeyHash ∨ key = K.logHeadHash ∨ key = K.transDeviceNonce then padTo 32 (s.blob key)
  else if key = K.batUserBbram then padTo 1024 (s.blob key)
  else if key = K.rtcCalendar then calendarBytes (s.regN K.rtcSeconds)
  else s.blob key

/-- An index that no entry has, and a sub-index that its object has not (02 R31, R77). -/
def noEntry (index : Nat) : Nat := if indexExists index then 0x06090011 else 0x06020000

/-- The refusals of a read beyond steps 1 and 2 of 02 R698: sub-indices 04 to 07 of queues 6 and 7 (12 R480), and an unknown
parameter (14 R535). -/
def readCode (s : State) (p : Path) (key : Nat) : Option Nat :=
  if 0x2616 ≤ keyIndex key ∧ keyIndex key < 0x2618 ∧ 4 ≤ keySub key ∧ keySub key ≤ 7 then some 0x08000022
  else if key = K.paramValue ∧ paramOf s (s.path p).paramSel = none then some 0x06090030
  else none

/-- A value as it is read; a measured value is a new one each time. -/
def readValue (s : State) (p : Path) (key : Nat) (w : Row) : List Byte × State :=
  if w.ty.numeric then
    if key = K.paramValue then (bytesOf w.ty ((paramOf s (s.path p).paramSel).getD 0), s)
    else (bytesOf w.ty (shown s p key), if (measuredEntry s key).isSome then s.fresh.2 else s)
  else (shownBytes s p key, s)

/-- A read of an entry without a command of its own (02 R44, R698): `op` is 1, or 3 for a DOMAIN. -/
def entryRead (r : Req) (key op offset length : Nat) (s : State) : State :=
  match rowOf (keyIndex key) (keySub key) with
  | none => refuse s r (noEntry (keyIndex key))
  | some w =>
    if w.acc = .wo then refuse s r 0x06010001
    else if op = 3 ∧ w.ty ≠ .dom then refuse s r 0x06010000
    else
      match readCode s r.path key with
      | some c => refuse s r c
      | none =>
        let v := readValue s r.path key w
        if w.ty = .dom then reply v.2 r 0 ((v.1.drop offset).take (if length = 0 then 4096 else length))
        else if length ≠ 0 ∧ length ≠ v.1.length then refuse s r 0x06070010
        else reply v.2 r 0 v.1

end Sys2Proof.Machine
end

