-- ==== Sys2Proof/Machine/Host.lean ====
section
/-! DEFINITION. Host access: which command a write or a read of an entry is, tagged records, the two ports for records, and
the enable entries of functions (spec/02 R31 to R54, R79 to R87). -/

namespace Sys2Proof.Machine

/-! ## A write of a value that is a command of its own -/

/-- A command for one written value. -/
def only (v want : Int) (c : State → Out) : Option (State → Out) := if v = want then some c else none

/-- Enable entries: 1, 0 and 2 (02 R79); other values are refused by the entry's range. -/
def enableRow (v : Int) (on drain abort : State → Out) : Option (State → Out) :=
  if v = 1 then some on else if v = 0 then some drain else if v = 2 then some abort else none

/-- The commands on the entries of an axis: `o` is the object from the start of its range. -/
def axisRow (r : Req) (n : Axis) (o sub : Nat) (v : Int) : Option (State → Out) :=
  if o = 0x00 then
    (if sub = 1 then some (execFeedbackModeWrite r n .mode (bv 8 v))
    else if sub = 2 then some (execFeedbackModeWrite r n .dirInvert (bv 8 v))
    else if sub = 5 then only v 1 (execFeedbackClear r n)
    else none)
  else if o = 0x04 ∧ sub = 6 then only v 1 (execPhaseLearn r n)
  else if o = 0x06 then
    (if sub = 2 then some (execPosOriginWrite r n (bv 64 v))
    else if sub = 7 ∧ (v = 0 ∨ v = 1) then some (execRefArm r n (v == 1))
    else none)
  else if o = 0x08 then
    (if sub = 2 then some (execRangeChange r n (bv 8 v)) else if sub = 8 then only v 1 (execClampRelease r n) else none)
  else if o = 0x0B ∧ sub = 4 then only v 1 (execCmStatusClear r n)
  else if o = 0x10 then
    (if sub = 1 then enableRow v (execAxisEnable r n) (execAxisDisableDrain r n) (execAxisDisableAbort r n)
    else if sub = 3 then some (execSourceWrite r n (bv 8 v))
    else none)
  else if o = 0x15 then
    let q := if sub = 1 then some Bq.one else if sub = 7 then some Bq.two else none
    q.bind fun q => if v = 1 then some (execBiquadCommit r n q) else only v 0 (execBiquadBypass r n q)
  else if o = 0x16 ∧ sub = 1 then (if v = 1 then some (execNotchCommit r n) else only v 0 (execNotchBypass r n))
  else if o = 0x1A ∧ sub = 7 then only v 1 (execEngineClear r n)
  else if 0x20 ≤ o ∧ o < 0x30 ∧ sub = 8 then
    let u := Fin.ofNat 16 (o - 0x20)
    (if v = 1 then some (execCompareArm r n u) else only v 0 (execCompareDisarm r n u))
  else if 0x30 ≤ o ∧ sub = 4 then
    let u := Fin.ofNat 16 (o - 0x30)
    (if v = 1 then some (execCaptureArm r n u) else only v 0 (execCaptureDisarm r n u))
  else none

/-- An entry of a motion group. -/
def groupRow (r : Req) (g : Group) (o sub : Nat) (v : Int) : Option (State → Out) :=
  if o = 0 then
    (if sub = 1 then enableRow v (execGroupEnable r g) (execGroupDisableDrain r g) (execGroupDisableAbort r g)
    else if sub = 2 then (if v = 1 then some (execControlledStop r g) else only v 2 (execQuickStop r g))
    else if sub = 3 then only v 1 (execAckFault r g)
    else none)
  else if o = 3 ∧ sub = 1 then some (execFeedOverrideWrite r g (bv 16 v))
  else none

/-- Functions whose enable entry takes every value of 02 R79 in one meaning. -/
def enableKey : Func → Nat
  | .group g => K.grpGroupEnable g
  | .axis n => K.axisEnable n
  | .dma g => K.dmaEnable g
  | .port p => K.portEnable p
  | .user => K.userEnable
  | .reel => K.reelEnable
  | .queue q => K.queueEnable q
  | .check k => K.ckEnable k
  | .mirror => K.mirrorEnable
  | .link => K.linkEnable

def enableWrite (r : Req) (f : Func) (v : Nat) (s : State) : State :=
  match f with
  | .dma g => dmaEnableWrite r g v s
  | .port p => portEnableWrite r p v s
  | .user => userEnableWrite r v s
  | .reel => reelEnableWrite r v s
  | .queue q => queueEnableWrite r q v s
  | .check k => ckEnableWrite r k v s
  | .mirror => mirrorEnableWrite r v s
  | .link => linkEnableWrite r v s
  | .group g => if v = 1 then groupEnableWrite r g s else groupDisableWrite r g (v == 2) s
  | .axis n => if v = 1 then axisEnableWrite r n s else axisDisableWrite r n (v == 2) s

def enableExec (r : Req) (f : Func) (v : Int) (s : State) : Out :=
  .next (request s r (enableKey f) 2 (enableWrite r f v.toNat))

/-- FUNCTION_ENABLE (02 R79 to R82): a write of 1 to the enable entry. -/
def execFunctionEnable (r : Req) (f : Func) (s : State) : Out := enableExec r f 1 s

/-- FUNCTION_DISABLE_DRAIN (02 R80): a write of 0. -/
def execFunctionDisableDrain (r : Req) (f : Func) (s : State) : Out := enableExec r f 0 s

/-- FUNCTION_DISABLE_ABORT (02 R80): a write of 2. -/
def execFunctionDisableAbort (r : Req) (f : Func) (s : State) : Out := enableExec r f 2 s

/-- A function without work left goes on to state 0. -/
def settleDisable (s : State) (f : Func) : State :=
  match f with
  | .port p => portCheck s p
  | .user => userDrained s
  | .mirror => mirrorRun s
  | .queue q => showQueue s q
  | .group _ => s
  | .axis _ => s
  | .dma _ => s
  | .reel => s
  | .check _ => s
  | .link => s

/-- DISABLE_COMPLETE (02 R81, R82): a function that has reached state 0 completes every disable that waits on it. -/
def execDisableComplete (f : Func) (s : State) : Out :=
  .next (
    let s := settleDisable s f
    if s.reg (enableKey f) = 0 then completeAll s (.disable f) 0 [] else s)

/-- ERROR_RESET (02 R697): every bit clears, and 0x0000 goes to every path. -/
def execErrorReset (r : Req) (s : State) : Out :=
  .next (request s r K.tagErrorReset 2 fun s =>
    writeEntry s r K.tagErrorReset 1 {} fun s =>
      ok (tellAll (s.setReg K.errRegErrorRegister 0) 0 0 0xFF 0) r)

/-! ## Attestation (02 R85 to R87; 17 R603) -/

/-- Attestation is served: the key exists, in a state other than BLANK and INVALID (R87; 17 R603). -/
def attestKey (s : State) : Bool := s.life.attest.isSome && lifeState s != 1 && lifeState s != 0xFF

/-- ATTEST_CHALLENGE: the write completes when the signature is ready; the path's former response is gone. -/
def execAttestChallenge (r : Req) (data : List Byte) (s : State) : Out :=
  .next (request s r K.attestChallenge 2 fun s =>
    writeBytes s r K.attestChallenge data { state := whenCode (!attestKey s) 0x0F000008 } fun s =>
      await (s.modPath r.path fun x => { x with challenge := data, response := [] }) (.attest r.path) r)

/-- ATTEST_RESPONSE_READY (R85, R86): the counter advances, and the response carries the challenge it answers, signed with
the attestation key; the signer's random number is a free value. -/
def execAttestResponseReady (p : Path) (s : State) : Out :=
  .next (
    match awaited s (.attest p), s.life.attest with
    | true, some i =>
      let n := (s.host.attCounter + 1) % 2 ^ 32
      let f := s.fresh
      let s : State := { f.2 with host := { f.2.host with attCounter := n } }
      let body := (s.path p).challenge ++ unitUid s ++ leBytes 1 (lifeState s) ++ zeros 3 ++ leBytes 4 n
      let sig := signWith (attestScalar i) (1 + Config.free f.1 % (p384N - 1)) body
      completeAll (s.modPath p fun x => { x with response := body ++ sig }) (.attest p) 0 []
    | _, _ => s)

/-! ## Writes -/

/-- A write of a number that is a command of its own; `none` where the entry has none for the value. -/
def numberRow (r : Req) (key : Nat) (v : Int) : Option (State → Out) :=
  let i := keyIndex key
  let sub := keySub key
  if 0x4000 ≤ i ∧ i < 0x4C00 then axisRow r (Fin.ofNat 48 ((i - 0x4000) / 0x40)) (axisOffset i) sub v
  else if 0x3000 ≤ i ∧ i < 0x3100 then
    let g := Fin.ofNat 8 ((i - 0x3000) / 0x20)
    if i % 0x20 = 6 ∧ sub = 3 then some (enableExec r (.dma g) v) else groupRow r g (i % 0x20) sub v
  else if i = 0x1010 then only v 0x65766173 (execStoreParameters r (Fin.ofNat 4 (sub - 1)))
  else if i = 0x1011 then only v 0x64616F6C (execRestoreDefaults r (Fin.ofNat 4 (sub - 1)))
  else if key = K.tagErrorReset then only v 1 (execErrorReset r)
  else if key = K.tickSource then some (execTickSourceWrite r (bv 8 v))
  else if key = K.safeStopRelease then only v 1 (execSafeStopRelease r)
  else if key = K.rateServoRate then some (execServoRateWrite r (bv 8 v))
  else if key = K.stageCommand then
    (if v = 1 then some (execStageOpen r) else if v = 2 then some (execStageClose r) else only v 3 (execStageDiscard r))
  else if key = K.cutover then
    (if v = 1 then some (execCutoverNextTick r) else if v = 2 then some (execCutoverAtTime r) else only v 0 (execCutoverCancel r))
  else if key = K.cutPromoteGolden then only v 1 (execPromoteGolden r)
  else if key = K.cutRollbackCommit then some (execRollbackCommit r (bv 32 v))
  else if key = K.fcpReload then some (execReload r (bv 16 v))
  else if key = K.protPassword then some (execFlashPassword r (bv 64 v))
  else if key = K.protNewPassword then some (execFlashNewPassword r (bv 64 v))
  else if key = K.protectMap then some (execProtectMapWrite r (bv 64 v))
  else if key = K.protClose then only v 1 (execFlashSessionClose r)
  else if key = K.userEnable then some (enableExec r .user v)
  else if key = K.userErase then some (execUserErase r (bv 8 v))
  else if 0x2700 ≤ i ∧ i < 0x2710 ∧ sub = 1 then some (execBankHandover r (Fin.ofNat 16 (i - 0x2700)) (bv 8 v))
  else if 0x2730 ≤ i ∧ i < 0x2740 then
    some (execProtectedRangeWrite r (Fin.ofNat 16 (i - 0x2730)) (if sub = 1 then .base else .size) (bv 64 v))
  else if key = K.rangeLockRangeLock then only v 1 (execRangeLock r)
  else if key = K.reelEnable then some (enableExec r .reel v)
  else if key = K.keyGenerate then some (execKeyGenerate r (bv 16 v))
  else if key = K.rekeyControl then
    (if v = 1 then some (execRekeyStart r) else if v = 2 then some (execRekeyPause r) else only v 3 (execRekeyResume r))
  else if key = K.retire then some (execKeyRetire r (bv 8 v))
  else if key = K.stoRebuild then only v 1 (execRebuild r)
  else if 0x2610 ≤ i ∧ i < 0x2618 ∧ sub = 1 then some (enableExec r (.queue (Fin.ofNat 8 (i - 0x2610))) v)
  else if 0x2610 ≤ i ∧ i < 0x2618 ∧ sub = 7 then only v 1 (execStorageFlush r (Fin.ofNat 8 (i - 0x2610)))
  else if 0x2800 ≤ i ∧ i < 0x2808 ∧ sub = 1 then some (enableExec r (.check (Fin.ofNat 8 (i - 0x2800))) v)
  else if 0x2800 ≤ i ∧ i < 0x2808 ∧ sub = 2 then some (execCkPreset r (Fin.ofNat 8 (i - 0x2800)) (bv 8 v))
  else if 0x2800 ≤ i ∧ i < 0x2808 ∧ sub = 0x0B then some (execCkStart r (Fin.ofNat 8 (i - 0x2800)) (bv 8 v))
  else if 0x2470 ≤ i ∧ i < 0x2478 ∧ sub = 1 then some (enableExec r (.port (Fin.ofNat 8 (i - 0x2470))) v)
  else if key = K.jobCommand then (if v = 1 then some (execJobStart r) else only v 2 (execJobStop r))
  else if key = K.mirrorEnable then some (enableExec r .mirror v)
  else if key = K.xoSelect then some (execXoSelect r (bv 8 v))
  else if 0x2220 ≤ i ∧ i < 0x2228 ∧ 8 ≤ sub then
    let p := Fin.ofNat 8 (i - 0x2220)
    some (execPllOutputWrite r p (if sub < 0x0F then .div else if sub < 0x16 then .phase else .en) (Fin.ofNat 7 ((sub - 8) % 7)) (bv 16 v))
  else if key = K.rtcSeconds then some (execRtcSecondsWrite r (bv 64 v))
  else if key = K.linkEnable then some (enableExec r .link v)
  else if key = K.linkWakeAt then some fun s => .next (request s r K.linkWakeAt 2 (wakeAtWrite r v.toNat))
  else if key = K.powerRequest then
    (if v = 2 then some (execSleepRequest r) else if v = 3 then some (execDeepSleepRequest r) else only v 4 (execOffRequest r))
  else if key = K.pfaultFaultClear then only v 1 (execFaultClear r)
  else if i = 0x2102 then some (execVccqSet r (Fin.ofNat 4 (sub - 1)) (bv 16 v))
  else if key = K.dbgDebugClose then only v 1 (execDebugClose r)
  else if key = K.tamperClear then only v 1 fun s => execTamperClear r ((Config.measured key s.freeCtr) % 2 == 1) s.fresh.2
  else if key = K.bkClear then only v 1 (execBkClear r)
  else if key = K.wrapNext then some (execWrapNext r (bv 8 v))
  else if key = K.safeStSafeReset then only v 1 (execSafeReset r)
  else if key = K.fwCommand then
    (if v = 1 then some (execFwOpen r) else if v = 2 then some (execFwClose r) else if v = 3 then some (execFwDiscard r)
    else if v = 4 then some (execFwSwitch r) else only v 5 (execFwConfirm r))
  else if key = K.fwFloorCommit then some (execFwFloorCommit r (bv 32 v))
  else none

/-- The signed requests of the island by their OP (14 R514). -/
def signedRow (r : Req) (d : List Byte) (s : State) : Out :=
  let op := leAt d 4 1
  if op = 1 then execSet r d s
  else if op = 2 then execFirmware r d s
  else if op = 3 then execFirstSeal r d s
  else if op = 4 then execNewKey r d s
  else if op = 5 then execChainBreak r d s
  else .next (request s r K.sreqSignedRequest 4 (unknownRequest r d))

/-- A write of bytes that is a command of its own. MARGIN at a transition request is a measured value. -/
def bytesRow (r : Req) (key off : Nat) (d : List Byte) : Option (State → Out) :=
  let i := keyIndex key
  let sub := keySub key
  let o := bv 32 off
  if 0x3100 ≤ i ∧ i < 0x3108 then
    some fun s => if off = 0 then execSegmentWrite r (Fin.ofNat 8 (i - 0x3100)) d s else .next (request s r key 4 fun s => refuse s r 0x06090030)
  else if key = K.attestChallenge then some (execAttestChallenge r d)
  else if key = K.stageData then some (execStageData r o d)
  else if key = K.fcpStream then some (execFcpStreamData (.host r) o d)
  else if key = K.userData then some (execUserDataWrite r o d)
  else if key = K.keyRecord then some (execKeyLoad r d)
  else if 0x2610 ≤ i ∧ i < 0x2618 ∧ sub = 5 then some (execStorageDataWrite r (Fin.ofNat 8 (i - 0x2610)) o d)
  else if 0x2610 ≤ i ∧ i < 0x2618 ∧ sub = 6 then some (execStorageTransfer r (Fin.ofNat 8 (i - 0x2610)) d)
  else if key = K.logExportAck then some (execExportAck r d)
  else if key = K.sreqSignedRequest then some (signedRow r d)
  else if key = K.sreqFwImage then some (execFwImage r o d)
  else if key = K.rtcCalendar then some (execRtcCalendarWrite r d)
  else if key = K.transitionRequest then
    some fun s => execTransitionRequest r d (Fin.ofNat 32 (Config.measured K.transMargin s.freeCtr)) s.fresh.2
  else if key = K.dbgDebugGrant then some (execDebugGrant r d)
  else if key = K.bkRecord then some (execBkRecord r d)
  else if key = K.fwData then some (execFwData r o d)
  else none

/-- How the two ports for records serve a request. -/
structure Ports where
  write : Req → List Byte → State → State

/-- A write of bytes to any entry (02 R698): existence, access and length first, then the entry's own command, or the store
of the value. -/
def writeCmd (ports : Ports) (r : Req) (key : Nat) (data : List Byte) (off : Nat) (s : State) : State :=
  let i := keyIndex key
  if 0x5800 ≤ i ∧ i < 0x6000 then request s r key 2 fun s => objAccess s r key { op := 2, data := data }
  else
    match rowOf i (keySub key) with
    | none => request s r key 2 fun s => refuse s r (noEntry i)
    | some w =>
      let op := if w.ty = .dom then 4 else 2
      if w.acc = .ro then request s r key op fun s => refuse s r 0x06010002
      else if lengthOk w data.length = false then request s r key op fun s => refuse s r 0x06070010
      else if key = K.reqPortRequestPort then request s r key op (ports.write r data)
      else
        match (if w.ty.numeric then numberRow r key (valueOf w.ty data) else bytesRow r key off data) with
        | some c => nextOf s (c s)
        | none => request s r key op (entryWrite r key w data off)

/-! ## The completion port (02 R53) -/

def completionPort (r : Req) (room : Nat) (s : State) : State :=
  let t := takeRecords r.path room (s.path r.path).outq
  reply (s.modPath r.path fun x => { x with outq := t.2 }) r 0 t.1

/-- COMPLETION_PORT_READ (02 R53). -/
def execCompletionPortRead (r : Req) (s : State) : Out := .next (request s r K.cplPortCompletionPort 3 (completionPort r 4096))

/-! ## Reads -/

/-- A read that is a command of its own. -/
def readRow (r : Req) (key op off len : Nat) : Option (State → Out) :=
  let i := keyIndex key
  if key = K.userData then some (execUserDataRead r (bv 32 off) len)
  else if 0x2610 ≤ i ∧ i < 0x2618 ∧ keySub key = 5 then some (execStorageDataRead r (Fin.ofNat 8 (i - 0x2610)) (bv 32 off) len)
  else if key = K.logRecords then some fun s => .next (request s r key op (recordsRead r op off len))
  else if key = K.dbgDebugChallenge then some fun s => .next (request s r key op (challengeRead r op off len))
  else if key = K.cplPortCompletionPort then
    some fun s => .next (request s r key 3 (completionPort r (if len = 0 then 4096 else len)))
  else none

/-- A read of any entry (02 R44, R698): `op` is 1, or 3 for a DOMAIN. -/
def readCmd (r : Req) (key op off len : Nat) (s : State) : State :=
  let i := keyIndex key
  if 0x5800 ≤ i ∧ i < 0x6000 then request s r key op fun s => objAccess s r key { op := op, off := off, len := len }
  else
    match readRow r key op off len with
    | some c => nextOf s (c s)
    | none => request s r key op (entryRead r key op off len)

/-! ## Request records (02 R44, R47 to R51) -/

/-- A record that is dropped for its form, with emergency 0xFF11 (02 R47, R53, R56). -/
def dropBad (s : State) (p : Path) : State :=
  let s := s.bump K.tagDroppedRecords 32
  let s := if p = .hpi then s.modHpi fun h => { h with protoErr := true } else s
  emcy s 0xFF11 4 0xFF (pathNo p)

/-- CANCEL (02 R51): 0 the target was cancelled, 1 it had started, 2 it was not in flight. -/
def cancelCmd (p : Path) (tag target key : Nat) (s : State) : State :=
  let r : Req := ⟨p, .tag (Fin.ofNat 256 tag)⟩
  let hit := (s.path p).flights.find? (isTag target)
  request s r key 5 fun s =>
    match hit with
    | none => reply s r 0 (leBytes 1 2)
    | some f =>
      if f.started then reply s r 0 (leBytes 1 1)
      else reply (refuse s ⟨p, .tag (Fin.ofNat 256 target)⟩ 0x0F000007) r 0 (leBytes 1 0)

/-- The completion, or the request in flight, echoes the record's own OPCODE (02 R45). -/
def echoOpcode (p : Path) (tag op : Nat) (s : State) : State :=
  if (s.path p).flights.any (isTag tag) then
    s.modPath p fun x => { x with flights := x.flights.map fun f => if isTag tag f then { f with opcode := op } else f }
  else
    s.modPath p fun x => { x with outq := (x.outq.reverse.foldl (fun (a : List OutRec × Bool) y =>
      match y with
      | .cpl t st i sb _ ab d => if t = tag ∧ a.2 = false then (.cpl t st i sb op ab d :: a.1, true) else (y :: a.1, a.2)
      | .emcy .. => (y :: a.1, a.2)) ([], false)).1 }

/-- A request record is carried out. OFFSET counts for the DOMAIN opcodes and CANCEL alone (log domainOps). -/
def perform (ports : Ports) (p : Path) (f : Flight) (s : State) : State :=
  let r : Req := ⟨p, .tag (Fin.ofNat 256 f.tag)⟩
  let key := f.index * 256 + f.sub
  if f.opcode = 5 then cancelCmd p f.tag (f.offset % 256) key s
  else
    echoOpcode p f.tag f.opcode
      (if f.opcode = 2 then writeCmd ports r key f.payload 0 s
      else if f.opcode = 4 then
        (if 0x5800 ≤ f.index ∧ f.index < 0x6000 then
          request s r key 4 fun s => objAccess s r key { op := 4, off := f.offset, data := f.payload }
        else match rowOf f.index f.sub with
        | some w => if w.acc ≠ .ro ∧ w.ty ≠ .dom then request s r key 4 fun s => refuse s r 0x06010000
          else writeCmd ports r key f.payload f.offset s
        | none => writeCmd ports r key f.payload f.offset s)
      else readCmd r key f.opcode (if f.opcode = 3 then f.offset else 0) f.length s)

/-- Whether a request has to wait: ORDERED behind any request of its path, another behind one to the same entry that has
not started (02 R49). -/
def mustWait (earlier : List Flight) (f : Flight) : Bool :=
  (f.ordered && !earlier.isEmpty)
    || (f.opcode != 5 && earlier.any fun e => !e.started && e.opcode != 5 && e.index == f.index && e.sub == f.sub)

/-- A whole request record arrives on a path (02 R44, R47, R49). -/
def acceptWith (ports : Ports) (p : Path) (op : Nat) (x : Rec) (s : State) : State :=
  if s.host.hpi.served = false ∨ p = .test then s
  else if recordOk' op x = false then dropBad s p
  else if (s.path p).flights.any (isTag x.tag) then dropTagInUse s p x.tag
  else
    let f : Flight := ⟨x.tag, op, x.index.toNat, x.sub.toNat, x.flags.toNat % 2 == 1, false, x.offset.toNat, x.length.toNat, x.payload⟩
    if mustWait (s.path p).flights f then s.modPath p fun y => { y with flights := y.flights ++ [f] }
    else perform ports p f s

/-- REQUEST_PORT (02 R53): one or more whole records of the writing path. The records may hold writes to the port in their
turn, to the depth `fuel`. -/
def portWrite : Nat → Req → List Byte → State → State
  | 0, r, _, s => refuse s r 0x06090030
  | fuel + 1, r, data, s =>
    match gateCode s r K.reqPortRequestPort 0, splitRecords (data.length + 1) data with
    | some c, _ => refuse s r c
    | none, none => refuse s r 0x06090030
    | none, some bs =>
      ok (bs.foldl (fun s b => acceptWith ⟨portWrite fuel⟩ r.path (recordOf b).1 (recordOf b).2 s) s) r

/-- The ports as the block has them: 256 records of 16 bytes fill the largest payload. -/
def thePorts : Ports := ⟨portWrite 257⟩

/-- OBJECT_WRITE (02 R698). -/
def execObjectWrite (r : Req) (index : BitVec 16) (sub : BitVec 8) (data : List Byte) (s : State) : Out :=
  .next (writeCmd thePorts r (index.toNat * 256 + sub.toNat) data 0 s)

def execTaggedRead (p : Path) (x : Rec) (s : State) : Out := .next (acceptWith thePorts p 1 x s)
def execTaggedWrite (p : Path) (x : Rec) (s : State) : Out := .next (acceptWith thePorts p 2 x s)
def execDomainRead (p : Path) (x : Rec) (s : State) : Out := .next (acceptWith thePorts p 3 x s)
def execDomainWrite (p : Path) (x : Rec) (s : State) : Out := .next (acceptWith thePorts p 4 x s)

/-- CANCEL (02 R51). -/
def execCancel (p : Path) (x : Rec) (s : State) : Out := .next (acceptWith thePorts p 5 x s)

/-! ## Requests that wait to start (02 R49, R50) -/

/-- The first request of a list that need not wait, with those before it. -/
def firstReady : List Flight → List Flight → Option (List Flight × Flight)
  | _, [] => none
  | pre, f :: t => if f.started = false ∧ mustWait pre f = false then some (pre, f) else firstReady (pre ++ [f]) t

/-- A request that waited starts, and keeps its place among those in flight. -/
def startFlight (p : Path) (pre : List Flight) (f : Flight) (s : State) : State :=
  let s := s.modPath p fun x => { x with flights := x.flights.filter fun y => !isTag f.tag y }
  let s := perform thePorts p f s
  s.modPath p fun x =>
    let own := x.flights.filter (isTag f.tag)
    let rest := x.flights.filter fun y => !isTag f.tag y
    let before := fun (y : Flight) => pre.any (isTag y.tag)
    { x with flights := rest.filter before ++ own ++ rest.filter fun y => !before y }

/-- The four paths with their places, from the one whose turn it is (02 R50). -/
def turnOrder (turn : Nat) : List (Nat × Path) :=
  let ps := [(0, Path.hpi), (1, .fn), (2, .can0), (3, .can1)]
  ps.drop (turn % 4) ++ ps.take (turn % 4)

/-- What SC0 does of itself: it takes the paths in turn, and starts a request that is ready on the first that has one. -/
def startWaiting (s : State) : Option State :=
  if s.host.hpi.served = false then none
  else (turnOrder s.host.turn).findSome? fun p =>
    (firstReady [] (s.path p.2).flights).map fun x =>
      let t := startFlight p.2 x.1 x.2 s
      { t with host := { t.host with turn := (p.1 + 1) % 4 } }

end Sys2Proof.Machine
end

