-- ==== Sys2Proof/Machine/Network.lean ====
section
/-! DEFINITION. The host paths themselves: the HPI, the field network, CAN FD and SDO (spec/02 R55 to R77; 07 R296). -/

namespace Sys2Proof.Machine

/-! ## The HPI (R55 to R63) -/

/-- HPI_REQ_WRITE (R55, R58, R59): a record that is whole is accepted or dropped. The pad byte is no part of it. -/
def execHpiReqWrite (w : BitVec 16) (s : State) : Out :=
  .next (
    if hpiBusy s then s.modHpi fun h => { h with protoErr := true }
    else
      let b := s.host.hpi.part ++ leBytes 2 w.toNat
      if hpiNeeds b = some b.length then
        let x := recordOf (b.take (recordSize b))
        acceptWith thePorts .hpi x.1 x.2 (s.modHpi fun h => { h with part := [] })
      else s.modHpi fun h => { h with part := b })

/-- The next word is read; with the last one the queue may be empty again (R62). -/
def takeWord (ws : List (BitVec 16)) (s : State) : State :=
  match ws with
  | [] => s.modHpi fun h => { h with lastRead := 0xFFFF }
  | w :: t => s.modHpi fun h =>
    { h with cplWords := t, lastRead := w, attnSent := h.attnSent && !(t.isEmpty && (s.path .hpi).outq.isEmpty) }

/-- HPI_CPL_READ (R55, R58). -/
def execHpiCplRead (s : State) : Out :=
  .next (
    if hpiBusy s then s.modHpi fun h => { h with protoErr := true, lastRead := 0xFFFF }
    else if s.host.hpi.cplWords ≠ [] then takeWord s.host.hpi.cplWords s
    else
      match (s.path .hpi).outq with
      | [] => takeWord [] s
      | x :: t => takeWord (wordsOf (padRecord .hpi (encodeOut x))) (s.modPath .hpi fun p => { p with outq := t }))

/-- CLR_RESET_SEEN (R57). -/
def execClrResetSeen (s : State) : Out := .next (s.modHpi fun h => { h with resetSeen := false })

/-- CLR_PROTO_ERR (R57). -/
def execClrProtoErr (s : State) : Out := .next (s.modHpi fun h => { h with protoErr := false })

/-- ABORT_RECORD (R57, R59). -/
def execAbortRecord (s : State) : Out := .next (s.modHpi fun h => { h with part := [] })

/-- ATTN_EN_WRITE (R57). -/
def execAttnEnWrite (on : Bool) (s : State) : Out := .next (s.modHpi fun h => { h with attnEn := on })

/-- HPI_RECORD_TIMEOUT (R59). -/
def execHpiRecordTimeout (s : State) : Out :=
  .next (if s.host.hpi.part = [] then s else s.modHpi fun h => { h with part := [], protoErr := true })

/-- HPI_ATTENTION_PULSE (R62): the pulse that is owed, once HPI_RB is ready. -/
def execHpiAttentionPulse (s : State) : Out :=
  .next (if s.host.hpi.attnDue && !hpiBusy s then s.modHpi fun h => { h with attnDue := false, attnSent := true } else s)

/-! ## The field network (R65 to R70; 07 R296) -/

def alRank : AlState → Nat
  | .init => 0
  | .preOp => 1
  | .safeOp => 2
  | .op => 3

/-- A SYNC0 cycle other than the tick period (R69). -/
def cycleBad (s : State) (sync : FnSync) : Bool :=
  match sync with
  | .dc c => s.reg K.rateTickPeriod != (c : Int)
  | .freeRun => false
  | .sm => false

/-- ESC_STATE_CHANGE (R65, R69): up one state at a time, down to any; in SAFE and LIMP states the network stays in INIT. -/
def execEscStateChange (goal : AlState) (sync : FnSync) (s : State) : Out :=
  .next (
    if s.mode ≠ .run ∨ s.host.hpi.served = false then s
    else
      let now := alRank s.host.fn.al
      if now + 1 < alRank goal then s.modFn fun f => { f with alStatus := 0x0011 }
      else if goal = .safeOp ∧ now ≠ 2 ∧ cycleBad s sync = true then s.modFn fun f => { f with alStatus := 0x0035 }
      else s.modFn fun f =>
        { f with al := goal, alStatus := 0, sync := if goal = .safeOp then sync else f.sync, fresh := false, missed := 0, lost := false })

/-- An entry takes a value of process data (07 R296 step 1): arms act at the output instant, others at once. -/
def pdWrite (s : State) (key : Nat) (v : Int) : State :=
  let r : Req := ⟨.fn, .pdo⟩
  let i := keyIndex key
  let n := (i - 0x4000) / 0x40
  let o := axisOffset i
  let axis := decide (0x4000 ≤ i ∧ i < 0x4C00)
  if axis ∧ 0x20 ≤ o ∧ o < 0x30 ∧ keySub key = 8 then
    writeEntry s r key v { set := whenCode (v == 1 && !cmpSetOk s n (o - 0x20)) 0x06090030 } (cmpArmEffect r (16 * n + (o - 0x20)) (v == 1))
  else if axis ∧ 0x30 ≤ o ∧ keySub key = 4 then
    writeEntry s r key v { set := whenCode (v == 1 && s.reg (K.capTrigger n (o - 0x30)) == 3 && (s.fb n).modeUse == 4) 0x06090030 }
      (capArmEffect r (16 * n + (o - 0x30)) (v == 1))
  else
    writeEntry s r key v (ownOf s key v) fun s =>
      let s := putEntry r key v s
      if key = K.axspPdSetpoint n then s.modEng n fun e => { e with pdFresh := true } else s

/-- The entries of a process image with their bytes. -/
def imageParts : List Nat → List Byte → List (Nat × List Byte)
  | [], _ => []
  | w :: t, b => (w / 256, b.take (w % 256 / 8)) :: imageParts t (b.drop (w % 256 / 8))

/-- The value that a part of an image spells. -/
def partValue (x : Nat × List Byte) : Int :=
  match rowOf (keyIndex x.1) (keySub x.1) with
  | some w => valueOf w.ty x.2
  | none => 0

/-- PROCESS_DATA_FRAME (07 R296 step 1): the frame's image, of the length that the mapping gives. -/
def execProcessDataFrame (image : List Byte) (s : State) : Out :=
  .next (
    let ws := mapWords s 0x1C12 0x1600
    if s.host.fn.al ≠ .op ∨ 8 * image.length ≠ (ws.map (· % 256)).sum then s
    else ((imageParts ws image).foldl (fun s x => pdWrite s x.1 (partValue x)) s).modFn fun f => { f with fresh := true, lost := false })

/-- The bytes that a mapping word gathers. -/
def mappedBytes (s : State) (w : Nat) : List Byte :=
  match rowOf (w / 65536) (w / 256 % 256) with
  | some x => bytesOf x.ty (if x.acc = .wo then 0 else shown s .fn (w / 256))
  | none => zeros (w % 256 / 8)

/-- TXPDO_FREEZE (07 R296 step 3). -/
def execTxpdoFreeze (s : State) : Out :=
  .next (
    if s.host.fn.al = .safeOp ∨ s.host.fn.al = .op then
      s.modFn fun f => { f with txImage := (mapWords s 0x1C13 0x1A00).flatMap (mappedBytes s) }
    else s)

/-- PROCESS_DATA_LOSS (R70; 05 R206): two ticks in OP without process data. -/
def execProcessDataLoss (s : State) : Out :=
  .next (
    let f := s.host.fn
    if f.al = .op ∧ 2 ≤ f.missed ∧ f.lost = false then
      let s := emcy (s.modFn fun f => { f with lost := true }) 0xFF24 4 0xFF 0
      forN 48 (fun s n =>
        if s.reg (K.axSource n) = 2 ∧ 2 ≤ engState s n ∧ follows s n = true ∧ (candidate s n 2).isNone = true then
          sourceLost (s.modEng n fun e => { e with missSrc := 2 }) n
        else s) s
    else s)

/-! ## CAN FD (R71 to R76) -/

def State.can (s : State) (c : Fin 2) : CanSt := if c = 0 then s.host.can0 else s.host.can1
def State.modCan (s : State) (c : Fin 2) (f : CanSt → CanSt) : State :=
  if c = 0 then { s with host := { s.host with can0 := f s.host.can0 } } else { s with host := { s.host with can1 := f s.host.can1 } }

def canPath (c : Fin 2) : Path := if c = 0 then .can0 else .can1

/-- The node ID that the dictionary gives a node (R72). -/
def nodeIdOf (s : State) (c : Fin 2) : Nat := s.regN (if c = 0 then K.canNodeId0 else K.canNodeId1)

/-- NMT_COMMAND (R71, R72): a reset takes up the new node ID. -/
def execNmtCommand (c : Fin 2) (cmd : NmtCmd) (s : State) : Out :=
  .next (
    if (s.can c).nmt = 0 then s
    else match cmd with
    | .start => s.modCan c fun x => { x with nmt := 5 }
    | .stop => s.modCan c fun x => { x with nmt := 4 }
    | .preOp => s.modCan c fun x => { x with nmt := 127 }
    | .resetNode => (s.modCan c fun x => bootNode { x with nodeId := nodeIdOf s c }).modPath (canPath c) fun x => { x with xfer := none }
    | .resetComm => (s.modCan c fun x => bootNode { x with nodeId := nodeIdOf s c }).modPath (canPath c) fun x => { x with xfer := none })

/-- The mapping words of a PDO. -/
def pdoWords (s : State) (o : Nat) : List Nat := (List.range (s.regN (o * 256))).map fun i => s.regN (o * 256 + 1 + i)

/-- The bits of a PDO. -/
def pdoBits (ws : List Nat) : Nat := (ws.map (· % 256)).sum

/-- The data bytes of a PDO's frame (R73): 64 in FD format, and 8 in LIMP state, in which frames are classic (16 R584). -/
def canRoom (s : State) : Nat := if s.mode = .limp then 8 else 64

/-- A mapping that a frame can carry (R73). -/
def pdoFits (s : State) (ws : List Nat) : Bool := ws != [] && decide (pdoBits ws ≤ 8 * canRoom s)

/-- CAN_SYNC (R71, R73): the node sends its PDOs, those that a frame can carry. -/
def execCanSync (c : Fin 2) (s : State) : Out :=
  .next (
    if (s.can c).nmt = 5 ∧ s.host.hpi.served = true then
      s.modCan c fun x =>
        { x with
          syncs := x.syncs + 1,
          tpdo := ((List.range 8).filter fun k => pdoFits s (pdoWords s (0x1A00 + k))).map fun k =>
            (pdoWords s (0x1A00 + k)).flatMap (mappedBytes s) }
    else s)

/-- CAN_RPDO (R74): object writes, in the order of the mapping; a PDO of another length is not processed (R76). -/
def execCanRpdo (c : Fin 2) (k : Fin 8) (data : List Byte) (s : State) : Out :=
  .next (
    let ws := pdoWords s (0x1600 + k)
    if (s.can c).nmt ≠ 5 ∨ ws = [] ∨ s.host.hpi.served = false ∨ canRoom s < data.length then s
    else if 8 * data.length ≠ pdoBits ws then emcy s 0x8210 4 0xFF 0
    else (imageParts ws data).foldl (fun s x => writeCmd thePorts ⟨canPath c, .pdo⟩ x.1 x.2 0 s) s)

/-- HEARTBEAT_TIMEOUT (R71, R76). -/
def execHeartbeatTimeout (c : Fin 2) (s : State) : Out := .next (if (s.can c).nmt = 0 then s else emcy s 0x8130 4 0xFF 0)

def canCode : CanEvent → Nat
  | .overrun => 0x8110
  | .passive => 0x8120
  | .busOffRecovered => 0x8140

/-- CAN_ERROR_STATE_CHANGE (R76). -/
def execCanErrorStateChange (c : Fin 2) (e : CanEvent) (s : State) : Out :=
  .next (if (s.can c).nmt = 0 then s else emcy s (canCode e) 4 0xFF 0)

/-- HEARTBEAT_PRODUCER (R71): the node sends its NMT state. -/
def execHeartbeatProducer (c : Fin 2) (s : State) : Out :=
  .next (if (s.can c).nmt = 0 then s else s.modCan c fun x => { x with heartbeats := x.heartbeats + 1 })

/-! ## SDO and CoE (R65, R71, R73, R77) -/

/-- The SDO server of a path serves: CoE beyond INIT, a CANopen node that is pre-operational or operational, and the test
port. -/
def sdoServes (s : State) (p : Path) : Bool := if p = .test then s.host.testUp else s.host.hpi.served && nodeSends s p

def setXfer (s : State) (p : Path) (x : Option SdoXfer) : State := s.modPath p fun y => { y with xfer := x }
def setResp (s : State) (p : Path) (x : Option SdoResp) : State := s.modPath p fun y => { y with resp := x }

/-- A transfer ends with an abort code. -/
def sdoAbort (s : State) (p : Path) (code : Nat) : State := setResp (setXfer s p none) p (some ⟨code, []⟩)

def sdoKey (index : BitVec 16) (sub : BitVec 8) : Nat := index.toNat * 256 + sub.toNat

/-- A path is a CAN FD controller: its SDO frames carry 8 bytes (R73). -/
def onCan (p : Path) : Bool := p = .can0 || p = .can1

/-- The bytes that one SDO frame carries: four with the initiating frame, seven in a segment; over CoE any number (R73). -/
def frameCarries (p : Path) (d : SdoDown) : Bool :=
  !onCan p || (match d with
    | .whole _ _ data => decide (data.length ≤ 4)
    | .segment _ _ data => decide (data.length ≤ 7)
    | .start .. => true
    | .complete .. => true
    | .unknown => true)

/-- The sub-indices of an object that complete access covers: from 0 or from 1 on (R65). -/
def objectSubs (index : Nat) (fromOne : Bool) : List Nat :=
  (List.range 256).filter fun sub => (rowOf index sub).isSome && (sub != 0 || !fromOne)

/-- An object as one string of bytes is divided: sub-index 0 takes two bytes, every other its own size, and one of no fixed
size what is left (PRESUMED of ETG.1000, log completeAccess). -/
def divide (index : Nat) : List Nat → List Byte → List (Nat × List Byte)
  | [], d => if d = [] then [] else [(0x100, d)]
  | sub :: t, d =>
    let n := if sub = 0 then 2 else (((rowOf index sub).bind fun w => w.ty.size).getD d.length)
    (sub, (d.take n).take (if sub = 0 then 1 else n)) :: divide index t (d.drop n)

/-- The writes of a complete access, one after the other, while each is accepted. -/
def writeParts (p : Path) (index : Nat) : List (Nat × List Byte) → State → State
  | [], s => setResp s p (some ⟨0, []⟩)
  | x :: t, s =>
    let u := writeCmd thePorts ⟨p, .sdo⟩ (index * 256 + x.1) x.2 0 (setResp s p none)
    match (u.path p).resp with
    | some y => if y.abort = 0 then writeParts p index t u else u
    | none => writeParts p index t u

/-- A transfer by complete access is checked in full before it has any effect (R35, R65; 05 R194). -/
def completeWrite (p : Path) (index : Nat) (fromOne : Bool) (data : List Byte) (s : State) : State :=
  let subs := objectSubs index fromOne
  if subs = [] then sdoAbort s p (noEntry index)
  else
    let u := writeParts p index (divide index subs data) s
    match (u.path p).resp with
    | some y => if y.abort = 0 then u else sdoAbort s p y.abort
    | none => u

/-- Bytes of a segmented download arrive: those of a segment stream beyond 4,096 are appended in whole records (06 R262). -/
def arrive (s : State) (p : Path) (x : SdoXfer) (toggle : Bool) (buf : List Byte) : State :=
  let keep := fun (s : State) (buf : List Byte) (long : Bool) =>
    setXfer s p (some { x with toggle := toggle, buf := buf, long := long })
  if x.index / 8 = 0x3100 / 8 ∧ x.sub = 0 ∧ (x.long = true ∨ 4096 < buf.length) then
    let t := segmentArrive ⟨p, .sdo⟩ (x.index % 8) buf s
    match t.2.2 with
    | some c => sdoAbort t.1 p c
    | none => keep t.1 t.2.1 true
  else keep s buf false

/-- The last bytes of a segmented download have arrived: the value is written. -/
def arriveLast (s : State) (p : Path) (x : SdoXfer) (buf : List Byte) : State :=
  let s := setResp (setXfer s p none) p none
  if x.long then segmentRest ⟨p, .sdo⟩ (x.index % 8) buf s
  else writeCmd thePorts ⟨p, .sdo⟩ (x.index * 256 + x.sub) buf 0 s

/-- SDO_DOWNLOAD (R65, R73, R77). Complete access is CoE's alone; bytes that no frame carries do not come. -/
def execSdoDownload (p : Path) (d : SdoDown) (s : State) : Out :=
  .next (
    if sdoServes s p = false ∨ frameCarries p d = false then s
    else match d with
    | .whole i sub data => writeCmd thePorts ⟨p, .sdo⟩ (sdoKey i sub) data 0 (setResp (setXfer s p none) p none)
    | .complete i one data =>
      if p = .fn then completeWrite p i.toNat one data (setXfer s p none) else sdoAbort s p 0x05040001
    | .start i sub => setResp (setXfer s p (some ⟨true, i.toNat, sub.toNat, false, [], false⟩)) p none
    | .unknown => sdoAbort s p 0x05040001
    | .segment toggle last data =>
      match (s.path p).xfer with
      | none => sdoAbort s p 0x05040001
      | some x =>
        if x.down = false then sdoAbort s p 0x05040001
        else if x.toggle ≠ toggle then sdoAbort s p 0x05030000
        else if last then arriveLast s p x (x.buf ++ data)
        else arrive s p x (!toggle) (x.buf ++ data))

/-- The bytes of an upload segment: 7 on CAN, as many as there are over CoE. -/
def segmentBytes (p : Path) (n : Nat) : Nat := if p = .fn then n else min 7 n

/-- The read of an upload: of a DOMAIN as such. -/
def sdoRead (s : State) (p : Path) (i : BitVec 16) (sub : BitVec 8) : State :=
  let op := match rowOf i.toNat sub.toNat with
    | some w => if w.ty = .dom then 3 else 1
    | none => 1
  readCmd ⟨p, .sdo⟩ (sdoKey i sub) op 0 0 (setResp (setXfer s p none) p none)

/-- What is left of an upload; none while its read is still in hand, or has failed. -/
def uploadData (y : PathSt) (x : SdoXfer) : Option (List Byte) :=
  if x.buf ≠ [] then some x.buf
  else match y.resp with
  | some z => if z.abort = 0 then some z.data else none
  | none => none

/-- A segmented upload starts: it holds the value read at its start (R36). -/
def startUpload (s : State) (p : Path) (i : BitVec 16) (sub : BitVec 8) : State :=
  let s := sdoRead s p i sub
  match (s.path p).resp with
  | some x => if x.abort = 0 then setXfer s p (some ⟨false, i.toNat, sub.toNat, false, x.data, false⟩) else s
  | none => setXfer s p (some ⟨false, i.toNat, sub.toNat, false, [], false⟩)

/-- On CAN a value of more than four bytes goes on as a segmented upload (R73). -/
def wholeUpload (s : State) (p : Path) (i : BitVec 16) (sub : BitVec 8) : State :=
  let t := sdoRead s p i sub
  match (t.path p).resp with
  | some x => if onCan p && decide (4 < x.data.length) then setXfer t p (some ⟨false, i.toNat, sub.toNat, false, x.data, false⟩) else t
  | none => if onCan p then setXfer t p (some ⟨false, i.toNat, sub.toNat, false, [], false⟩) else t

/-- The reads of a complete access: what they return, joined (R65). -/
def readParts (p : Path) (index : Nat) : List Nat → List Byte → State → State
  | [], acc, s => setResp s p (some ⟨0, acc⟩)
  | sub :: t, acc, s =>
    let u := sdoRead s p (bv 16 index) (bv 8 sub)
    match (u.path p).resp with
    | some y => if y.abort = 0 then readParts p index t (acc ++ y.data ++ if sub = 0 then [0] else []) u else u
    | none => u

/-- What an entry allows, as SDO information shows it: reads in bits 2:0, writes in bits 5:3, mapping in 7:6, storage in 8
(R34, R65; PRESUMED of ETG.1000, log sdoInfo). -/
def accessWord (w : Row) : Nat :=
  (if w.acc = .wo then 0 else 7) + (if w.acc = .ro then 0 else 56) + 192 * b2n w.map + 256 * b2n w.stored

/-- The CiA 301 type index of an entry (R33). -/
def typeIndex (w : Row) : Nat :=
  match w.ty with
  | .bool => 1
  | .int n => if n = 8 then 0x15 else if n = 4 then 4 else n + 1
  | .uint n => if n = 8 then 0x1B else if n = 4 then 7 else n + 4
  | .real => 0x11
  | .vstr => 9
  | .ostr => 0x0A
  | .dom => 0x0F

/-- Every index of the dictionary at this moment (R31, R32). -/
def allIndices (s : State) : List Nat :=
  ((List.range 0x5800).filter indexExists) ++ ((s.fab.objects.filter fun d => portServes s d.port).map (·.key / 256)).eraseDups

/-- The answer of the SDO information service (R65). -/
def infoAnswer (s : State) (q : SdoInfo) : Nat × List Byte :=
  match q with
  | .list => (0, (allIndices s).flatMap (leBytes 2))
  | .object i =>
    match rowOf i.toNat 0, rowOf i.toNat 1 with
    | none, none => (0x06020000, [])
    | some w, none => (0, leBytes 2 i.toNat ++ leBytes 2 (typeIndex w) ++ [0, 7])
    | _, some w => (0, leBytes 2 i.toNat ++ leBytes 2 (typeIndex w) ++ leBytes 1 ((objectSubs i.toNat true).getLastD 0) ++ [9])
  | .entry i sub =>
    match rowOf i.toNat sub.toNat with
    | none => (noEntry i.toNat, [])
    | some w => (0, leBytes 2 i.toNat ++ leBytes 1 sub.toNat ++ [0] ++ leBytes 2 (typeIndex w)
        ++ leBytes 2 (8 * (w.ty.size.getD 0)) ++ leBytes 2 (accessWord w))

/-- SDO_UPLOAD (R65, R73, R77). Complete access and SDO information are CoE's alone. -/
def execSdoUpload (p : Path) (u : SdoUp) (s : State) : Out :=
  .next (
    if sdoServes s p = false then s
    else match u with
    | .whole i sub => wholeUpload s p i sub
    | .start i sub => startUpload s p i sub
    | .complete i one =>
      if p = .fn then
        let subs := objectSubs i.toNat one
        if subs = [] then sdoAbort s p (noEntry i.toNat) else readParts p i.toNat subs [] (setXfer s p none)
      else sdoAbort s p 0x05040001
    | .info q =>
      if p = .fn then setResp s p (some ⟨(infoAnswer s q).1, (infoAnswer s q).2⟩) else sdoAbort s p 0x05040001
    | .unknown => sdoAbort s p 0x05040001
    | .segment toggle =>
      match (s.path p).xfer with
      | none => sdoAbort s p 0x05040001
      | some x =>
        if x.down then sdoAbort s p 0x05040001
        else if x.toggle ≠ toggle then sdoAbort s p 0x05030000
        else match uploadData (s.path p) x with
          | none => s
          | some d =>
            let n := segmentBytes p d.length
            let rest := d.drop n
            setResp (setXfer s p (if rest = [] then none else some { x with toggle := !toggle, buf := rest })) p (some ⟨0, d.take n⟩))

/-- SDO_TIMEOUT (R77): a segmented transfer is left unfinished. -/
def execSdoTimeout (p : Path) (s : State) : Out :=
  .next (if (s.path p).xfer = none then s else sdoAbort s p 0x05040000)

end Sys2Proof.Machine
end

