-- ==== Sys2Proof/Machine/Dispatch.lean ====
section
/-! DEFINITION. One arm per command: each calls the command's meaning. -/

namespace Sys2Proof.Machine

-- One arm per row of spec/opcode_table.json.
def exec (i : Instr) (s : State) : Host.Outcome State Fault Refusal :=
  match i with
  | .objectWrite r index sub data => Sys2Proof.Machine.execObjectWrite r index sub data s
  | .taggedRead p rec => Sys2Proof.Machine.execTaggedRead p rec s
  | .taggedWrite p rec => Sys2Proof.Machine.execTaggedWrite p rec s
  | .domainRead p rec => Sys2Proof.Machine.execDomainRead p rec s
  | .domainWrite p rec => Sys2Proof.Machine.execDomainWrite p rec s
  | .cancel p rec => Sys2Proof.Machine.execCancel p rec s
  | .completionPortRead r => Sys2Proof.Machine.execCompletionPortRead r s
  | .storeParameters r which => Sys2Proof.Machine.execStoreParameters r which s
  | .storeVerified => Sys2Proof.Machine.execStoreVerified s
  | .restoreDefaults r which => Sys2Proof.Machine.execRestoreDefaults r which s
  | .errorReset r => Sys2Proof.Machine.execErrorReset r s
  | .functionEnable r f => Sys2Proof.Machine.execFunctionEnable r f s
  | .functionDisableDrain r f => Sys2Proof.Machine.execFunctionDisableDrain r f s
  | .functionDisableAbort r f => Sys2Proof.Machine.execFunctionDisableAbort r f s
  | .disableComplete f => Sys2Proof.Machine.execDisableComplete f s
  | .resetFall => Sys2Proof.Machine.execResetFall s
  | .resetQualified dt => Sys2Proof.Machine.execResetQualified dt s
  | .resetRise => Sys2Proof.Machine.execResetRise s
  | .hpiReqWrite w => Sys2Proof.Machine.execHpiReqWrite w s
  | .hpiCplRead => Sys2Proof.Machine.execHpiCplRead s
  | .clrResetSeen => Sys2Proof.Machine.execClrResetSeen s
  | .clrProtoErr => Sys2Proof.Machine.execClrProtoErr s
  | .abortRecord => Sys2Proof.Machine.execAbortRecord s
  | .attnEnWrite on => Sys2Proof.Machine.execAttnEnWrite on s
  | .hpiRecordTimeout => Sys2Proof.Machine.execHpiRecordTimeout s
  | .hpiAttentionPulse => Sys2Proof.Machine.execHpiAttentionPulse s
  | .escStateChange goal sync => Sys2Proof.Machine.execEscStateChange goal sync s
  | .processDataFrame image => Sys2Proof.Machine.execProcessDataFrame image s
  | .txpdoFreeze => Sys2Proof.Machine.execTxpdoFreeze s
  | .processDataLoss => Sys2Proof.Machine.execProcessDataLoss s
  | .sdoDownload p d => Sys2Proof.Machine.execSdoDownload p d s
  | .sdoUpload p u => Sys2Proof.Machine.execSdoUpload p u s
  | .sdoTimeout p => Sys2Proof.Machine.execSdoTimeout p s
  | .nmtCommand c cmd => Sys2Proof.Machine.execNmtCommand c cmd s
  | .canSync c => Sys2Proof.Machine.execCanSync c s
  | .canRpdo c k data => Sys2Proof.Machine.execCanRpdo c k data s
  | .heartbeatTimeout c => Sys2Proof.Machine.execHeartbeatTimeout c s
  | .attestChallenge r data => Sys2Proof.Machine.execAttestChallenge r data s
  | .attestResponseReady p => Sys2Proof.Machine.execAttestResponseReady p s
  | .bridgeFlit crcGood => Sys2Proof.Machine.execBridgeFlit crcGood s
  | .bridgeDown => Sys2Proof.Machine.execBridgeDown s
  | .commandWatchdogExpiry n => Sys2Proof.Machine.execCommandWatchdogExpiry n s
  | .servoTick t => Sys2Proof.Machine.execServoTick t s
  | .setpointSampleInstant faults => Sys2Proof.Machine.execSetpointSampleInstant faults s
  | .outputInstant => Sys2Proof.Machine.execOutputInstant s
  | .tickSourceWrite r v => Sys2Proof.Machine.execTickSourceWrite r v s
  | .tickSourceJoin => Sys2Proof.Machine.execTickSourceJoin s
  | .tickHoldover => Sys2Proof.Machine.execTickHoldover s
  | .feedbackModeWrite r n e v => Sys2Proof.Machine.execFeedbackModeWrite r n e v s
  | .feedbackClear r n => Sys2Proof.Machine.execFeedbackClear r n s
  | .incEdge inp a b fast => Sys2Proof.Machine.execIncEdge inp a b fast s
  | .indexPulse n => Sys2Proof.Machine.execIndexPulse n s
  | .scSample n a b quarters freq mark => Sys2Proof.Machine.execScSample n a b quarters freq mark s
  | .resTrackerUpdate n angle err radius fullScale speed excLimit => Sys2Proof.Machine.execResTrackerUpdate n angle err radius fullScale speed excLimit s
  | .resLocked n => Sys2Proof.Machine.execResLocked n s
  | .phaseLearn r n => Sys2Proof.Machine.execPhaseLearn r n s
  | .phaseLearnDone n phase => Sys2Proof.Machine.execPhaseLearnDone n phase s
  | .ssiFrameStart n t dataHigh => Sys2Proof.Machine.execSsiFrameStart n t dataHigh s
  | .ssiFrameEnd n bits delay returned => Sys2Proof.Machine.execSsiFrameEnd n bits delay returned s
  | .wireFault inp present => Sys2Proof.Machine.execWireFault inp present s
  | .refArm r n arm => Sys2Proof.Machine.execRefArm r n arm s
  | .refOriginApply n => Sys2Proof.Machine.execRefOriginApply n s
  | .posOriginWrite r n v => Sys2Proof.Machine.execPosOriginWrite r n v s
  | .rangeChange r n v => Sys2Proof.Machine.execRangeChange r n v s
  | .rangeRampDone n => Sys2Proof.Machine.execRangeRampDone n s
  | .rangeSettleDone n => Sys2Proof.Machine.execRangeSettleDone n s
  | .clampRelease r n => Sys2Proof.Machine.execClampRelease r n s
  | .cmStatusClear r n => Sys2Proof.Machine.execCmStatusClear r n s
  | .enableSettled n => Sys2Proof.Machine.execEnableSettled n s
  | .faultInputEdge n level => Sys2Proof.Machine.execFaultInputEdge n level s
  | .faultQualified n dt => Sys2Proof.Machine.execFaultQualified n dt s
  | .aoutReadback n microvolts => Sys2Proof.Machine.execAoutReadback n microvolts s
  | .analogRailsGood => Sys2Proof.Machine.execAnalogRailsGood s
  | .ana50Loss dt => Sys2Proof.Machine.execAna50Loss dt s
  | .ana50Restored => Sys2Proof.Machine.execAna50Restored s
  | .safeStopFall => Sys2Proof.Machine.execSafeStopFall s
  | .safeStopQualified dt => Sys2Proof.Machine.execSafeStopQualified dt s
  | .safeStopRise => Sys2Proof.Machine.execSafeStopRise s
  | .safeStopReleasable => Sys2Proof.Machine.execSafeStopReleasable s
  | .safeStopRelease r => Sys2Proof.Machine.execSafeStopRelease r s
  | .deviceWatchdogExpiry dt => Sys2Proof.Machine.execDeviceWatchdogExpiry dt s
  | .servoRateWrite r v => Sys2Proof.Machine.execServoRateWrite r v s
  | .axisEnable r n => Sys2Proof.Machine.execAxisEnable r n s
  | .axisDisableDrain r n => Sys2Proof.Machine.execAxisDisableDrain r n s
  | .axisDisableAbort r n => Sys2Proof.Machine.execAxisDisableAbort r n s
  | .disableDelayEnd n => Sys2Proof.Machine.execDisableDelayEnd n s
  | .biquadCommit r n q => Sys2Proof.Machine.execBiquadCommit r n q s
  | .biquadBypass r n q => Sys2Proof.Machine.execBiquadBypass r n q s
  | .notchCommit r n => Sys2Proof.Machine.execNotchCommit r n s
  | .notchBypass r n => Sys2Proof.Machine.execNotchBypass r n s
  | .feFault n => Sys2Proof.Machine.execFeFault n s
  | .sourceLost n => Sys2Proof.Machine.execSourceLost n s
  | .sourceWrite r n v => Sys2Proof.Machine.execSourceWrite r n v s
  | .sourceJoin n => Sys2Proof.Machine.execSourceJoin n s
  | .fabricDemandLost n => Sys2Proof.Machine.execFabricDemandLost n s
  | .engineClear r n => Sys2Proof.Machine.execEngineClear r n s
  | .groupEnable r g => Sys2Proof.Machine.execGroupEnable r g s
  | .groupDisableDrain r g => Sys2Proof.Machine.execGroupDisableDrain r g s
  | .groupDisableAbort r g => Sys2Proof.Machine.execGroupDisableAbort r g s
  | .controlledStop r g => Sys2Proof.Machine.execControlledStop r g s
  | .quickStop r g => Sys2Proof.Machine.execQuickStop r g s
  | .stopComplete g => Sys2Proof.Machine.execStopComplete g s
  | .ackFault r g => Sys2Proof.Machine.execAckFault r g s
  | .segmentWrite r g data => Sys2Proof.Machine.execSegmentWrite r g data s
  | .queueRoomAppend g => Sys2Proof.Machine.execQueueRoomAppend g s
  | .queueFullTimeout g => Sys2Proof.Machine.execQueueFullTimeout g s
  | .dwellEnd g => Sys2Proof.Machine.execDwellEnd g s
  | .waitMet g => Sys2Proof.Machine.execWaitMet g s
  | .waitTimeout g => Sys2Proof.Machine.execWaitTimeout g s
  | .feedOverrideWrite r g v => Sys2Proof.Machine.execFeedOverrideWrite r g v s
  | .queueDmaFetch g => Sys2Proof.Machine.execQueueDmaFetch g s
  | .eventInputEdge k level => Sys2Proof.Machine.execEventInputEdge k level s
  | .debounceExpiry k => Sys2Proof.Machine.execDebounceExpiry k s
  | .compareArm r n u => Sys2Proof.Machine.execCompareArm r n u s
  | .compareDisarm r n u => Sys2Proof.Machine.execCompareDisarm r n u s
  | .compareFire n u x => Sys2Proof.Machine.execCompareFire n u x s
  | .eventPulseEnd k => Sys2Proof.Machine.execEventPulseEnd k s
  | .captureArm r n u => Sys2Proof.Machine.execCaptureArm r n u s
  | .captureDisarm r n u => Sys2Proof.Machine.execCaptureDisarm r n u s
  | .captureTrigger n u e t interp => Sys2Proof.Machine.execCaptureTrigger n u e t interp s
  | .railMonitorSample vccq vccSys => Sys2Proof.Machine.execRailMonitorSample vccq vccSys s
  | .seamSwitchDone k => Sys2Proof.Machine.execSeamSwitchDone k s
  | .temperatureSample sensors => Sys2Proof.Machine.execTemperatureSample sensors s
  | .fabricMemoryRequest p q => Sys2Proof.Machine.execFabricMemoryRequest p q s
  | .fabricMemoryResponse p tag => Sys2Proof.Machine.execFabricMemoryResponse p tag s
  | .fabricAxisWord p axis w late => Sys2Proof.Machine.execFabricAxisWord p axis w late s
  | .fabricFlagWrite p f v => Sys2Proof.Machine.execFabricFlagWrite p f v s
  | .fabricObjectRequest p => Sys2Proof.Machine.execFabricObjectRequest p s
  | .fabricObjectAnswer p abort data => Sys2Proof.Machine.execFabricObjectAnswer p abort data s
  | .fabricObjectTimeout p => Sys2Proof.Machine.execFabricObjectTimeout p s
  | .scrubFrameRead frame how => Sys2Proof.Machine.execScrubFrameRead frame how s
  | .frameRewriteDone frame => Sys2Proof.Machine.execFrameRewriteDone frame s
  | .regionLoaded kHz bad uses => Sys2Proof.Machine.execRegionLoaded kHz bad uses s
  | .doneConditionMet ball loadTime waited wakeTime => Sys2Proof.Machine.execDoneConditionMet ball loadTime waited wakeTime s
  | .doneTimeout loadTime wakeTime => Sys2Proof.Machine.execDoneTimeout loadTime wakeTime s
  | .stageOpen r => Sys2Proof.Machine.execStageOpen r s
  | .stageClose r => Sys2Proof.Machine.execStageClose r s
  | .stageDiscard r => Sys2Proof.Machine.execStageDiscard r s
  | .stageData r offset data => Sys2Proof.Machine.execStageData r offset data s
  | .cutoverNextTick r => Sys2Proof.Machine.execCutoverNextTick r s
  | .cutoverAtTime r => Sys2Proof.Machine.execCutoverAtTime r s
  | .cutoverCancel r => Sys2Proof.Machine.execCutoverCancel r s
  | .cutoverBegin => Sys2Proof.Machine.execCutoverBegin s
  | .cutoverDone => Sys2Proof.Machine.execCutoverDone s
  | .promoteGolden r => Sys2Proof.Machine.execPromoteGolden r s
  | .rollbackCommit r v => Sys2Proof.Machine.execRollbackCommit r v s
  | .fcpStreamData src offset data => Sys2Proof.Machine.execFcpStreamData src offset data s
  | .fcpStalled => Sys2Proof.Machine.execFcpStalled s
  | .reload r m => Sys2Proof.Machine.execReload r m s
  | .cfgOpen x => Sys2Proof.Machine.execCfgOpen x s
  | .cfgData x => Sys2Proof.Machine.execCfgData x s
  | .cfgClose x => Sys2Proof.Machine.execCfgClose x s
  | .pageProgram m k page words => Sys2Proof.Machine.execPageProgram m k page words s
  | .blockErase m k named => Sys2Proof.Machine.execBlockErase m k named s
  | .eraseSuspend m b => Sys2Proof.Machine.execEraseSuspend m b s
  | .eraseResume m b => Sys2Proof.Machine.execEraseResume m b s
  | .infoRead m k => Sys2Proof.Machine.execInfoRead m k s
  | .openProtectionSession m b pw => Sys2Proof.Machine.execOpenProtectionSession m b pw s
  | .protectBlock m k => Sys2Proof.Machine.execProtectBlock m k s
  | .unprotectBlock m k => Sys2Proof.Machine.execUnprotectBlock m k s
  | .changePassword m b pw => Sys2Proof.Machine.execChangePassword m b pw s
  | .resetSequence m b => Sys2Proof.Machine.execResetSequence m b s
  | .flashSequenceTimeout m b => Sys2Proof.Machine.execFlashSequenceTimeout m b s
  | .programDone b good => Sys2Proof.Machine.execProgramDone b good s
  | .eraseDone b good => Sys2Proof.Machine.execEraseDone b good s
  | .suspendEffective b => Sys2Proof.Machine.execSuspendEffective b s
  | .eraseAutoResume b => Sys2Proof.Machine.execEraseAutoResume b s
  | .flashArrayRead m addr bad => Sys2Proof.Machine.execFlashArrayRead m addr bad s
  | .blockRefresh k => Sys2Proof.Machine.execBlockRefresh k s
  | .autoFinishErase k => Sys2Proof.Machine.execAutoFinishErase k s
  | .protectionSessionTimeout o => Sys2Proof.Machine.execProtectionSessionTimeout o s
  | .flashPassword r pw => Sys2Proof.Machine.execFlashPassword r pw s
  | .flashNewPassword r pw => Sys2Proof.Machine.execFlashNewPassword r pw s
  | .protectMapWrite r v => Sys2Proof.Machine.execProtectMapWrite r v s
  | .flashSessionClose r => Sys2Proof.Machine.execFlashSessionClose r s
  | .userDataWrite r offset data => Sys2Proof.Machine.execUserDataWrite r offset data s
  | .userDataRead r offset length => Sys2Proof.Machine.execUserDataRead r offset length s
  | .userErase r v => Sys2Proof.Machine.execUserErase r v s
  | .bankHandover r b owner => Sys2Proof.Machine.execBankHandover r b owner s
  | .handoverDone b => Sys2Proof.Machine.execHandoverDone b s
  | .dramTrained good step => Sys2Proof.Machine.execDramTrained good step s
  | .dramInitDone => Sys2Proof.Machine.execDramInitDone s
  | .dramPatrolScrub rows => Sys2Proof.Machine.execDramPatrolScrub rows s
  | .rangeLock r => Sys2Proof.Machine.execRangeLock r s
  | .protectedRangeWrite r inp f v => Sys2Proof.Machine.execProtectedRangeWrite r inp f v s
  | .reelChunkDone good => Sys2Proof.Machine.execReelChunkDone good s
  | .keyLoad r data => Sys2Proof.Machine.execKeyLoad r data s
  | .keyGenerate r v => Sys2Proof.Machine.execKeyGenerate r v s
  | .dramLineWrite line key data => Sys2Proof.Machine.execDramLineWrite line key data s
  | .dramLineRead line key first second => Sys2Proof.Machine.execDramLineRead line key first second s
  | .dramRemeltDone region => Sys2Proof.Machine.execDramRemeltDone region s
  | .sectorWrite q => Sys2Proof.Machine.execSectorWrite q s
  | .sectorRead q how => Sys2Proof.Machine.execSectorRead q how s
  | .driveCompletion d q status count => Sys2Proof.Machine.execDriveCompletion d q status count s
  | .driveCommandTimeout d q => Sys2Proof.Machine.execDriveCommandTimeout d q s
  | .remeltRegionStart => Sys2Proof.Machine.execRemeltRegionStart s
  | .remeltChunkDone bad => Sys2Proof.Machine.execRemeltChunkDone bad s
  | .rekeyStart r => Sys2Proof.Machine.execRekeyStart r s
  | .rekeyPause r => Sys2Proof.Machine.execRekeyPause r s
  | .rekeyResume r => Sys2Proof.Machine.execRekeyResume r s
  | .keyRetire r v => Sys2Proof.Machine.execKeyRetire r v s
  | .retireDrained => Sys2Proof.Machine.execRetireDrained s
  | .rebuild r => Sys2Proof.Machine.execRebuild r s
  | .storageDataWrite r q offset data => Sys2Proof.Machine.execStorageDataWrite r q offset data s
  | .storageDataRead r q offset length => Sys2Proof.Machine.execStorageDataRead r q offset length s
  | .storageTransfer r q data => Sys2Proof.Machine.execStorageTransfer r q data s
  | .storageFlush r q => Sys2Proof.Machine.execStorageFlush r q s
  | .ckPreset r k v => Sys2Proof.Machine.execCkPreset r k v s
  | .ckStart r k v => Sys2Proof.Machine.execCkStart r k v s
  | .ckDescriptorDone k => Sys2Proof.Machine.execCkDescriptorDone k s
  | .assayTrigger k rising t interp => Sys2Proof.Machine.execAssayTrigger k rising t interp s
  | .set r data => Sys2Proof.Machine.execSet r data s
  | .firmware r data => Sys2Proof.Machine.execFirmware r data s
  | .firstSeal r data => Sys2Proof.Machine.execFirstSeal r data s
  | .newKey r data => Sys2Proof.Machine.execNewKey r data s
  | .chainBreak r data => Sys2Proof.Machine.execChainBreak r data s
  | .fwImage r offset data => Sys2Proof.Machine.execFwImage r offset data s
  | .jobStart r => Sys2Proof.Machine.execJobStart r s
  | .jobStop r => Sys2Proof.Machine.execJobStop r s
  | .assayPageProgram => Sys2Proof.Machine.execAssayPageProgram s
  | .assayRecordSealed => Sys2Proof.Machine.execAssayRecordSealed s
  | .assayDeferredSeal => Sys2Proof.Machine.execAssayDeferredSeal s
  | .exportAck r data => Sys2Proof.Machine.execExportAck r data s
  | .assayRecordsRead r => Sys2Proof.Machine.execAssayRecordsRead r s
  | .asealRise => Sys2Proof.Machine.execAsealRise s
  | .asealFall => Sys2Proof.Machine.execAsealFall s
  | .islandStart check => Sys2Proof.Machine.execIslandStart check s
  | .crystalLoss x => Sys2Proof.Machine.execCrystalLoss x s
  | .bothCrystalsLost => Sys2Proof.Machine.execBothCrystalsLost s
  | .limpEntry waited => Sys2Proof.Machine.execLimpEntry waited s
  | .xoSelect r v => Sys2Proof.Machine.execXoSelect r v s
  | .pllOutputWrite r p e o v => Sys2Proof.Machine.execPllOutputWrite r p e o v s
  | .pllLocked p temp band => Sys2Proof.Machine.execPllLocked p temp band s
  | .pllLockLoss p again => Sys2Proof.Machine.execPllLockLoss p again s
  | .rtcSecondsWrite r v => Sys2Proof.Machine.execRtcSecondsWrite r v s
  | .rtcCalendarWrite r data => Sys2Proof.Machine.execRtcCalendarWrite r data s
  | .rtcSecond => Sys2Proof.Machine.execRtcSecond s
  | .rtcAlarm => Sys2Proof.Machine.execRtcAlarm s
  | .clapperTickFrame seq => Sys2Proof.Machine.execClapperTickFrame seq s
  | .clapperTimeFrame good t wake => Sys2Proof.Machine.execClapperTimeFrame good t wake s
  | .clapperAxisFrame good src entries stops late => Sys2Proof.Machine.execClapperAxisFrame good src entries stops late s
  | .clapperStatusFrame good m => Sys2Proof.Machine.execClapperStatusFrame good m s
  | .memberAbsent m => Sys2Proof.Machine.execMemberAbsent m s
  | .clapperBeacon good t period own => Sys2Proof.Machine.execClapperBeacon good t period own s
  | .clapperDelayProbe good side ns path => Sys2Proof.Machine.execClapperDelayProbe good side ns path s
  | .ringBroken side => Sys2Proof.Machine.execRingBroken side s
  | .timeSourceElection => Sys2Proof.Machine.execTimeSourceElection s
  | .wakeWindowOpen w => Sys2Proof.Machine.execWakeWindowOpen w s
  | .wakeSearchTimeout => Sys2Proof.Machine.execWakeSearchTimeout s
  | .sleepRequest r => Sys2Proof.Machine.execSleepRequest r s
  | .deepSleepRequest r => Sys2Proof.Machine.execDeepSleepRequest r s
  | .offRequest r => Sys2Proof.Machine.execOffRequest r s
  | .powerEntryBegin => Sys2Proof.Machine.execPowerEntryBegin s
  | .powerEntryDrained => Sys2Proof.Machine.execPowerEntryDrained s
  | .wakeEvent src => Sys2Proof.Machine.execWakeEvent src s
  | .powerApplied => Sys2Proof.Machine.execPowerApplied s
  | .wakeStageReady what => Sys2Proof.Machine.execWakeStageReady what s
  | .rollCheckLateDone found rollTime => Sys2Proof.Machine.execRollCheckLateDone found rollTime s
  | .regulatorStageTimeout => Sys2Proof.Machine.execRegulatorStageTimeout s
  | .oscillatorStageTimeout => Sys2Proof.Machine.execOscillatorStageTimeout s
  | .memoryStageTimeout => Sys2Proof.Machine.execMemoryStageTimeout s
  | .faultClear r => Sys2Proof.Machine.execFaultClear r s
  | .pwrDownFall => Sys2Proof.Machine.execPwrDownFall s
  | .pwrDownRise => Sys2Proof.Machine.execPwrDownRise s
  | .powerGoodLost inp => Sys2Proof.Machine.execPowerGoodLost inp s
  | .pmbusTransaction rail addr losses how => Sys2Proof.Machine.execPmbusTransaction rail addr losses how s
  | .pmbusSclTimeout rail addr => Sys2Proof.Machine.execPmbusSclTimeout rail addr s
  | .pmbusAckPoll rail status mv => Sys2Proof.Machine.execPmbusAckPoll rail status mv s
  | .pmbusAckTimeout rail => Sys2Proof.Machine.execPmbusAckTimeout rail s
  | .pmbusAlert addr status => Sys2Proof.Machine.execPmbusAlert addr status s
  | .pmbusTelemetry rail => Sys2Proof.Machine.execPmbusTelemetry rail s
  | .vccqSet r q mv => Sys2Proof.Machine.execVccqSet r q mv s
  | .backupSupplySwitch toAon canaryOk => Sys2Proof.Machine.execBackupSupplySwitch toAon canaryOk s
  | .vbatMeasure mv => Sys2Proof.Machine.execVbatMeasure mv s
  | .transitionRequest r data margin => Sys2Proof.Machine.execTransitionRequest r data margin s
  | .transitionReset => Sys2Proof.Machine.execTransitionReset s
  | .debugChallenge r => Sys2Proof.Machine.execDebugChallenge r s
  | .debugGrant r data => Sys2Proof.Machine.execDebugGrant r data s
  | .debugClose r => Sys2Proof.Machine.execDebugClose r s
  | .bkRecord r data => Sys2Proof.Machine.execBkRecord r data s
  | .bkClear r => Sys2Proof.Machine.execBkClear r s
  | .tamper => Sys2Proof.Machine.execTamper s
  | .tamperClear r high => Sys2Proof.Machine.execTamperClear r high s
  | .wrapNext r v => Sys2Proof.Machine.execWrapNext r v s
  | .wrapTestDone found margins ms => Sys2Proof.Machine.execWrapTestDone found margins ms s
  | .wrapTestLimit found margins => Sys2Proof.Machine.execWrapTestLimit found margins s
  | .safeReset r => Sys2Proof.Machine.execSafeReset r s
  | .serviceHour => Sys2Proof.Machine.execServiceHour s
  | .fwOpen r => Sys2Proof.Machine.execFwOpen r s
  | .fwClose r => Sys2Proof.Machine.execFwClose r s
  | .fwDiscard r => Sys2Proof.Machine.execFwDiscard r s
  | .fwSwitch r => Sys2Proof.Machine.execFwSwitch r s
  | .fwConfirm r => Sys2Proof.Machine.execFwConfirm r s
  | .fwData r offset data => Sys2Proof.Machine.execFwData r offset data s
  | .fwSwitchRestart => Sys2Proof.Machine.execFwSwitchRestart s
  | .fwTrialTimeout => Sys2Proof.Machine.execFwTrialTimeout s
  | .fwFloorCommit r v => Sys2Proof.Machine.execFwFloorCommit r v s
  | .imageVerifyDone slot => Sys2Proof.Machine.execImageVerifyDone slot s
  | .infoRowWriteDone b => Sys2Proof.Machine.execInfoRowWriteDone b s
  | .storageReady drive0 drive1 => Sys2Proof.Machine.execStorageReady drive0 drive1 s
  | .crystalRestored x => Sys2Proof.Machine.execCrystalRestored x s
  | .canErrorStateChange c e => Sys2Proof.Machine.execCanErrorStateChange c e s
  | .heartbeatProducer c => Sys2Proof.Machine.execHeartbeatProducer c s
  | .beaconBurst => Sys2Proof.Machine.execBeaconBurst s
  | .wakeWindowClose => Sys2Proof.Machine.execWakeWindowClose s
  | .neighbourLinkRestored side => Sys2Proof.Machine.execNeighbourLinkRestored side s
  | .liveLengthUpdate => Sys2Proof.Machine.execLiveLengthUpdate s

end Sys2Proof.Machine
end

