-- ==== Sys2Proof/Machine/Step.lean ====
section
/-! DEFINITION. One step: the first waiting command, or, while none waits, what the block does of itself. -/

namespace Sys2Proof.Machine

/-- With no command waiting: SC0 starts a request record that had to wait (02 R49, R50); else a reset that SAFE_RESET has
asked for is taken up (18 R642); else the block idles. DESIGN CHOICE, log entry 1. -/
def idle (s : State) : State :=
  match startWaiting s with
  | some s' => s'
  | none => dueReset s

/-- One step takes the command at the front of the queue. -/
def step (s : State) : Host.Outcome State Fault Refusal :=
  match s.pending with
  | [] => .next (idle s)
  | c :: rest => exec c { s with pending := rest }

/-- The state with the command that a table word spells at the front of its queue. -/
def State.withFetchWord (s : State) (nbits w : Nat) : State :=
  match decodeTableWord nbits w with
  | some c => { s with pending := c :: s.pending }
  | none => s

end Sys2Proof.Machine
end

