-- ==== Sys2Proof/WellFormed.lean ====
section
/-! DEFINITION. Which commands can come: what the hardware's own paths, records, frames and widths can carry. A meaning
does not rest on it: it is what a sender is held to. -/

namespace Sys2Proof

/-- The HPI brings tagged records only; SDO, CoE and process data come over the networks, and the test port brings one request
at a time (02 R43, R55, R65, R71; 18 R646). -/
def Req.wf (r : Req) : Bool :=
  match r.path, r.org with
  | .hpi, .sdo => false
  | .hpi, .pdo => false
  | .test, .tag _ => false
  | .test, .pdo => false
  | _, _ => true

/-- A record has LENGTH payload bytes; reads and CANCEL have none (02 R44). -/
def Rec.wf (op : Nat) (x : Rec) : Bool :=
  x.payload.length == (if op = 2 ∨ op = 4 then x.length.toNat else 0)

/-- The paths with an SDO or CoE server (02 R65, R71). -/
def hasSdo (p : Path) : Bool := p != .hpi

/-- On CAN FD an SDO frame carries up to 4 bytes with the initiating frame and up to 7 in a segment (02 R73). -/
def SdoDown.wf (p : Path) (d : SdoDown) : Bool :=
  match d with
  | .whole _ _ data => (p != .can0 && p != .can1) || decide (data.length ≤ 4)
  | .complete _ _ _ => true
  | .start _ _ => true
  | .segment _ _ data => (p != .can0 && p != .can1) || decide (data.length ≤ 7)
  | .unknown => true

/-- A write carries the bytes of its words, a read none (08 R315). -/
def FabMem.wf (q : FabMem) : Bool := q.data.length == (if q.write then 32 * (q.more.val + 1) else 0)

def FcpSource.wf (x : FcpSource) : Bool :=
  match x with
  | .host r => r.wf
  | .fabric _ => true

/-- A converter code or another signed quantity of 16 bits (03 R107). -/
def int16 (v : Int) : Bool := decide (-32768 ≤ v ∧ v ≤ 32767)

/-- A command that can come. -/
def Instr.wf (i : Instr) : Bool :=
  match i with
  | .objectWrite r _ _ _ => r.wf
  | .taggedRead _ rec => rec.wf 1
  | .taggedWrite _ rec => rec.wf 2
  | .domainRead _ rec => rec.wf 3
  | .domainWrite _ rec => rec.wf 4
  | .cancel _ rec => rec.wf 5
  | .completionPortRead r => r.wf
  | .storeParameters r _ => r.wf
  | .storeVerified => true
  | .restoreDefaults r _ => r.wf
  | .errorReset r => r.wf
  | .functionEnable r _ => r.wf
  | .functionDisableDrain r _ => r.wf
  | .functionDisableAbort r _ => r.wf
  | .disableComplete _ => true
  | .resetFall => true
  | .resetQualified _ => true
  | .resetRise => true
  | .hpiReqWrite _ => true
  | .hpiCplRead => true
  | .clrResetSeen => true
  | .clrProtoErr => true
  | .abortRecord => true
  | .attnEnWrite _ => true
  | .hpiRecordTimeout => true
  | .hpiAttentionPulse => true
  | .escStateChange _ _ => true
  | .processDataFrame _ => true
  | .txpdoFreeze => true
  | .processDataLoss => true
  | .sdoDownload p d => hasSdo p && d.wf p
  | .sdoUpload p _ => hasSdo p
  | .sdoTimeout p => hasSdo p
  | .nmtCommand _ _ => true
  | .canSync _ => true
  | .canRpdo _ _ data => decide (data.length ≤ 64)
  | .heartbeatTimeout _ => true
  | .attestChallenge r _ => r.wf
  | .attestResponseReady _ => true
  | .bridgeFlit _ => true
  | .bridgeDown => true
  | .commandWatchdogExpiry _ => true
  | .servoTick _ => true
  | .setpointSampleInstant faults => faults.all fun x => decide (x.1 < 52)
  | .outputInstant => true
  | .tickSourceWrite r _ => r.wf
  | .tickSourceJoin => true
  | .tickHoldover => true
  | .feedbackModeWrite r _ _ _ => r.wf
  | .feedbackClear r _ => r.wf
  | .incEdge _ _ _ _ => true
  | .indexPulse _ => true
  | .scSample _ a b _ _ mark => int16 a && int16 b && int16 mark
  | .resTrackerUpdate _ _ err radius _ _ _ => decide (err < 2 ^ 24) && decide (radius < 2 ^ 16)
  | .resLocked _ => true
  | .phaseLearn r _ => r.wf
  | .phaseLearnDone _ _ => true
  | .ssiFrameStart _ _ _ => true
  | .ssiFrameEnd _ bits _ _ => decide (bits < 2 ^ 48)
  | .wireFault _ _ => true
  | .refArm r _ _ => r.wf
  | .refOriginApply _ => true
  | .posOriginWrite r _ _ => r.wf
  | .rangeChange r _ _ => r.wf
  | .rangeRampDone _ => true
  | .rangeSettleDone _ => true
  | .clampRelease r _ => r.wf
  | .cmStatusClear r _ => r.wf
  | .enableSettled _ => true
  | .faultInputEdge _ _ => true
  | .faultQualified _ _ => true
  | .aoutReadback _ _ => true
  | .analogRailsGood => true
  | .ana50Loss _ => true
  | .ana50Restored => true
  | .safeStopFall => true
  | .safeStopQualified _ => true
  | .safeStopRise => true
  | .safeStopReleasable => true
  | .safeStopRelease r => r.wf
  | .deviceWatchdogExpiry _ => true
  | .servoRateWrite r _ => r.wf
  | .axisEnable r _ => r.wf
  | .axisDisableDrain r _ => r.wf
  | .axisDisableAbort r _ => r.wf
  | .disableDelayEnd _ => true
  | .biquadCommit r _ _ => r.wf
  | .biquadBypass r _ _ => r.wf
  | .notchCommit r _ => r.wf
  | .notchBypass r _ => r.wf
  | .feFault _ => true
  | .sourceLost _ => true
  | .sourceWrite r _ _ => r.wf
  | .sourceJoin _ => true
  | .fabricDemandLost _ => true
  | .engineClear r _ => r.wf
  | .groupEnable r _ => r.wf
  | .groupDisableDrain r _ => r.wf
  | .groupDisableAbort r _ => r.wf
  | .controlledStop r _ => r.wf
  | .quickStop r _ => r.wf
  | .stopComplete _ => true
  | .ackFault r _ => r.wf
  | .segmentWrite r _ _ => r.wf
  | .queueRoomAppend _ => true
  | .queueFullTimeout _ => true
  | .dwellEnd _ => true
  | .waitMet _ => true
  | .waitTimeout _ => true
  | .feedOverrideWrite r _ _ => r.wf
  | .queueDmaFetch _ => true
  | .eventInputEdge _ _ => true
  | .debounceExpiry _ => true
  | .compareArm r _ _ => r.wf
  | .compareDisarm r _ _ => r.wf
  | .compareFire _ _ _ => true
  | .eventPulseEnd _ => true
  | .captureArm r _ _ => r.wf
  | .captureDisarm r _ _ => r.wf
  | .captureTrigger _ _ _ _ _ => true
  | .railMonitorSample vccq _ => vccq.length == 4
  | .seamSwitchDone _ => true
  | .temperatureSample sensors => sensors.length == 22
  | .fabricMemoryRequest _ q => q.wf
  | .fabricMemoryResponse _ _ => true
  | .fabricAxisWord _ _ _ _ => true
  | .fabricFlagWrite _ _ _ => true
  | .fabricObjectRequest _ => true
  | .fabricObjectAnswer _ _ data => decide (data.length ≤ 4096)
  | .fabricObjectTimeout _ => true
  | .scrubFrameRead _ _ => true
  | .frameRewriteDone _ => true
  | .regionLoaded _ _ _ => true
  | .doneConditionMet _ _ _ _ => true
  | .doneTimeout _ _ => true
  | .stageOpen r => r.wf
  | .stageClose r => r.wf
  | .stageDiscard r => r.wf
  | .stageData r _ _ => r.wf
  | .cutoverNextTick r => r.wf
  | .cutoverAtTime r => r.wf
  | .cutoverCancel r => r.wf
  | .cutoverBegin => true
  | .cutoverDone => true
  | .promoteGolden r => r.wf
  | .rollbackCommit r _ => r.wf
  | .fcpStreamData src _ _ => src.wf
  | .fcpStalled => true
  | .reload r _ => r.wf
  | .cfgOpen _ => true
  | .cfgData _ => true
  | .cfgClose _ => true
  | .pageProgram _ _ _ words => decide (words.length ≤ 128)
  | .blockErase _ _ _ => true
  | .eraseSuspend _ _ => true
  | .eraseResume _ _ => true
  | .infoRead _ _ => true
  | .openProtectionSession _ _ _ => true
  | .protectBlock _ _ => true
  | .unprotectBlock _ _ => true
  | .changePassword _ _ _ => true
  | .resetSequence _ _ => true
  | .flashSequenceTimeout _ _ => true
  | .programDone _ _ => true
  | .eraseDone _ _ => true
  | .suspendEffective _ => true
  | .eraseAutoResume _ => true
  | .flashArrayRead _ _ _ => true
  | .blockRefresh _ => true
  | .autoFinishErase _ => true
  | .protectionSessionTimeout _ => true
  | .flashPassword r _ => r.wf
  | .flashNewPassword r _ => r.wf
  | .protectMapWrite r _ => r.wf
  | .flashSessionClose r => r.wf
  | .userDataWrite r _ _ => r.wf
  | .userDataRead r _ length => r.wf && decide (length ≤ 4096)
  | .userErase r _ => r.wf
  | .bankHandover r _ _ => r.wf
  | .handoverDone _ => true
  | .dramTrained _ _ => true
  | .dramInitDone => true
  | .dramPatrolScrub _ => true
  | .rangeLock r => r.wf
  | .protectedRangeWrite r _ _ _ => r.wf
  | .reelChunkDone _ => true
  | .keyLoad r _ => r.wf
  | .keyGenerate r _ => r.wf
  | .dramLineWrite _ _ data => data.length == 64
  | .dramLineRead _ _ _ _ => true
  | .dramRemeltDone _ => true
  | .sectorWrite _ => true
  | .sectorRead _ _ => true
  | .driveCompletion _ _ _ _ => true
  | .driveCommandTimeout _ _ => true
  | .remeltRegionStart => true
  | .remeltChunkDone _ => true
  | .rekeyStart r => r.wf
  | .rekeyPause r => r.wf
  | .rekeyResume r => r.wf
  | .keyRetire r _ => r.wf
  | .retireDrained => true
  | .rebuild r => r.wf
  | .storageDataWrite r _ _ _ => r.wf
  | .storageDataRead r _ _ length => r.wf && decide (length ≤ 4096)
  | .storageTransfer r _ _ => r.wf
  | .storageFlush r _ => r.wf
  | .ckPreset r _ _ => r.wf
  | .ckStart r _ _ => r.wf
  | .ckDescriptorDone _ => true
  | .assayTrigger _ _ _ _ => true
  | .set r _ => r.wf
  | .firmware r _ => r.wf
  | .firstSeal r _ => r.wf
  | .newKey r _ => r.wf
  | .chainBreak r _ => r.wf
  | .fwImage r _ _ => r.wf
  | .jobStart r => r.wf
  | .jobStop r => r.wf
  | .assayPageProgram => true
  | .assayRecordSealed => true
  | .assayDeferredSeal => true
  | .exportAck r _ => r.wf
  | .assayRecordsRead r => r.wf
  | .asealRise => true
  | .asealFall => true
  | .islandStart _ => true
  | .crystalLoss _ => true
  | .bothCrystalsLost => true
  | .limpEntry _ => true
  | .xoSelect r _ => r.wf
  | .pllOutputWrite r _ _ _ _ => r.wf
  | .pllLocked _ _ _ => true
  | .pllLockLoss _ _ => true
  | .rtcSecondsWrite r _ => r.wf
  | .rtcCalendarWrite r _ => r.wf
  | .rtcSecond => true
  | .rtcAlarm => true
  | .clapperTickFrame _ => true
  | .clapperTimeFrame _ _ _ => true
  | .clapperAxisFrame _ _ entries _ _ => decide (entries.length ≤ 12)
  | .clapperStatusFrame _ _ => true
  | .memberAbsent _ => true
  | .clapperBeacon _ _ _ _ => true
  | .clapperDelayProbe _ _ _ _ => true
  | .ringBroken _ => true
  | .timeSourceElection => true
  | .wakeWindowOpen _ => true
  | .wakeSearchTimeout => true
  | .sleepRequest r => r.wf
  | .deepSleepRequest r => r.wf
  | .offRequest r => r.wf
  | .powerEntryBegin => true
  | .powerEntryDrained => true
  | .wakeEvent _ => true
  | .powerApplied => true
  | .wakeStageReady _ => true
  | .rollCheckLateDone _ _ => true
  | .regulatorStageTimeout => true
  | .oscillatorStageTimeout => true
  | .memoryStageTimeout => true
  | .faultClear r => r.wf
  | .pwrDownFall => true
  | .pwrDownRise => true
  | .powerGoodLost _ => true
  | .pmbusTransaction _ _ _ _ => true
  | .pmbusSclTimeout _ _ => true
  | .pmbusAckPoll _ _ _ => true
  | .pmbusAckTimeout _ => true
  | .pmbusAlert _ _ => true
  | .pmbusTelemetry _ => true
  | .vccqSet r _ _ => r.wf
  | .backupSupplySwitch _ _ => true
  | .vbatMeasure _ => true
  | .transitionRequest r _ _ => r.wf
  | .transitionReset => true
  | .debugChallenge r => r.wf
  | .debugGrant r _ => r.wf
  | .debugClose r => r.wf
  | .bkRecord r _ => r.wf
  | .bkClear r => r.wf
  | .tamper => true
  | .tamperClear r _ => r.wf
  | .wrapNext r _ => r.wf
  | .wrapTestDone _ _ _ => true
  | .wrapTestLimit _ _ => true
  | .safeReset r => r.wf
  | .serviceHour => true
  | .fwOpen r => r.wf
  | .fwClose r => r.wf
  | .fwDiscard r => r.wf
  | .fwSwitch r => r.wf
  | .fwConfirm r => r.wf
  | .fwData r _ _ => r.wf
  | .fwSwitchRestart => true
  | .fwTrialTimeout => true
  | .fwFloorCommit r _ => r.wf
  | .imageVerifyDone _ => true
  | .infoRowWriteDone _ => true
  | .storageReady _ _ => true
  | .crystalRestored _ => true
  | .canErrorStateChange _ _ => true
  | .heartbeatProducer _ => true
  | .beaconBurst => true
  | .wakeWindowClose => true
  | .neighbourLinkRestored _ => true
  | .liveLengthUpdate => true

end Sys2Proof
end

