-- ==== Sys2Proof/Safety.lean ====
section
/-! DEFINITION. The terms in which claims speak of the block: the canonical form of its tables and memories, when SC0 takes
a request, how a request is answered, and what a step leaves alone. -/

namespace Sys2Proof.Machine

/-! ## The canonical form -/

/-- The main flash array, the scratchpad and the DRAM keep the one form that equal contents have (10, 11). -/
def memoryWf (s : State) : Bool :=
  tabWf (fun _ => 0xFF#8) s.flash.array && tabWf (fun _ => 0#8) s.mem.sp && tabWf (fun _ => {}) s.mem.dram

/-- Every table of the state has that form: listed numbers rise, and nothing listed reads as if it were not. -/
structure Canonical (s : State) : Prop where
  regs : tabWf regDefault s.regs = true
  blobs : tabWf (fun _ => []) s.blobs = true
  paths : tabWf (fun _ => {}) s.host.paths = true
  fb : tabWf (fun _ => {}) s.fe.fb = true
  cm : tabWf (fun _ => {}) s.fe.cm = true
  ev : tabWf (fun _ => {}) s.fe.ev = true
  cmp : tabWf (fun _ => {}) s.fe.cmp = true
  cap : tabWf (fun _ => {}) s.fe.cap = true
  eng : tabWf (fun _ => {}) s.eng = true
  standIn : tabWf (fun _ => {}) s.si.si = true
  grp : tabWf (fun _ => {}) s.grp = true
  array : tabWf (fun _ => 0xFF#8) s.flash.array = true
  flBlock : tabWf (fun _ => {}) s.flash.block = true
  flBank : tabWf (fun _ => {}) s.flash.bank = true
  flMaster : tabWf (fun _ => {}) s.flash.master = true
  sp : tabWf (fun _ => 0#8) s.mem.sp = true
  bank : tabWf (fun _ => {}) s.mem.bank = true
  dram : tabWf (fun _ => {}) s.mem.dram = true
  writes : tabWf (fun _ => 0) s.mem.writes = true
  major : tabWf (fun _ => 0) s.mem.major = true
  epoch : tabWf (fun _ => 0) s.mem.epoch = true
  rowHits : tabWf (fun _ => 0) s.mem.rowHits = true
  slot : tabWf (fun _ => {}) s.cip.slot = true
  sector : tabWf (fun _ => {}) s.cip.sector = true
  region : tabWf (fun _ => {}) s.cip.region = true
  port : tabWf (fun _ => {}) s.fab.port = true
  rail : tabWf (fun _ => {}) s.fab.rail = true
  seam : tabWf (fun _ => {}) s.fab.seam = true
  params : tabWf paramDefault s.isl.params = true
  level : tabWf (fun _ => 0) s.test.level = true
  railMap : tabWf (fun _ => 0) s.power.railMap = true
  bands : tabWf (fun _ => []) s.clock.bands = true
  member : tabWf (fun _ => {}) s.link.member = true

/-! ## Requests -/

/-- SC0 takes a request: its path is answered for every entry, a host path because SC0 serves the dictionary (02 R58), the
test port because the unit is in TEST (17 R604; 18 R646); the tag is free (02 R47), and no lower power state is being
entered (16 R576). -/
abbrev Takes (s : State) (r : Req) : Prop :=
  (∀ key op, answers s r.path key op = true) ∧ tagBusy s r = false ∧ s.reg K.powerState ≠ 1

/-- A write of a number that SC0 takes and that passes every check of 02 R698; `o` are the checks of the entry's chapter. -/
abbrev Passes (s : State) (r : Req) (key : Nat) (v : Int) (o : Own) : Prop := Takes s r ∧ writeCode s r key v o = none

/-- A write of bytes that SC0 takes and that passes every check. -/
abbrev BytesPass (s : State) (r : Req) (key : Nat) (data : List Byte) (o : Own) : Prop :=
  Takes s r ∧ (rowOf (keyIndex key) (keySub key)).map (fun w => lengthOk w data.length) = some true ∧ bytesCode s r key o = none

/-- The request is answered in `t`: over SDO and CoE as the response, as a tag with a completion record at the end of the
path's queue; process data get no answer (02 R45, R46, R73). -/
abbrev Answered (r : Req) (opcode key abort : Nat) (data : List Byte) (t : State) : Prop :=
  match r.org with
  | .pdo => True
  | .sdo => (t.path r.path).resp = some ⟨abort, data⟩
  | .tag n => (t.path r.path).outq.getLast? =
      some (.cpl n (statusOf abort) (keyIndex key) (keySub key) opcode abort data)

/-- The request is in flight, to be answered when the event comes. -/
abbrev Waits (t : State) (w : WaitFor) (r : Req) : Prop := (w, r) ∈ t.host.waits

/-- Nothing but the host paths differs. -/
abbrev SameButHost (s t : State) : Prop := { t with host := s.host } = s

/-- Nothing but the host paths and the numeric entries differs, and of these only the listed ones. -/
abbrev OnlyRegs (ks : List Nat) (s t : State) : Prop :=
  { t with host := s.host, regs := s.regs } = s ∧ ∀ k, k ∉ ks → t.reg k = s.reg k

/-- Of the entries only the listed ones differ. -/
abbrev RegsBut (ks : List Nat) (s t : State) : Prop := ∀ k, k ∉ ks → t.reg k = s.reg k

/-- The state after a command. -/
def after (c : Instr) (s : State) : State := nextOf s (exec c s)

/-! ## Frames -/

/-- The parts of the state. -/
inductive StatePart where
  | regs | blobs | host | fe | eng | si | grp | flash | mem | reel | cip | fab | fw | isl | life | test | power | clock | link |
    therm | mode | bad | events | memUse | released | freeCtr
  deriving DecidableEq, Repr

/-- A part is as it was. -/
def sameIn (s t : State) : StatePart → Prop
  | .regs => t.regs = s.regs
  | .blobs => t.blobs = s.blobs
  | .host => t.host = s.host
  | .fe => t.fe = s.fe
  | .eng => t.eng = s.eng
  | .si => t.si = s.si
  | .grp => t.grp = s.grp
  | .flash => t.flash = s.flash
  | .mem => t.mem = s.mem
  | .reel => t.reel = s.reel
  | .cip => t.cip = s.cip
  | .fab => t.fab = s.fab
  | .fw => t.fw = s.fw
  | .isl => t.isl = s.isl
  | .life => t.life = s.life
  | .test => t.test = s.test
  | .power => t.power = s.power
  | .clock => t.clock = s.clock
  | .link => t.link = s.link
  | .therm => t.therm = s.therm
  | .mode => t.mode = s.mode
  | .bad => t.bad = s.bad
  | .events => t.events = s.events
  | .memUse => t.memUse = s.memUse
  | .released => t.released = s.released
  | .freeCtr => t.freeCtr = s.freeCtr

/-- Every part but the listed ones. -/
def allBut (ps : List StatePart) : List StatePart :=
  [.regs, .blobs, .host, .fe, .eng, .si, .grp, .flash, .mem, .reel, .cip, .fab, .fw, .isl, .life, .test, .power, .clock, .link,
    .therm, .mode, .bad, .events, .memUse, .released, .freeCtr].filter fun p => !ps.contains p

end Sys2Proof.Machine
end

