-- ==== Sys2Proof/Certificates/Slice0/Obligations.lean ====
section
/-! DEFINITION. The obligations: what is claimed of the model, command family by command family. The claims come first, in the
order of the chapters; each obligation is one of them or the conjunction of those of one family. Rules are named by their
chapter of the specification and their number. -/

open Sys2Proof Sys2Proof.Machine

namespace Claims

/-- Each command in turn: a step takes the command at the front of the queue. With none waiting the block does what `idle`
says (log entry 1: a choice of the model). -/
def StepRunsTheFrontCommand : Prop :=
  (∀ (c : Instr) (rest : List Instr) (s : State), step { s with pending := c :: rest } = exec c { s with pending := rest })
  ∧ ∀ s : State, s.pending = [] → step s = .next (idle s)

/-- What reset leaves: every entry of the dictionary at its default, no bytes in any string, nothing in flight and nothing
waiting; HPI_RB busy, RESET_SEEN and ATTN_EN set, PROTO_ERR clear (02 R34, R56, R57); the field network in INIT. -/
def ResetLeavesDefaults : Prop :=
  (∀ k, State.reset.reg k = regDefault k) ∧ (∀ k, State.reset.blob k = []) ∧ State.reset.pending = []
  ∧ (∀ p, State.reset.path p = {}) ∧ State.reset.host.hpi.busy = true ∧ State.reset.host.hpi.resetSeen = true
  ∧ State.reset.host.hpi.attnEn = true ∧ State.reset.host.hpi.protoErr = false ∧ State.reset.host.fn.al = .init

/-- The state after reset has every table in its canonical form. -/
def ResetIsCanonical : Prop := Canonical State.reset ∧ memoryWf State.reset = true

/-- Every step keeps every table of the state, memories and entries among them, in its canonical form. -/
def EveryStepKeepsTablesCanonical : Prop :=
  ∀ s t : State, Canonical s → step s = .next t → Canonical t

/-- A step consumes the first waiting command and no other; no command makes or removes another. -/
def EveryStepTakesExactlyOneCommand : Prop :=
  ∀ s t : State, step s = .next t → t.pending = s.pending.tail

/-- Request records: what SC0 reads of a record's bytes is the record, with every field at every value; and of a write of
whole records to REQUEST_PORT it reads those records (02 R44, R53). -/
def RequestRecordsDecode : Prop :=
  (∀ (op : Nat) (x : Rec), 1 ≤ op → op ≤ 5 → x.wf op = true →
    recordOf (encodeRequest op x) = (op, x) ∧ recordSize (encodeRequest op x) = (encodeRequest op x).length)
  ∧ ∀ l : List (Nat × Rec), l ≠ [] → (∀ e ∈ l, 1 ≤ e.1 ∧ e.1 ≤ 5 ∧ e.2.wf e.1 = true) →
    splitRecords ((l.flatMap fun e => encodeRequest e.1 e.2).length + 1) (l.flatMap fun e => encodeRequest e.1 e.2)
      = some (l.map fun e => encodeRequest e.1 e.2)

/-- The command that a request record with this OPCODE is. -/
def taggedCmd (op : Nat) (p : Path) (x : Rec) : Option Instr :=
  match op with
  | 1 => some (.taggedRead p x)
  | 2 => some (.taggedWrite p x)
  | 3 => some (.domainRead p x)
  | 4 => some (.domainWrite p x)
  | 5 => some (.cancel p x)
  | _ => none

/-- The words of a record written to HPI_REQ one after the other, from an HPI that is ready with no record begun, do what
the record's command does: the block takes the record with its last word, and not before (02 R44, R55, R58). -/
def RecordWordsMakeTheCommand : Prop :=
  ∀ (op : Nat) (x : Rec) (c : Instr) (s : State), taggedCmd op .hpi x = some c → x.wf op = true → x.length.toNat ≤ 4096 →
    hpiBusy s = false → s.host.hpi.part = [] →
    (wordsOf (padRecord .hpi (encodeRequest op x))).foldl (fun s w => after (.hpiReqWrite w) s) s = after c s
    ∧ ∀ n < (wordsOf (padRecord .hpi (encodeRequest op x))).length,
      ((wordsOf (padRecord .hpi (encodeRequest op x))).take n).foldl (fun s w => after (.hpiReqWrite w) s) s
        = s.modHpi fun h => { h with part := (padRecord .hpi (encodeRequest op x)).take (2 * n) }

/-- A request whose path is not answered changes nothing; one whose write fails a check completes with the code of the first
check that fails, and nothing but the host paths differs (02 R698, R58). -/
def RefusedWriteChangesNothing : Prop :=
  ∀ (s : State) (r : Req) (key : Nat) (v : Int) (o : Own) (eff : State → State),
    (answers s r.path key 2 = false → request s r key 2 (fun s => writeEntry s r key v o eff) = s)
    ∧ ∀ c, Takes s r → writeCode s r key v o = some c →
        Answered r 2 key c [] (request s r key 2 fun s => writeEntry s r key v o eff)
        ∧ SameButHost s (request s r key 2 fun s => writeEntry s r key v o eff)

/-- The checks of a write in their order: existence, access, SAFE and LIMP states and process data, the chapter's state
checks, the qualifier still, the chapter's moving checks, the value's range, and consistency. -/
def ChecksComeInOrder : Prop :=
  ∀ (s : State) (r : Req) (key : Nat) (v : Int) (o : Own) (w : Row), rowOf (keyIndex key) (keySub key) = some w →
    (w.acc = .ro → writeCode s r key v o = some 0x06010002)
    ∧ (w.acc ≠ .ro → s.mode ≠ .run → safeWritable key v = false → writeCode s r key v o = some 0x08000022)
    ∧ (w.acc ≠ .ro → s.mode = .run → isProcessData r = false → pdOwned s key = true → writeCode s r key v o = some 0x0F000006)
    ∧ (w.acc ≠ .ro → s.mode = .run → pdOwned s key = false →
        (∀ c, o.state = some c → writeCode s r key v o = some c)
        ∧ (o.state = none → w.still = true → moving s = true → writeCode s r key v o = some 0x0F000001)
        ∧ (o.state = none → (w.still = false ∨ moving s = false) →
            (∀ c, o.move = some c → writeCode s r key v o = some c)
            ∧ (o.move = none → (∀ c, rangeCode w.rng v = some c → writeCode s r key v o = some c)
              ∧ (rangeCode w.rng v = none → writeCode s r key v o = o.set))))

/-- OBJECT_WRITE to a numeric entry without a command of its own: accepted, the entry (not one that each path has for
itself) holds the value and the request is answered with OK; what follows of the write leaves the entry alone. -/
def ObjectWriteStoresTheValue : Prop :=
  ∀ (s : State) (r : Req) (i : BitVec 16) (sub : BitVec 8) (data : List Byte) (w : Row) (key : Nat) (v : Int),
    key = i.toNat * 256 + sub.toNat → rowOf i.toNat sub.toNat = some w → v = valueOf w.ty data →
    ¬(0x5800 ≤ i.toNat ∧ i.toNat < 0x6000) → ¬(0x2800 ≤ i.toNat ∧ i.toNat < 0x2802) →
    w.acc ≠ .ro → w.ty.numeric = true → lengthOk w data.length = true → numberRow r key v = none →
    pathEntry {} key = none → key ≠ K.cellExpected → Passes s r key v (ownOf s key v) →
    ∃ t, exec (.objectWrite r i sub data) s = .next t ∧ t.reg key = v ∧ Answered r 2 key 0 [] t
      ∧ t.flash = s.flash ∧ t.mem = s.mem ∧ t.cip = s.cip ∧ t.life = s.life ∧ t.pending = s.pending

/-- ERROR_RESET clears the error register and sends 0x0000 on every host path (02 R697). -/
def ErrorResetClearsTheRegister : Prop :=
  ∀ (s : State) (r : Req), Passes s r K.tagErrorReset 1 {} →
    ∃ t, exec (.errorReset r) s = .next t ∧ t.reg K.errRegErrorRegister = 0 ∧ Answered r 2 K.tagErrorReset 0 [] t
      ∧ OnlyRegs [K.errRegErrorRegister, K.tagEmcyOverflow] s t
      ∧ ∀ p, p ≠ .test → .emcy 0 0 0xFF 0 ∈ (t.path p).outq

/-- Every emergency sets bit 0 of the error register and its own bit, leaves the other bits, and sends on every host path a
record that carries the register as it then stands (02 R75, R697). -/
def EmergencySetsItsBits : Prop :=
  ∀ (s : State) (code bit unit detail : Nat),
    (∀ i, ((emcy s code bit unit detail).regBit K.errRegErrorRegister i
        = (i == 0 || i == bit || s.regBit K.errRegErrorRegister i)))
    ∧ (∀ p, p ≠ .test → (((emcy s code bit unit detail).path p).outq.getLast?
        = some (.emcy code ((emcy s code bit unit detail).regN K.errRegErrorRegister) unit (detail % 2 ^ 32))))
    ∧ OnlyRegs [K.errRegErrorRegister, K.tagEmcyOverflow] s (emcy s code bit unit detail)

/-- An emergency has been raised: it stands last in the output queue of every host path, with the error register as it then reads. -/
abbrev Raised (t : State) (code unit detail : Nat) : Prop :=
  ∀ p, p ≠ .test → (t.path p).outq.getLast? = some (.emcy code (t.regN K.errRegErrorRegister) unit (detail % 2 ^ 32))

/-- The flight of a record, before it starts. -/
def flightOf (op : Nat) (x : Rec) : Flight :=
  ⟨x.tag, op, x.index.toNat, x.sub.toNat, x.flags.toNat % 2 == 1, false, x.offset.toNat, x.length.toNat, x.payload⟩

/-- A record is taken and starts at once: SC0 serves, the path is no test port (which takes no records), the record is good, its tag is free, nothing on its path holds it back,
and no lower power state is being entered (02 R47, R49; 16 R576). -/
abbrev StartsAtOnce (s : State) (p : Path) (op : Nat) (x : Rec) : Prop :=
  s.host.hpi.served = true ∧ p ≠ .test ∧ recordOk' op x = true ∧ (s.path p).flights.any (isTag x.tag) = false
  ∧ mustWait (s.path p).flights (flightOf op x) = false ∧ s.reg K.powerState ≠ 1

/-- The completion of a record stands at the end of its path's queue. -/
abbrev Completed (t : State) (p : Path) (op : Nat) (x : Rec) (abort : Nat) (data : List Byte) : Prop :=
  (t.path p).outq.getLast? = some (.cpl x.tag (statusOf abort) x.index.toNat x.sub.toNat op abort data)

/-- READ and DOMAIN_READ records complete with the value: a READ with the whole entry, a DOMAIN_READ with the bytes from
OFFSET, as many as LENGTH asks or 4,096 hold; the record of a READ without a command of its own. -/
def ReadRecordsReturnTheValue : Prop :=
  (∀ (s : State) (p : Path) (x : Rec) (w : Row) (key : Nat), key = x.index.toNat * 256 + x.sub.toNat →
    StartsAtOnce s p 1 x → ¬(0x5800 ≤ x.index.toNat ∧ x.index.toNat < 0x6000) →
    rowOf x.index.toNat x.sub.toNat = some w → w.acc ≠ .wo → w.ty ≠ .dom → readRow ⟨p, .tag x.tag⟩ key 1 0 x.length.toNat = none →
    readCode s p key = none →
    let v := (readValue (register s ⟨p, .tag x.tag⟩ key 1) p key w).1
    (x.length = 0 ∨ x.length.toNat = v.length) →
    ∃ t, exec (.taggedRead p x) s = .next t ∧ Completed t p 1 x 0 v ∧ t.pending = s.pending ∧ t.regs = s.regs)
  ∧ ∀ (s : State) (p : Path) (x : Rec) (w : Row) (key : Nat), key = x.index.toNat * 256 + x.sub.toNat →
    StartsAtOnce s p 3 x → ¬(0x5800 ≤ x.index.toNat ∧ x.index.toNat < 0x6000) →
    rowOf x.index.toNat x.sub.toNat = some w → w.acc ≠ .wo → w.ty = .dom →
    readRow ⟨p, .tag x.tag⟩ key 3 x.offset.toNat x.length.toNat = none → readCode s p key = none →
    let v := (readValue (register s ⟨p, .tag x.tag⟩ key 3) p key w).1
    ∃ t, exec (.domainRead p x) s = .next t
      ∧ Completed t p 3 x 0 ((v.drop x.offset.toNat).take (if x.length = 0 then 4096 else x.length.toNat))
      ∧ t.pending = s.pending ∧ t.regs = s.regs

/-- WRITE and DOMAIN_WRITE records: a WRITE stores the value of a numeric entry without a command of its own, a DOMAIN_WRITE
puts its bytes at OFFSET into USER_BBRAM, and both complete with OK. -/
def WriteRecordsStoreTheValue : Prop :=
  (∀ (s : State) (p : Path) (x : Rec) (w : Row) (key : Nat) (v : Int), key = x.index.toNat * 256 + x.sub.toNat →
    StartsAtOnce s p 2 x → rowOf x.index.toNat x.sub.toNat = some w → v = valueOf w.ty x.payload →
    ¬(0x5800 ≤ x.index.toNat ∧ x.index.toNat < 0x6000) → ¬(0x2800 ≤ x.index.toNat ∧ x.index.toNat < 0x2802) →
    w.acc ≠ .ro → w.ty.numeric = true → lengthOk w x.payload.length = true → numberRow ⟨p, .tag x.tag⟩ key v = none →
    pathEntry {} key = none → key ≠ K.cellExpected → writeCode s ⟨p, .tag x.tag⟩ key v (ownOf s key v) = none →
    ∃ t, exec (.taggedWrite p x) s = .next t ∧ t.reg key = v ∧ Completed t p 2 x 0 [] ∧ t.pending = s.pending)
  ∧ ∀ (s : State) (p : Path) (x : Rec), x.index.toNat * 256 + x.sub.toNat = K.batUserBbram → StartsAtOnce s p 4 x →
    0 < x.payload.length → x.offset.toNat + x.payload.length ≤ 1024 → bytesCode s ⟨p, .tag x.tag⟩ K.batUserBbram {} = none →
    ∃ t, exec (.domainWrite p x) s = .next t ∧ Completed t p 4 x 0 [] ∧ t.regs = s.regs ∧ t.pending = s.pending
      ∧ t.blob K.batUserBbram = overwrite ((s.blob K.batUserBbram ++ zeros 1024).take 1024) x.offset.toNat x.payload

/-- CANCEL: a target that has not started completes with CANCELLED, one that has started runs on, and the CANCEL itself
completes with OK and 0, 1, or, where no request with that tag is in flight, 2. -/
def CancelAnswersWhatItFound : Prop :=
  ∀ (s : State) (p : Path) (x : Rec), StartsAtOnce s p 5 x →
    ∃ t, exec (.cancel p x) s = .next t ∧ t.regs = s.regs ∧ t.pending = s.pending ∧
      match (s.path p).flights.find? (isTag (x.offset.toNat % 256)) with
      | none => Completed t p 5 x 0 (leBytes 1 2) ∧ (t.path p).flights = (s.path p).flights
      | some f =>
        if f.started then Completed t p 5 x 0 (leBytes 1 1) ∧ (t.path p).flights = (s.path p).flights
        else Completed t p 5 x 0 (leBytes 1 0)
          ∧ .cpl (x.offset.toNat % 256) 0x06 f.index f.sub f.opcode 0x0F000007 [] ∈ (t.path p).outq
          ∧ (t.path p).flights = (s.path p).flights.filter fun f => !isTag (x.offset.toNat % 256) f

/-- The HPI's control bits, its time limit and its attention pulse: each changes what it names and nothing else (02 R57, R59,
R62). -/
def HpiControlBitsAct : Prop :=
  (∀ s : State, ∃ t, exec .clrResetSeen s = .next t ∧ t.host.hpi.resetSeen = false
      ∧ t = s.modHpi fun h => { h with resetSeen := t.host.hpi.resetSeen })
  ∧ (∀ s : State, ∃ t, exec .clrProtoErr s = .next t ∧ t.host.hpi.protoErr = false
      ∧ t = s.modHpi fun h => { h with protoErr := t.host.hpi.protoErr })
  ∧ (∀ (s : State) (on : Bool), ∃ t, exec (.attnEnWrite on) s = .next t ∧ t.host.hpi.attnEn = on
      ∧ t = s.modHpi fun h => { h with attnEn := t.host.hpi.attnEn })
  ∧ (∀ s : State, s.host.hpi.attnDue = true → hpiBusy s = false → ∃ t, exec .hpiAttentionPulse s = .next t
      ∧ t.host.hpi.attnDue = false ∧ t.host.hpi.attnSent = true
      ∧ t = s.modHpi fun h => { h with attnDue := t.host.hpi.attnDue, attnSent := t.host.hpi.attnSent })

/-- A request record left incomplete for 10 ms is discarded with PROTO_ERR set; ABORT_RECORD discards it at once (02 R59).
Nothing else changes. -/
def IncompleteRecordsAreDiscarded : Prop :=
  (∀ s : State, s.host.hpi.part ≠ [] → ∃ t, exec .hpiRecordTimeout s = .next t
      ∧ t.host.hpi.part = [] ∧ t.host.hpi.protoErr = true
      ∧ t = s.modHpi fun h => { h with part := t.host.hpi.part, protoErr := t.host.hpi.protoErr })
  ∧ ∀ s : State, ∃ t, exec .abortRecord s = .next t ∧ t.host.hpi.part = []
      ∧ t = s.modHpi fun h => { h with part := t.host.hpi.part }

/-- While HPI_RB is busy a word to HPI_REQ is ignored and a read of HPI_CPL gives 0xFFFF; both set PROTO_ERR (02 R58). While
it is ready a word joins the record, the words of a record come out in order, a new record comes out of the queue whole, and
an empty queue reads 0xFFFF (02 R55). -/
def HpiWordsComeAndGo : Prop :=
  (∀ (s : State) (w : BitVec 16), hpiBusy s = true → ∃ t, exec (.hpiReqWrite w) s = .next t
      ∧ t = s.modHpi fun h => { h with protoErr := true })
  ∧ (∀ (s : State) (w : BitVec 16), hpiBusy s = false → s.host.hpi.part.length < 6 → ∃ t, exec (.hpiReqWrite w) s = .next t
      ∧ t.host.hpi.part = s.host.hpi.part ++ leBytes 2 w.toNat ∧ t = s.modHpi fun h => { h with part := t.host.hpi.part })
  ∧ (∀ s : State, hpiBusy s = true → ∃ t, exec .hpiCplRead s = .next t
      ∧ t = s.modHpi fun h => { h with protoErr := true, lastRead := 0xFFFF })
  ∧ (∀ (s : State) (w : BitVec 16) (ws : List (BitVec 16)), hpiBusy s = false → s.host.hpi.cplWords = w :: ws →
      ∃ t, exec .hpiCplRead s = .next t ∧ t.host.hpi.lastRead = w ∧ t.host.hpi.cplWords = ws ∧ SameButHost s t
        ∧ t.path .hpi = s.path .hpi)
  ∧ (∀ (s : State) (x : OutRec) (q : List OutRec) (w : BitVec 16) (ws : List (BitVec 16)), hpiBusy s = false →
      s.host.hpi.cplWords = [] → (s.path .hpi).outq = x :: q → wordsOf (padRecord .hpi (encodeOut x)) = w :: ws →
      ∃ t, exec .hpiCplRead s = .next t ∧ t.host.hpi.lastRead = w ∧ t.host.hpi.cplWords = ws
        ∧ (t.path .hpi).outq = q ∧ SameButHost s t)
  ∧ ∀ s : State, hpiBusy s = false → s.host.hpi.cplWords = [] → (s.path .hpi).outq = [] →
      ∃ t, exec .hpiCplRead s = .next t ∧ t.host.hpi.lastRead = 0xFFFF ∧ t = s.modHpi fun h => { h with lastRead := 0xFFFF }

/-- COMPLETION_PORT gives as many whole records as fit in 4,096 bytes and takes them from the queue, the first first; a
record that does not fit stays whole (02 R53). The completion of a read that came as a tag joins the queue behind the rest. -/
def CompletionPortGivesWholeRecords : Prop :=
  ∀ (s : State) (r : Req), Takes s r →
    ∃ t n q, exec (.completionPortRead r) s = .next t ∧ n ≤ (s.path r.path).outq.length
      ∧ (t.path r.path).outq = (s.path r.path).outq.drop n ++ q ∧ q.length ≤ 1 ∧ (r.org = .sdo → q = [])
      ∧ Answered r 3 K.cplPortCompletionPort 0 (((s.path r.path).outq.take n).map fun x => padRecord r.path (encodeOut x)).flatten t
      ∧ (((s.path r.path).outq.take n).map fun x => padRecord r.path (encodeOut x)).flatten.length ≤ 4096
      ∧ (n < (s.path r.path).outq.length →
          4096 < (((s.path r.path).outq.take (n + 1)).map fun x => padRecord r.path (encodeOut x)).flatten.length)
      ∧ SameButHost s t

/-- STORE PARAMETERS: the request waits for its store. Its snapshot holds exactly the stored entries of the ranges that have
another value than their default, with the filters in use (05 R193), and of SSI ports POS_ORIGIN also where it is 0 (03 R138);
marks of those ranges are cleared, and no value in use changes (02 R39, R41). -/
def StoreTakesASnapshot : Prop :=
  ∀ (s : State) (r : Req) (which : Fin 4), Passes s r (K.storeAll + which) 0x65766173 {} →
    ∃ t job, exec (.storeParameters r which) s = .next t ∧ t.host.store.jobs = s.host.store.jobs ++ [job]
      ∧ Waits t (.store job.id) r ∧ job.ranges = rangesOf which ∧ t.regs = s.regs
      ∧ t.host.store.marks = clearMask s.host.store.marks (rangesOf which)
      ∧ (∀ k v, (k, v) ∈ job.entries ↔
          ((k, v) ∈ s.regs ∧ (isStored k = true ∨ isFilterEnable k = true) ∧ inRanges (rangesOf which) k = true)
          ∨ (rangesOf which &&& 2 ≠ 0 ∧ v = 0 ∧ ∃ n < 48, k = K.refPosOrigin n ∧ s.reg (K.fbMode n) = 4 ∧ s.reg k = 0))
      ∧ t.host.store.copyA = s.host.store.copyA ∧ t.host.store.copyB = s.host.store.copyB

/-- RESTORE DEFAULT PARAMETERS marks its ranges for the next reset and changes no value in use (02 R41). -/
def RestoreOnlyMarks : Prop :=
  ∀ (s : State) (r : Req) (which : Fin 4), Passes s r (K.restoreAll + which) 0x64616F6C {} →
    ∃ t, exec (.restoreDefaults r which) s = .next t ∧ t.host.store.marks = s.host.store.marks ||| rangesOf which
      ∧ Answered r 2 (K.restoreAll + which) 0 [] t ∧ SameButHost s t
      ∧ t.host.store.copyA = s.host.store.copyA ∧ t.host.store.copyB = s.host.store.copyB
      ∧ t.host.store.jobs = s.host.store.jobs

/-- What a store leaves in its copy: the snapshot, and outside its ranges what the newest copy that verifies held. -/
abbrev StoredCopy (s : State) (j : StoreJob) (c : StoreCopy) : Prop :=
  c.good = true ∧ ∀ k v, (k, v) ∈ c.entries ↔
    (k, v) ∈ j.entries ∨ (inRanges j.ranges k = false ∧ ∃ n, newestCopy s = some n ∧ (k, v) ∈ n.entries)

/-- STORE_VERIFIED: the older copy, or one that does not verify, is replaced by one that verifies and is newer than the one
that stays; it holds the snapshot. The requests of that store complete; the other copy is left alone, so that a loss of power
has a copy to go back to (02 R40). With no store running, or no power, nothing changes. -/
def StoreReplacesTheOlderCopy : Prop :=
  (∀ (s : State) (j : StoreJob) (js : List StoreJob), s.host.store.jobs = j :: js → s.power.down = false → s.power.low = 0 →
    ∃ t, exec .storeVerified s = .next t ∧ t.host.store.jobs = js ∧ t.regs = s.regs
      ∧ awaited t (.store j.id) = false
      ∧ (s.host.store.copyA.good = true ∧ (s.host.store.copyB.good = false ∨ s.host.store.copyB.seq < s.host.store.copyA.seq) →
          t.host.store.copyA = s.host.store.copyA ∧ t.host.store.copyB.seq = s.host.store.copyA.seq + 1
            ∧ StoredCopy s j t.host.store.copyB)
      ∧ (¬(s.host.store.copyA.good = true ∧ (s.host.store.copyB.good = false ∨ s.host.store.copyB.seq < s.host.store.copyA.seq)) →
          t.host.store.copyB = s.host.store.copyB ∧ t.host.store.copyA.seq = s.host.store.copyB.seq + 1
            ∧ StoredCopy s j t.host.store.copyA))
  ∧ ∀ s : State, s.host.store.jobs = [] ∨ s.power.down = true ∨ s.power.low ≠ 0 → exec .storeVerified s = .next s

/-- The functions with an enable entry of their own rule: all but groups and axes, whose commands are their own, and CK0 and
CK1, which are the device's (13 R490). -/
abbrev PlainFunc (f : Func) : Prop :=
  f = .user ∨ f = .mirror ∨ f = .reel ∨ f = .link ∨ (∃ g, f = .dma g) ∨ (∃ p, f = .port p) ∨ (∃ q, f = .queue q)
    ∨ ∃ k : Fin 8, 2 ≤ k.val ∧ f = .check k

/-- What the chapters ask of an enable beyond the rule of 02 R79: queue DMA of a group that drains or has no bytes to fetch (06
R233), a port of a region that is not loaded (08 R323), a reel without its memory (11 R446; 12 R483). -/
abbrev MayEnable (s : State) (f : Func) : Prop :=
  match f with
  | .dma g => s.reg (K.grpGroupEnable g) < 3 ∧ s.regN (K.dmaBytes g) ≠ 0
  | .port p => regionLoaded s (hostRegion p) = true
  | .reel => reelBad s = false
  | _ => True

/-- The mirror finds nothing to do at once: it is at work already, or the log has no record for it. -/
abbrev MirrorQuiet (s : State) : Prop :=
  s.cip.cmds.any isMirror = true
    ∨ (s.isl.log.find? fun x => x.seq == max (s.regN K.mirrorSeq + 1) (s.regN K.logOldestSeq)) = none

/-- The enable entries of 02 R79 to R82 behind FUNCTION_ENABLE and the two disables. A write of 1 enables a function that is
off, and changes nothing of one that is on; while it drains or aborts it ends with 0x08000022. A disable of a function that
reads 0 completes at once with OK and changes nothing; of one that is on, draining or aborting it leaves the function off,
draining or aborting, and the request waits unless the function is off; the abort form never leaves a drain, and a drain never
takes an abort back. For groups and axes the three commands are those of their own chapters. -/
def EnableEntriesFollowOneRule : Prop :=
  (∀ (s : State) (r : Req) (f : Func), PlainFunc f → Passes s r (enableKey f) 1 {} → s.reg (enableKey f) = 0 → MayEnable s f →
    ∃ t, exec (.functionEnable r f) s = .next t ∧ t.reg (enableKey f) = 1
      ∧ (f ≠ .mirror ∨ MirrorQuiet s → Answered r 2 (enableKey f) 0 [] t))
  ∧ (∀ (s : State) (r : Req) (f : Func), PlainFunc f → Passes s r (enableKey f) 1 {} → s.reg (enableKey f) = 1 → MayEnable s f →
    ∃ t, exec (.functionEnable r f) s = .next t ∧ t.reg (enableKey f) = 1 ∧ Answered r 2 (enableKey f) 0 [] t
      ∧ OnlyRegs [enableKey f] s t)
  ∧ (∀ (s : State) (r : Req) (f : Func), PlainFunc f → f ≠ .link → Takes s r →
      writeCode s r (enableKey f) 1 { state := some 0x08000022 } = some 0x08000022 → 3 ≤ s.reg (enableKey f) →
      ∃ t, exec (.functionEnable r f) s = .next t ∧ Answered r 2 (enableKey f) 0x08000022 [] t ∧ SameButHost s t)
  ∧ (∀ (s : State) (r : Req) (f : Func), PlainFunc f → s.reg (enableKey f) = 0 →
      (Passes s r (enableKey f) 0 {} →
        ∃ t, exec (.functionDisableDrain r f) s = .next t ∧ Answered r 2 (enableKey f) 0 [] t ∧ SameButHost s t)
      ∧ (Passes s r (enableKey f) 2 {} →
        ∃ t, exec (.functionDisableAbort r f) s = .next t ∧ Answered r 2 (enableKey f) 0 [] t ∧ SameButHost s t))
  ∧ (∀ (s : State) (r : Req) (f : Func), PlainFunc f →
      s.reg (enableKey f) = 1 ∨ s.reg (enableKey f) = 3 ∨ (s.reg (enableKey f) = 4 ∧ ∀ g, f ≠ .dma g) →
      (Passes s r (enableKey f) 0 {} →
        ∃ t, exec (.functionDisableDrain r f) s = .next t
          ∧ (t.reg (enableKey f) = 0 ∨ t.reg (enableKey f) = 3 ∨ t.reg (enableKey f) = 4)
          ∧ (t.reg (enableKey f) ≠ 0 → Waits t (.disable f) r) ∧ (s.reg (enableKey f) = 4 → t.reg (enableKey f) ≠ 3))
      ∧ (Passes s r (enableKey f) 2 {} →
        ∃ t, exec (.functionDisableAbort r f) s = .next t ∧ (t.reg (enableKey f) = 0 ∨ t.reg (enableKey f) = 4)
          ∧ (t.reg (enableKey f) ≠ 0 → Waits t (.disable f) r)))
  ∧ (∀ (s : State) (r : Req) (k : Fin 8), 2 ≤ k.val → s.reg (K.ckEnable k) = 1 → s.reg (K.ckState k) = 1 →
      (Passes s r (K.ckEnable k) 0 {} →
        ∃ t, exec (.functionDisableDrain r (.check k)) s = .next t ∧ t.reg (K.ckEnable k) = 3 ∧ Waits t (.disable (.check k)) r
          ∧ OnlyRegs [K.ckEnable k] s t)
      ∧ (Passes s r (K.ckEnable k) 2 {} →
        ∃ t, exec (.functionDisableAbort r (.check k)) s = .next t ∧ t.reg (K.ckEnable k) = 4 ∧ Waits t (.disable (.check k)) r
          ∧ OnlyRegs [K.ckEnable k] s t))
  ∧ (∀ (s : State) (r : Req) (g : Group), exec (.functionEnable r (.group g)) s = exec (.groupEnable r g) s
      ∧ exec (.functionDisableDrain r (.group g)) s = exec (.groupDisableDrain r g) s
      ∧ exec (.functionDisableAbort r (.group g)) s = exec (.groupDisableAbort r g) s)
  ∧ ∀ (s : State) (r : Req) (n : Axis), exec (.functionEnable r (.axis n)) s = exec (.axisEnable r n) s
      ∧ exec (.functionDisableDrain r (.axis n)) s = exec (.axisDisableDrain r n) s
      ∧ exec (.functionDisableAbort r (.axis n)) s = exec (.axisDisableAbort r n) s

/-- DISABLE_COMPLETE: once the function reads 0 no disable request waits for it any more; each is answered with OK (02 R81,
R82). A function that needs no settling is left alone but for that. -/
def DisablesCompleteAtZero : Prop :=
  (∀ (s : State) (f : Func), (∃ g, f = .group g) ∨ (∃ n, f = .axis n) ∨ (∃ g, f = .dma g) ∨ f = .reel ∨ (∃ k, f = .check k) ∨ f = .link →
    s.reg (enableKey f) = 0 → ∃ t, exec (.disableComplete f) s = .next t ∧ awaited t (.disable f) = false ∧ SameButHost s t
      ∧ t = completeAll s (.disable f) 0 [])
  ∧ ∀ (s : State) (f : Func), ∃ t, exec (.disableComplete f) s = .next t ∧ (t.reg (enableKey f) = 0 → awaited t (.disable f) = false)

/-- ATTEST_CHALLENGE: the write waits for the signature, and the path's former response is gone. ATTEST_RESPONSE_READY: the
counter advances by one, the request completes, and the response is the challenge as written, the UID, the lifecycle state,
three zeros, the counter, and the ECDSA P-384 signature of these bytes under the attestation key, made with some random number
(02 R85, R86); without a key, or a request that waits, nothing changes. -/
def AttestationAnswersTheChallenge : Prop :=
  (∀ (s : State) (r : Req) (data : List Byte),
    BytesPass s r K.attestChallenge data { state := whenCode (!attestKey s) 0x0F000008 } →
    ∃ t, exec (.attestChallenge r data) s = .next t ∧ (t.path r.path).challenge = data ∧ (t.path r.path).response = []
      ∧ Waits t (.attest r.path) r ∧ SameButHost s t ∧ t.host.attCounter = s.host.attCounter)
  ∧ (∀ (s : State) (p : Path) (i : Nat), awaited s (.attest p) = true → s.life.attest = some i →
    ∃ t body k, exec (.attestResponseReady p) s = .next t ∧ t.host.attCounter = (s.host.attCounter + 1) % 2 ^ 32
      ∧ awaited t (.attest p) = false ∧ t.regs = s.regs ∧ t.life = s.life ∧ t.pending = s.pending
      ∧ body = (s.path p).challenge ++ unitUid s ++ leBytes 1 (lifeState s) ++ zeros 3
          ++ leBytes 4 ((s.host.attCounter + 1) % 2 ^ 32)
      ∧ 1 ≤ k ∧ k < p384N ∧ (t.path p).response = body ++ signWith (attestScalar i) k body)
  ∧ ∀ (s : State) (p : Path), awaited s (.attest p) = false ∨ s.life.attest = none → exec (.attestResponseReady p) s = .next s

/-- The field network: a state request one step up, or to any state below, is carried out; one that skips a state is refused
(AL status 0x0011, presumed), as is SAFE-OP with a SYNC0 cycle that is not the tick period (0x0035; 02 R65, R69). In SAFE and
LIMP states, and while SC0 does not serve, nothing changes. Nothing but the field network's own state ever differs. -/
def FieldNetworkStatesFollowRequests : Prop :=
  ∀ (s : State) (goal : AlState) (sync : FnSync),
    ∃ t, exec (.escStateChange goal sync) s = .next t ∧ t = s.modFn (fun _ => t.host.fn)
      ∧ (s.mode = .run → s.host.hpi.served = true → alRank goal ≤ alRank s.host.fn.al + 1 →
          (goal = .safeOp → alRank s.host.fn.al ≠ 2 → cycleBad s sync = false) →
          t.host.fn.al = goal ∧ t.host.fn.alStatus = 0 ∧ (goal = .safeOp → t.host.fn.sync = sync))
      ∧ (s.mode = .run → s.host.hpi.served = true → alRank s.host.fn.al + 1 < alRank goal →
          t.host.fn.al = s.host.fn.al ∧ t.host.fn.alStatus = 0x0011)
      ∧ (s.mode = .run → s.host.hpi.served = true → goal = .safeOp → 1 ≤ alRank s.host.fn.al → alRank s.host.fn.al ≠ 2 →
          cycleBad s sync = true →
          t.host.fn.al = s.host.fn.al ∧ t.host.fn.alStatus = 0x0035)
      ∧ ((s.mode ≠ .run ∨ s.host.hpi.served = false) → t = s)

/-- Process data: in OP a frame of the mapped length writes its parts in the order of the mapping and is counted as come;
anything else changes nothing. TXPDO_FREEZE in SAFE-OP and OP takes the image of the mapped entries; nothing but that image
differs. PROCESS_DATA_LOSS after two ticks without a frame is told once, with 0xFF24 on every host path,
and changes nothing else where no axis follows process data (02 R66 to R70; 07 R296). -/
def ProcessDataMovesWithTheTick : Prop :=
  (∀ (s : State) (image : List Byte), s.host.fn.al = .op → 8 * image.length = ((mapWords s 0x1C12 0x1600).map (· % 256)).sum →
    ∃ t, exec (.processDataFrame image) s = .next t ∧ t.host.fn.fresh = true ∧ t.host.fn.lost = false
      ∧ t = ((imageParts (mapWords s 0x1C12 0x1600) image).foldl (fun s x => pdWrite s x.1 (partValue x)) s).modFn
          fun f => { f with fresh := true, lost := false })
  ∧ (∀ (s : State) (image : List Byte), (s.host.fn.al ≠ .op ∨ 8 * image.length ≠ ((mapWords s 0x1C12 0x1600).map (· % 256)).sum) →
    ∃ t, exec (.processDataFrame image) s = .next t ∧ t = s)
  ∧ (∀ s : State, (s.host.fn.al = .safeOp ∨ s.host.fn.al = .op) → ∃ t, exec .txpdoFreeze s = .next t
      ∧ t.host.fn.txImage = (mapWords s 0x1C13 0x1A00).flatMap (mappedBytes s)
      ∧ t = s.modFn fun f => { f with txImage := t.host.fn.txImage })
  ∧ (∀ s : State, s.host.fn.al = .op → 2 ≤ s.host.fn.missed → s.host.fn.lost = false →
    (∀ n < 48, s.reg (K.axSource n) ≠ 2) →
    ∃ t, exec .processDataLoss s = .next t ∧ t.host.fn.lost = true ∧ OnlyRegs [K.errRegErrorRegister, K.tagEmcyOverflow] s t
      ∧ t.regBit K.errRegErrorRegister 4 = true
      ∧ ∀ p, p ≠ .test → (t.path p).outq.getLast? = some (.emcy 0xFF24 (t.regN K.errRegErrorRegister) 0xFF 0))
  ∧ (∀ s : State, s.host.fn.al = .op → 2 ≤ s.host.fn.missed → s.host.fn.lost = false →
    ∃ t, exec .processDataLoss s = .next t ∧ t.host.fn.lost = true ∧ t.regBit K.errRegErrorRegister 4 = true)
  ∧ ∀ s : State, (s.host.fn.al ≠ .op ∨ s.host.fn.missed < 2 ∨ s.host.fn.lost = true) → exec .processDataLoss s = .next s

/-- The bytes of one CAN FD frame: 64, and 8 in LIMP state, where the controllers run classic frames (02 R73; 16 R584). -/
abbrev frameRoom (s : State) : Nat := if s.mode = .limp then 8 else 64

/-- CANopen: NMT commands set the node's state, resets take up the node ID of the dictionary; SYNC sends the mapped PDOs of an
operational node that fit in a frame; heartbeats are sent and their loss and the controller's errors told; a node that is down takes nothing (02
R71 to R76). -/
def CanNodesFollowNmt : Prop :=
  (∀ (s : State) (c : Fin 2) (cmd : NmtCmd), (s.can c).nmt ≠ 0 → ∃ t, exec (.nmtCommand c cmd) s = .next t
      ∧ (t.can c).nmt = (match cmd with | .start => 5 | .stop => 4 | .preOp => 127 | .resetNode => 127 | .resetComm => 127)
      ∧ (t.can c).nodeId = (match cmd with
          | .start => (s.can c).nodeId | .stop => (s.can c).nodeId | .preOp => (s.can c).nodeId
          | .resetNode => nodeIdOf s c | .resetComm => nodeIdOf s c)
      ∧ (∀ d, d ≠ c → t.can d = s.can d) ∧ SameButHost s t)
  ∧ (∀ (s : State) (c : Fin 2), (s.can c).nmt = 5 → s.host.hpi.served = true → ∃ t, exec (.canSync c) s = .next t
      ∧ (t.can c).syncs = (s.can c).syncs + 1 ∧ SameButHost s t
      ∧ (t.can c).tpdo = ((List.range 8).filter fun k => decide (pdoWords s (0x1A00 + k) ≠ []
            ∧ ((pdoWords s (0x1A00 + k)).map (· % 256)).sum ≤ 8 * frameRoom s)).map fun k =>
          (pdoWords s (0x1A00 + k)).flatMap (mappedBytes s))
  ∧ (∀ (s : State) (c : Fin 2) (k : Fin 8) (data : List Byte), (s.can c).nmt = 5 → pdoWords s (0x1600 + k) ≠ [] →
      s.host.hpi.served = true → data.length ≤ frameRoom s → 8 * data.length = ((pdoWords s (0x1600 + k)).map (· % 256)).sum →
      ∃ t, exec (.canRpdo c k data) s = .next t ∧ t = (imageParts (pdoWords s (0x1600 + k)) data).foldl
        (fun s x => writeCmd thePorts ⟨canPath c, .pdo⟩ x.1 x.2 0 s) s)
  ∧ (∀ (s : State) (c : Fin 2) (k : Fin 8) (data : List Byte), (s.can c).nmt = 5 → pdoWords s (0x1600 + k) ≠ [] →
      s.host.hpi.served = true → data.length ≤ frameRoom s → 8 * data.length ≠ ((pdoWords s (0x1600 + k)).map (· % 256)).sum →
      ∃ t, exec (.canRpdo c k data) s = .next t ∧ t = emcy s 0x8210 4 0xFF 0)
  ∧ (∀ (s : State) (c : Fin 2), (s.can c).nmt ≠ 0 → ∃ t, exec (.heartbeatTimeout c) s = .next t ∧ t = emcy s 0x8130 4 0xFF 0)
  ∧ (∀ (s : State) (c : Fin 2) (e : CanEvent), (s.can c).nmt ≠ 0 → ∃ t, exec (.canErrorStateChange c e) s = .next t
      ∧ t = emcy s (match e with | .overrun => 0x8110 | .passive => 0x8120 | .busOffRecovered => 0x8140) 4 0xFF 0)
  ∧ (∀ (s : State) (c : Fin 2), (s.can c).nmt ≠ 0 → ∃ t, exec (.heartbeatProducer c) s = .next t
      ∧ t = s.modCan c fun x => { x with heartbeats := x.heartbeats + 1 })
  ∧ (∀ (s : State) (c : Fin 2), (s.can c).nmt = 0 → (∀ cmd, exec (.nmtCommand c cmd) s = .next s)
      ∧ exec (.heartbeatTimeout c) s = .next s ∧ exec (.heartbeatProducer c) s = .next s
      ∧ ∀ e, exec (.canErrorStateChange c e) s = .next s)
  ∧ ∀ (s : State) (c : Fin 2), ((s.can c).nmt ≠ 5 ∨ s.host.hpi.served = false) → exec (.canSync c) s = .next s
      ∧ ∀ k data, exec (.canRpdo c k data) s = .next s

/-- SDO and CoE transfers: a start opens a transfer, each segment must carry the toggle bit and goes to its end, an unknown
specifier and a segment without a transfer end with 0x05040001, a wrong toggle bit with 0x05030000, a transfer left unfinished
with 0x05040000; the last download segment writes the entry, an upload gives its bytes in order. The bytes of a segment stream
beyond 4,096 go to the queue as they come. Complete access and SDO information are CoE's alone; what no SDO frame of CAN can
carry, and a path that does not serve, change nothing (02 R65, R73, R77; 06 R262). -/
def SdoTransfersKeepTheirToggle : Prop :=
  (∀ (s : State) (p : Path) (i : BitVec 16) (sub : BitVec 8) (d : List Byte), sdoServes s p = true →
    (p = .can0 ∨ p = .can1 → d.length ≤ 4) →
    ∃ t, exec (.sdoDownload p (.whole i sub d)) s = .next t
      ∧ t = writeCmd thePorts ⟨p, .sdo⟩ (sdoKey i sub) d 0 (setResp (setXfer s p none) p none))
  ∧ (∀ (s : State) (p : Path) (i : BitVec 16) (sub : BitVec 8), sdoServes s p = true →
    ∃ t, exec (.sdoDownload p (.start i sub)) s = .next t
      ∧ (t.path p).xfer = some ⟨true, i.toNat, sub.toNat, false, [], false⟩ ∧ SameButHost s t)
  ∧ (∀ (s : State) (p : Path) (x : SdoXfer) (last : Bool) (d : List Byte), sdoServes s p = true → (s.path p).xfer = some x →
      x.down = true → (p = .can0 ∨ p = .can1 → d.length ≤ 7) →
      ∃ t, exec (.sdoDownload p (.segment x.toggle last d)) s = .next t
        ∧ (last = false → ¬(x.index / 8 = 0x3100 / 8 ∧ x.sub = 0 ∧ (x.long = true ∨ 4096 < (x.buf ++ d).length)) →
            (t.path p).xfer = some { x with toggle := !x.toggle, buf := x.buf ++ d, long := false } ∧ SameButHost s t)
        ∧ (last = false → x.index / 8 = 0x3100 / 8 ∧ x.sub = 0 ∧ (x.long = true ∨ 4096 < (x.buf ++ d).length) →
            match segmentArrive ⟨p, .sdo⟩ (x.index % 8) (x.buf ++ d) s with
            | (u, rest, none) => t = setXfer u p (some { x with toggle := !x.toggle, buf := rest, long := true })
            | (u, _, some c) => t = sdoAbort u p c)
        ∧ (last = true → x.long = false →
            t = writeCmd thePorts ⟨p, .sdo⟩ (x.index * 256 + x.sub) (x.buf ++ d) 0 (setResp (setXfer s p none) p none))
        ∧ (last = true → x.long = true →
            t = segmentRest ⟨p, .sdo⟩ (x.index % 8) (x.buf ++ d) (setResp (setXfer s p none) p none)))
  ∧ (∀ (s : State) (p : Path) (x : SdoXfer) (last : Bool) (d : List Byte), sdoServes s p = true → (s.path p).xfer = some x →
      x.down = true → (p = .can0 ∨ p = .can1 → d.length ≤ 7) →
      ∃ t, exec (.sdoDownload p (.segment (!x.toggle) last d)) s = .next t
        ∧ (t.path p).xfer = none ∧ (t.path p).resp = some ⟨0x05030000, []⟩ ∧ SameButHost s t)
  ∧ (∀ (s : State) (p : Path) (x : SdoXfer) (d : List Byte), sdoServes s p = true → (s.path p).xfer = some x → x.down = false →
      uploadData (s.path p) x = some d →
      ∃ t, exec (.sdoUpload p (.segment x.toggle)) s = .next t ∧ SameButHost s t
        ∧ (t.path p).resp = some ⟨0, d.take (segmentBytes p d.length)⟩
        ∧ (t.path p).xfer = (if d.drop (segmentBytes p d.length) = [] then none
            else some { x with toggle := !x.toggle, buf := d.drop (segmentBytes p d.length) }))
  ∧ (∀ (s : State) (i : BitVec 16) (sub : BitVec 8), sdoServes s .fn = true →
      ∃ t, exec (.sdoUpload .fn (.whole i sub)) s = .next t ∧ t = sdoRead s .fn i sub)
  ∧ (∀ (s : State) (q : SdoInfo), sdoServes s .fn = true → ∃ t, exec (.sdoUpload .fn (.info q)) s = .next t
      ∧ (t.path .fn).resp = some ⟨(infoAnswer s q).1, (infoAnswer s q).2⟩ ∧ SameButHost s t)
  ∧ (∀ (s : State) (p : Path), sdoServes s p = true →
      ∀ u : SdoUp, (u = .unknown ∨ (p ≠ .fn ∧ ((∃ q, u = .info q) ∨ ∃ i one, u = .complete i one))
          ∨ ((∃ b, u = .segment b) ∧ (s.path p).xfer = none)) →
      ∃ t, exec (.sdoUpload p u) s = .next t
        ∧ (t.path p).xfer = none ∧ (t.path p).resp = some ⟨0x05040001, []⟩ ∧ SameButHost s t)
  ∧ (∀ (s : State) (p : Path), (s.path p).xfer ≠ none → ∃ t, exec (.sdoTimeout p) s = .next t
      ∧ (t.path p).xfer = none ∧ (t.path p).resp = some ⟨0x05040000, []⟩ ∧ SameButHost s t)
  ∧ ∀ (s : State) (p : Path), ((s.path p).xfer = none → exec (.sdoTimeout p) s = .next s)
      ∧ (sdoServes s p = false → (∀ d, exec (.sdoDownload p d) s = .next s) ∧ ∀ u, exec (.sdoUpload p u) s = .next s)

/-- The feedback commands of a host: MODE and DIR_INVERT are stored, a change clears VALID and HOMED at once and the new mode
waits for the next tick, and a write of the value that stands changes nothing (03 R96); CLEAR and POS_ORIGIN wait for the tick
too (03 R131, R135); REF_ARM sets REF_STATE; PHASE_LEARN starts a run whose end completes the request, with the phase stored if
RADIUS sufficed throughout, and an end without a run changes nothing (03 R121). -/
def FeedbackRequestsAct : Prop :=
  (∀ (s : State) (r : Req) (n : Axis) (e : FbCfg) (v : BitVec 8), Passes s r (fbCfgKey n e) v.toNat {} →
    (s.fb n).tapped = false →
    (e = .dirInvert ∨ v = 0 ∨ ((s.fb n).unusable = false ∧ fbSetOk (s.setReg (K.fbMode n) v.toNat) n = true)) →
    ∃ t, exec (.feedbackModeWrite r n e v) s = .next t ∧ Answered r 2 (fbCfgKey n e) 0 [] t
      ∧ (s.regN (fbCfgKey n e) = v.toNat → SameButHost s t)
      ∧ (s.regN (fbCfgKey n e) ≠ v.toNat → t.reg (fbCfgKey n e) = v.toNat ∧ t.regBit (K.fbsStatus n) 31 = false
          ∧ t.regBit (K.fbsStatus n) 30 = false ∧ (t.fb n).modePend = true ∧ (t.fb n).modeUse = (s.fb n).modeUse
          ∧ RegsBut [fbCfgKey n e, K.fbsStatus n] s t))
  ∧ (∀ (s : State) (r : Req) (n : Axis), Passes s r (K.fbClear n) 1 { state := whenCode (s.fb n).tapped 0x08000022 } →
    ∃ t, exec (.feedbackClear r n) s = .next t ∧ Answered r 2 (K.fbClear n) 0 [] t ∧ (t.fb n).clearPend = true
      ∧ { t with host := s.host } = s.modFb n fun f => { f with clearPend := true })
  ∧ (∀ (s : State) (r : Req) (n : Axis), Passes s r (K.resPhaseLearn n) 1 {} → (s.fb n).tapped = false → (s.fb n).modeUse = 3 →
    10923 ≤ s.reg (K.resRadius n) →
    ∃ t, exec (.phaseLearn r n) s = .next t ∧ Waits t (.learn n) r ∧ (t.fb n).learnOk = some ((s.fb n).learnOk.getD true)
      ∧ t.regs = s.regs
      ∧ { t with host := s.host, fe := s.fe } = s)
  ∧ (∀ (s : State) (n : Axis) (phase : BitVec 16) (good : Bool), (s.fb n).learnOk = some good →
    ∃ t, exec (.phaseLearnDone n phase) s = .next t ∧ awaited t (.learn n) = false ∧ (t.fb n).learnOk = none
      ∧ t.reg (K.resExcPhase n) = (if good then phase.toInt else s.reg (K.resExcPhase n)) ∧ RegsBut [K.resExcPhase n] s t)
  ∧ (∀ (s : State) (n : Axis) (phase : BitVec 16), (s.fb n).learnOk = none → exec (.phaseLearnDone n phase) s = .next s)
  ∧ (∀ (s : State) (r : Req) (n : Axis) (arm : Bool),
    Passes s r (K.refArm n) (b2i arm) { state := whenCode (arm && s.reg (K.refMode n) == 0) 0x08000022 } →
    ∃ t, exec (.refArm r n arm) s = .next t ∧ Answered r 2 (K.refArm n) 0 [] t ∧ t.reg (K.fbsRefState n) = b2i arm
      ∧ (t.fb n).homeSeen = false ∧ RegsBut [K.fbsRefState n] s t)
  ∧ ∀ (s : State) (r : Req) (n : Axis) (v : BitVec 64),
    Passes s r (K.refPosOrigin n) v.toInt { move := whenCode (axisGroupMoves s n) 0x0F000001 } →
    ∃ t, exec (.posOriginWrite r n v) s = .next t ∧ Answered r 2 (K.refPosOrigin n) 0 [] t
      ∧ (t.fb n).originPend = some v.toInt ∧ t.regs = s.regs ∧ t.grp = s.grp

/-- INC: an edge by which one track changes counts one step, up where A leads B and the other way under DIR_INVERT, in POS64
modulo 2^64; both tracks at once set QUAD and move POS64 by at most two counts; more than 40 counts in 1 us set OVERSPEED and
take VALID; in the other modes an edge changes no entry and no position (03 R101, R103, R104). At AM0 and AM1 the count is the
input's own (14 R507). An index that Z_GATE admits is remembered and, on an armed port with REF_MODE 1, latched; any other
changes nothing (03 R105). A broken wire of a port in use sets WIRE, of one that is OFF nothing. -/
def IncrementalInputsCount : Prop :=
  (∀ (s : State) (n : Axis) (a b : Bool), (s.fb n).modeUse = 1 → wrap64 (s.fb n).live = (s.fb n).live →
    let d := (quadPhase a b + 4 - quadPhase (s.fb n).a (s.fb n).b) % 4
    d ≠ 2 → ∃ t, exec (.incEdge (.port n) a b false) s = .next t ∧ (t.fb n).a = a ∧ (t.fb n).b = b ∧ t.freeCtr = s.freeCtr
      ∧ (t.fb n).live = wrap64 ((s.fb n).live
          + (if d = 0 then 0 else if (d == 1) != (s.fb n).dirUse then 2 ^ 22 else -(2 ^ 22))))
  ∧ (∀ (s : State) (n : Axis) (a b fast : Bool), (s.fb n).modeUse = 1 →
    ∃ t, exec (.incEdge (.port n) a b fast) s = .next t ∧ (t.fb n).a = a ∧ (t.fb n).b = b
      ∧ ((quadPhase a b + 4 - quadPhase (s.fb n).a (s.fb n).b) % 4 = 2 → t.regBit (K.fbsStatus n) 2 = true
          ∧ ∃ up : Int, -2 ≤ up ∧ up ≤ 2 ∧ ((t.fb n).live = (s.fb n).live ∨ (t.fb n).live = wrap64 ((s.fb n).live + up * 2 ^ 22)))
      ∧ (fast = true → t.regBit (K.fbsStatus n) 6 = true ∧ (s.regBit (K.fbsStatus n) 6 = false → t.regBit (K.fbsStatus n) 31 = false)))
  ∧ (∀ (s : State) (n : Axis) (a b fast : Bool), (s.fb n).modeUse ≠ 1 →
    ∃ t, exec (.incEdge (.port n) a b fast) s = .next t ∧ t = s.modFb n fun f => { f with a := a, b := b })
  ∧ (∀ (s : State) (i : Fin 2) (a b fast : Bool),
    let d := (quadPhase a b + 4 - quadPhase (s.am i).a (s.am i).b) % 4
    ∃ t, exec (.incEdge (.am i) a b fast) s = .next t ∧ (t.am i).a = a ∧ (t.am i).b = b
      ∧ (d ≠ 2 → (t.am i).count = (s.am i).count + (if d = 1 then 1 else if d = 3 then -1 else 0))
      ∧ (d = 2 → (t.am i).seen.testBit 2 = true) ∧ (t.am i).now.testBit 6 = fast ∧ t.regs = s.regs)
  ∧ (∀ (s : State) (n : Axis), (s.fb n).modeUse = 1 → zGate (s.regN (K.incZGate n)) (s.fb n).a (s.fb n).b = true →
    ∃ t, exec (.indexPulse n) s = .next t ∧ (t.fb n).idxPos = some (s.fb n).live
      ∧ (indexBad s n (s.fb n).live = true → t.regBit (K.fbsStatus n) 3 = true)
      ∧ (s.reg (K.fbsRefState n) = 1 → s.reg (K.refMode n) = 1 →
          t.reg (K.fbsRefState n) = 2 ∧ t.reg (K.fbsRefLatch n) = wrap64 (s.fb n).live))
  ∧ (∀ (s : State) (n : Axis), ((s.fb n).modeUse ≠ 1 ∨ zGate (s.regN (K.incZGate n)) (s.fb n).a (s.fb n).b = false) →
    exec (.indexPulse n) s = .next s)
  ∧ (∀ (s : State) (n : Axis), (s.fb n).modeUse ≠ 0 →
    ∃ t, exec (.wireFault (.port n) true) s = .next t ∧ t.regBit (K.fbsStatus n) 1 = true ∧ (t.fb n).cond.testBit 1 = true)
  ∧ (∀ (s : State) (n : Axis), (s.fb n).modeUse ≠ 0 →
    ∃ t, exec (.wireFault (.port n) false) s = .next t ∧ t.regs = s.regs ∧ (t.fb n).cond.testBit 1 = false)
  ∧ (∀ (s : State) (n : Axis) (present : Bool), (s.fb n).modeUse = 0 → exec (.wireFault (.port n) present) s = .next s)
  ∧ ∀ (s : State) (i : Fin 2) (on : Bool), ∃ t, exec (.wireFault (.am i) on) s = .next t ∧ (t.am i).now.testBit 1 = on
      ∧ (t.am i).count = (s.am i).count ∧ t.regs = s.regs

/-- SC and RES: a conversion at full scale sets AMP_HIGH, a signal above 1 MHz OVERSPEED; a good one on a running port moves
POS64 to the period and the angle that the quarter count agrees with, and above 500 kHz to the quarter count, with COARSE set
(03 R109, R113); a resolver's sample moves POS64 by the change of its tracked angle and shows RADIUS, the first lock starts it
at the angle. A port in another mode ignores them. -/
def AngleInputsMovePos64 : Prop :=
  (∀ (s : State) (n : Axis) (a b quarters : Int) (freq : Nat) (mark : Int), (s.fb n).modeUse = 2 →
    ∃ t, exec (.scSample n a b quarters freq mark) s = .next t ∧ (t.fb n).mark = some mark
      ∧ ((a ≤ -32768 ∨ 32767 ≤ a ∨ b ≤ -32768 ∨ 32767 ≤ b) → t.regBit (K.fbsStatus n) 5 = true)
      ∧ (1000000 < freq → t.regBit (K.fbsStatus n) 6 = true))
  ∧ (∀ (s : State) (n : Axis) (a b quarters : Int) (freq : Nat) (mark q' : Int),
    let f := s.fb n
    let tr := scCorrect f.corr a b
    let ang := if f.dirUse then (16384 - angleOf 12 tr.1 tr.2) % 16384 else angleOf 12 tr.1 tr.2
    let q := f.quarter + (if f.dirUse then -quarters else quarters)
    f.modeUse = 2 → f.started = true → tr ≠ (0, 0) → agreeQuarter q (ang / 4096) = some q' →
    ∃ t, exec (.scSample n a b quarters freq mark) s = .next t ∧ (t.fb n).quarter = q ∧ t.freeCtr = s.freeCtr
      ∧ (freq ≤ 500000 → s.regBit (K.fbsStatus n) 28 = false →
          (t.fb n).live = wrap64 (q' / 4 * 2 ^ 24 + (ang : Int) * 2 ^ 10))
      ∧ (500000 < freq → t.regBit (K.fbsStatus n) 28 = true ∧ (t.fb n).live = wrap64 (q * 2 ^ 22)))
  ∧ (∀ (s : State) (n : Axis) (a b quarters : Int) (freq : Nat) (mark : Int), (s.fb n).modeUse ≠ 2 →
    exec (.scSample n a b quarters freq mark) s = .next s)
  ∧ (∀ (s : State) (n : Axis) (angle : BitVec 24) (err radius : Nat) (full : Bool) (speed : Nat) (lim : Bool),
    let ang := if (s.fb n).dirUse then (-angle).toNat else angle.toNat
    (s.fb n).modeUse = 3 →
    ∃ t, exec (.resTrackerUpdate n angle err radius full speed lim) s = .next t
      ∧ t.reg (K.resRadius n) = (min radius 65535 : Nat) ∧ (t.fb n).resAngle = ang
      ∧ ((s.fb n).started = true →
          (t.fb n).live = wrap64 ((s.fb n).live + toSigned 24 (ang + 2 ^ 24 - (s.fb n).resAngle % 2 ^ 24)))
      ∧ (radius < 5461 → t.regBit (K.fbsStatus n) 4 = true) ∧ (full = true → t.regBit (K.fbsStatus n) 5 = true))
  ∧ (∀ (s : State) (n : Axis), (s.fb n).modeUse = 3 →
    ∃ t, exec (.resLocked n) s = .next t ∧ t.regBit (K.fbsStatus n) 29 = true
      ∧ ((s.fb n).started = false → (t.fb n).started = true ∧ (t.fb n).live = wrap64 (s.fb n).resAngle)
      ∧ ((s.fb n).started = true → OnlyRegs [K.fbsStatus n] s t))
  ∧ ∀ (s : State) (n : Axis) (angle : BitVec 24) (err radius : Nat) (full : Bool) (speed : Nat) (lim : Bool), (s.fb n).modeUse ≠ 3 →
    exec (.resTrackerUpdate n angle err radius full speed lim) s = .next s ∧ exec (.resLocked n) s = .next s

/-- SSI: a latch edge that TRIGGER and MONOFLOP allow opens a frame with its cell time, and any other changes nothing (03 R124); a
frame whose data line does not return sets SSI_FRAME and changes no position; a frame without an error gives the decoded field
as position, or its change under WRAP 1; an end without a frame changes nothing. -/
def SsiFramesGivePositions : Prop :=
  (∀ (s : State) (n : Axis) (at' : Nat) (high : Bool), (s.fb n).modeUse = 4 → (s.fb n).ssiOpen = none →
    ssiMayStart s n at' = true →
    ∃ t, exec (.ssiFrameStart n at' high) s = .next t ∧ (t.fb n).ssiOpen = some at'
      ∧ t = s.modFb n fun f => { f with ssiOpen := some at', ssiRest := some (at' + ssiFrameTime s n), ssiBad := !high })
  ∧ (∀ (s : State) (n : Axis) (at' : Nat) (high : Bool),
    ((s.fb n).modeUse ≠ 4 ∨ (s.fb n).ssiOpen ≠ none ∨ ssiMayStart s n at' = false) →
    exec (.ssiFrameStart n at' high) s = .next s)
  ∧ (∀ (s : State) (n : Axis) (bits delay : Nat) (returned : Bool), (s.fb n).ssiOpen = none →
    exec (.ssiFrameEnd n bits delay returned) s = .next s)
  ∧ (∀ (s : State) (n : Axis) (at' bits delay : Nat), (s.fb n).modeUse = 4 → (s.fb n).ssiOpen = some at' →
    ∃ t, exec (.ssiFrameEnd n bits delay false) s = .next t ∧ t.regBit (K.fbsStatus n) 10 = true
      ∧ (t.fb n).live = (s.fb n).live ∧ (t.fb n).ssiField = (s.fb n).ssiField ∧ (t.fb n).ssiOpen = none)
  ∧ ∀ (s : State) (n : Axis) (at' bits delay : Nat),
    let f := s.fb n
    let d := match f.ssiField with | none => 0 | some old => ssiChange s n old (ssiDecode s n bits)
    f.modeUse = 4 → f.ssiOpen = some at' → f.ssiBad = false → delay * s.regN (K.ssiClock n) ≤ 2000 * s.regN (K.ssiClock n) + 1000000 →
    parityOk (s.regN (K.ssiParity n)) bits (s.regN (K.ssiFrameBits n)) = true →
    (s.regN (K.ssiMaxStep n) = 0 ∨ d.natAbs ≤ s.regN (K.ssiMaxStep n)) →
    ∃ t, exec (.ssiFrameEnd n bits delay true) s = .next t ∧ t.reg (K.ssiLineDelay n) = (min delay 65535 : Nat)
      ∧ (t.fb n).ssiField = some (ssiDecode s n bits) ∧ (t.fb n).ssiT = at'
      ∧ (t.fb n).live = wrap64 (if s.reg (K.ssiWrap n) = 1 ∧ f.ssiField.isSome then f.live + d * 2 ^ 24
          else ssiDecode s n bits * 2 ^ 24)

/-- A latched reference with REF_AUTO takes its origin at a tick at which the axis's group does not move: POS_ORIGIN is the
latch less the scaled REF_VALUE, REF_STATE becomes 3, HOMED is set, and the group plans its next segment from the shifted
position; otherwise nothing changes (03 R137). -/
def ReferenceOriginApplies : Prop :=
  (∀ (s : State) (n : Axis), s.reg (K.fbsRefState n) = 2 → s.reg (K.refAuto n) = 1 → axisGroupMoves s n = false →
    ∃ t, exec (.refOriginApply n) s = .next t ∧ t.reg (K.fbsRefState n) = 3 ∧ t.regBit (K.fbsStatus n) 30 = true
      ∧ t.reg (K.refPosOrigin n) = wrap64 (s.reg (K.fbsRefLatch n)
          - fToIntRne (fDiv (s.regN (K.refValue n)) (s.regN (K.refUnitPerPeriod n))) 24)
      ∧ RegsBut [K.fbsRefState n, K.refPosOrigin n, K.fbsStatus n] s t ∧ { t with regs := s.regs, grp := s.grp } = s
      ∧ (∀ g, groupOf s n = some g → (t.group g).replan = true))
  ∧ ∀ (s : State) (n : Axis), ¬(s.reg (K.fbsRefState n) = 2 ∧ s.reg (K.refAuto n) = 1 ∧ axisGroupMoves s n = false) →
    exec (.refOriginApply n) s = .next s

/-- SERVO_TICK: while the tick does not run nothing changes; when it runs its time is kept, TICK_COUNT advances once ENABLEs
are released, and each port is latched: a pending mode is entered, POSITION takes POS64 on a port with VALID and no mode or
CLEAR pending, and holds without VALID; a pending POS_ORIGIN takes effect with HOMED (03 R96, R135). -/
def ServoTickLatchesThePorts : Prop :=
  (∀ (s : State) (at' : Nat), ticking s = false → ∃ t, exec (.servoTick at') s = .next t ∧ t = s)
  ∧ ∀ (s : State) (at' : Nat), ticking s = true → ∃ t, exec (.servoTick at') s = .next t ∧ t.fe.tickT = at'
    ∧ (s.released = true → t.reg K.tickCount = ((s.regN K.tickCount + 1) % 2 ^ 64 : Nat))
    ∧ (s.fe.ratePend = true → t.reg K.rateTickPeriod = periodOf (s.regN K.rateServoRate))
    ∧ ∀ n < 48,
      ((s.fb n).modePend = true → (t.fb n).modePend = false ∧ (t.fb n).modeUse = s.regN (K.fbMode n)
        ∧ (t.fb n).dirUse = (s.reg (K.fbDirInvert n) == 1) ∧ (t.fb n).live = 0)
      ∧ ((s.fb n).modePend = false → (s.fb n).clearPend = false →
        (s.regBit (K.fbsStatus n) 31 = true → t.reg (K.fbsPosition n) = (s.fb n).live)
        ∧ (s.regBit (K.fbsStatus n) 31 = false → t.reg (K.fbsPosition n) = s.reg (K.fbsPosition n)))
      ∧ (∀ v, (s.fb n).originPend = some v → t.reg (K.refPosOrigin n) = v ∧ t.regBit (K.fbsStatus n) 30 = true
          ∧ (t.fb n).originPend = none)

/-- A clamp closes on a missed command (04 R159) and on a qualified fault whose action is a clamp (04 R158), and opens by
CLAMP_RELEASE for these two causes (04 R177): EN falls, the engine goes off, and the status tells; CLEAR takes the latched bits
of the status; EN settles, and a fault level that stands then is qualified; the readback of AOUT sets AOUT_CHECK beyond 20 mV
and raises 0xFF27. Where none of these applies nothing changes. -/
def CommandPortsClampAndOpen : Prop :=
  (∀ (s : State) (n : Axis), (s.cm n).en = true → (s.cm n).causes = [] →
    ∃ t, exec (.commandWatchdogExpiry n) s = .next t ∧ (t.cm n).causes = [4] ∧ (t.cm n).en = false
      ∧ t.regBit (K.clampCmStatus n) 10 = true ∧ t.regBit (K.clampCmStatus n) 31 = false ∧ t.regN (K.engineState n) = 0
      ∧ (s.fe.bridgeDown = false → Raised t 0xFF22 n 0))
  ∧ (∀ (s : State) (n : Axis), ((s.cm n).en = false ∨ (s.cm n).causes ≠ []) → exec (.commandWatchdogExpiry n) s = .next s)
  ∧ (∀ (s : State) (r : Req) (n : Axis),
    Passes s r (K.cmClampRelease n) 1 { state := whenCode (deviceClamp s || (s.cm n).unusable) 0x08000022 } →
    ∃ t, exec (.clampRelease r n) s = .next t ∧ Answered r 2 (K.cmClampRelease n) 0 [] t ∧ RegsBut [K.cmDacCode n] s t
      ∧ (t.cm n).causes = ((s.cm n).causes.filter fun c => !(c == 4 || c == 5))
      ∧ (∀ m, m ≠ n.val → t.cm m = s.cm m))
  ∧ (∀ (s : State) (r : Req) (n : Axis), Passes s r (K.clampClear n) 1 {} →
    ∃ t, exec (.cmStatusClear r n) s = .next t ∧ Answered r 2 (K.clampClear n) 0 [] t
      ∧ t.reg (K.clampCmStatus n) = (clearMask (s.regN (K.clampCmStatus n)) 0x7E00 : Nat) ∧ OnlyRegs [K.clampCmStatus n] s t)
  ∧ (∀ (s : State) (n : Axis) (level : Bool), ∃ t, exec (.faultInputEdge n level) s = .next t ∧ (t.cm n).fltBall = level
      ∧ (t.cm n).fltPend = (level != (s.cm n).fltFilt)
      ∧ t = s.modCm n fun c => { c with fltBall := (t.cm n).fltBall, fltPend := (t.cm n).fltPend })
  ∧ (∀ (s : State) (n : Axis) (dt : Nat), (s.cm n).fltPend = true →
    let f := (s.cm n).fltBall != (s.reg (K.drvFaultPolarity n) == 1)
    ∃ t, exec (.faultQualified n dt) s = .next t ∧ (t.cm n).fltFilt = (s.cm n).fltBall ∧ (t.cm n).fltPend = false
      ∧ t.regBit (K.clampCmStatus n) 25 = f
      ∧ (((s.cm n).en && (s.cm n).settled) = false → (t.cm n).causes = (s.cm n).causes ∧ RegsBut [K.clampCmStatus n] s t)
      ∧ (((s.cm n).en && (s.cm n).settled) = true → f = true → t.regBit (K.clampCmStatus n) 11 = true
          ∧ (s.regN (K.drvFaultAction n) ≠ 0 → 5 ∈ (t.cm n).causes ∧ t.regN (K.engineState n) = 0)))
  ∧ (∀ (s : State) (n : Axis) (dt : Nat), (s.cm n).fltPend = false → exec (.faultQualified n dt) s = .next s)
  ∧ (∀ (s : State) (n : Axis), (s.cm n).en = true → (s.cm n).settled = false → faultLevel s n = false →
    ∃ t, exec (.enableSettled n) s = .next t ∧ (t.cm n).settled = true ∧ t.regBit (K.clampCmStatus n) 30 = true
      ∧ t.regBit (K.clampCmStatus n) 27 = false ∧ RegsBut [K.clampCmStatus n] s t)
  ∧ (∀ (s : State) (n : Axis), (s.cm n).en = true → (s.cm n).settled = false → faultLevel s n = true →
    ∃ t, exec (.enableSettled n) s = .next t ∧ t.regBit (K.clampCmStatus n) 11 = true
      ∧ (s.regN (K.drvFaultAction n) ≠ 0 → 5 ∈ (t.cm n).causes ∧ t.regN (K.engineState n) = 0))
  ∧ (∀ (s : State) (n : Axis), ((s.cm n).en = false ∨ (s.cm n).settled = true) → exec (.enableSettled n) s = .next s)
  ∧ (∀ (s : State) (n : Axis) (uv : Int), (s.cm n).causes = [] → (s.cm n).driven = true →
    s.regBit (K.clampCmStatus n) 28 = false → s.regBit (K.clampCmStatus n) 9 = false →
    20000 * 2 ^ 20 < (uv * 2 ^ 20 - codeMicrovolts (s.cm n).rangeUse (s.regN (K.cmDacCode n))).natAbs →
    ∃ t, exec (.aoutReadback n uv) s = .next t ∧ t.regBit (K.clampCmStatus n) 9 = true ∧ Raised t 0xFF27 n (ofSigned 32 uv)
      ∧ OnlyRegs [K.clampCmStatus n, K.errRegErrorRegister, K.tagEmcyOverflow] s t)
  ∧ ∀ (s : State) (n : Axis) (uv : Int),
    ((uv * 2 ^ 20 - codeMicrovolts (s.cm n).rangeUse (s.regN (K.cmDacCode n))).natAbs ≤ 20000 * 2 ^ 20 ∨ (s.cm n).causes ≠ []
      ∨ (s.cm n).driven = false ∨ s.regBit (K.clampCmStatus n) 28 = true ∨ s.regBit (K.clampCmStatus n) 9 = true) →
    exec (.aoutReadback n uv) s = .next s

/-- The analog rails: once they are good every command port drives its zero code in UNI with EN low, clamped where RESET# or
SAFE_STOP# is low (04 R166, R179); the loss of VCC_ANA50 while VCC_ANA18 holds clamps every port with cause 8 and takes every
engine off; its return opens those clamps at the zero code of the port's own range (04 R167). -/
def AnalogRailsStartThePorts : Prop :=
  (∀ s : State, ∃ t, exec .analogRailsGood s = .next t ∧ t.fe.ana18 = true ∧ t.fe.ana50 = true
    ∧ ∀ n < 48, (t.cm n).driven = true ∧ (t.cm n).en = false ∧ t.regBit (K.clampCmStatus n) 31 = false
      ∧ (s.fe.safe.resetTaken = true → 3 ∈ (t.cm n).causes) ∧ (s.fe.safe.pin = false → 1 ∈ (t.cm n).causes)
      ∧ (s.fe.safe.resetTaken = false → s.fe.safe.pin = true → t.reg (K.cmDacCode n) = zeroCode 0
          ∧ (t.cm n).causes = (s.cm n).causes.filter fun c => !(c == 8)))
  ∧ (∀ (s : State) (dt : Nat), s.fe.ana18 = true → ∃ t, exec (.ana50Loss dt) s = .next t ∧ t.fe.ana50 = false
    ∧ ∀ n < 48, 8 ∈ (t.cm n).causes ∧ t.regN (K.engineState n) = 0 ∧ ((s.cm n).causes = [] → (t.cm n).en = false))
  ∧ (∀ (s : State) (dt : Nat), s.fe.ana18 = false → exec (.ana50Loss dt) s = .next { s with fe := { s.fe with ana50 := false } })
  ∧ (∀ s : State, s.fe.ana18 = true → s.fe.ana50 = false → ∃ t, exec .ana50Restored s = .next t ∧ t.fe.ana50 = true
    ∧ ∀ n < 48, (t.cm n).driven = true ∧ t.reg (K.cmDacCode n) = zeroCode (s.regN (K.cmRange n))
      ∧ (t.cm n).rangeUse = s.regN (K.cmRange n) ∧ (t.cm n).causes = (s.cm n).causes.filter fun c => !(c == 8))
  ∧ ∀ s : State, (s.fe.ana18 = false ∨ s.fe.ana50 = true) → exec .ana50Restored s = .next s

/-- RANGE: an accepted change sets RANGE_BUSY and waits, one to the present value completes at once, one during a change waits
its turn (04 R168); after the ramp the network switches to the zero code of the new range; after settling the port waits for
its output instant, or on a port that stays clamped the write completes and the next one has its turn. In no other phase of a
change do these ends change anything. -/
def RangeChangesInSteps : Prop :=
  (∀ (s : State) (r : Req) (n : Axis) (v : BitVec 8),
    Passes s r (K.cmRange n) v.toNat { move := whenCode (rangeMoving s n) 0x0F000001 } →
    ∃ t, exec (.rangeChange r n v) s = .next t
      ∧ ((s.cm n).rangePhase ≠ 0 → (t.cm n).rangeQ = (s.cm n).rangeQ ++ [(r, v.toNat)] ∧ t.regs = s.regs)
      ∧ ((s.cm n).rangePhase = 0 → s.regN (K.cmRange n) = v.toNat → Answered r 2 (K.cmRange n) 0 [] t ∧ SameButHost s t)
      ∧ ((s.cm n).rangePhase = 0 → s.regN (K.cmRange n) ≠ v.toNat → t.reg (K.cmRange n) = v.toNat ∧ Waits t (.range n) r
          ∧ t.regBit (K.clampCmStatus n) 28 = true ∧ (t.cm n).rangePhase = (if (s.cm n).causes = [] then 1 else 4)
          ∧ RegsBut [K.cmRange n, K.clampCmStatus n] s t))
  ∧ (∀ (s : State) (n : Axis), (s.cm n).rangePhase = 1 →
    ∃ t, exec (.rangeRampDone n) s = .next t ∧ (t.cm n).rangePhase = 4 ∧ (t.cm n).rangeUse = (s.cm n).rangeNew
      ∧ t.reg (K.cmDacCode n) = zeroCode (s.cm n).rangeNew ∧ RegsBut [K.cmDacCode n] s t)
  ∧ (∀ (s : State) (n : Axis), (s.cm n).rangePhase = 4 → (s.cm n).causes = [] →
    ∃ t, exec (.rangeSettleDone n) s = .next t ∧ (t.cm n).rangePhase = 5 ∧ t.reg (K.cmDacCode n) = zeroCode (s.cm n).rangeUse
      ∧ RegsBut [K.cmDacCode n] s t)
  ∧ (∀ (s : State) (n : Axis), (s.cm n).rangePhase = 4 → (s.cm n).causes ≠ [] → (s.cm n).rangeQ = [] →
    ∃ t, exec (.rangeSettleDone n) s = .next t ∧ (t.cm n).rangePhase = 0 ∧ t.regBit (K.clampCmStatus n) 28 = false
      ∧ awaited t (.range n) = false)
  ∧ (∀ (s : State) (n : Axis) (r : Req) (v : Nat) (q : List (Req × Nat)), (s.cm n).rangePhase = 4 → (s.cm n).causes ≠ [] →
    (s.cm n).rangeQ = (r, v) :: q →
    ∃ t, exec (.rangeSettleDone n) s = .next t ∧ (t.cm n).rangeQ = q
      ∧ (s.regN (K.cmRange n) = v → (t.cm n).rangePhase = 0 ∧ t.regBit (K.clampCmStatus n) 28 = false)
      ∧ (s.regN (K.cmRange n) ≠ v → (t.cm n).rangePhase = 4 ∧ t.regBit (K.clampCmStatus n) 28 = true
          ∧ t.reg (K.cmRange n) = v ∧ Waits t (.range n) r))
  ∧ ∀ (s : State) (n : Axis), ((s.cm n).rangePhase ≠ 1 → exec (.rangeRampDone n) s = .next s)
      ∧ ((s.cm n).rangePhase ≠ 4 → exec (.rangeSettleDone n) s = .next s)

/-- Safe stop: a fall of SAFE_STOP# starts its qualification; a qualified one and the device watchdog count, name their source,
set state 1, and clamp all 48 ports with their cause (04 R172, R174); a rise alone opens nothing; after 1 ms with SC3 not halted
the state is 2, and a release then opens the clamps of these two causes (04 R176). Otherwise nothing changes. -/
def SafeStopClampsEveryPort : Prop :=
  (∀ s : State, ∃ t, exec .safeStopFall s = .next t ∧ t.fe.safe.pin = false ∧ t.fe.safe.qualPend = true
    ∧ (s.reg K.safeStopState = 2 → t.reg K.safeStopState = 1) ∧ RegsBut [K.safeStopState] s t)
  ∧ (∀ (s : State) (dt : Nat), s.fe.safe.pin = false → s.fe.safe.qualPend = true → s.fe.ana18 = true →
    ∃ t, exec (.safeStopQualified dt) s = .next t ∧ t.reg K.safeStopState = 1 ∧ t.reg K.safeLastSource = 1
      ∧ t.reg K.safeStopCount = ((s.regN K.safeStopCount + 1) % 2 ^ 32 : Nat) ∧ t.fe.safe.stop = true
      ∧ ∀ n < 48, 1 ∈ (t.cm n).causes ∧ t.regN (K.engineState n) = 0 ∧ ((s.cm n).causes = [] → (t.cm n).en = false))
  ∧ (∀ (s : State) (dt : Nat), (s.fe.safe.pin = true ∨ s.fe.safe.qualPend = false ∨ s.fe.ana18 = false) →
    exec (.safeStopQualified dt) s = .next s)
  ∧ (∀ (s : State) (dt : Nat), ∃ t, exec (.deviceWatchdogExpiry dt) s = .next t ∧ t.reg K.safeStopState = 1
      ∧ t.reg K.safeLastSource = 2 ∧ t.reg K.safeStopCount = ((s.regN K.safeStopCount + 1) % 2 ^ 32 : Nat)
      ∧ t.fe.safe.stop = true ∧ t.fe.safe.wdServed = false
      ∧ ∀ n < 48, 2 ∈ (t.cm n).causes ∧ t.regN (K.engineState n) = 0 ∧ ((s.cm n).causes = [] → (t.cm n).en = false))
  ∧ (∀ s : State, ∃ t, exec .safeStopRise s = .next t ∧ t.fe.safe.pin = true ∧ t.fe.cm = s.fe.cm
      ∧ t = s.modSafe fun x => { x with pin := t.fe.safe.pin, qualPend := false, cond := false })
  ∧ (∀ s : State, s.fe.safe.pin = true → s.reg K.safeStopState = 1 → s.life.halted.testBit 3 = false →
    ∃ t, exec .safeStopReleasable s = .next t ∧ t.reg K.safeStopState = 2 ∧ RegsBut [K.safeStopState] s t ∧ t.fe.cm = s.fe.cm)
  ∧ (∀ s : State, (s.fe.safe.pin = false ∨ s.reg K.safeStopState ≠ 1 ∨ s.life.halted.testBit 3 = true) →
    exec .safeStopReleasable s = .next s)
  ∧ ∀ (s : State) (r : Req),
    Passes s r K.safeStopRelease 1 { state := whenCode (s.reg K.safeStopState == 1) 0x08000022 } →
    ∃ t, exec (.safeStopRelease r) s = .next t ∧ t.reg K.safeStopState = 0 ∧ t.fe.safe.stop = false
      ∧ Answered r 2 K.safeStopRelease 0 [] t
      ∧ ∀ n < 48, (t.cm n).causes = (s.cm n).causes.filter fun c => !(c == 1 || c == 2)

/-- Event channels: an input that has held for FILTER is taken, counted when the channel becomes active, and passed on at once
with DEBOUNCE 0, or after DEBOUNCE (07 R278); EV_STATE shows the channel as it then stands (07 R276); in the other modes an
edge counts nothing; a pulse ends, and where none runs nothing changes. -/
def EventChannelsFollowTheirBalls : Prop :=
  (∀ (s : State) (k : Channel) (level : Bool),
    let lv := level != (s.reg (K.evPolarity k) == 1)
    evMode s k = 2 →
    ∃ t, exec (.eventInputEdge k level) s = .next t ∧ (t.ev k).ball = level ∧ (t.ev k).filt = level ∧ (t.ev k).lev = lv
      ∧ (t.ev k).deb = (if s.reg (K.evDebounce k) = 0 then lv else (s.ev k).deb)
      ∧ t.reg (K.evCount k) = (if lv = true ∧ (s.ev k).lev = false then (((s.regN (K.evCount k) + 1) % 2 ^ 32 : Nat) : Int)
          else s.reg (K.evCount k))
      ∧ t.reg (K.evState k) = b2n (evLevel t k) + 2 * b2n (evBall t k) + 4 * b2n (t.ev k).deb)
  ∧ (∀ (s : State) (k : Channel) (level : Bool), evMode s k ≠ 2 →
    ∃ t, exec (.eventInputEdge k level) s = .next t ∧ (t.ev k).ball = level ∧ RegsBut [K.evState k] s t
      ∧ t.reg (K.evState k) = b2n (evLevel t k) + 2 * b2n (evBall t k) + 4 * b2n (t.ev k).deb)
  ∧ (∀ (s : State) (k : Channel), ∃ t, exec (.debounceExpiry k) s = .next t ∧ (t.ev k).deb = evLevel s k
      ∧ RegsBut [K.evState k, K.evCount k] s t ∧ ((s.ev k).lev = evLevel s k → t.reg (K.evCount k) = s.reg (K.evCount k)))
  ∧ (∀ (s : State) (k : Channel), (s.ev k).pulse = true → ∃ t, exec (.eventPulseEnd k) s = .next t ∧ (t.ev k).pulse = false
      ∧ (t.ev k).pulseOf = [] ∧ (evMode s k ≠ 2 → t.reg (K.evCount k) = s.reg (K.evCount k)))
  ∧ ∀ (s : State) (k : Channel), (s.ev k).pulse = false → exec (.eventPulseEnd k) s = .next s

/-- Of the entries only the listed ones and those that show the event channels differ. -/
abbrev RegsButEvents (ks : List Nat) (s t : State) : Prop :=
  ∀ k, k ∉ ks → (∀ c < 32, k ≠ K.evState c ∧ k ≠ K.evCount c) → t.reg k = s.reg k

/-- Compare and capture units: ARM commits the staged set and a disarming ends the watch, at once, or, from process data or
behind such a one, when its turn comes (07 R280); a one-shot unit whose target is crossed fires once and disarms with DONE, and
a unit that is not armed, or whose port is OFF or without VALID, is not evaluated; a trigger latches POS64 and the time on a
port with VALID and only INVALID without it, and a one-shot capture disarms (07 R293); a trigger that TRIGGER does not name
changes nothing. -/
def CompareAndCaptureAct : Prop :=
  (∀ (s : State) (r : Req) (n : Axis) (u : Unit16), isProcessData r = false → (s.cmp (16 * n + u)).arms = [] →
    Passes s r (K.cmpArm n u) 1 { set := whenCode (!cmpSetOk s n u) 0x06090030 } →
    ∃ t, exec (.compareArm r n u) s = .next t ∧ Answered r 2 (K.cmpArm n u) 0 [] t
      ∧ (t.cmp (16 * n + u)).armed = decide (s.regN (K.cmpMode n u) ≠ 0) ∧ (t.cmp (16 * n + u)).toCmpSet = stagedSet s n u
      ∧ t.reg (K.cmpNextTarget n u) = s.reg (K.cmpTarget n u)
      ∧ t.regBit (K.cmpStatus n u) 31 = decide (s.regN (K.cmpMode n u) ≠ 0)
      ∧ t.regBit (K.cmpStatus n u) 29 = false ∧ t.regBit (K.cmpStatus n u) 15 = false
      ∧ ((s.fb n).modeUse ≠ 1 ∨ s.regN (K.cmpMode n u) ≠ 4 → t.reg (K.cmpFireCount n u) = 0)
      ∧ RegsButEvents [K.cmpStatus n u, K.cmpFireCount n u, K.cmpNextTarget n u] s t)
  ∧ (∀ (s : State) (r : Req) (n : Axis) (u : Unit16), (isProcessData r = true ∨ (s.cmp (16 * n + u)).arms ≠ []) →
    Passes s r (K.cmpArm n u) 1 { set := whenCode (!cmpSetOk s n u) 0x06090030 } →
    ∃ t, exec (.compareArm r n u) s = .next t ∧ (isProcessData r = false → Answered r 2 (K.cmpArm n u) 0 [] t)
      ∧ (t.cmp (16 * n + u)).arms = (s.cmp (16 * n + u)).arms ++ [(some (stagedSet s n u), !isProcessData r)]
      ∧ (t.cmp (16 * n + u)).armed = (s.cmp (16 * n + u)).armed ∧ t.regs = s.regs)
  ∧ (∀ (s : State) (r : Req) (n : Axis) (u : Unit16), isProcessData r = false → (s.cmp (16 * n + u)).arms = [] →
    Passes s r (K.cmpArm n u) 0 {} →
    ∃ t, exec (.compareDisarm r n u) s = .next t ∧ Answered r 2 (K.cmpArm n u) 0 [] t
      ∧ (t.cmp (16 * n + u)).armed = false ∧ (t.cmp (16 * n + u)).level = false ∧ t.regBit (K.cmpStatus n u) 31 = false
      ∧ RegsButEvents [K.cmpStatus n u] s t)
  ∧ (∀ (s : State) (r : Req) (n : Axis) (u : Unit16), (isProcessData r = true ∨ (s.cmp (16 * n + u)).arms ≠ []) →
    Passes s r (K.cmpArm n u) 0 {} →
    ∃ t, exec (.compareDisarm r n u) s = .next t ∧ (isProcessData r = false → Answered r 2 (K.cmpArm n u) 0 [] t)
      ∧ (t.cmp (16 * n + u)).arms = (s.cmp (16 * n + u)).arms ++ [(none, !isProcessData r)]
      ∧ (t.cmp (16 * n + u)).armed = (s.cmp (16 * n + u)).armed ∧ t.regs = s.regs)
  ∧ (∀ (s : State) (n : Axis) (u : Unit16) (x xp : Int), (s.cmp (16 * n + u)).armed = true → (s.cmp (16 * n + u)).mode = 1 →
    s.regBit (K.fbsStatus n) 31 = true → (s.fb n).modeUse ≠ 0 → (s.cmp (16 * n + u)).xPrev = some xp →
    admits (s.cmp (16 * n + u)).dir (crossing (s.cmp (16 * n + u)).target xp (wrap64 x)) = true →
    ∃ t, exec (.compareFire n u x) s = .next t ∧ (t.cmp (16 * n + u)).armed = false ∧ t.regBit (K.cmpStatus n u) 29 = true
      ∧ t.reg (K.cmpFireCount n u) = ((s.regN (K.cmpFireCount n u) + 1) % 2 ^ 32 : Nat))
  ∧ (∀ (s : State) (n : Axis) (u : Unit16) (x : Int),
    ((s.cmp (16 * n + u)).armed = false ∨ s.regBit (K.fbsStatus n) 31 = false ∨ (s.fb n).modeUse = 0) →
    exec (.compareFire n u x) s = .next s)
  ∧ (∀ (s : State) (r : Req) (n : Axis) (u : Unit16),
    Passes s r (K.capArm n u) 1 { set := whenCode (s.reg (K.capTrigger n u) == 3 && (s.fb n).modeUse == 4) 0x06090030 } →
    ∃ t, exec (.captureArm r n u) s = .next t ∧ Answered r 2 (K.capArm n u) 0 [] t
      ∧ (t.cap (16 * n + u)).armed = decide (s.reg (K.capMode n u) ≠ 0)
      ∧ t.reg (K.capStatus n u) = (if s.reg (K.capMode n u) = 0 then 0 else 128) ∧ t.reg (K.capSeq n u) = 0
      ∧ RegsBut [K.capStatus n u, K.capSeq n u] s t)
  ∧ (∀ (s : State) (r : Req) (n : Axis) (u : Unit16), Passes s r (K.capArm n u) 0 {} →
    ∃ t, exec (.captureDisarm r n u) s = .next t ∧ Answered r 2 (K.capArm n u) 0 [] t
      ∧ (t.cap (16 * n + u)).armed = false ∧ t.regBit (K.capStatus n u) 7 = false ∧ RegsBut [K.capStatus n u] s t)
  ∧ (∀ (s : State) (n : Axis) (u : Unit16) (e : CapEdge) (at' : Nat) (x : Int),
    ((s.cap (16 * n + u)).armed = false ∨ capTrigOk (s.regN (K.capTrigger n u)) e = false) →
    exec (.captureTrigger n u e at' x) s = .next s)
  ∧ ∀ (s : State) (n : Axis) (u : Unit16) (e : CapEdge) (at' : Nat) (x : Int), (s.cap (16 * n + u)).armed = true →
    capTrigOk (s.regN (K.capTrigger n u)) e = true →
    ∃ t, exec (.captureTrigger n u e at' x) s = .next t ∧ t.regs = s.regs
      ∧ (t.cap (16 * n + u)).armed = decide (s.reg (K.capMode n u) ≠ 1)
      ∧ (t.cap (16 * n + u)).pubs = (s.cap (16 * n + u)).pubs + 1
      ∧ (s.regBit (K.fbsStatus n) 31 = true →
          (t.cap (16 * n + u)).latched = some (capValue (s.fb n) at' x, at', (s.fb n).modeUse == 4))
      ∧ (s.regBit (K.fbsStatus n) 31 = false →
          (t.cap (16 * n + u)).latched = (s.cap (16 * n + u)).latched ∧ (t.cap (16 * n + u)).invalid = true)

/-- A disable of an axis, in the drain or the abort form. -/
def axisDisable (r : Req) (n : Axis) (abort : Bool) : Instr := if abort then .axisDisableAbort r n else .axisDisableDrain r n

/-- AXIS_ENABLE outside TEST: a write of 1 to a disabled axis that may be enabled starts the enable and waits; to an enabled one
it completes, or joins an enable that runs, and changes nothing; to one that is being disabled it ends with 0x08000022. A
disable of a disabled axis completes; of an axis in servo whose group does not move it waits with state 4, the drain form for
rest, the abort form in hold at once (05 R201); of one whose group moves it disables the group first; of one still being enabled it cuts the enable; a second
disable joins the first, an abort turning a drain that has not come to DISABLE_DELAY. After DISABLE_DELAY the engine goes off
at the next output instant (05 R203). -/
def AxisEnablesAndDisables : Prop :=
  (∀ (s : State) (r : Req) (n : Axis), Passes s r (K.axisEnable n) 1 {} → s.reg (K.axisEnable n) = 0 → lifeState s ≠ 2 →
    s.therm.hot = false → axisUnusable s n = false → enableBad s n = false → axisGroupMoves s n = false →
    ∃ t, exec (.axisEnable r n) s = .next t ∧ t.reg (K.axisEnable n) = 1 ∧ t.reg (K.engineState n) = 1
      ∧ (t.cm n).enReq = true ∧ Waits t (.enable (.axis n)) r ∧ RegsBut [K.axisEnable n, K.engineState n] s t)
  ∧ (∀ (s : State) (r : Req) (n : Axis), Passes s r (K.axisEnable n) 1 {} → s.reg (K.axisEnable n) = 1 → lifeState s ≠ 2 →
    s.therm.hot = false →
    ∃ t, exec (.axisEnable r n) s = .next t ∧ SameButHost s t
      ∧ (if engState s n = 1 then Waits t (.enable (.axis n)) r else Answered r 2 (K.axisEnable n) 0 [] t))
  ∧ (∀ (s : State) (r : Req) (n : Axis) (w : Nat), Passes s r (K.axisEnable n) 1 {} → s.reg (K.axisEnable n) = w →
    lifeState s ≠ 2 → (w = 3 ∨ w = 4) →
    ∃ t, exec (.axisEnable r n) s = .next t ∧ Answered r 2 (K.axisEnable n) 0x08000022 [] t ∧ SameButHost s t)
  ∧ (∀ (s : State) (r : Req) (n : Axis) (abort : Bool), Passes s r (K.axisEnable n) (if abort then 2 else 0) {} →
    s.reg (K.axisEnable n) = 0 →
    ∃ t, exec (axisDisable r n abort) s = .next t ∧ Answered r 2 (K.axisEnable n) 0 [] t ∧ SameButHost s t)
  ∧ (∀ (s : State) (r : Req) (n : Axis), Passes s r (K.axisEnable n) 0 {} → s.reg (K.axisEnable n) = 1 → engState s n ≠ 1 →
    axisGroupMoves s n = false → (s.engine n).leaving ≠ .group →
    ∃ t, exec (.axisDisableDrain r n) s = .next t ∧ t.reg (K.axisEnable n) = 3 ∧ t.reg (K.engineState n) = 4
      ∧ (t.engine n).leaving = .wait ∧ Waits t (.disable (.axis n)) r ∧ RegsBut [K.axisEnable n, K.engineState n] s t)
  ∧ (∀ (s : State) (r : Req) (n : Axis), Passes s r (K.axisEnable n) 2 {} → engState s n ≠ 1 →
    (s.reg (K.axisEnable n) = 1
      ∨ (s.reg (K.axisEnable n) = 3 ∧ (s.engine n).leaving ≠ .delay ∧ (s.engine n).leaving ≠ .off)) →
    axisGroupMoves s n = false → (s.engine n).leaving ≠ .group →
    ∃ t, exec (.axisDisableAbort r n) s = .next t ∧ t.reg (K.axisEnable n) = 4 ∧ t.reg (K.engineState n) = 4
      ∧ (t.engine n).leaving = .hold ∧ t.regBit (K.engStatus n) 30 = true ∧ Waits t (.disable (.axis n)) r
      ∧ RegsBut [K.axisEnable n, K.engineState n, K.engStatus n] s t)
  ∧ (∀ (s : State) (r : Req) (n : Axis) (g : Nat) (abort : Bool), Passes s r (K.axisEnable n) (if abort then 2 else 0) {} →
    s.reg (K.axisEnable n) = 1 → engState s n ≠ 1 → groupOf s n = some g → groupMoves s g = true →
    ∃ t, exec (axisDisable r n abort) s = .next t ∧ t.reg (K.axisEnable n) = (if abort then 4 else 3)
      ∧ t.reg (K.engineState n) = s.reg (K.engineState n) ∧ (t.engine n).leaving = .group
      ∧ t.reg (K.grpGroupEnable g) = (if abort ∨ (s.group g).disable = 2 then 4 else 3) ∧ Waits t (.disable (.axis n)) r)
  ∧ (∀ (s : State) (r : Req) (n : Axis) (abort : Bool), Passes s r (K.axisEnable n) (if abort then 2 else 0) {} →
    s.reg (K.axisEnable n) = 1 → engState s n = 1 →
    ∃ t, exec (axisDisable r n abort) s = .next t ∧ t.reg (K.axisEnable n) = (if abort then 4 else 3)
      ∧ (t.engine n).leaving = .off ∧ (t.engine n).enAbort = 0x0F000002 ∧ Waits t (.disable (.axis n)) r
      ∧ RegsBut [K.axisEnable n] s t)
  ∧ (∀ (s : State) (r : Req) (n : Axis) (abort : Bool), Passes s r (K.axisEnable n) (if abort then 2 else 0) {} →
    (s.reg (K.axisEnable n) = 4
      ∨ (s.reg (K.axisEnable n) = 3 ∧ (abort = false ∨ (s.engine n).leaving = .delay ∨ (s.engine n).leaving = .off))) →
    ∃ t, exec (axisDisable r n abort) s = .next t ∧ Waits t (.disable (.axis n)) r ∧ SameButHost s t)
  ∧ (∀ (s : State) (n : Axis), (s.engine n).leaving = .delay → ∃ t, exec (.disableDelayEnd n) s = .next t
      ∧ (t.engine n).leaving = .off ∧ t = s.modEng n fun e => { e with leaving := (t.engine n).leaving, enAbort := 0 })
  ∧ ∀ (s : State) (n : Axis), (s.engine n).leaving ≠ .delay → exec (.disableDelayEnd n) s = .next s

/-- SERVO_RATE, the filters, SOURCE and CLEAR of an engine: each is accepted and waits for its boundary or acts on its own entry
alone (05 R181, R187, R213). -/
def EngineSettingsAct : Prop :=
  (∀ (s : State) (r : Req) (v : BitVec 8), Passes s r K.rateServoRate v.toNat {} →
    ∃ t, exec (.servoRateWrite r v) s = .next t ∧ t.reg K.rateServoRate = v.toNat ∧ Answered r 2 K.rateServoRate 0 [] t
      ∧ (s.reg K.rateServoRate ≠ v.toNat → t.fe.ratePend = true) ∧ RegsBut [K.rateServoRate] s t)
  ∧ (∀ (s : State) (r : Req) (n : Axis) (q : Bq),
    Passes s r (biquadKeys n q).1 1 { set := whenCode (!biquadOk ((biquadKeys n q).2.map s.regN)) 0x06090030 } →
    ∃ t, exec (.biquadCommit r n q) s = .next t ∧ Answered r 2 (biquadKeys n q).1 0 [] t
      ∧ { t with host := s.host } = modBq s n q fun f => { f with pend := some (some ((biquadKeys n q).2.map s.regN)) })
  ∧ (∀ (s : State) (r : Req) (n : Axis) (q : Bq), Passes s r (biquadKeys n q).1 0 {} →
    ∃ t, exec (.biquadBypass r n q) s = .next t ∧ Answered r 2 (biquadKeys n q).1 0 [] t
      ∧ { t with host := s.host } = modBq s n q fun f => { f with pend := some none })
  ∧ (∀ (s : State) (r : Req) (n : Axis),
    let p := [s.regN (K.notchCentre n), s.regN (K.notchWidth n), s.regN (K.notchDepth n)]
    Passes s r (K.notchEnable n) 1 { set := whenCode (!notchOk p (tickTs s)) 0x06090030 } →
    ∃ t, exec (.notchCommit r n) s = .next t ∧ Answered r 2 (K.notchEnable n) 0 [] t
      ∧ (t.engine n).notch.pend = some (some p) ∧ (t.engine n).notch.on = (s.engine n).notch.on ∧ t.regs = s.regs)
  ∧ (∀ (s : State) (r : Req) (n : Axis), Passes s r (K.notchEnable n) 0 {} →
    ∃ t, exec (.notchBypass r n) s = .next t ∧ Answered r 2 (K.notchEnable n) 0 [] t
      ∧ (t.engine n).notch.pend = some none ∧ (t.engine n).notch.on = (s.engine n).notch.on ∧ t.regs = s.regs)
  ∧ (∀ (s : State) (r : Req) (n : Axis) (v : BitVec 8), Passes s r (K.axSource n) v.toNat
      { state := whenCode (groupOf s n).isSome 0x08000022, move := whenCode (s.engine n).ramp 0x0F000001 } →
    ∃ t, exec (.sourceWrite r n v) s = .next t ∧ t.reg (K.axSource n) = v.toNat ∧ Answered r 2 (K.axSource n) 0 [] t
      ∧ (2 ≤ engState s n → (s.engine n).fallback = false → t.regBit (K.engStatus n) 29 = decide (v.toNat ≠ 0))
      ∧ RegsBut [K.axSource n, K.engStatus n] s t)
  ∧ ∀ (s : State) (r : Req) (n : Axis), Passes s r (K.engClear n) 1 { state := whenCode (engState s n != 0) 0x08000022 } →
    ∃ t, exec (.engineClear r n) s = .next t ∧ Answered r 2 (K.engClear n) 0 [] t
      ∧ t.reg (K.engStatus n) = (clearMask (s.regN (K.engStatus n)) 0xFF00 : Nat) ∧ OnlyRegs [K.engStatus n] s t

/-- Supervision: FE_TIME consecutive ticks of following error above FE_LIMIT set FE_FAULT, once, and the axis goes on, is taken
off, or is marked to be taken off after its group has stopped, by FE_ACTION; a source that delivers nothing for the second
tick sets its flag and the engine enters hold (05 R206); a waiting engine joins a source inside JOIN_WINDOW; the fabric's
DEMAND missing for the second tick leads to the fallback loop (05 R212). Where these do not hold nothing changes. -/
def EnginesAnswerFaults : Prop :=
  (∀ (s : State) (n : Axis), 2 ≤ engState s n → (s.engine n).valid = true →
    s.reg (K.feLimit n) < (wrap64 ((s.engine n).s - (s.engine n).x)).natAbs → s.regN (K.feTime n) ≤ (s.engine n).feCount + 1 →
    s.regBit (K.engStatus n) 15 = false →
    ∃ t, exec (.feFault n) s = .next t ∧ t.regBit (K.engStatus n) 15 = true
      ∧ (s.reg (K.feAction n) = 0 → OnlyRegs [K.engStatus n, K.errRegErrorRegister, K.tagEmcyOverflow] s t)
      ∧ (s.reg (K.feAction n) = 1 ∨ (s.reg (K.feAction n) = 2 ∧ groupOf s n = none) → (t.engine n).leaving = .off)
      ∧ (s.reg (K.feAction n) = 2 → groupOf s n ≠ none → (t.engine n).afterStop = true))
  ∧ (∀ (s : State) (n : Axis), (engState s n < 2 ∨ (s.engine n).valid = false
      ∨ ((wrap64 ((s.engine n).s - (s.engine n).x)).natAbs : Int) ≤ s.reg (K.feLimit n) ∨ (s.engine n).feCount + 1 < s.regN (K.feTime n)
      ∨ s.regBit (K.engStatus n) 15 = true) → exec (.feFault n) s = .next s)
  ∧ (∀ (s : State) (n : Axis), 2 ≤ engState s n → follows s n = true → s.reg (K.axSource n) ≠ 1 →
    candidate s n (s.regN (K.axSource n)) = none → (s.engine n).missSrc = 1 →
    ∃ t, exec (.sourceLost n) s = .next t ∧ t.regBit (K.engStatus n) 11 = true ∧ t.regBit (K.engStatus n) 30 = true
      ∧ t.regBit (K.engStatus n) 29 = false ∧ (t.engine n).missSrc = 2
      ∧ RegsBut [K.engStatus n, K.errRegErrorRegister, K.tagEmcyOverflow] s t ∧ Raised t 0xFF28 n (s.regN (K.axSource n)))
  ∧ (∀ (s : State) (n : Axis), (engState s n < 2 ∨ follows s n = false ∨ s.reg (K.axSource n) = 1
      ∨ (candidate s n (s.regN (K.axSource n))).isSome = true ∨ (s.engine n).missSrc ≠ 1) → exec (.sourceLost n) s = .next s)
  ∧ (∀ (s : State) (n : Axis) (c : Int), 2 ≤ engState s n → (s.engine n).fallback = false → s.regBit (K.engStatus n) 29 = true →
    candidate s n (s.regN (K.axSource n)) = some c →
    ((wrap64 (c - (s.engine n).sp)).natAbs : Int) ≤ s.reg (K.axJoinWindow n) →
    ∃ t, exec (.sourceJoin n) s = .next t ∧ (t.engine n).sp = c ∧ t.regBit (K.engStatus n) 29 = false
      ∧ t.regBit (K.engStatus n) 30 = false ∧ RegsBut [K.engStatus n] s t)
  ∧ (∀ (s : State) (n : Axis), (engState s n < 2 ∨ (s.engine n).fallback = true ∨ s.regBit (K.engStatus n) 29 = false
      ∨ ∀ c, candidate s n (s.regN (K.axSource n)) = some c →
          s.reg (K.axJoinWindow n) < ((wrap64 (c - (s.engine n).sp)).natAbs : Int)) → exec (.sourceJoin n) s = .next s)
  ∧ (∀ (s : State) (n : Axis), (engState s n < 2 ∨ s.reg (K.axLoopMode n) ≠ 2 ∨ (s.engine n).fallback = true
      ∨ (s.engine n).missDem ≠ 1 ∨ (portServes s (s.regN (K.tapPort n)) = true ∧ (s.engine n).wDem ≠ none)) →
    exec (.fabricDemandLost n) s = .next s)
  ∧ ∀ (s : State) (n : Axis), 2 ≤ engState s n → s.reg (K.axLoopMode n) = 2 → (s.engine n).fallback = false →
    (s.engine n).missDem = 1 → (portServes s (s.regN (K.tapPort n)) = false ∨ (s.engine n).wDem = none) →
    ∃ t, exec (.fabricDemandLost n) s = .next t ∧ (t.engine n).fallback = true ∧ t.regBit (K.engStatus n) 29 = false
      ∧ (t.engine n).s = (s.engine n).x ∧ (t.engine n).yI = 0
      ∧ (groupOf s n = none → RegsBut [K.engStatus n, K.errRegErrorRegister, K.tagEmcyOverflow] s t)

/-- The instants of the tick: at the sample instant every engine takes what came for this tick and keeps none of it, and an axis
that is off delivers no demand and no EN request; at the output instant a port takes its demand once, an axis that leaves goes
off and its requests complete, and a settled DAC port in service puts out the code of its demand (04 R149). Without a tick, or
with PLL 6 relocking (15 R550), the sample instant changes nothing, and in the second case engines wait at the output instant
too. -/
def TickInstantsMoveTheData : Prop :=
  (∀ (s : State) (faults : List (Nat × UnitErr)), (ticking s = false ∨ axisClocked s = false) →
    exec (.setpointSampleInstant faults) s = .next s)
  ∧ (∀ (s : State) (faults : List (Nat × UnitErr)), ticking s = true → axisClocked s = true →
    ∃ t, exec (.setpointSampleInstant faults) s = .next t ∧ t.fab.sampled = s.fab.flags
      ∧ (s.host.fn.al = .op → t.host.fn.fresh = false ∧ t.host.fn.missed = if s.host.fn.fresh then 0 else min 2 (s.host.fn.missed + 1))
      ∧ ∀ n < 48, (t.engine n).nSp = none ∧ (t.engine n).nCorr = none ∧ (t.engine n).wDem = none ∧ (t.engine n).cellSp = none
          ∧ (t.engine n).wSp = (s.engine n).nSp ∧ (t.engine n).wCorr = (s.engine n).nCorr
          ∧ (s.fe.bridgeDown = false → (t.cm n).fresh = true
              ∧ (engState s n = 0 → (t.cm n).dem = 0 ∧ (t.cm n).enReq = false)))
  ∧ (∀ s : State, ticking s = false → exec .outputInstant s = .next s)
  ∧ ∀ s : State, ticking s = true → ∃ t, exec .outputInstant s = .next t
      ∧ ∀ (n : Nat) (hn : n < 48), (t.cm n).fresh = false
        ∧ (axisClocked s = false → (t.engine n) = (s.engine n) ∧ t.reg (K.engineState n) = s.reg (K.engineState n))
        ∧ (axisClocked s = true → (s.engine n).leaving = .off → t.reg (K.axisEnable n) = 0 ∧ t.reg (K.engineState n) = 0
            ∧ awaited t (.enable (.axis ⟨n, hn⟩)) = false ∧ awaited t (.disable (.axis ⟨n, hn⟩)) = false)
        ∧ ((s.engine n).leaving = .no → (s.cm n).driven = true → (s.cm n).causes = [] → (s.cm n).fresh = true →
            (s.cm n).en = true → (s.cm n).settled = true → (s.cm n).enReq = true → (s.cm n).unusable = false →
            s.reg (K.cmOutputMode n) = 1 → (s.cm n).rangePhase = 0 →
            t.reg (K.cmDemand n) = (s.cm n).dem
              ∧ t.reg (K.cmDacCode n) = (dacCode (s.cm n).rangeUse (s.reg (K.cmAoutInvert n) == 1) (s.reg (K.cmAoutOffset n))
                  (s.cm n).dem).1)

/-- A disable of a group, in the drain or the abort form. -/
def groupDisable (r : Req) (g : Group) (abort : Bool) : Instr := if abort then .groupDisableAbort r g else .groupDisableDrain r g

/-- GROUP_ENABLE outside TEST claims the queue's bank and waits for its handover; a bank that is not free refuses it; on an
enabled group it completes or joins the enable that runs, and on one that is being disabled it ends with 0x08000022. A disable
of a disabled group completes. The drain form of an idle group disables it at once, of one with a queue or in motion it lets
the group run on; the abort form makes the controlled stop, of a group at rest at once; in state 6 and while the group still
waits for its bank both forms act alike (06 R233). -/
def GroupsEnableAndDisable : Prop :=
  (∀ (s : State) (r : Req) (g : Group), Passes s r (K.grpGroupEnable g) 1 {} → s.reg (K.grpGroupEnable g) = 0 → lifeState s ≠ 2 →
    s.therm.hot = false → (∀ x ∈ s.bad, x.1 ≠ 0x1C ∧ x ≠ (0x18, s.regN (K.grpQueueBank g))) →
    bankFree s (s.regN (K.grpQueueBank g)) = true → bankBusy s (s.regN (K.grpQueueBank g)) = false →
    ∃ t, exec (.groupEnable r g) s = .next t ∧ t.reg (K.grpGroupEnable g) = 1 ∧ Waits t (.enable (.group g)) r
      ∧ (t.group g).bank = s.regN (K.grpQueueBank g) ∧ (t.bankSt (s.regN (K.grpQueueBank g))).target = some 0x20
      ∧ t.reg (K.bankHandoverState (s.regN (K.grpQueueBank g))) = 1
      ∧ RegsBut [K.grpGroupEnable g, K.gstGrpStatus g, K.bankHandoverState (s.regN (K.grpQueueBank g))] s t)
  ∧ (∀ (s : State) (r : Req) (g : Group), Passes s r (K.grpGroupEnable g) 1 {} → s.reg (K.grpGroupEnable g) = 0 → lifeState s ≠ 2 →
    s.therm.hot = false → (∀ x ∈ s.bad, x.1 ≠ 0x1C) →
    (bankFree s (s.regN (K.grpQueueBank g)) = false ∨ bankBusy s (s.regN (K.grpQueueBank g)) = true
      ∨ (0x18, s.regN (K.grpQueueBank g)) ∈ s.bad) →
    ∃ t, exec (.groupEnable r g) s = .next t ∧ Answered r 2 (K.grpGroupEnable g) 0x0F00000C [] t ∧ SameButHost s t)
  ∧ (∀ (s : State) (r : Req) (g : Group), Passes s r (K.grpGroupEnable g) 1 {} → s.reg (K.grpGroupEnable g) = 1 → lifeState s ≠ 2 →
    s.therm.hot = false →
    ∃ t, exec (.groupEnable r g) s = .next t ∧ OnlyRegs [K.gstGrpStatus g] s t
      ∧ (if groupState s g = 0 then Waits t (.enable (.group g)) r else Answered r 2 (K.grpGroupEnable g) 0 [] t))
  ∧ (∀ (s : State) (r : Req) (g : Group), Passes s r (K.grpGroupEnable g) 1 {} → lifeState s ≠ 2 →
    (s.reg (K.grpGroupEnable g) = 3 ∨ s.reg (K.grpGroupEnable g) = 4) →
    ∃ t, exec (.groupEnable r g) s = .next t ∧ Answered r 2 (K.grpGroupEnable g) 0x08000022 [] t ∧ SameButHost s t)
  ∧ (∀ (s : State) (r : Req) (g : Group) (abort : Bool), Passes s r (K.grpGroupEnable g) (if abort then 2 else 0) {} →
    s.reg (K.grpGroupEnable g) = 0 →
    ∃ t, exec (groupDisable r g abort) s = .next t ∧ Answered r 2 (K.grpGroupEnable g) 0 [] t ∧ SameButHost s t)
  ∧ (∀ (s : State) (r : Req) (g : Group), Passes s r (K.grpGroupEnable g) 0 {} → s.reg (K.grpGroupEnable g) ≠ 0 →
    groupState s g ≠ 0 → groupMoves s g = false → (s.group g).queue = [] → (s.group g).disable ≠ 2 →
    ∃ t, exec (.groupDisableDrain r g) s = .next t ∧ t.reg (K.grpGroupEnable g) = 0 ∧ t.reg (K.gstGroupState g) = 0
      ∧ (t.group g).full = [] ∧ t.reg (K.dmaEnable g) = 0 ∧ awaited t (.disable (.group g)) = false)
  ∧ (∀ (s : State) (r : Req) (g : Group), Passes s r (K.grpGroupEnable g) 0 {} → s.reg (K.grpGroupEnable g) ≠ 0 →
    groupState s g ≠ 0 → groupState s g ≠ 6 → (groupMoves s g = true ∨ (s.group g).queue ≠ []) → (s.group g).disable ≠ 2 →
    ∃ t, exec (.groupDisableDrain r g) s = .next t ∧ t.reg (K.grpGroupEnable g) = 3 ∧ groupState t g = groupState s g
      ∧ (t.group g).disable = 1 ∧ (t.group g).queue = (s.group g).queue ∧ (t.group g).full = [] ∧ t.reg (K.dmaEnable g) = 0
      ∧ Waits t (.disable (.group g)) r ∧ RegsBut [K.grpGroupEnable g, K.dmaEnable g, K.gstGrpStatus g] s t)
  ∧ (∀ (s : State) (r : Req) (g : Group), Passes s r (K.grpGroupEnable g) 2 {} → s.reg (K.grpGroupEnable g) ≠ 0 →
    groupState s g = 2 →
    ∃ t, exec (.groupDisableAbort r g) s = .next t ∧ t.reg (K.grpGroupEnable g) = 4 ∧ t.reg (K.gstGroupState g) = 5
      ∧ (t.group g).disable = 2 ∧ (t.group g).stop = some (newStop s g false 3 false) ∧ (t.group g).queue = (s.group g).queue
      ∧ (t.group g).full = [] ∧ t.reg (K.dmaEnable g) = 0 ∧ Waits t (.disable (.group g)) r)
  ∧ (∀ (s : State) (r : Req) (g : Group), Passes s r (K.grpGroupEnable g) 2 {} → s.reg (K.grpGroupEnable g) ≠ 0 →
    (groupState s g = 1 ∨ groupState s g = 3 ∨ groupState s g = 4 ∨ groupState s g = 6) →
    ∃ t, exec (.groupDisableAbort r g) s = .next t ∧ t.reg (K.grpGroupEnable g) = 0 ∧ t.reg (K.gstGroupState g) = 0
      ∧ (groupState s g ≠ 6 → (t.group g).queue = []) ∧ (t.group g).full = [] ∧ t.reg (K.dmaEnable g) = 0
      ∧ awaited t (.disable (.group g)) = false)
  ∧ (∀ (s : State) (r : Req) (g : Group), Passes s r (K.grpGroupEnable g) 2 {} → s.reg (K.grpGroupEnable g) ≠ 0 →
    groupState s g = 5 →
    ∃ t, exec (.groupDisableAbort r g) s = .next t ∧ t.reg (K.grpGroupEnable g) = 4 ∧ groupState t g = 5
      ∧ (t.group g).disable = 2 ∧ (t.group g).queue = (s.group g).queue ∧ Waits t (.disable (.group g)) r)
  ∧ ∀ (s : State) (r : Req) (g : Group) (abort : Bool), Passes s r (K.grpGroupEnable g) (if abort then 2 else 0) {} →
    s.reg (K.grpGroupEnable g) ≠ 0 → groupState s g = 0 →
    ∃ t, exec (groupDisable r g abort) s = .next t ∧ Waits t (.disable (.group g)) r
      ∧ t.reg (K.grpGroupEnable g) = (if abort ∨ (s.group g).disable = 2 then 4 else 3)
      ∧ (t.group g).disable = (if abort ∨ (s.group g).disable = 2 then 2 else 1)

/-- A group at rest has made its stop: its queue is flushed and reported, and it has entered the state in which stops of this
kind end. -/
abbrev StoppedAtRest (s t : State) (g : Group) (cause : Nat) (state : Int) : Prop :=
  (t.group g).queue = [] ∧ (t.group g).stop = none ∧ t.reg (K.flushCount g) = (s.group g).queue.length
    ∧ t.reg (K.flushCause g) = cause ∧ t.reg (K.flushStatus g) = (if (s.group g).disable = 0 then 1 else 2)
    ∧ ((s.group g).disable = 0 → t.reg (K.gstGroupState g) = state)
    ∧ ((s.group g).disable ≠ 0 → t.reg (K.gstGroupState g) = 0 ∧ t.reg (K.grpGroupEnable g) = 0
        ∧ awaited t (.disable (.group g)) = false)

/-- STOP: a moving group begins the stop of its kind with its cause and keeps its queue; a quick stop overrides a controlled
one (06 R267); of stops of one kind that meet between two ticks the lower cause is recorded; a disabled group and one in state 6
have nothing to stop. At rest the queue is flushed and reported, and the group enters state 1, after a quick stop other than
STOP 2 state 6, or state 0 where a disable waits (06 R269); STOP_COMPLETE of a group that is not stopping, or not at rest,
changes nothing. ACK_FAULT leads from state 6 to state 1, and does nothing elsewhere (06 R234). -/
def GroupsStopAndFlush : Prop :=
  (∀ (s : State) (r : Req) (g : Group), Passes s r (K.grpStop g) 1 {} → (∀ x ∈ s.host.waits, x.2 ≠ r) →
    ∃ t, exec (.controlledStop r g) s = .next t ∧ Answered r 2 (K.grpStop g) 0 [] t
      ∧ (groupState s g = 2 → t.reg (K.gstGroupState g) = 5 ∧ (t.group g).stop = some (newStop s g false 1 false)
          ∧ (t.group g).queue = (s.group g).queue)
      ∧ ((groupState s g = 0 ∨ groupState s g = 6) → SameButHost s t)
      ∧ ((groupState s g = 1 ∨ groupState s g = 3 ∨ groupState s g = 4) → StoppedAtRest s t g 1 1)
      ∧ (∀ st, groupState s g = 5 → (s.group g).stop = some st →
          (st.quick = true ∨ st.new = false → SameButHost s t)
          ∧ (st.quick = false → st.new = true →
              (t.group g).stop = some { st with cause := min st.cause 1, byStop2 := false } ∧ t.regs = s.regs)))
  ∧ (∀ (s : State) (r : Req) (g : Group), Passes s r (K.grpStop g) 2 {} → (∀ x ∈ s.host.waits, x.2 ≠ r) →
    ∃ t, exec (.quickStop r g) s = .next t ∧ Answered r 2 (K.grpStop g) 0 [] t
      ∧ (groupState s g = 2 → t.reg (K.gstGroupState g) = 5 ∧ (t.group g).stop = some (newStop s g true 2 true)
          ∧ (t.group g).queue = (s.group g).queue)
      ∧ ((groupState s g = 0 ∨ groupState s g = 6) → SameButHost s t)
      ∧ ((groupState s g = 1 ∨ groupState s g = 3 ∨ groupState s g = 4) → StoppedAtRest s t g 2 1)
      ∧ (∀ st, groupState s g = 5 → (s.group g).stop = some st →
          (st.quick = false → t.regs = s.regs
            ∧ (t.group g).stop = some (newStop s g true (if st.new then min st.cause 2 else 2) true))
          ∧ (st.quick = true → st.new = false → SameButHost s t)
          ∧ (st.quick = true → st.new = true →
              (t.group g).stop = some { st with cause := min st.cause 2 } ∧ t.regs = s.regs)))
  ∧ (∀ (s : State) (g : Group) (st : StopSt), groupState s g = 5 → fLe (s.group g).v 0 = true → (s.group g).stop = some st →
    ∃ t, exec (.stopComplete g) s = .next t ∧ StoppedAtRest s t g st.cause (if st.quick && !st.byStop2 then 6 else 1)
      ∧ (st.quick = true → t.regBit (K.gstGrpStatus g) 14 = true))
  ∧ (∀ (s : State) (g : Group), (groupState s g ≠ 5 ∨ fLe (s.group g).v 0 = false ∨ (s.group g).stop = none) →
    exec (.stopComplete g) s = .next s)
  ∧ ∀ (s : State) (r : Req) (g : Group), Passes s r (K.grpAckFault g) 1 {} →
    ∃ t, exec (.ackFault r g) s = .next t ∧ Answered r 2 (K.grpAckFault g) 0 [] t
      ∧ (groupState s g = 6 → t.reg (K.gstGroupState g) = 1 ∧ t.reg (K.gstSegError g) = 0
          ∧ OnlyRegs [K.gstGroupState g, K.gstSegError g, K.gstGrpStatus g] s t)
      ∧ (groupState s g ≠ 6 → SameButHost s t)

/-- The queue of a group with more segments: a wait that comes behind the one segment that executes is armed (06 R245). -/
def joined (x : Grp) (q : List Seg) : List Seg :=
  x.queue ++ if x.active && x.queue.length == 1 then (match q with | z :: rest => armSeg z :: rest | [] => []) else q

/-- Segment writes: good records that fit join the queue, in order; records that do not parse refuse the write whole; without
room a write ends with QUEUE_FULL, or under FULL_WAIT waits until there is room, or until its time is over (06 R261). A write
of more than 4,096 bytes ends with its whole records appended, or at a bad one with 0x06090030 (06 R262). With no write waiting
neither room nor the end of its time changes anything. -/
def SegmentsEnterTheQueueWhole : Prop :=
  (∀ (s : State) (r : Req) (g : Group) (data : List Byte) (q : List Seg),
    BytesPass s r (K.segmentStream g) data { state := streamCode s g } → data.length ≤ 4096 →
    parseRecords (s.regN (K.slotsSlotCount g)) (s.regN (K.slotsPathMask g)) g (data.length / 64 + 1) data = some q →
    (s.group g).full = [] → unitsOf (s.group g).queue + unitsOf q ≤ 4096 →
    ∃ t, exec (.segmentWrite r g data) s = .next t ∧ (t.group g).queue = joined (s.group g) q
      ∧ t.reg (K.gstQueueSegments g) = ((s.group g).queue ++ q).length ∧ Answered r 4 (K.segmentStream g) 0 [] t
      ∧ RegsBut [K.gstQueueSegments g, K.gstQueueFree g, K.gstWindowSegments g, K.gstSegIdActive g] s t)
  ∧ (∀ (s : State) (r : Req) (g : Group) (data : List Byte),
    BytesPass s r (K.segmentStream g) data { state := streamCode s g } → data.length ≤ 4096 →
    parseRecords (s.regN (K.slotsSlotCount g)) (s.regN (K.slotsPathMask g)) g (data.length / 64 + 1) data = none →
    ∃ t, exec (.segmentWrite r g data) s = .next t ∧ Answered r 4 (K.segmentStream g) 0x06090030 [] t ∧ SameButHost s t)
  ∧ (∀ (s : State) (r : Req) (g : Group) (data : List Byte) (q : List Seg),
    BytesPass s r (K.segmentStream g) data { state := streamCode s g } → data.length ≤ 4096 →
    parseRecords (s.regN (K.slotsSlotCount g)) (s.regN (K.slotsPathMask g)) g (data.length / 64 + 1) data = some q →
    ((s.group g).full ≠ [] ∨ 4096 < unitsOf (s.group g).queue + unitsOf q) →
    ∃ t, exec (.segmentWrite r g data) s = .next t ∧ (t.group g).queue = (s.group g).queue
      ∧ (s.reg (K.grpFullWait g) = 0 → Answered r 4 (K.segmentStream g) 0x05040005 [] t ∧ t.regBit (K.gstGrpStatus g) 8 = true
          ∧ OnlyRegs [K.gstGrpStatus g] s t)
      ∧ (s.reg (K.grpFullWait g) ≠ 0 → (t.group g).full = (s.group g).full ++ [(r, q)] ∧ t.regs = s.regs))
  ∧ (∀ (s : State) (r : Req) (g : Group) (data : List Byte) (q : List Seg) (bad : Bool),
    BytesPass s r (K.segmentStream g) data { state := streamCode s g } → 4096 < data.length →
    parsePrefix (s.regN (K.slotsSlotCount g)) (s.regN (K.slotsPathMask g)) g (data.length / 64 + 1) data = (q, bad) →
    (s.group g).full = [] → unitsOf (s.group g).queue + unitsOf q ≤ 4096 →
    ∃ t, exec (.segmentWrite r g data) s = .next t ∧ (t.group g).queue = joined (s.group g) q
      ∧ Answered r 4 (K.segmentStream g) (if bad then 0x06090030 else 0) [] t)
  ∧ (∀ (s : State) (g : Group) (r : Req) (q : List Seg) (rest : List (Req × List Seg)), (s.group g).full = (r, q) :: rest →
    (unitsOf (s.group g).queue + unitsOf q ≤ 4096 →
      exec (.queueRoomAppend g) s
        = exec (.queueRoomAppend g) (ok (appendSegs (s.modGrp g fun x => { x with full := rest }) g q) r))
    ∧ (4096 < unitsOf (s.group g).queue + unitsOf q → exec (.queueRoomAppend g) s = .next s))
  ∧ (∀ (s : State) (g : Group) (r : Req) (q : List Seg), (s.group g).full = [(r, q)] →
    unitsOf (s.group g).queue + unitsOf q ≤ 4096 →
    ∃ t, exec (.queueRoomAppend g) s = .next t ∧ (t.group g).queue = joined (s.group g) q ∧ (t.group g).full = [])
  ∧ (∀ (s : State) (g : Group) (r : Req) (q : List Seg) (rest : List (Req × List Seg)), (s.group g).full = (r, q) :: rest →
    ∃ t, exec (.queueFullTimeout g) s = .next t ∧ (t.group g).full = rest ∧ (t.group g).queue = (s.group g).queue
      ∧ t.regBit (K.gstGrpStatus g) 8 = true ∧ RegsBut [K.gstGrpStatus g] s t)
  ∧ ∀ (s : State) (g : Group), (s.group g).full = [] →
    exec (.queueRoomAppend g) s = .next s ∧ exec (.queueFullTimeout g) s = .next s

/-- Dwells and waits: the head that is done leaves the queue with its SEG_ID in SEG_ID_DONE and the group goes on (06 R243); a
wait that runs out continues too, or with TIMEOUT_ACTION flushes the queue, both with WAIT_TIMEOUT, and one whose condition
holds at that tick is met; a group that is on no such segment, or not done with it, is left alone. The override is stored. -/
def DwellsAndWaitsEnd : Prop :=
  (∀ (s : State) (g : Group) (x : Seg) (rest : List Seg), groupState s g = 3 → (s.group g).active = true →
    (s.group g).queue = x :: rest → x.typ = 5 → ticksOf s x.dur ≤ (s.group g).ticks + 1 →
    ∃ t, exec (.dwellEnd g) s = .next t ∧ (t.group g).queue = rest ∧ t.reg (K.gstSegIdDone g) = x.id
      ∧ (t.group g).active = false ∧ t.reg (K.gstQueueSegments g) = rest.length)
  ∧ (∀ (s : State) (g : Group) (x : Seg) (rest : List Seg), groupState s g = 3 → (s.group g).active = true →
    (s.group g).queue = x :: rest → x.typ = 6 → waitMet s g x = true →
    ∃ t, exec (.waitMet g) s = .next t ∧ (t.group g).queue = rest ∧ t.reg (K.gstSegIdDone g) = x.id
      ∧ (t.group g).active = false ∧ t.reg (K.gstQueueSegments g) = rest.length)
  ∧ (∀ (s : State) (g : Group) (x : Seg) (rest : List Seg), groupState s g = 3 → (s.group g).active = true →
    (s.group g).queue = x :: rest → x.typ = 6 → x.tmo ≠ 0 → ticksOf s x.tmo ≤ (s.group g).ticks + 1 →
    ∃ t, exec (.waitTimeout g) s = .next t
      ∧ (waitMet s g x = true ∨ x.tact = 0 → (t.group g).queue = rest ∧ t.reg (K.gstSegIdDone g) = x.id)
      ∧ (waitMet s g x = false → t.regBit (K.gstGrpStatus g) 12 = true)
      ∧ (waitMet s g x = false → x.tact ≠ 0 → (t.group g).queue = [] ∧ t.reg (K.gstSegError g) = 5
          ∧ t.reg (K.flushCause g) = 7 ∧ t.reg (K.flushCount g) = (rest.length + 1 : Nat)))
  ∧ (∀ (s : State) (g : Group), (waitingHead s g = none ∨ ∀ x, waitingHead s g = some x → x.typ ≠ 5 ∧ x.typ ≠ 6) →
    exec (.dwellEnd g) s = .next s ∧ exec (.waitMet g) s = .next s ∧ exec (.waitTimeout g) s = .next s)
  ∧ (∀ (s : State) (g : Group) (x : Seg), waitingHead s g = some x →
    ((x.typ ≠ 5 ∨ (s.group g).ticks + 1 < ticksOf s x.dur) → exec (.dwellEnd g) s = .next s)
    ∧ ((x.typ ≠ 6 ∨ waitMet s g x = false) → exec (.waitMet g) s = .next s)
    ∧ ((x.typ ≠ 6 ∨ x.tmo = 0 ∨ (s.group g).ticks + 1 < ticksOf s x.tmo) → exec (.waitTimeout g) s = .next s))
  ∧ ∀ (s : State) (r : Req) (g : Group) (v : BitVec 16), Passes s r (K.ovrOverride g) v.toNat {} →
    ∃ t, exec (.feedOverrideWrite r g v) s = .next t ∧ t.reg (K.ovrOverride g) = v.toNat ∧ Answered r 2 (K.ovrOverride g) 0 [] t
      ∧ OnlyRegs [K.ovrOverride g] s t

/-- No load, partial stream or unload is in progress. -/
abbrev NoLoad (s : State) : Prop := s.fab.load = none ∧ s.fab.fcp = none ∧ s.fab.drop = 0

/-- Memory of a fabric port: a request with a free tag at a port that is not enabled is answered with status 5 and does nothing;
a write to the scratchpad of an enabled port in banks of its own puts its bytes there and changes no other byte; a read gives
the bytes and changes none, with a corrected word counted, and with an uncorrectable one status 4; beyond its own banks it gets
status 1. In DRAM that is not up it gets status 6, in a range that is not the port's to use status 2, and else what the cipher
gives. A region that is not loaded sends nothing, nor does a tag in flight. The response of a tag comes once and frees it, and a
failed one is counted (08 R317). -/
def FabricMemoryReadsAndWrites : Prop :=
  (∀ (s : State) (p : Fin 8) (q : FabMem), regionLoaded s (hostRegion p) = true →
    (s.port p).mem.any (fun m => m.tag == q.tag.val) = false → s.reg (K.portEnable p) ≠ 1 →
    ∃ t, exec (.fabricMemoryRequest p q) s = .next t ∧ t.mem = s.mem
      ∧ (t.port p).mem = (s.port p).mem ++ [⟨q.tag, 5, if q.write then [] else zeros (32 * (q.more.val + 1))⟩]
      ∧ t.reg (K.portTagsInUse p) = ((s.port p).mem.length + 1 : Nat) ∧ RegsBut [K.portTagsInUse p] s t)
  ∧ (∀ (s : State) (p : Fin 8) (q : FabMem), regionLoaded s (hostRegion p) = true →
    (s.port p).mem.any (fun m => m.tag == q.tag.val) = false → s.reg (K.portEnable p) = 1 → q.dram = false →
    spOwned s p (32 * q.word.toNat) (32 * (q.more.val + 1)) = true → q.write = true →
    ∃ t, exec (.fabricMemoryRequest p q) s = .next t ∧ (t.port p).mem = (s.port p).mem ++ [⟨q.tag, 0, []⟩]
      ∧ (∀ a, tabGet (fun _ => 0#8) t.mem.sp a =
          if 32 * q.word.toNat ≤ a ∧ a < 32 * q.word.toNat + 32 * (q.more.val + 1) then q.data.getD (a - 32 * q.word.toNat) 0
          else tabGet (fun _ => 0#8) s.mem.sp a)
      ∧ t.mem.dram = s.mem.dram ∧ RegsBut [K.portTagsInUse p] s t)
  ∧ (∀ (s : State) (p : Fin 8) (q : FabMem), regionLoaded s (hostRegion p) = true →
    (s.port p).mem.any (fun m => m.tag == q.tag.val) = false → s.reg (K.portEnable p) = 1 → q.dram = false →
    spOwned s p (32 * q.word.toNat) (32 * (q.more.val + 1)) = true → q.write = false → q.fault ≠ 2 →
    let b := 32 * q.word.toNat / 0x40000
    ∃ t, exec (.fabricMemoryRequest p q) s = .next t ∧ t.mem = s.mem ∧ RegsBut [K.portTagsInUse p, K.bankCorrected b] s t
      ∧ (q.fault = 0 → t.reg (K.bankCorrected b) = s.reg (K.bankCorrected b))
      ∧ (q.fault = 1 → t.reg (K.bankCorrected b) = ((s.regN (K.bankCorrected b) + 1) % 2 ^ 32 : Nat))
      ∧ (t.port p).mem = (s.port p).mem ++ [⟨q.tag, 0, (List.range (32 * (q.more.val + 1))).map fun i =>
          tabGet (fun _ => 0#8) s.mem.sp (32 * q.word.toNat + i)⟩])
  ∧ (∀ (s : State) (p : Fin 8) (q : FabMem), regionLoaded s (hostRegion p) = true →
    (s.port p).mem.any (fun m => m.tag == q.tag.val) = false → s.reg (K.portEnable p) = 1 → q.dram = false →
    spOwned s p (32 * q.word.toNat) (32 * (q.more.val + 1)) = true → q.write = false → q.fault = 2 →
    ∃ t, exec (.fabricMemoryRequest p q) s = .next t ∧ t.mem.sp = s.mem.sp
      ∧ (t.port p).mem = (s.port p).mem ++ [⟨q.tag, 4, zeros (32 * (q.more.val + 1))⟩])
  ∧ (∀ (s : State) (p : Fin 8) (q : FabMem), regionLoaded s (hostRegion p) = true →
    (s.port p).mem.any (fun m => m.tag == q.tag.val) = false → s.reg (K.portEnable p) = 1 → q.dram = true →
    let n := 32 * (q.more.val + 1)
    let a := 32 * q.word.toNat
    let x := if q.write then ((writeDram s a q.key.toNat ((q.data ++ zeros n).take n)).2, []) else (readDram s a n q.key.toNat).2
    ∃ t, exec (.fabricMemoryRequest p q) s = .next t
      ∧ (dramUp s = false ∨ blocked s a n = true → t.mem = s.mem ∧ RegsBut [K.portTagsInUse p] s t
          ∧ (t.port p).mem = (s.port p).mem
              ++ [⟨q.tag, if dramUp s then 2 else 6, if q.write then [] else zeros n⟩])
      ∧ (dramUp s = true → blocked s a n = false → (t.port p).mem = (s.port p).mem ++ [⟨q.tag, x.1, x.2⟩]
          ∧ (q.write = true → t.mem = (writeDram s a q.key.toNat ((q.data ++ zeros n).take n)).1.mem)))
  ∧ (∀ (s : State) (p : Fin 8) (q : FabMem), regionLoaded s (hostRegion p) = true →
    (s.port p).mem.any (fun m => m.tag == q.tag.val) = false → s.reg (K.portEnable p) = 1 → q.dram = false →
    spOwned s p (32 * q.word.toNat) (32 * (q.more.val + 1)) = false →
    ∃ t, exec (.fabricMemoryRequest p q) s = .next t ∧ t.mem = s.mem ∧ RegsBut [K.portTagsInUse p] s t
      ∧ (t.port p).mem = (s.port p).mem ++ [⟨q.tag, 1, if q.write then [] else zeros (32 * (q.more.val + 1))⟩])
  ∧ (∀ (s : State) (p : Fin 8) (q : FabMem),
    (regionLoaded s (hostRegion p) = false ∨ (s.port p).mem.any (fun m => m.tag == q.tag.val) = true) →
    exec (.fabricMemoryRequest p q) s = .next s)
  ∧ (∀ (s : State) (p : Fin 8) (tag : Fin 64), (s.port p).mem.find? (fun m => m.tag == tag.val) = none →
    exec (.fabricMemoryResponse p tag) s = .next s)
  ∧ ∀ (s : State) (p : Fin 8) (tag : Fin 64) (m : FabReq), (s.port p).mem.find? (fun m => m.tag == tag.val) = some m →
    NoLoad s → s.reg (K.portEnable p) = 1 →
    ∃ t, exec (.fabricMemoryResponse p tag) s = .next t ∧ (t.port p).got = some m
      ∧ (t.port p).mem = ((s.port p).mem.filter fun x => x.tag != tag.val)
      ∧ t.reg (K.portTagsInUse p) = ((s.port p).mem.filter fun x => x.tag != tag.val).length
      ∧ t.reg (K.portErrors p) = (if m.status = 0 then s.reg (K.portErrors p) else (((s.regN (K.portErrors p) + 1) % 2 ^ 32 : Nat) : Int))

/-- Axis words and flags: a word for an axis that names the port counts for this tick, or for the next if it is late, and only
what its valid flags name; a flag keeps the value written; from a port that does not serve nothing is taken (08 R319). -/
def FabricWordsReachTheirAxis : Prop :=
  (∀ (s : State) (p : Fin 8) (axis : BitVec 6) (w : BitVec 256) (late : Bool), axis.toNat < 48 →
    s.regN (K.tapPort axis.toNat) = p.val → portServes s p = true →
    let corr := if w.getLsbD 160 then some (w.extractLsb' 0 64).toInt else none
    let sp := if w.getLsbD 161 then some (w.extractLsb' 64 64).toInt else none
    let dem := if w.getLsbD 162 then some (w.extractLsb' 128 32).toInt else none
    ∃ t, exec (.fabricAxisWord p axis w late) s = .next t ∧ { t with eng := s.eng } = s
      ∧ (∀ n, n ≠ axis.toNat → t.engine n = s.engine n)
      ∧ (t.engine axis.toNat).wDem = dem.or (s.engine axis.toNat).wDem
      ∧ (late = false → (t.engine axis.toNat).wSp = sp.or (s.engine axis.toNat).wSp
          ∧ (t.engine axis.toNat).wCorr = corr.or (s.engine axis.toNat).wCorr
          ∧ (t.engine axis.toNat).nSp = (s.engine axis.toNat).nSp ∧ (t.engine axis.toNat).nCorr = (s.engine axis.toNat).nCorr)
      ∧ (late = true → (t.engine axis.toNat).nSp = sp.or (s.engine axis.toNat).nSp
          ∧ (t.engine axis.toNat).nCorr = corr.or (s.engine axis.toNat).nCorr
          ∧ (t.engine axis.toNat).wSp = (s.engine axis.toNat).wSp ∧ (t.engine axis.toNat).wCorr = (s.engine axis.toNat).wCorr))
  ∧ (∀ (s : State) (p : Fin 8) (axis : BitVec 6) (w : BitVec 256) (late : Bool),
    (48 ≤ axis.toNat ∨ s.regN (K.tapPort axis.toNat) ≠ p.val ∨ portServes s p = false) →
    exec (.fabricAxisWord p axis w late) s = .next s)
  ∧ (∀ (s : State) (p f : Fin 8) (v : Bool), portServes s p = true → ∃ t, exec (.fabricFlagWrite p f v) s = .next t
      ∧ t = s.modFab (fun x => { x with flags := t.fab.flags })
      ∧ ∀ i, t.fab.flags.testBit i = if i = 8 * p.val + f.val then v else s.fab.flags.testBit i)
  ∧ ∀ (s : State) (p f : Fin 8) (v : Bool), portServes s p = false → exec (.fabricFlagWrite p f v) s = .next s

/-- Published entries: the oldest request that waits is passed to the port, and the others stay as they are; the answer of the
port, or the time limit, ends the oldest that it holds, with the code, or, of a read that succeeds, with the part of the data
that it asks for. A port that holds none ends none (08 R321). -/
def PublishedEntriesAnswer : Prop :=
  (∀ (s : State) (p : Fin 8) (held rest : List ObjReq) (o : ObjReq), (s.port p).objs = held ++ o :: rest →
    (∀ x ∈ held, x.passed = true) → o.passed = false →
    ∃ t, exec (.fabricObjectRequest p) s = .next t ∧ (t.port p).objs = held ++ { o with passed := true } :: rest
      ∧ { t with fab := s.fab } = s)
  ∧ (∀ (s : State) (p : Fin 8), (∀ x ∈ (s.port p).objs, x.passed = true) →
    ∃ t, exec (.fabricObjectRequest p) s = .next t ∧ (t.port p).objs = (s.port p).objs ∧ { t with fab := s.fab } = s)
  ∧ (∀ (s : State) (p : Fin 8) (o : ObjReq) (rest : List ObjReq) (abort : BitVec 32) (data : List Byte),
    (s.port p).objs = o :: rest → o.passed = true → NoLoad s → s.reg (K.portEnable p) = 1 →
    let x := if abort = 0 then readPart o.op o.offset o.length data else (abort.toNat, [])
    ∃ t, exec (.fabricObjectAnswer p abort data) s = .next t ∧ (t.port p).objs = rest
      ∧ t.host = (reply s o.req x.1 x.2).host ∧ t.regs = s.regs
      ∧ (o.req.org = .sdo → (t.path o.req.path).resp = some ⟨x.1, x.2⟩))
  ∧ (∀ (s : State) (p : Fin 8) (o : ObjReq) (rest : List ObjReq),
    (s.port p).objs = o :: rest → o.passed = true → NoLoad s → s.reg (K.portEnable p) = 1 →
    ∃ t, exec (.fabricObjectTimeout p) s = .next t ∧ (t.port p).objs = rest
      ∧ t.host = (refuse s o.req 0x06060000).host ∧ t.regs = s.regs
      ∧ (o.req.org = .sdo → (t.path o.req.path).resp = some ⟨0x06060000, []⟩))
  ∧ ∀ (s : State) (p : Fin 8) (abort : BitVec 32) (data : List Byte), (∀ x ∈ (s.port p).objs, x.passed = false) →
    exec (.fabricObjectAnswer p abort data) s = .next s ∧ exec (.fabricObjectTimeout p) s = .next s

/-- Configuration frames: single errors are corrected and counted by region; a double error whose copy in flash verifies freezes
the frame and its region until it is rewritten, otherwise it is counted as unrecovered; the rewrite is told and counted (08
R327). Regions that are not loaded are not read, and a frame that is not frozen is not rewritten. A switching seam that has
emptied takes the mode it wants, SYNC only as requested, with one clock and rails alike; the rail monitors show what they
measure (08 R312). -/
def FabricScrubsAndMonitors : Prop :=
  (∀ (s : State) (frame : Fin 22528) (how : FrameRead), regionLoaded s (frame.val / 1408) = false →
    exec (.scrubFrameRead frame how) s = .next s)
  ∧ (∀ (s : State) (frame : Fin 22528) (how : FrameRead), regionLoaded s (frame.val / 1408) = true →
    (how = .good ∨ (how = .double ∧ frame.val ∈ s.fab.frozen)) →
    ∃ t, exec (.scrubFrameRead frame how) s = .next t ∧ { t with regs := s.regs } = s
      ∧ t.reg K.scrubPasses = (if lastFrame s frame then (((s.regN K.scrubPasses + 1) % 2 ^ 32 : Nat) : Int) else s.reg K.scrubPasses)
      ∧ RegsBut [K.scrubPasses] s t)
  ∧ (∀ (s : State) (frame : Fin 22528), regionLoaded s (frame.val / 1408) = true →
    ∃ t, exec (.scrubFrameRead frame .single) s = .next t
      ∧ t.reg K.scrubCorrected = ((s.regN K.scrubCorrected + 1) % 2 ^ 32 : Nat)
      ∧ t.reg (K.regionFrameErrors (frame.val / 1408)) = ((s.regN (K.regionFrameErrors (frame.val / 1408)) + 1) % 2 ^ 32 : Nat)
      ∧ OnlyRegs [K.scrubCorrected, K.regionFrameErrors (frame.val / 1408), K.scrubPasses] s t)
  ∧ (∀ (s : State) (frame : Fin 22528), regionLoaded s (frame.val / 1408) = true → frame.val ∉ s.fab.frozen → NoLoad s →
    ∃ t, exec (.scrubFrameRead frame .double) s = .next t
      ∧ (frameCopyOk s frame = true → t.reg (K.regionState (frame.val / 1408)) = 4 ∧ frame.val ∈ t.fab.frozen)
      ∧ (frameCopyOk s frame = false → t.reg K.scrubUnrecovered = ((s.regN K.scrubUnrecovered + 1) % 2 ^ 16 : Nat)
          ∧ t.reg K.scrubLastFrame = frame.val))
  ∧ (∀ (s : State) (frame : Fin 22528), frame.val ∈ s.fab.frozen →
    ∃ t, exec (.frameRewriteDone frame) s = .next t ∧ frame.val ∉ t.fab.frozen ∧ t.reg K.scrubLastFrame = frame.val
      ∧ t.reg K.scrubRewritten = ((s.regN K.scrubRewritten + 1) % 2 ^ 32 : Nat)
      ∧ RegsBut [K.scrubRewritten, K.scrubLastFrame, K.regionState (frame.val / 1408), K.errRegErrorRegister, K.tagEmcyOverflow] s t)
  ∧ (∀ (s : State) (frame : Fin 22528), frame.val ∉ s.fab.frozen → exec (.frameRewriteDone frame) s = .next s)
  ∧ (∀ (s : State) (k : Fin 24),
    (s.reg (K.seamMode k) ≠ 3 ∨ (s.seamDir (2 * k)).words ≠ [] ∨ (s.seamDir (2 * k + 1)).words ≠ []) →
    exec (.seamSwitchDone k) s = .next s)
  ∧ (∀ (s : State) (k : Fin 24), s.reg (K.seamMode k) = 3 → (s.seamDir (2 * k)).words = [] → (s.seamDir (2 * k + 1)).words = [] →
    ∃ t, exec (.seamSwitchDone k) s = .next t
      ∧ t.reg (K.seamMode k) = (if s.reg (K.seamRequested k) = 1 ∧ sameClock s k = true ∧ seamApart s k = false then 1 else 2)
      ∧ OnlyRegs [K.seamMode k] s t)
  ∧ ∀ (s : State) (vccq : List Nat) (sys : Nat), NoLoad s → ∃ t, exec (.railMonitorSample vccq sys) s = .next t
      ∧ t.reg K.railVccSysMeas = sys ∧ (∀ q < 4, t.reg (K.railVccq0Meas + q) = vccq.getD q 0)
      ∧ ∀ k < 24, t.reg (K.seamRailDiff k) = (vccq.getD (seamQuads k).1 0 : Int) - vccq.getD (seamQuads k).2 0

/-- Words on a seam, as its sender and its receiver see them: a word offered at READY goes behind those that wait, in SYNC mode
into the register; one offered without READY stays on offer and none is lost; the receiver is shown the oldest and takes it, and
sees none of a seam that is off (08 R306). A seam in FIFO mode is ready for eight words, one that switches is not. -/
def SeamsPassTheirWords : Prop :=
  ∀ (s : State) (i : Nat) (w : BitVec 256),
    (seamReady s i = true → ((seamSend s i w).seamDir i).offer = none
      ∧ ((seamSend s i w).seamDir i).words = (if s.reg (K.seamMode (i / 2)) = 1 then [w] else (s.seamDir i).words ++ [w]))
    ∧ (seamReady s i = false → ((seamSend s i w).seamDir i).words = (s.seamDir i).words
      ∧ ((seamSend s i w).seamDir i).offer = some w)
    ∧ (∀ j, j ≠ i → (seamSend s i w).seamDir j = s.seamDir j ∧ (seamTake s i).seamDir j = s.seamDir j)
    ∧ (s.reg (K.seamMode (i / 2)) ≠ 0 → ∀ ws, (s.seamDir i).words = w :: ws →
        seamShown s i = some w ∧ ((seamTake s i).seamDir i).words = ws)
    ∧ (s.reg (K.seamMode (i / 2)) = 0 → seamShown s i = none ∧ seamReady s i = false ∧ seamTake s i = s)
    ∧ (s.reg (K.seamMode (i / 2)) = 3 → seamReady s i = false)
    ∧ (s.reg (K.seamMode (i / 2)) = 2 → seamReady s i = decide ((s.seamDir i).words.length < 8))

/-- The release: once the own load has ended, the done condition releases the device with state 2 and the times it is told, an
open condition only shows the line, and the time limit releases it with state 3; in other states, and in SAFE state, neither
does anything (09 R384). -/
def DoneConditionReleasesTheDevice : Prop :=
  (∀ (s : State) (ball : Bool) (a b c : BitVec 32), s.reg K.ingotReleaseState = 1 → s.mode ≠ .safe →
    doneMet (s.setBit K.cfgDoneLine 0 ball) ball = true →
    ∃ t, exec (.doneConditionMet ball a b c) s = .next t ∧ t.released = true ∧ t.reg K.ingotReleaseState = 2
      ∧ t.reg K.ingotLoadTime = a.toNat ∧ t.reg K.cfgDoneWaited = b.toNat ∧ t.reg K.powWakeTime = c.toNat ∧ t.power.stage = 0)
  ∧ (∀ (s : State) (ball : Bool) (a b c : BitVec 32), s.reg K.ingotReleaseState = 1 → s.mode ≠ .safe →
    doneMet (s.setBit K.cfgDoneLine 0 ball) ball = false →
    ∃ t, exec (.doneConditionMet ball a b c) s = .next t ∧ t = s.setBit K.cfgDoneLine 0 ball)
  ∧ (∀ (s : State) (a c : BitVec 32), s.reg K.ingotReleaseState = 1 → s.mode ≠ .safe → slDoneTimeout s.fab.slate ≠ 0 →
    ∃ t, exec (.doneTimeout a c) s = .next t ∧ t.released = true ∧ t.reg K.ingotReleaseState = 3
      ∧ t.reg K.ingotLoadTime = a.toNat ∧ t.reg K.powWakeTime = c.toNat
      ∧ t.reg K.cfgDoneWaited = (1000 * slDoneTimeout s.fab.slate : Nat))
  ∧ ∀ (s : State) (ball : Bool) (a b c : BitVec 32), (s.reg K.ingotReleaseState ≠ 1 ∨ s.mode = .safe) →
    exec (.doneConditionMet ball a b c) s = .next s ∧ exec (.doneTimeout a c) s = .next s

/-- The flash bank does nothing. -/
abbrev BankIdle (s : State) (b : Nat) : Prop :=
  (s.flBank b).op = none ∧ (s.flBank b).susp = none ∧ (s.flBank b).queue = []

/-- The flash bank ends no other work at once: it is at work, or has nothing to do. -/
abbrev BankSteady (s : State) (b : Nat) : Prop := (s.flBank b).op.isSome = true ∨ BankIdle s b

/-- Staging: an open claims the slot for the path, with no bytes in it, and waits for its erase; data that go on where the last
ended are queued for the slot's bank in whole pages, or, with the bank idle and the page free, begin; no data end at once; a close
has the slot verified; a discard ends the claim and leaves the slot invalid (09 R363); the verification's end shows its cause,
makes the slot verified or invalid, and completes the close or the promotion; of a slot that is not being verified it does
nothing. -/
def StagingFollowsItsClaim : Prop :=
  (∀ (s : State) (r : Req),
    Passes s r K.stageCommand 1 { state := whenCode ((s.regN K.stageOwner != 0 && s.regN K.stageOwner != pathNo r.path) || cutting s
      || s.fab.promote || s.regN (K.slotState (slotOf s 2)) == 1 || s.regN (K.slotState (slotOf s 2)) == 3) 0x08000022 } →
    BankSteady s (slotOf s 2) →
    ∃ t, exec (.stageOpen r) s = .next t ∧ t.reg K.stageOwner = pathNo r.path ∧ t.reg K.stageWritten = 0
      ∧ t.reg (K.slotState (slotOf s 2)) = 1 ∧ Waits t .stageOpen r)
  ∧ (∀ (s : State) (r : Req) (off : BitVec 32) (data : List Byte), data ≠ [] →
    (∀ n, r.org = .tag n → off.toNat = s.regN K.stageWritten) →
    BytesPass s r K.stageData data
      { state := whenCode (s.regN K.stageOwner != pathNo r.path || s.reg (K.slotState (slotOf s 2)) != 2) 0x08000022 } →
    data.length % 512 = 0 → s.regN K.stageWritten + data.length ≤ 0xC00000 → stageIdle s (slotOf s 2) = true →
    let a := slotBase (slotOf s 2) + s.regN K.stageWritten
    ∃ t, exec (.stageData r off data) s = .next t
      ∧ (∀ j, (s.flBank (slotOf s 2)).op = some j → (t.flBank (slotOf s 2)).op = some j ∧ t.flash.array = s.flash.array
          ∧ (t.flBank (slotOf s 2)).queue.length = (s.flBank (slotOf s 2)).queue.length + data.length / 512
          ∧ t.reg K.stageWritten = s.reg K.stageWritten)
      ∧ ((s.flBank (slotOf s 2)).op = none → (s.flBank (slotOf s 2)).susp = none → (s.flBank (slotOf s 2)).queue = [] →
          flashServes s = true → s.mode ≠ .safe → s.power.down = false → (s.flBlock (a / 0x40000)).incomplete = false →
          (s.flBlock (a / 0x40000)).top ≤ a % 0x40000 / 512 →
          (t.flBank (slotOf s 2)).op.isSome = true ∧ (t.flBank (slotOf s 2)).queue.length + 1 = data.length / 512
            ∧ t.flash.array = s.flash.array ∧ t.reg K.stageWritten = s.reg K.stageWritten))
  ∧ (∀ (s : State) (r : Req) (off : BitVec 32), (∀ n, r.org = .tag n → off.toNat = s.regN K.stageWritten) →
    BytesPass s r K.stageData []
      { state := whenCode (s.regN K.stageOwner != pathNo r.path || s.reg (K.slotState (slotOf s 2)) != 2) 0x08000022 } →
    s.regN K.stageWritten ≤ 0xC00000 → stageIdle s (slotOf s 2) = true →
    ∃ t, exec (.stageData r off []) s = .next t ∧ Answered r 4 K.stageData 0 [] t ∧ SameButHost s t)
  ∧ (∀ (s : State) (r : Req),
    Passes s r K.stageCommand 2 { state := whenCode (s.regN K.stageOwner != pathNo r.path || s.reg (K.slotState (slotOf s 2)) == 1
      || s.reg (K.slotState (slotOf s 2)) == 3 || !stageIdle s (slotOf s 2)) 0x08000022 } →
    ∃ t, exec (.stageClose r) s = .next t ∧ t.reg (K.slotState (slotOf s 2)) = 3 ∧ Waits t .stageClose r
      ∧ OnlyRegs [K.slotState (slotOf s 2)] s t)
  ∧ (∀ (s : State) (r : Req), (∀ x ∈ s.host.waits, x.2 ≠ r) →
    (∀ j ∈ (s.flBank (slotOf s 2)).op.toList ++ (s.flBank (slotOf s 2)).queue, ∀ a b, j.fin ≠ .stageData a b (some r)) →
    Passes s r K.stageCommand 3 { state := whenCode (s.regN K.stageOwner != pathNo r.path || cutting s) 0x08000022 } →
    ∃ t, exec (.stageDiscard r) s = .next t ∧ t.reg K.stageOwner = 0 ∧ t.reg (K.slotState (slotOf s 2)) = 5
      ∧ Answered r 2 K.stageCommand 0 [] t ∧ awaited t .stageOpen = false ∧ awaited t .stageClose = false
      ∧ RegsBut [K.stageOwner, K.slotState (slotOf s 2)] s t)
  ∧ (∀ (s : State) (slot : Fin 3), s.reg (K.slotState slot) = 3 → (slot ≠ 0 ∨ s.fab.promote = false) →
    ∃ t, exec (.imageVerifyDone slot) s = .next t
      ∧ t.reg (K.slotState slot) = (if imageCause s slot = 0 then 4 else 5) ∧ t.reg (K.slotResult slot) = imageCause s slot
      ∧ awaited t .stageClose = false ∧ (slot ≠ 0 → t.reg K.stageOwner = 0) ∧ t.flash = s.flash)
  ∧ (∀ (s : State), s.reg (K.slotState 0) = 3 → s.fab.promote = true →
    ∃ t, exec (.imageVerifyDone 0) s = .next t ∧ t.fab.promote = false ∧ awaited t .promote = false
      ∧ t.reg (K.slotState 0) = (if imageCause s 0 = 0 then 4 else 5))
  ∧ ∀ (s : State) (slot : Fin 3), s.reg (K.slotState slot) ≠ 3 → exec (.imageVerifyDone slot) s = .next s

/-- What CUTOVER 1 or 2 leaves: with a slate that passes the cutover waits for its instant, with one that fails the request ends
with its cause. -/
abbrev CutStarts (s t : State) (r : Req) (how : Nat) : Prop :=
  let slot := slotOf s 2
  let c := slateCause s slot (slotSlate s slot)
  (c = 0 → t.reg (K.slotState slot) = 6 ∧ t.reg K.cutoverState = 1 ∧ t.fab.cut = how ∧ Waits t .cutover r
      ∧ RegsBut [K.slotState slot, K.cutoverState] s t)
    ∧ (c ≠ 0 → Answered r 2 K.cutover (causeAbort c) [] t ∧ t.reg (K.slotResult slot) = c ∧ OnlyRegs [K.slotResult slot] s t)

/-- Cutover, promotion and the floor: a cutover to an ingot whose slate passes waits for its instant, one whose slate fails is
refused with its cause; it may be cancelled while it waits; at the instant the new ingot's load begins, and its end swaps the
roles (09 R369); the ways back end in states 5 and 6; before its instant, or with no such load at its end, nothing happens.
PROMOTE_GOLDEN erases the golden slot first; the rollback floor only rises (09 R345). -/
def CutoversSwapTheSlots : Prop :=
  (∀ (s : State) (r : Req),
    Passes s r K.cutover 1 { state := whenCode (s.reg (K.slotState (slotOf s 2)) != 4 || s.fab.fcp.isSome || s.fab.promote
      || cutting s || loading s) 0x08000022 } →
    ∃ t, exec (.cutoverNextTick r) s = .next t ∧ CutStarts s t r 1)
  ∧ (∀ (s : State) (r : Req),
    Passes s r K.cutover 2 { state := whenCode (s.reg (K.slotState (slotOf s 2)) != 4 || s.fab.fcp.isSome || s.fab.promote
      || cutting s || loading s) 0x08000022 } →
    ∃ t, exec (.cutoverAtTime r) s = .next t ∧ CutStarts s t r 2)
  ∧ (∀ (s : State) (r : Req), (∀ x ∈ s.host.waits, x.2 ≠ r) →
    Passes s r K.cutover 0 { state := whenCode (s.reg K.cutoverState == 2 || s.reg K.cutoverState == 3) 0x08000022 } →
    ∃ t, exec (.cutoverCancel r) s = .next t ∧ Answered r 2 K.cutover 0 [] t
      ∧ (s.reg K.cutoverState = 1 → t.reg K.cutoverState = 0 ∧ t.reg (K.slotState (slotOf s 2)) = 4 ∧ t.fab.cut = 0
          ∧ awaited t .cutover = false)
      ∧ (s.reg K.cutoverState ≠ 1 → SameButHost s t))
  ∧ (∀ s : State, s.reg K.cutoverState = 1 → (s.fab.cut = 1 ∨ s.regN K.cutoverAt ≤ s.regN K.linkCellTime) → s.fab.fcp = none →
    ∃ t, exec .cutoverBegin s = .next t ∧ t.fab.cut = 0 ∧ (t.reg K.cutoverState = 2 ∨ t.reg K.cutoverState = 3)
      ∧ ∃ l, t.fab.load = some l ∧ l.purpose = .cutover ∧ l.slot = slotOf s 2 ∧ l.slate = slotSlate s (slotOf s 2))
  ∧ (∀ s : State, (s.reg K.cutoverState ≠ 1 ∨ (s.fab.cut ≠ 1 ∧ s.regN K.linkCellTime < s.regN K.cutoverAt)) →
    exec .cutoverBegin s = .next s)
  ∧ (∀ (s : State) (l : LoadSt), s.fab.load = some l → l.begun = true → l.order = [] → l.purpose = .cutover →
    (l.slot = 1 ∨ l.slot = 2) → slotOf s 1 ≠ l.slot →
    ∃ t, exec .cutoverDone s = .next t ∧ t.fab.load = none ∧ t.reg K.cutoverState = 4 ∧ t.reg (K.slotRole l.slot) = 1
      ∧ t.reg (K.slotRole (slotOf s 1)) = 2 ∧ t.reg K.ingotRunningSlot = l.slot ∧ awaited t .cutover = false)
  ∧ (∀ (s : State) (l : LoadSt), s.fab.load = some l → l.begun = true → l.order = [] → l.purpose = .back →
    ∃ t, exec .cutoverDone s = .next t ∧ t.fab.load = none ∧ t.reg K.cutoverState = 5 ∧ t.reg K.ingotRunningSlot = l.slot
      ∧ awaited t .cutover = false)
  ∧ (∀ (s : State) (l : LoadSt), s.fab.load = some l → l.begun = true → l.order = [] → l.purpose = .backGolden →
    ∃ t, exec .cutoverDone s = .next t ∧ t.fab.load = none ∧ t.reg K.cutoverState = 6 ∧ awaited t .cutover = false)
  ∧ (∀ s : State, (∀ l, s.fab.load = some l → l.begun = false ∨ l.order ≠ []
      ∨ (l.purpose ≠ .cutover ∧ l.purpose ≠ .back ∧ l.purpose ≠ .backGolden)) → exec .cutoverDone s = .next s)
  ∧ (∀ (s : State) (r : Req), Passes s r K.cutPromoteGolden 1 {} → s.reg (K.slotState (slotOf s 2)) = 4 →
    (slFlags (slotSlate s (slotOf s 2))).testBit 1 = true → slKey (slotSlate s (slotOf s 2)) = 0 →
    s.reg (K.slotState (slotOf s 1)) = 4 → cutting s = false → s.fab.promote = false → s.fab.cfgSlot ≠ some 0 → BankSteady s 0 →
    ∃ t, exec (.promoteGolden r) s = .next t ∧ t.reg (K.slotState 0) = 7 ∧ t.fab.promote = true ∧ Waits t .promote r)
  ∧ ∀ (s : State) (r : Req) (v : BitVec 32), Passes s r K.cutRollbackCommit v.toNat {} → v.toNat ≤ slRollback s.fab.slate →
    v.toNat ≤ (if s.reg (K.slotState 0) = 4 then s.regN (K.slotRollback 0) else 0) →
    ∃ t, exec (.rollbackCommit r v) s = .next t ∧ t.regN K.cutRollbackFloor = max (s.regN K.cutRollbackFloor) v.toNat
      ∧ Answered r 2 K.cutRollbackCommit 0 [] t ∧ OnlyRegs [K.cutRollbackFloor] s t

/-- The load has a region to write, and its rail has settled. -/
abbrev LoadAt (s : State) (l : LoadSt) (r : Nat) : Prop :=
  s.fab.load = some l ∧ l.order.head? = some r ∧ l.begun = true ∧ l.rail = none

/-- Loads, partial streams and reloads: the next region is written when its key, its table, its rail, its clock and all its
bundles pass, and the load fails with the cause of what does not, the first in this order; a region of a partial image waits for
its bundles; with no region to write nothing happens. Bytes of a stream that is not whole yet are kept, the first open it; a
region that is not the FCP master, or while another load runs, sends none; a stalled stream ends with cause 19 (09 R377); a
reload of no region completes, one of an ingot that verifies loads its regions anew and waits for them. -/
def LoadsTakeRegionsInOrder : Prop :=
  (∀ (s : State) (kHz : Nat) (bad : Option (Fin 22)) (uses : Bool),
    (∀ l, s.fab.load = some l → l.order = [] ∨ l.begun = false ∨ l.rail ≠ none) → exec (.regionLoaded kHz bad uses) s = .next s)
  ∧ (∀ (s : State) (l : LoadSt) (r : Nat) (kHz : Nat) (bad : Option (Fin 22)) (uses : Bool), LoadAt s l r →
    keyMissing s l.slate = true → exec (.regionLoaded kHz bad uses) s = .next (pumpLoad (loadFailed s l 8 r 0xFF)))
  ∧ (∀ (s : State) (l : LoadSt) (r : Nat) (kHz : Nat) (bad : Option (Fin 22)) (uses : Bool), LoadAt s l r →
    keyMissing s l.slate = false → l.purpose ≠ .partialImage →
    ∃ t, exec (.regionLoaded kHz bad uses) s = .next t
      ∧ (tagDigestOk l.slate (slotTable s l.slot) = false → t = pumpLoad (loadFailed s l 10 0xFF 0xFF))
      ∧ (tagDigestOk l.slate (slotTable s l.slot) = true →
          (regionUnusable s r = true → t = pumpLoad (loadFailed s l 11 r 0xFF))
          ∧ (regionUnusable s r = false → l.railBad = true → t = pumpLoad (loadFailed s l 12 r 0xFF))
          ∧ (regionUnusable s r = false → l.railBad = false →
              (takeClock s l.slate r kHz = none → t = pumpLoad (loadFailed s l 13 r 0xFF))
              ∧ ∀ u, takeClock s l.slate r kHz = some u →
                  let c := regionCause s l.slot l.slate r
                  (∀ i, bad = some i → (c.1 = 0 ∨ i.val ≤ c.2) → t = pumpLoad (loadFailed s l 16 r i.val))
                  ∧ ((∀ i, bad = some i → ¬(c.1 = 0 ∨ i.val ≤ c.2)) →
                      (c.1 ≠ 0 → t = pumpLoad (loadFailed s l c.1 r c.2))
                      ∧ (c.1 = 0 → t = pumpLoad (regionWritten u l r kHz uses))))))
  ∧ (∀ (s : State) (l : LoadSt) (r : Nat) (kHz : Nat) (bad : Option (Fin 22)) (uses : Bool), LoadAt s l r →
    keyMissing s l.slate = false → l.purpose = .partialImage →
    (∀ f, s.fab.fcp = some f → f.bundles < 22 * (regionRank l.slate r + 1)) → exec (.regionLoaded kHz bad uses) s = .next s)
  ∧ (∀ (s : State) (l : LoadSt) (f : FcpSt) (r : Nat) (kHz : Nat) (bad : Option (Fin 22)) (uses : Bool), LoadAt s l r →
    keyMissing s l.slate = false → l.purpose = .partialImage → s.fab.fcp = some f →
    22 * (regionRank l.slate r + 1) ≤ f.bundles →
    ∃ t, exec (.regionLoaded kHz bad uses) s = .next t
      ∧ (takeClock s l.slate r kHz = none → t.fab.fcp = none ∧ t.fab.load = none ∧ t.reg K.fcpResult = 13 ∧ t.reg K.fcpState = 0)
      ∧ ∀ u, takeClock s l.slate r kHz = some u → t = pumpLoad (regionWritten u l r kHz uses))
  ∧ (∀ (s : State) (r : Req) (off : BitVec 32) (data : List Byte), (∀ n, r.org = .tag n → off = 0) → NoLoad s → cutting s = false →
    BytesPass s r K.fcpStream data {} → 0 < data.length → data.length < 4096 → data.length % 512 = 0 →
    ∃ t, exec (.fcpStreamData (.host r) off data) s = .next t ∧ t.fab.fcp = some { src := pathNo r.path, buf := data }
      ∧ t.reg K.fcpState = 1 ∧ Answered r 4 K.fcpStream 0 [] t ∧ RegsBut [K.fcpState] s t)
  ∧ (∀ (s : State) (f : FcpSt) (r : Req) (off : BitVec 32) (data : List Byte), s.fab.fcp = some f → f.src = pathNo r.path →
    f.checked = false → (∀ n, r.org = .tag n → off.toNat = f.buf.length) → s.fab.load = none → s.fab.drop = 0 → cutting s = false →
    BytesPass s r K.fcpStream data {} → 0 < data.length → f.buf.length + data.length < 4096 → data.length % 512 = 0 →
    ∃ t, exec (.fcpStreamData (.host r) off data) s = .next t ∧ t.fab.fcp = some { f with buf := f.buf ++ data }
      ∧ Answered r 4 K.fcpStream 0 [] t ∧ t.regs = s.regs)
  ∧ (∀ (s : State) (region : Fin 16) (off : BitVec 32) (data : List Byte), NoLoad s → cutting s = false →
    slFcpMaster s.fab.slate = region.val → regionLoaded s region = true → data.length < 4096 →
    ∃ t, exec (.fcpStreamData (.fabric region) off data) s = .next t ∧ t.fab.fcp = some { src := 0, buf := data }
      ∧ t.reg K.fcpState = 2 ∧ OnlyRegs [K.fcpState] { s with fab := t.fab } t)
  ∧ (∀ (s : State) (region : Fin 16) (off : BitVec 32) (data : List Byte),
    (slFcpMaster s.fab.slate ≠ region.val ∨ regionLoaded s region = false ∨ cutting s = true
      ∨ (s.fab.fcp = none ∧ s.fab.load ≠ none) ∨ ∃ f, s.fab.fcp = some f ∧ f.src ≠ 0) →
    exec (.fcpStreamData (.fabric region) off data) s = .next s)
  ∧ (∀ (s : State) (f : FcpSt), s.fab.fcp = some f → (s.fab.load = none ∨ f.checked = true) →
    ∃ t, exec .fcpStalled s = .next t ∧ t.fab.fcp = none ∧ t.reg K.fcpResult = 19 ∧ t.reg K.fcpState = 0)
  ∧ (∀ s : State, s.fab.fcp = none → exec .fcpStalled s = .next s)
  ∧ (∀ (s : State) (r : Req), Passes s r K.fcpReload 0 {} → NoLoad s → cutting s = false →
    ∃ t, exec (.reload r 0) s = .next t ∧ Answered r 2 K.fcpReload 0 [] t ∧ SameButHost s t)
  ∧ ∀ (s : State) (r : Req) (m : BitVec 16), Passes s r K.fcpReload m.toNat {} → m ≠ 0 → NoLoad s → cutting s = false →
    (s.regN K.ingotRunningVersion = slVersion (slotSlate s (slotOf s 1)) ∨ s.fab.changed &&& m.toNat = 0) →
    clearMask m.toNat (slMap (slotSlate s (slotOf s 1))) = 0 →
    ∃ t, exec (.reload r m) s = .next t
      ∧ (slateCause s (slotOf s 1) (slotSlate s (slotOf s 1)) ≠ 0 → SameButHost s t
          ∧ Answered r 2 K.fcpReload (causeAbort (slateCause s (slotOf s 1) (slotSlate s (slotOf s 1)))) [] t)
      ∧ (slateCause s (slotOf s 1) (slotSlate s (slotOf s 1)) = 0 →
          (slOrder (slotSlate s (slotOf s 1))).filter m.toNat.testBit ≠ [] → Waits t .reload r
            ∧ ∃ l, t.fab.load = some l ∧ l.purpose = .reload ∧ l.slot = slotOf s 1
                ∧ l.order = (slOrder (slotSlate s (slotOf s 1))).filter m.toNat.testBit)

/-- A section was discarded: it is counted, and with DATA the slot that the port holds is invalid. -/
abbrev Discarded (s t : State) (data : Bool) : Prop :=
  t.reg K.cfgErrors = ((s.regN K.cfgErrors + 1) % 2 ^ 32 : Nat)
    ∧ (∀ slot, data = true → s.fab.cfgSlot = some slot → t.reg (K.slotState slot) = 5 ∧ OnlyRegs [K.cfgErrors, K.slotState slot] s t)
    ∧ (data = false ∨ s.fab.cfgSlot = none → OnlyRegs [K.cfgErrors] s t)

/-- The CFG port: a section that is broken, or of another KIND than the command's, is counted and discarded; one for another
device is passed over, and in SAFE state every one; one of its own is counted and opens, fills or closes the slot it names, the
staging slot or the golden one; a close of an invalid slot ends the claim. -/
def CfgSectionsAct : Prop :=
  (∀ (s : State) (x : List Byte), s.mode ≠ .safe →
    ((sectionFor s x = .broken ∨ (sectionFor s x = .own ∧ byteOf x 4 ≠ 1)) → ∃ t, exec (.cfgOpen x) s = .next t ∧ Discarded s t false)
    ∧ ((sectionFor s x = .broken ∨ (sectionFor s x = .own ∧ byteOf x 4 ≠ 2)) → ∃ t, exec (.cfgData x) s = .next t ∧ Discarded s t true)
    ∧ ((sectionFor s x = .broken ∨ (sectionFor s x = .own ∧ byteOf x 4 ≠ 3)) → ∃ t, exec (.cfgClose x) s = .next t ∧ Discarded s t false))
  ∧ (∀ (s : State) (x : List Byte), (s.mode = .safe ∨ sectionFor s x = .other) →
    exec (.cfgOpen x) s = .next s ∧ exec (.cfgData x) s = .next s ∧ exec (.cfgClose x) s = .next s)
  ∧ (∀ (s : State) (x : List Byte), s.mode ≠ .safe → sectionFor s x = .own → byteOf x 4 = 1 → leAt x 28 4 = 0 → byteOf x 7 = 0 →
    cutting s = false → s.fab.promote = false → (s.regN K.stageOwner = 0 ∨ s.regN K.stageOwner = 5) →
    s.regN (K.slotState (slotOf s 2)) ≠ 1 → s.regN (K.slotState (slotOf s 2)) ≠ 3 → BankSteady s (slotOf s 2) →
    ∃ t, exec (.cfgOpen x) s = .next t ∧ t.reg K.cfgSections = ((s.regN K.cfgSections + 1) % 2 ^ 32 : Nat)
      ∧ t.reg K.stageOwner = 5 ∧ t.reg K.stageWritten = 0 ∧ t.reg (K.slotState (slotOf s 2)) = 1
      ∧ t.fab.cfgSlot = some (slotOf s 2) ∧ t.fab.cfgCount = 0)
  ∧ (∀ (s : State) (x : List Byte), s.mode ≠ .safe → sectionFor s x = .own → byteOf x 4 = 1 → leAt x 28 4 = 0 → byteOf x 7 = 1 →
    cutting s = false → s.fab.promote = false → (s.regN (K.slotState 0) = 0 ∨ s.regN (K.slotState 0) = 5) → BankSteady s 0 →
    ∃ t, exec (.cfgOpen x) s = .next t ∧ t.reg K.cfgSections = ((s.regN K.cfgSections + 1) % 2 ^ 32 : Nat)
      ∧ t.reg K.stageOwner = s.reg K.stageOwner ∧ t.reg (K.slotState 0) = 1 ∧ t.fab.cfgSlot = some 0 ∧ t.fab.cfgCount = 0)
  ∧ (∀ (s : State) (x : List Byte), s.mode ≠ .safe → sectionFor s x = .own → byteOf x 4 = 2 →
    s.fab.cfgSlot = some (cfgTarget s x) → s.reg (K.slotState (cfgTarget s x)) = 2 → leAt x 24 4 = s.fab.cfgCount →
    leAt x 28 4 % 512 = 0 → leAt x 28 4 ≤ 65536 → s.fab.cfgCount + leAt x 28 4 ≤ 0xC00000 →
    stageIdle s (cfgTarget s x) = true →
    ∃ t, exec (.cfgData x) s = .next t
      ∧ (leAt x 28 4 = 0 → t = s.bump K.cfgSections 32)
      ∧ (∀ j, (s.flBank (cfgTarget s x)).op = some j → t.reg K.cfgSections = ((s.regN K.cfgSections + 1) % 2 ^ 32 : Nat)
          ∧ (t.flBank (cfgTarget s x)).queue.length = (s.flBank (cfgTarget s x)).queue.length + leAt x 28 4 / 512
          ∧ t.fab.cfgCount = s.fab.cfgCount))
  ∧ ∀ (s : State) (x : List Byte), s.mode ≠ .safe → sectionFor s x = .own → byteOf x 4 = 3 → leAt x 28 4 = 0 →
    s.fab.cfgSlot = some (cfgTarget s x) → s.reg (K.slotState (cfgTarget s x)) ≠ 1 → s.reg (K.slotState (cfgTarget s x)) ≠ 3 →
    stageIdle s (cfgTarget s x) = true →
    ∃ t, exec (.cfgClose x) s = .next t ∧ t.reg K.cfgSections = ((s.regN K.cfgSections + 1) % 2 ^ 32 : Nat)
      ∧ (s.reg (K.slotState (cfgTarget s x)) ≠ 5 → t.reg (K.slotState (cfgTarget s x)) = 3
          ∧ OnlyRegs [K.cfgSections, K.slotState (cfgTarget s x)] s t)
      ∧ (s.reg (K.slotState (cfgTarget s x)) = 5 → t.fab.cfgSlot = none ∧ RegsBut [K.cfgSections, K.stageOwner] s t
          ∧ (cfgTarget s x ≠ 0 → t.reg K.stageOwner = 0))

/-- Flash operations of hosts and masters may start: the controller serves, and neither SAFE state nor PWR_DOWN# holds them back. -/
abbrev FlashRuns (s : State) : Prop := flashServes s = true ∧ s.mode ≠ .safe ∧ s.power.down = false

/-- No part of a page program of this master stands in the bank's decoder. -/
abbrev NoPart (s : State) (m : FlashMaster) (b : Nat) : Prop := (s.flMaster m).part.any (fun x => x.1 == b) = false

/-- The bank runs this operation. -/
abbrev Runs (t : State) (b : Nat) (op : FlOp) : Prop := ((t.flBank b).op.map fun j => j.op) = some op

/-- A command of a master has ended at once with an error, or 0, in its outcome word; neither banks nor array have changed. -/
abbrev EndsWith (s t : State) (m : FlashMaster) (op err k : Nat) : Prop :=
  (t.flMaster m).status = statusWord true false false op err k ∧ t.flash.array = s.flash.array ∧ t.flash.bank = s.flash.bank
    ∧ { t with flash := s.flash } = s

/-- The operation stands in the bank behind those that do, which go on. -/
abbrev Queued (s t : State) (b : Nat) (op : FlOp) : Prop :=
  (t.flBank b).op = (s.flBank b).op ∧ (t.flBank b).queue.dropLast = (s.flBank b).queue
    ∧ ((t.flBank b).queue.getLast?.map fun j => j.op) = some op ∧ t.flash.array = s.flash.array

/-- Flash sequences: a whole page program and an erase of a block that the master may command start on an idle bank, wait behind
others on a busy one, and change no byte of the array until they end; an erase marks its block incomplete and counts (10 R411); a
program below the last page, or into an incomplete block, and both in a protected block end with their error. A master that may
not command the block, the fabric on a busy bank, and a command for a suspended bank other than a program elsewhere are refused.
A short program stays in the decoder until it is broken or times out; a wrong block word is a sequence error (10 R396).
Suspend and resume act on an erase of their own master, are refused on another's, and do nothing without one; information
reads show the block's row; a sequence reset closes the session. -/
def FlashSequencesStart : Prop :=
  (∀ (s : State) (m : FlashMaster) (k : BitVec 8) (page : BitVec 9) (words : List (BitVec 32)), NoPart s m (k.toNat / 64) →
    128 ≤ words.length →
    let op := FlOp.program k.toNat page.toNat ((words.take 128).flatMap fun w => leBytes 4 w.toNat)
    let b := s.flBlock k.toNat
    let bad := if 192 ≤ k.toNat ∧ b.prot = true then 2 ^ 16 else if b.incomplete then 2 ^ 14 else 2 ^ 15
    ∃ t, exec (.pageProgram m k page words) s = .next t
      ∧ (mayCommand m k.toNat = false → EndsWith s t m 1 (2 ^ 11) k.toNat)
      ∧ (mayCommand m k.toNat = true → m = .fabric → (s.flBank (k.toNat / 64)).op.isSome = true → EndsWith s t m 1 (2 ^ 10) k.toNat)
      ∧ (mayCommand m k.toNat = true → m ≠ .fabric → (s.flBank (k.toNat / 64)).op.isSome = true →
          (s.flBank (k.toNat / 64)).susp = none → Queued s t (k.toNat / 64) op)
      ∧ (mayCommand m k.toNat = true → BankIdle s (k.toNat / 64) → FlashRuns s →
          (¬(192 ≤ k.toNat ∧ b.prot = true) → b.incomplete = false → b.top ≤ page.toNat →
            t.flash.array = s.flash.array ∧ Runs t (k.toNat / 64) op)
          ∧ ((192 ≤ k.toNat ∧ b.prot = true) ∨ b.incomplete = true ∨ page.toNat < b.top →
            (t.flMaster m).status = statusWord true false false 1 bad k.toNat ∧ (t.flBank (k.toNat / 64)).op = none
              ∧ t.flash.array = s.flash.array)))
  ∧ (∀ (s : State) (m : FlashMaster) (k : BitVec 8) (page : BitVec 9) (words : List (BitVec 32)), NoPart s m (k.toNat / 64) →
    words.length < 128 →
    ∃ t, exec (.pageProgram m k page words) s = .next t
      ∧ t = s.modFlMaster m (fun x => { x with part := x.part ++ [(k.toNat / 64, words.length)] }))
  ∧ (∀ (s : State) (m : FlashMaster) (k : BitVec 8), NoPart s m (k.toNat / 64) →
    ∃ t, exec (.blockErase m k (k.toNat : BitVec 32)) s = .next t
      ∧ (mayCommand m k.toNat = false → EndsWith s t m 2 (2 ^ 11) k.toNat)
      ∧ (mayCommand m k.toNat = true →
          (m = .fabric ∧ (s.flBank (k.toNat / 64)).op.isSome = true ∨ (s.flBank (k.toNat / 64)).susp.isSome = true) →
          EndsWith s t m 2 (2 ^ 10) k.toNat)
      ∧ (mayCommand m k.toNat = true → m ≠ .fabric → (s.flBank (k.toNat / 64)).op.isSome = true →
          (s.flBank (k.toNat / 64)).susp = none → Queued s t (k.toNat / 64) (.erase k.toNat))
      ∧ (mayCommand m k.toNat = true → BankIdle s (k.toNat / 64) → FlashRuns s →
          (¬(192 ≤ k.toNat ∧ (s.flBlock k.toNat).prot = true) → Runs t (k.toNat / 64) (.erase k.toNat) ∧ t.flash.array = s.flash.array
            ∧ (t.flBlock k.toNat).incomplete = true ∧ (t.flBlock k.toNat).erases = (s.flBlock k.toNat).erases + 1)
          ∧ (192 ≤ k.toNat → (s.flBlock k.toNat).prot = true → (t.flBank (k.toNat / 64)).op = none
            ∧ (t.flMaster m).status = statusWord true false false 2 (2 ^ 16) k.toNat ∧ t.flash.array = s.flash.array)))
  ∧ (∀ (s : State) (m : FlashMaster) (k : BitVec 8) (named : BitVec 32), NoPart s m (k.toNat / 64) → named.toNat ≠ k.toNat →
    ∃ t, exec (.blockErase m k named) s = .next t ∧ EndsWith s t m 2 (2 ^ 13) k.toNat)
  ∧ (∀ (s : State) (m : FlashMaster) (b : Fin 4) (j : FlJob) (k : Nat), NoPart s m b → (s.flBank b).op = some j → j.op = .erase k →
    ∃ t, exec (.eraseSuspend m b) s = .next t
      ∧ (j.master ≠ m → EndsWith s t m 2 (2 ^ 11) k)
      ∧ (j.master = m → (s.flBank b).asked = true → EndsWith s t m 2 (2 ^ 10) k)
      ∧ (j.master = m → (s.flBank b).asked = false → t = s.modFlBank b fun x => { x with asked := true }))
  ∧ (∀ (s : State) (m : FlashMaster) (b : Fin 4), NoPart s m b → (s.flBank b).susp = none →
    (∀ j, (s.flBank b).op = some j → ∀ k, j.op ≠ .erase k) → exec (.eraseSuspend m b) s = .next s)
  ∧ (∀ (s : State) (m : FlashMaster) (b : Fin 4) (e : FlJob), NoPart s m b → (s.flBank b).susp = some e → (s.flBank b).op = none →
    ∃ t, exec (.eraseSuspend m b) s = .next t ∧ EndsWith s t m 2 (2 ^ 10) (opBlock e.op))
  ∧ (∀ (s : State) (m : FlashMaster) (b : Fin 4) (j e : FlJob), NoPart s m b → (s.flBank b).susp = some e → (s.flBank b).op = some j →
    (∀ k, j.op ≠ .erase k) →
    ∃ t, exec (.eraseSuspend m b) s = .next t ∧ EndsWith s t m (opCode j.op) (2 ^ 10) (opBlock j.op))
  ∧ (∀ (s : State) (m : FlashMaster) (b : Fin 4) (e : FlJob), NoPart s m b → (s.flBank b).susp = some e →
    ∃ t, exec (.eraseResume m b) s = .next t
      ∧ (e.master ≠ m → EndsWith s t m 2 (2 ^ 11) (opBlock e.op))
      ∧ (e.master = m → (s.flBank b).op = none → (s.flBank b).queue = [] →
          (t.flBank b).asked = false ∧ t.flash.array = s.flash.array
          ∧ ((s.flBank b).auto = false → mayStart s e = true → (t.flBank b).op = some e ∧ (t.flBank b).susp = none)
          ∧ ((s.flBank b).auto = true ∨ mayStart s e = false → (t.flBank b).op = none ∧ (t.flBank b).susp = some e)))
  ∧ (∀ (s : State) (m : FlashMaster) (b : Fin 4), NoPart s m b → (s.flBank b).susp = none →
    ∃ t, exec (.eraseResume m b) s = .next t
      ∧ (∀ j, (s.flBank b).op = some j → j.master = m → t = s.modFlBank b fun x => { x with asked := false })
      ∧ ((∀ j, (s.flBank b).op = some j → j.master ≠ m) → t = s))
  ∧ (∀ (s : State) (m : FlashMaster) (k : BitVec 8), NoPart s m (k.toNat / 64) →
    ∃ t, exec (.infoRead m k) s = .next t ∧ (mayCommand m k.toNat = false → EndsWith s t m 0 (2 ^ 11) k.toNat)
      ∧ (mayCommand m k.toNat = true → k.toNat ∈ (t.flMaster m).info ∧ t.flash.array = s.flash.array ∧ t.regs = s.regs))
  ∧ (∀ (s : State) (m : FlashMaster) (b : Fin 4), NoPart s m b →
    ∃ t, exec (.resetSequence m b) s = .next t ∧ sessionOpen t (.master m) = false ∧ t.flash.bank = s.flash.bank
      ∧ (∀ k ∈ (t.flMaster m).info, k / 64 ≠ b.val) ∧ { t with flash := s.flash } = s)
  ∧ ∀ (s : State) (m : FlashMaster) (b : Fin 4),
    ∃ t, exec (.flashSequenceTimeout m b) s = .next t ∧ NoPart t m b ∧ t.flash.bank = s.flash.bank
      ∧ (NoPart s m b → t = s)
      ∧ (¬ NoPart s m b → EndsWith s t m 0 (2 ^ 13) 0)

/-- The words of another command break a page program of which a part stands in the decoder: that command has no effect of its
own (10 R396). -/
def OtherCommandsBreakAPart : Prop :=
  ∀ (s : State) (m : FlashMaster) (b : Fin 4), ¬ NoPart s m b →
    (∀ (k : BitVec 8) (c : Instr), k.toNat / 64 = b.val →
      ((∃ page words, c = .pageProgram m k page words) ∨ (∃ named, c = .blockErase m k named) ∨ c = .infoRead m k
        ∨ c = .protectBlock m k ∨ c = .unprotectBlock m k) →
      ∃ t, exec c s = .next t ∧ NoPart t m b ∧ EndsWith s t m 0 (2 ^ 13) 0)
    ∧ ∀ c : Instr, (c = .eraseSuspend m b ∨ c = .eraseResume m b ∨ c = .resetSequence m b
        ∨ (∃ pw, c = .openProtectionSession m b pw) ∨ ∃ pw, c = .changePassword m b pw) →
      ∃ t, exec c s = .next t ∧ NoPart t m b ∧ EndsWith s t m 0 (2 ^ 13) 0

/-- Flash operations end: a good program puts its page's bytes into the array and no other byte changes, after a failed verify the
page holds free values; a good erase leaves the block's bytes 0xFF, its info row clean, and every other byte alone, a failed one
leaves them as they are (10 R403); an info row write sets protection or the password; an erase that is asked to wait, or that a
fetch holds up, waits and goes on (10 R407). Where the bank runs no such operation nothing ends. -/
def FlashOperationsEnd : Prop :=
  (∀ (s : State) (b : Fin 4) (j : FlJob) (k page : Nat) (data : List Byte), (s.flBank b).op = some j → j.op = .program k page data →
    ∃ t, exec (.programDone b true) s = .next t ∧ t.reg K.flOperations = ((s.regN K.flOperations + 1) % 2 ^ 32 : Nat)
      ∧ ∀ a, arrayByte t a = if k * 0x40000 + page * 512 ≤ a ∧ a < k * 0x40000 + page * 512 + data.length
          then data.getD (a - (k * 0x40000 + page * 512)) 0 else arrayByte s a)
  ∧ (∀ (s : State) (b : Fin 4) (j : FlJob) (k page : Nat) (data : List Byte), (s.flBank b).op = some j → j.op = .program k page data →
    ∃ t, exec (.programDone b false) s = .next t ∧ t.reg K.flOperations = ((s.regN K.flOperations + 1) % 2 ^ 32 : Nat)
      ∧ ∀ a, (a < k * 0x40000 + page * 512 ∨ k * 0x40000 + page * 512 + 512 ≤ a) → arrayByte t a = arrayByte s a)
  ∧ (∀ (s : State) (b : Fin 4) (good : Bool), (∀ j, (s.flBank b).op = some j → ∀ k page data, j.op ≠ .program k page data) →
    exec (.programDone b good) s = .next s)
  ∧ (∀ (s : State) (b : Fin 4) (good : Bool) (j : FlJob) (k : Nat), (s.flBank b).op = some j → j.op = .erase k →
    ∃ t, exec (.eraseDone b good) s = .next t
      ∧ (∀ a, arrayByte t a = if good = true ∧ a / 0x40000 = k then 0xFF else arrayByte s a)
      ∧ (j.fin = .none → (s.flBank b).queue = [] → (s.flBank b).susp = none → (t.flBank b).op = none
          ∧ (good = true → (t.flBlock k).incomplete = false ∧ (t.flBlock k).top = 0)
          ∧ (good = false → t.flBlock k = s.flBlock k)))
  ∧ (∀ (s : State) (b : Fin 4) (good : Bool), (∀ j, (s.flBank b).op = some j → ∀ k, j.op ≠ .erase k) →
    exec (.eraseDone b good) s = .next s ∧ exec (.suspendEffective b) s = .next s)
  ∧ (∀ (s : State) (b : Fin 4) (j : FlJob) (k : Nat) (p : Bool), (s.flBank b).op = some j → j.op = .protect k p →
    ∃ t, exec (.infoRowWriteDone b) s = .next t ∧ (t.flBlock k).prot = p ∧ t.flash.array = s.flash.array)
  ∧ (∀ (s : State) (b : Fin 4) (j : FlJob) (v : Nat), (s.flBank b).op = some j → j.op = .protectMap v →
    ∃ t, exec (.infoRowWriteDone b) s = .next t ∧ (∀ i < 64, (t.flBlock (192 + i)).prot = v.testBit i) ∧ t.flash.array = s.flash.array)
  ∧ (∀ (s : State) (b : Fin 4) (j : FlJob) (pw : Nat), (s.flBank b).op = some j → j.op = .password pw →
    ∃ t, exec (.infoRowWriteDone b) s = .next t ∧ t.flash.password = pw ∧ t.flash.array = s.flash.array)
  ∧ (∀ (s : State) (b : Fin 4), (∀ j, (s.flBank b).op = some j → opCode j.op ≠ 3) → exec (.infoRowWriteDone b) s = .next s)
  ∧ (∀ (s : State) (b : Fin 4) (j : FlJob) (k : Nat), (s.flBank b).op = some j → j.op = .erase k → j.abort = false →
    ((s.flBank b).asked = false → (s.flBank b).auto = false → exec (.suspendEffective b) s = .next s)
    ∧ ((s.flBank b).asked = true ∨ (s.flBank b).auto = true → (s.flBank b).queue = [] →
      ∃ t, exec (.suspendEffective b) s = .next t ∧ (t.flBank b).op = none ∧ (t.flBank b).susp = some j
        ∧ t.flash.array = s.flash.array))
  ∧ (∀ (s : State) (b : Fin 4) (j : FlJob) (k : Nat), (s.flBank b).op = some j → j.op = .erase k → j.abort = true →
    (s.flBank b).queue = [] → (s.flBank b).susp = none → (∀ f, j.fin ≠ .island f) →
    ∃ t, exec (.suspendEffective b) s = .next t ∧ (t.flBank b).op = none ∧ (t.flBank b).susp = none ∧ t.flash.array = s.flash.array)
  ∧ (∀ (s : State) (b : Fin 4) (e : FlJob), (s.flBank b).op = none → (s.flBank b).susp = some e → (s.flBank b).queue = [] →
    (s.flBank b).auto = true →
    ∃ t, exec (.eraseAutoResume b) s = .next t ∧ (t.flBank b).auto = false ∧ t.flash.array = s.flash.array
      ∧ ((s.flBank b).asked = false → mayStart s e = true → (t.flBank b).op = some e ∧ (t.flBank b).susp = none)
      ∧ ((s.flBank b).asked = true ∨ mayStart s e = false → (t.flBank b).op = none ∧ (t.flBank b).susp = some e))
  ∧ (∀ (s : State) (b : Fin 4), (s.flBank b).auto = false → exec (.eraseAutoResume b) s = .next s)
  ∧ (∀ (s : State) (k : BitVec 8), (s.flBlock k.toNat).due = true → refreshable s k.toNat = true →
    (s.flBank (k.toNat / 64)).op = none → (s.flBank (k.toNat / 64)).susp = none →
    ∃ t, exec (.blockRefresh k) s = .next t ∧ t.flash.array = s.flash.array ∧ (t.flBlock k.toNat).due = false
      ∧ (t.flBlock k.toNat).incomplete = false ∧ (t.flBlock k.toNat).erases = (s.flBlock k.toNat).erases + 1
      ∧ (t.flBlock k.toNat).refreshes = ((s.flBlock k.toNat).refreshes + 1) % 2 ^ 32)
  ∧ (∀ (s : State) (k : BitVec 8), ((s.flBlock k.toNat).due = false ∨ refreshable s k.toNat = false
      ∨ (s.flBank (k.toNat / 64)).op.isSome = true ∨ (s.flBank (k.toNat / 64)).susp.isSome = true) →
    exec (.blockRefresh k) s = .next s)
  ∧ (∀ (s : State) (k : BitVec 8), s.released = true → s.reg K.flcAutoFinish = 1 → (s.flBlock k.toNat).incomplete = true →
    (k.toNat < 176 ∨ (192 ≤ k.toNat ∧ (s.flBlock k.toNat).prot = false)) → BankIdle s (k.toNat / 64) → FlashRuns s →
    ∃ t, exec (.autoFinishErase k) s = .next t ∧ Runs t (k.toNat / 64) (.erase k.toNat) ∧ t.flash.array = s.flash.array)
  ∧ ∀ (s : State) (k : BitVec 8), (s.released = false ∨ s.reg K.flcAutoFinish ≠ 1 ∨ (s.flBlock k.toNat).incomplete = false
      ∨ (176 ≤ k.toNat ∧ k.toNat < 192)) → exec (.autoFinishErase k) s = .next s

/-- Reads of the flash window: the array's line where the bank is idle, its status words where it is busy or the block's erase is
suspended, but a fetch for execution holds an erase up and gets its line; the block's row after an information read; zeros where
the master may not read. A read changes no byte, and of the execute path it leaves the line in the buffer or the cache (10 R408). -/
def FlashReadsGiveTheirLine : Prop :=
  (∀ (s : State) (m : FlashMaster) (a : BitVec 32) (bad : Nat), mayRead m a.toNat = false →
    ∃ t, exec (.flashArrayRead m a bad) s = .next t ∧ t = s.modFlMaster m fun x => { x with line := zeros 32 })
  ∧ (∀ (s : State) (m : FlashMaster) (a : BitVec 32) (bad : Nat), mayRead m a.toNat = true → a.toNat < 0x4000000 →
    (s.flBank (a.toNat / 0x40000 / 64)).op = none →
    (∀ e, (s.flBank (a.toNat / 0x40000 / 64)).susp = some e → opBlock e.op ≠ a.toNat / 0x40000 ∨ autoSuspends m = true) →
    a.toNat / 0x40000 ∉ (s.flMaster m).info →
    ∃ t, exec (.flashArrayRead m a bad) s = .next t ∧ (t.flMaster m).line = arrayBytes s (a.toNat / 32 * 32) 32
      ∧ t.flash.array = s.flash.array ∧ (executes m a.toNat = true → lineHeld t (a.toNat / 32) = true))
  ∧ (∀ (s : State) (m : FlashMaster) (a : BitVec 32) (bad : Nat), mayRead m a.toNat = true → a.toNat < 0x4000000 →
    autoSuspends m = true → (s.flBank (a.toNat / 0x40000 / 64)).op.isSome = true → a.toNat / 0x40000 ∉ (s.flMaster m).info →
    ∃ t, exec (.flashArrayRead m a bad) s = .next t ∧ (t.flMaster m).line = arrayBytes s (a.toNat / 32 * 32) 32
      ∧ t.flash.array = s.flash.array
      ∧ (executes m a.toNat = false ∨ lineHeld s (a.toNat / 32) = false → (t.flBank (a.toNat / 0x40000 / 64)).auto = true))
  ∧ (∀ (s : State) (m : FlashMaster) (a : BitVec 32) (bad : Nat), mayRead m a.toNat = true → a.toNat < 0x4000000 →
    autoSuspends m = false → ((s.flBank (a.toNat / 0x40000 / 64)).op.isSome = true
      ∨ ∃ e, (s.flBank (a.toNat / 0x40000 / 64)).susp = some e ∧ opBlock e.op = a.toNat / 0x40000) →
    ∃ t, exec (.flashArrayRead m a bad) s = .next t
      ∧ t = s.modFlMaster m fun x => { x with line := (List.replicate 8 (leBytes 4 (bankWord s m (a.toNat / 0x40000 / 64)))).flatten })
  ∧ (∀ (s : State) (m : FlashMaster) (a : BitVec 32) (bad : Nat), mayRead m a.toNat = true → a.toNat < 0x4000000 →
    executes m a.toNat = false → BankIdle s (a.toNat / 0x40000 / 64) → a.toNat / 0x40000 ∈ (s.flMaster m).info →
    ∃ t, exec (.flashArrayRead m a bad) s = .next t
      ∧ t = s.modFlMaster m fun x => { x with line := ((infoRow s (a.toNat / 0x40000)).drop (a.toNat % 512 / 32 * 32)).take 32 })
  ∧ ∀ (s : State) (m : FlashMaster) (a : BitVec 32) (bad : Nat), mayRead m a.toNat = true → 0x4000000 ≤ a.toNat →
    let l := if a.toNat < 0x4001000 then ((calRow s).drop (a.toNat % 4096 / 32 * 32)).take 32
      else leBytes 4 (s.flMaster m).status ++ leBytes 4 (s.flMaster m).corrected ++ zeros 24
    ∃ t, exec (.flashArrayRead m a bad) s = .next t ∧ t = s.modFlMaster m fun x => { x with line := l }

/-- Protection: the right password opens a session, a wrong one counts and opens none, and after the sixteenth none is taken (10
R413); with a session a block's protection, the whole map and the password are changed by an operation of their bank, without
one they are refused; commands for another bank, from another master or for a block outside the user area end with their error;
a session ends by its time or by CLOSE. -/
def FlashProtectionNeedsAPassword : Prop :=
  (∀ (s : State) (m : FlashMaster) (pw : BitVec 64), NoPart s m 3 → (m = .sc2 ∨ m = .fabric) →
    ∃ t, exec (.openProtectionSession m 3 pw) s = .next t
      ∧ (protLocked s = false → pw.toNat = s.flash.password → sessionOpen t (.master m) = true ∧ t.flash.fails = 0
          ∧ (t.flMaster m).status = statusWord true false false 3 0 0)
      ∧ (protLocked s = false → pw.toNat ≠ s.flash.password → t.flash.fails = s.flash.fails + 1
          ∧ (t.flMaster m).status = statusWord true false false 3 (2 ^ 12) 0
          ∧ (sessionOpen s (.master m) = false → sessionOpen t (.master m) = false))
      ∧ (protLocked s = true → EndsWith s t m 3 (2 ^ 12) 0 ∧ t.flash.fails = s.flash.fails))
  ∧ (∀ (s : State) (m : FlashMaster) (b : Fin 4) (pw : BitVec 64), NoPart s m b → (b ≠ 3 ∨ (m ≠ .sc2 ∧ m ≠ .fabric)) →
    ∃ t, exec (.openProtectionSession m b pw) s = .next t ∧ EndsWith s t m 3 (if b ≠ 3 then 2 ^ 13 else 2 ^ 11) 0)
  ∧ (∀ (s : State) (m : FlashMaster) (k : BitVec 8), NoPart s m (k.toNat / 64) → 192 ≤ k.toNat → mayCommand m k.toNat = true →
    sessionOpen s (.master m) = true → BankIdle s (k.toNat / 64) → FlashRuns s →
    (∃ t, exec (.protectBlock m k) s = .next t ∧ Runs t (k.toNat / 64) (.protect k.toNat true) ∧ t.flash.array = s.flash.array)
    ∧ ∃ t, exec (.unprotectBlock m k) s = .next t ∧ Runs t (k.toNat / 64) (.protect k.toNat false) ∧ t.flash.array = s.flash.array)
  ∧ (∀ (s : State) (m : FlashMaster) (k : BitVec 8) (err : Nat), NoPart s m (k.toNat / 64) →
    ((err = 2 ^ 11 ∧ (k.toNat < 192 ∨ mayCommand m k.toNat = false))
      ∨ (err = 2 ^ 12 ∧ 192 ≤ k.toNat ∧ mayCommand m k.toNat = true ∧ sessionOpen s (.master m) = false)
      ∨ (err = 2 ^ 10 ∧ 192 ≤ k.toNat ∧ mayCommand m k.toNat = true ∧ sessionOpen s (.master m) = true ∧ m = .fabric
          ∧ (s.flBank (k.toNat / 64)).op.isSome = true)) →
    (∃ t, exec (.protectBlock m k) s = .next t ∧ EndsWith s t m 3 err k.toNat)
    ∧ ∃ t, exec (.unprotectBlock m k) s = .next t ∧ EndsWith s t m 3 err k.toNat)
  ∧ (∀ (s : State) (m : FlashMaster) (pw : BitVec 64), NoPart s m 3 → sessionOpen s (.master m) = true → BankIdle s 3 → FlashRuns s →
    ∃ t, exec (.changePassword m 3 pw) s = .next t ∧ Runs t 3 (.password pw.toNat) ∧ t.flash.password = s.flash.password)
  ∧ (∀ (s : State) (m : FlashMaster) (b : Fin 4) (pw : BitVec 64), NoPart s m b → (b ≠ 3 ∨ sessionOpen s (.master m) = false) →
    ∃ t, exec (.changePassword m b pw) s = .next t ∧ EndsWith s t m 3 (if b ≠ 3 then 2 ^ 13 else 2 ^ 12) 0
      ∧ t.flash.password = s.flash.password)
  ∧ (∀ (s : State) (o : SessionOf), ∃ t, exec (.protectionSessionTimeout o) s = .next t ∧ sessionOpen t o = false
      ∧ { t with flash := s.flash } = s ∧ t.flash.array = s.flash.array)
  ∧ (∀ (s : State) (r : Req) (pw : BitVec 64), Passes s r K.protPassword pw.toNat {} →
    ∃ t, exec (.flashPassword r pw) s = .next t
      ∧ (protLocked s = false → pw.toNat = s.flash.password → sessionOpen t (.path r.path) = true ∧ t.flash.fails = 0
          ∧ Answered r 2 K.protPassword 0 [] t)
      ∧ (protLocked s = false → pw.toNat ≠ s.flash.password → t.flash.fails = s.flash.fails + 1
          ∧ Answered r 2 K.protPassword 0x0F00000B [] t)
      ∧ (protLocked s = true → Answered r 2 K.protPassword 0x0F00000B [] t ∧ SameButHost s t))
  ∧ (∀ (s : State) (r : Req) (pw : BitVec 64),
    Passes s r K.protNewPassword pw.toNat { state := whenCode (!sessionOpen s (.path r.path)) 0x0F00000B } →
    ∃ t, exec (.flashNewPassword r pw) s = .next t
      ∧ (BankIdle s 3 → FlashRuns s → Runs t 3 (.password pw.toNat) ∧ t.flash.password = s.flash.password)
      ∧ ((s.flBank 3).op.isSome = true → Queued s t 3 (.password pw.toNat) ∧ t.flash.password = s.flash.password))
  ∧ (∀ (s : State) (r : Req) (v : BitVec 64),
    Passes s r K.protectMap v.toNat { state := whenCode (!sessionOpen s (.path r.path)) 0x0F00000B } →
    ∃ t, exec (.protectMapWrite r v) s = .next t
      ∧ (BankIdle s 3 → FlashRuns s → Runs t 3 (.protectMap v.toNat) ∧ t.flash.block = s.flash.block)
      ∧ ((s.flBank 3).op.isSome = true → Queued s t 3 (.protectMap v.toNat) ∧ t.flash.block = s.flash.block))
  ∧ ∀ (s : State) (r : Req), Passes s r K.protClose 1 {} →
    ∃ t, exec (.flashSessionClose r) s = .next t ∧ sessionOpen t (.path r.path) = false ∧ Answered r 2 K.protClose 0 [] t ∧ t.regs = s.regs

/-- The user area: a write of whole pages joins bank 3's queue, or begins on an idle bank at a page that is free, and one of no
bytes ends at once; a read gives the bytes at the offset, as many as there are, and while USER_ENABLE is not 1 in RUN none; an
erase runs on an idle bank and waits on a busy one; over SDO and CoE USER_OFFSET moves on by what was moved (10 R419). -/
def UserAreaReadsAndWrites : Prop :=
  (∀ (s : State) (r : Req) (off : BitVec 32) (data : List Byte),
    BytesPass s r K.userData data { state := userOffCode s } → userFrom s r off.toNat % 512 = 0 → data.length % 512 = 0 →
    userFrom s r off.toNat + data.length ≤ 0x1000000 →
    let b := s.flBlock (192 + userFrom s r off.toNat / 0x40000)
    ∃ t, exec (.userDataWrite r off data) s = .next t ∧ t.flash.array = s.flash.array
      ∧ (data = [] → Answered r 4 K.userData 0 [] t ∧ SameButHost s t)
      ∧ (∀ j, data ≠ [] → (s.flBank 3).op = some j → (t.flBank 3).op = some j
          ∧ (t.flBank 3).queue.length = (s.flBank 3).queue.length + data.length / 512
          ∧ (r.org = .sdo → (t.path r.path).userOffset = ((s.path r.path).userOffset + data.length) % 2 ^ 32))
      ∧ (data ≠ [] → BankIdle s 3 → FlashRuns s → b.prot = false → b.incomplete = false →
          b.top ≤ userFrom s r off.toNat % 0x40000 / 512 →
          (t.flBank 3).op.isSome = true ∧ (t.flBank 3).queue.length + 1 = data.length / 512))
  ∧ (∀ (s : State) (r : Req) (off : BitVec 32) (len : Nat), Takes s r → (s.mode ≠ .run ∨ s.reg K.userEnable = 1) →
    ∃ t, exec (.userDataRead r off len) s = .next t ∧ SameButHost s t
      ∧ (userFrom s r off.toNat ≤ 0x1000000 →
          Answered r 3 K.userData 0 (arrayBytes s (0x3000000 + userFrom s r off.toNat)
            (min (if len = 0 then 4096 else min len 4096) (0x1000000 - userFrom s r off.toNat))) t)
      ∧ (0x1000000 < userFrom s r off.toNat → Answered r 3 K.userData 0x06090030 [] t))
  ∧ (∀ (s : State) (r : Req) (off : BitVec 32) (len : Nat), Takes s r → s.mode = .run → s.reg K.userEnable ≠ 1 →
    ∃ t, exec (.userDataRead r off len) s = .next t ∧ SameButHost s t ∧ Answered r 3 K.userData 0x0F000011 [] t)
  ∧ ∀ (s : State) (r : Req) (v : BitVec 8), Passes s r K.userErase v.toNat { state := userOffCode s } →
    ∃ t, exec (.userErase r v) s = .next t ∧ t.flash.array = s.flash.array
      ∧ (BankIdle s 3 → FlashRuns s → (s.flBlock (192 + v.toNat)).prot = false → Runs t 3 (.erase (192 + v.toNat))
          ∧ (t.flBlock (192 + v.toNat)).incomplete = true)
      ∧ ((s.flBank 3).op.isSome = true → Queued s t 3 (.erase (192 + v.toNat)))

/-- DRAM lines: a write under a live key whose counter can rise stores the line and nothing else of the memory; a read of it under
the same key gives it back; a line of another key, one already bad, and one that fails its hallmark twice give status 4 and zeros;
without the boot key, or with a key that is not live, a request gets status 3, while DRAM does not serve 6, and beyond the users'
bytes 2 (08 R317; 11 R436, R438; 12 R449, R457, R458, R460). -/
def DramLinesKeepTheirData : Prop :=
  (∀ (s : State) (line : Nat) (key : BitVec 8) (data : List Byte) (gen : Nat), s.cip.noEphemeral = false → dramUp s = true →
    64 * line + 64 ≤ s.regN K.dramUserBytes → liveGen s (dramIndex s key.toNat) = some gen → minorOf s line < 127 →
    ∃ t, exec (.dramLineWrite line key data) s = .next t ∧ t.mem.got = some (0, [])
      ∧ dramLine t line = ⟨(data ++ zeros 64).take 64, dramIndex s key.toNat, gen, false⟩ ∧ minorOf t line = minorOf s line + 1
      ∧ (∀ l, l ≠ line → dramLine t l = dramLine s l ∧ minorOf t l = minorOf s l) ∧ { t with mem := s.mem } = s)
  ∧ (∀ (s : State) (line : Nat) (key : BitVec 8) (gen : Nat), s.cip.noEphemeral = false → dramUp s = true →
    64 * line + 64 ≤ s.regN K.dramUserBytes → liveGen s (dramIndex s key.toNat) = some gen → (dramLine s line).bad = false →
    (dramLine s line).data ≠ [] → (dramLine s line).key = dramIndex s key.toNat → (dramLine s line).gen = gen →
    ∃ t, exec (.dramLineRead line key .good .good) s = .next t ∧ t.mem.got = some (0, lineData (dramLine s line))
      ∧ t = s.modMem fun m => { m with got := t.mem.got })
  ∧ (∀ (s : State) (line : Nat) (key : BitVec 8) (gen : Nat), s.cip.noEphemeral = false → dramUp s = true →
    64 * line + 64 ≤ s.regN K.dramUserBytes → liveGen s (dramIndex s key.toNat) = some gen → (dramLine s line).data ≠ [] →
    ((dramLine s line).key ≠ dramIndex s key.toNat ∨ (dramLine s line).bad = true) →
    ∃ t, exec (.dramLineRead line key .good .good) s = .next t ∧ t.mem.got = some (4, zeros 64) ∧ t.mem.dram = s.mem.dram
      ∧ t.reg K.ciDramIntegrityFails = ((s.regN K.ciDramIntegrityFails + 1) % 2 ^ 32 : Nat)
      ∧ OnlyRegs [K.ciDramIntegrityFails, K.errRegErrorRegister, K.tagEmcyOverflow] { s with mem := t.mem } t)
  ∧ (∀ (s : State) (line : Nat) (key : BitVec 8) (a b : LineRead), s.cip.noEphemeral = false → dramUp s = true →
    64 * line + 64 ≤ s.regN K.dramUserBytes → (liveGen s (dramIndex s key.toNat)).isSome = true → a ≠ .good → b ≠ .good →
    ∃ t, exec (.dramLineRead line key a b) s = .next t ∧ t.mem.got = some (4, zeros 64) ∧ (dramLine t line).bad = true
      ∧ (dramLine t line).data = lineData (dramLine s line) ∧ ∀ l, l ≠ line → dramLine t l = dramLine s l)
  ∧ (∀ (s : State) (line : Nat) (key : BitVec 8) (gen : Nat), s.cip.noEphemeral = false → dramUp s = true →
    64 * line + 64 ≤ s.regN K.dramUserBytes → liveGen s (dramIndex s key.toNat) = some gen → (dramLine s line).bad = false →
    (dramLine s line).data ≠ [] → (dramLine s line).key = dramIndex s key.toNat → (dramLine s line).gen = gen →
    ∀ a b : LineRead, (a = .good ∨ b = .good) →
    ∃ t, exec (.dramLineRead line key a b) s = .next t ∧ t.mem.got = some (0, lineData (dramLine s line)) ∧ t.mem.dram = s.mem.dram)
  ∧ ∀ (s : State) (line : Nat) (key : BitVec 8) (data : List Byte) (a b : LineRead) (status : Nat), (a = .good ∨ b = .good) →
    ((status = 3 ∧ s.cip.noEphemeral = true)
      ∨ (status = 6 ∧ s.cip.noEphemeral = false ∧ dramUp s = false)
      ∨ (status = 2 ∧ s.cip.noEphemeral = false ∧ dramUp s = true ∧ s.regN K.dramUserBytes < 64 * line + 64)
      ∨ (status = 3 ∧ s.cip.noEphemeral = false ∧ dramUp s = true ∧ 64 * line + 64 ≤ s.regN K.dramUserBytes
          ∧ liveGen s (dramIndex s key.toNat) = none)) →
    (∃ t, exec (.dramLineWrite line key data) s = .next t ∧ t = s.modMem fun m => { m with got := some (status, []) })
    ∧ ∃ t, exec (.dramLineRead line key a b) s = .next t ∧ t = s.modMem fun m => { m with got := some (status, zeros 64) }

/-- DRAM comes up in steps: training that succeeds leads to state 2 with seven eighths of the capacity for users, training that
fails to state 4 with 0xFF5C; the initial pass leads to state 3; a remelt in the background is told at its end; a patrol pass
counts what it corrects, retires a row at its eighth error, and clears the counts of its rows; each does nothing in another state (11 R434, R436, R437; 12 R459). -/
def DramComesUpInSteps : Prop :=
  (∀ (s : State) (step : Nat), s.reg K.dramState = 1 → ∃ t, exec (.dramTrained true step) s = .next t ∧ t.reg K.dramState = 2
      ∧ t.reg K.dramUserBytes = (7 * 2 ^ (30 + s.mem.cap) / 8 : Nat) ∧ OnlyRegs [K.dramState, K.dramUserBytes] s t)
  ∧ (∀ (s : State) (step : Nat), s.reg K.dramState = 1 → ∃ t, exec (.dramTrained false step) s = .next t ∧ t.reg K.dramState = 4
      ∧ OnlyRegs [K.dramState, K.errRegErrorRegister, K.tagEmcyOverflow] s t)
  ∧ (∀ s : State, s.reg K.dramState = 2 → ∃ t, exec .dramInitDone s = .next t ∧ t.reg K.dramState = 3 ∧ OnlyRegs [K.dramState] s t)
  ∧ (∀ (s : State) (region : Nat), region ∈ s.mem.remelts → ∃ t, exec (.dramRemeltDone region) s = .next t
      ∧ t.mem.remelts = s.mem.remelts.erase region ∧ t.mem.dram = s.mem.dram
      ∧ RegsBut [K.errRegErrorRegister, K.tagEmcyOverflow] s t)
  ∧ (∀ (s : State) (region : Nat), region ∉ s.mem.remelts → exec (.dramRemeltDone region) s = .next s)
  ∧ (∀ (s : State) (good : Bool) (step : Nat), s.reg K.dramState ≠ 1 → exec (.dramTrained good step) s = .next s)
  ∧ (∀ s : State, s.reg K.dramState ≠ 2 → exec .dramInitDone s = .next s)
  ∧ (∀ (s : State) (rows : List (Nat × Nat × Bool)), dramUp s = false → exec (.dramPatrolScrub rows) s = .next s)
  ∧ (∀ s : State, dramUp s = true → ∃ t, exec (.dramPatrolScrub []) s = .next t ∧ t.mem.rowHits = []
      ∧ t = s.modMem fun m => { m with rowHits := [] })
  ∧ (∀ (s : State) (row n : Nat), dramUp s = true → 8 ≤ n + tabGet (fun _ => 0) s.mem.rowHits row →
      ∃ t, exec (.dramPatrolScrub [(row, n, false)]) s = .next t ∧ row ∈ t.mem.retired ∧ t.mem.rowHits = []
        ∧ t.reg K.dramCorrected = ((s.regN K.dramCorrected + n) % 2 ^ 32 : Nat))
  ∧ ∀ (s : State) (row n : Nat), dramUp s = true → n + tabGet (fun _ => 0) s.mem.rowHits row < 8 →
      ∃ t, exec (.dramPatrolScrub [(row, n, false)]) s = .next t ∧ t.reg K.dramCorrected = ((s.regN K.dramCorrected + n) % 2 ^ 32 : Nat)
        ∧ t.mem.retired = s.mem.retired ∧ RegsBut [K.dramCorrected] s t

/-- Scratchpad banks and protected ranges: a handover of a free bank starts and waits, to the present owner it completes; at its end
the new owner has the bank, with its bytes zeroed if HANDOVER_ZERO says so and every other byte as it was, and a group that claimed
it is enabled; banks and ranges below 4 are refused; a range is set, and completes at once where no request is in flight and else
waits for those that are; the lock holds (11 R427 to R430, R440 to R442; 06 R233). -/
def BanksAndRangesChangeHands : Prop :=
  (∀ (s : State) (r : Req) (b : Fin 16) (owner : BitVec 8), 4 ≤ b.val → Passes s r (K.bankOwner b) owner.toNat {} →
    owner.toNat ≠ 0x20 → owner.toNat ≠ 0x40 → bankBusy s b = false → (0x18, b.val) ∉ s.bad → bankFree s b = true →
    (owner.toNat = 0 ∨ (0x10 ≤ owner.toNat ∧ owner.toNat ≤ 0x13) ∨ (0x30 ≤ owner.toNat ∧ owner.toNat ≤ 0x37)) →
    ∃ t, exec (.bankHandover r b owner) s = .next t
      ∧ (bankOwner s b = owner.toNat → Answered r 2 (K.bankOwner b) 0 [] t ∧ SameButHost s t)
      ∧ (bankOwner s b ≠ owner.toNat → (t.bankSt b).target = some owner.toNat ∧ t.reg (K.bankHandoverState b) = 1
          ∧ Waits t (.bank b) r ∧ RegsBut [K.bankHandoverState b] s t ∧ t.mem.sp = s.mem.sp))
  ∧ (∀ (s : State) (r : Req) (b : Fin 16) (owner : BitVec 8) (i : Fin 16) (f : RangeField) (v : BitVec 64), b.val < 4 → i.val < 4 →
    Takes s r →
    (∃ t, exec (.bankHandover r b owner) s = .next t ∧ Answered r 2 (K.bankOwner b) 0x06010002 [] t ∧ SameButHost s t)
    ∧ ∃ t, exec (.protectedRangeWrite r i f v) s = .next t ∧ SameButHost s t
      ∧ Answered r 2 (match f with | .base => K.rangeBase i | .size => K.rangeSize i) 0x06010002 [] t)
  ∧ (∀ (s : State) (b : Fin 16), (s.bankSt b).target = none → exec (.handoverDone b) s = .next s)
  ∧ (∀ (s : State) (b : Fin 16) (owner : Nat), (s.bankSt b).target = some owner → owner ≠ 0x20 →
    ∃ t, exec (.handoverDone b) s = .next t ∧ (t.bankSt b).target = none ∧ t.reg (K.bankOwner b) = owner
      ∧ t.reg (K.bankHandoverState b) = 0 ∧ awaited t (.bank b) = false
      ∧ (∀ a, tabGet (fun _ => 0#8) t.mem.sp a = if s.reg (K.bankHandoverZero b) = 1 ∧ a / 0x40000 = b then 0
          else tabGet (fun _ => 0#8) s.mem.sp a)
      ∧ RegsBut [K.bankOwner b, K.bankHandoverState b] s t)
  ∧ (∀ (s : State) (b : Fin 16) (g : Fin 8), (s.bankSt b).target = some 0x20 → (s.group g).bank = b → s.reg (K.grpGroupEnable g) = 1 →
    groupState s g = 0 → (∀ h, h < g.val → (s.group h).bank ≠ b) → (s.group g).disable = 0 →
    ∃ t, exec (.handoverDone b) s = .next t ∧ t.reg (K.bankOwner b) = 0x20 ∧ t.reg (K.gstGroupState g) = 1
      ∧ awaited t (.enable (.group g)) = false)
  ∧ (∀ (s : State) (r : Req) (i : Fin 16) (f : RangeField) (v : BitVec 64), 4 ≤ i.val → Passes s r (match f with | .base => K.rangeBase i | .size => K.rangeSize i) v.toNat {} → s.reg K.rangeLockRangeLock ≠ 1 →
    s.reg K.reelEnable = 0 →
    (f = .base → s.regN (K.rangeSize i) = 0 ∨ v.toNat + s.regN (K.rangeSize i) ≤ s.regN K.dramUserBytes) →
    (f = .size → v.toNat = 0 ∨ s.regN (K.rangeBase i) + v.toNat ≤ s.regN K.dramUserBytes) →
    ∃ t, exec (.protectedRangeWrite r i f v) s = .next t
      ∧ t.reg (match f with | .base => K.rangeBase i | .size => K.rangeSize i) = v.toNat
      ∧ (inFlight s = [] → Answered r 2 (match f with | .base => K.rangeBase i | .size => K.rangeSize i) 0 [] t)
      ∧ (inFlight s ≠ [] → t.mem.rangeQ = s.mem.rangeQ ++ [(r, inFlight s)])
      ∧ OnlyRegs [match f with | .base => K.rangeBase i | .size => K.rangeSize i] { s with mem := t.mem } t)
  ∧ ∀ (s : State) (r : Req), Passes s r K.rangeLockRangeLock 1 {} →
    ∃ t, exec (.rangeLock r) s = .next t ∧ t.reg K.rangeLockRangeLock = 1 ∧ Answered r 2 K.rangeLockRangeLock 0 [] t
      ∧ OnlyRegs [K.rangeLockRangeLock] s t

/-- Queue DMA and the reel's chunks: a fetch from a blocked address, of a header or record with a memory error, and of a record that
is not well formed stops the DMA with its fault bit; a good record in DRAM joins the queue and moves the DMA on by its length; a DMA
that is off, or whose group is disabled, fetches nothing. The oldest chunk that the drive completes frees its part of the ring, one
that fails for the first time is issued again, and for the second time leaves the queue (06 R263; 11 R446, R447; 12 R479). -/
def DmaAndReelMoveTheirData : Prop :=
  (∀ (s : State) (g : Group), (s.reg (K.dmaEnable g) = 0 ∨ s.reg (K.grpGroupEnable g) ≠ 1 ∨ groupState s g = 0 ∨ groupState s g = 5
      ∨ groupState s g = 6 ∨ (s.group g).full ≠ []) → exec (.queueDmaFetch g) s = .next s)
  ∧ (∀ (s : State) (g : Group),
    let h := readDram s (s.group g).dmaNext 64 0
    let n := 64 * byteAt h.2.2 1
    let b := readDram h.1 (s.group g).dmaNext n 0
    s.reg (K.dmaEnable g) ≠ 0 → s.reg (K.grpGroupEnable g) = 1 → groupState s g ≠ 0 → groupState s g ≠ 5 → groupState s g ≠ 6 →
    (s.group g).full = [] →
    (blocked s (s.group g).dmaNext 64 = true ∨ h.2.1 ≠ 0 ∨ n = 0 ∨ (s.group g).dmaLeft < n ∨ blocked s (s.group g).dmaNext n = true
      ∨ b.2.1 ≠ 0 ∨ recordOk b.2.2 (s.regN (K.slotsSlotCount g)) (s.regN (K.slotsPathMask g)) g = false) →
    ∃ t, exec (.queueDmaFetch g) s = .next t ∧ t.reg (K.dmaEnable g) = 0 ∧ t.regBit (K.gstGrpStatus g) 10 = true
      ∧ (t.group g).queue = (s.group g).queue ∧ awaited t (.disable (.dma g)) = false)
  ∧ (∀ (s : State) (g : Group),
    let h := readDram s (s.group g).dmaNext 64 0
    let n := 64 * byteAt h.2.2 1
    let b := readDram h.1 (s.group g).dmaNext n 0
    s.reg (K.dmaEnable g) = 1 → s.reg (K.grpGroupEnable g) = 1 → groupState s g ≠ 0 → groupState s g ≠ 5 → groupState s g ≠ 6 →
    (s.group g).full = [] → blocked s (s.group g).dmaNext 64 = false →
    blocked s (s.group g).dmaNext n = false → h.2.1 = 0 → 0 < n → n < (s.group g).dmaLeft → b.2.1 = 0 →
    recordOk b.2.2 (s.regN (K.slotsSlotCount g)) (s.regN (K.slotsPathMask g)) g = true →
    unitsOf (s.group g).queue + n / 64 ≤ 4096 →
    ∃ t, exec (.queueDmaFetch g) s = .next t
      ∧ (t.group g).queue = (s.group g).queue
          ++ [if (s.group g).queue.length = 1 ∧ (s.group g).active = true then armSeg (segOf b.2.2) else segOf b.2.2]
      ∧ (t.group g).dmaNext = (s.group g).dmaNext + n ∧ (t.group g).dmaLeft = (s.group g).dmaLeft - n
      ∧ t.reg (K.dmaDone g) = ((s.regN (K.dmaDone g) + n) % 2 ^ 32 : Nat) ∧ t.reg (K.dmaEnable g) = 1)
  ∧ (∀ (s : State) (c : StCmd) (a : Nat), (s.cip.cmds.find? fun c => c.q == 6) = some c → c.op = .reelChunk a →
    ∃ t, exec (.reelChunkDone true) s = .next t ∧ t.reel.sent = s.reel.sent - 1
      ∧ t.reg K.reelRingFill = (s.regN K.reelRingFill - 2 ^ 20 : Nat) ∧ t.cip.cmds = s.cip.cmds.filter fun d => d.id != c.id)
  ∧ (∀ (s : State) (c : StCmd), (s.cip.cmds.find? fun c => c.q == 6) = some c → c.again = false →
    ∃ t, exec (.reelChunkDone false) s = .next t ∧ t = modCmd s c.id fun c => { c with again := true })
  ∧ (∀ (s : State) (c : StCmd), (s.cip.cmds.find? fun c => c.q == 6) = some c → c.again = true →
    ∃ t, exec (.reelChunkDone false) s = .next t ∧ ∀ d ∈ t.cip.cmds, d.id ≠ c.id)
  ∧ ∀ (s : State) (good : Bool), (s.cip.cmds.find? fun c => c.q == 6) = none → exec (.reelChunkDone good) s = .next s

/-- Keys: a record that verifies and a generate put a key into a free slot with the next generation; one that does not verify is
refused, and a slot at the end of its generations is retired for good; a retire takes the slot out of use and waits until nothing
carries its index, and then the slot is free again, or retired for good; a retire of a free slot completes at once (12 R452 to R454, R474, R475). -/
def KeysEnterAndLeaveTheirSlots : Prop :=
  (∀ (s : State) (r : Req) (data : List Byte), BytesPass s r K.keyRecord data {} → keyWorkCode s = none →
    slotCode s (leAt data 0 1) = none → leAt data 0 1 ≠ 0 → leAt data 1 1 ≤ 1 → leAt data 2 2 = 0 →
    (s.keySlot (leAt data 0 1)).gen ≠ 0xFFFF →
    ∃ t, exec (.keyLoad r data) s = .next t
      ∧ (∀ k, unwrapKey (fusedKey s) (asciiOf [75, 87, 82, 80]) (s.blob K.unitUid) data = some k →
          t.keySlot (leAt data 0 1) = { s.keySlot (leAt data 0 1) with
            st := if leAt data 1 1 = 1 then 2 else 1, key := k, gen := (s.keySlot (leAt data 0 1)).gen + 1,
            persistent := leAt data 1 1 == 1 }
          ∧ Answered r 4 K.keyRecord 0 [] t ∧ RegsBut [K.slotSelFreeSlots] s t)
      ∧ (unwrapKey (fusedKey s) (asciiOf [75, 87, 82, 80]) (s.blob K.unitUid) data = none →
          Answered r 4 K.keyRecord 0x0F000009 [] t ∧ SameButHost s t))
  ∧ (∀ (s : State) (r : Req) (data : List Byte), BytesPass s r K.keyRecord data {} → keyWorkCode s = none →
    slotCode s (leAt data 0 1) = none → leAt data 0 1 ≠ 0 → leAt data 1 1 ≤ 1 → leAt data 2 2 = 0 →
    (s.keySlot (leAt data 0 1)).gen = 0xFFFF →
    ∃ t, exec (.keyLoad r data) s = .next t
      ∧ (∀ k, unwrapKey (fusedKey s) (asciiOf [75, 87, 82, 80]) (s.blob K.unitUid) data = some k →
          (t.keySlot (leAt data 0 1)).st = 4 ∧ Answered r 4 K.keyRecord 0x0F000004 [] t)
      ∧ (unwrapKey (fusedKey s) (asciiOf [75, 87, 82, 80]) (s.blob K.unitUid) data = none →
          Answered r 4 K.keyRecord 0x0F000009 [] t ∧ SameButHost s t))
  ∧ (∀ (s : State) (r : Req) (v : BitVec 16), Passes s r K.keyGenerate v.toNat {} → keyWorkCode s = none →
    slotCode s (v.toNat % 256) = none → v.toNat % 256 ≠ 0 → (s.keySlot (v.toNat % 256)).gen = 0xFFFF →
    ∃ t, exec (.keyGenerate r v) s = .next t ∧ (t.keySlot (v.toNat % 256)).st = 4 ∧ Answered r 2 K.keyGenerate 0x0F000004 [] t)
  ∧ (∀ (s : State) (r : Req) (v : BitVec 16), Passes s r K.keyGenerate v.toNat {} → keyWorkCode s = none →
    slotCode s (v.toNat % 256) = none → v.toNat % 256 ≠ 0 → (s.keySlot (v.toNat % 256)).gen ≠ 0xFFFF →
    ∃ t, exec (.keyGenerate r v) s = .next t ∧ (t.keySlot (v.toNat % 256)).st = (if v.toNat.testBit 8 then 2 else 1)
      ∧ (t.keySlot (v.toNat % 256)).gen = (s.keySlot (v.toNat % 256)).gen + 1
      ∧ (t.keySlot (v.toNat % 256)).key.length = 32 ∧ (∀ i, i ≠ v.toNat % 256 → t.keySlot i = s.keySlot i)
      ∧ Answered r 2 K.keyGenerate 0 [] t ∧ RegsBut [K.slotSelFreeSlots] s t)
  ∧ (∀ (s : State) (r : Req) (v : BitVec 8), Passes s r K.retire v.toNat {} → s.reg K.transitionState = 0 → s.regN K.retiring = 0 →
    ((s.keySlot v.toNat).st = 1 ∨ (s.keySlot v.toNat).st = 2) → s.reg K.rekeyState = 0 → s.reg K.reelEnable = 0 →
    (∀ c ∈ s.cip.cmds, c.key ≠ v.toNat ∨ c.atDrive = true) →
    ∃ t, exec (.keyRetire r v) s = .next t ∧ (t.keySlot v.toNat).st = 3 ∧ t.reg K.retiring = v.toNat ∧ Waits t .retire r
      ∧ (∀ i, i ≠ v.toNat → t.keySlot i = s.keySlot i) ∧ RegsBut [K.retiring] s t)
  ∧ (∀ (s : State) (r : Req) (v : BitVec 8), Passes s r K.retire v.toNat {} → s.reg K.transitionState = 0 →
    (s.regN K.retiring = 0 ∨ s.regN K.retiring = v.toNat) →
    ∃ t, exec (.keyRetire r v) s = .next t
      ∧ ((s.keySlot v.toNat).st = 0 ∨ (s.keySlot v.toNat).st = 4 → Answered r 2 K.retire 0 [] t ∧ SameButHost s t)
      ∧ ((s.keySlot v.toNat).st = 3 → Waits t .retire r ∧ t.keySlot v.toNat = s.keySlot v.toNat ∧ t.regs = s.regs)
      ∧ ((s.keySlot v.toNat).st ≠ 0 → (s.keySlot v.toNat).st ≠ 4 → (t.keySlot v.toNat).st = 3))
  ∧ (∀ s : State, (s.regN K.retiring = 0 ∨ ∃ c ∈ s.cip.cmds, c.key = s.regN K.retiring) → exec .retireDrained s = .next s)
  ∧ ∀ s : State, s.regN K.retiring ≠ 0 → (∀ c ∈ s.cip.cmds, c.key ≠ s.regN K.retiring) →
    ∃ t, exec .retireDrained s = .next t ∧ t.reg K.retiring = 0 ∧ awaited t .retire = false
      ∧ t.keySlot (s.regN K.retiring) = { st := if (s.keySlot (s.regN K.retiring)).gen = 0xFFFF then 4 else 0,
                                          gen := (s.keySlot (s.regN K.retiring)).gen }

/-- Storage requests: those that pass their queue's checks become a command of the queue, with the key and generation of the queue
and the check sum of what a write brings, and end when the drive has done them; a read whose bytes have failed their check sum ends
with an error (13 R502); a command at the drive that fails, or takes too long, is issued once more, and then ends (12 R479 to R482). -/
def StorageRequestsBecomeCommands : Prop :=
  (∀ (s : State) (r : Req) (q : Fin 8) (off : BitVec 32) (data : List Byte), BytesPass s r (K.qData q) data { state := queueCode s q } →
    data.length % 4096 = 0 → off.toNat % 4096 = 0 →
    dataLba s r q off.toNat + data.length / 4096 ≤ s.regN K.stoProtectedSectors →
    ∃ t, exec (.storageDataWrite r q off data) s = .next t ∧ t.cip.sector = s.cip.sector
      ∧ (data = [] → Answered r 4 (K.qData q) 0 [] t ∧ SameButHost s t)
      ∧ (data ≠ [] → RegsBut [K.qWaiting q, K.qAtDrive q] s t
          ∧ t.cip.cmds = s.cip.cmds ++ [{ newCmd s r q (.write data) (dataLba s r q off.toNat) (data.length / 4096) with
              id := s.cip.nextId, crc := some (crc32c data) }]))
  ∧ (∀ (s : State) (r : Req) (q : Fin 8) (off : BitVec 32) (len : Nat), Takes s r →
    ∃ t, exec (.storageDataRead r q off len) s = .next t ∧ t.cip.sector = s.cip.sector
      ∧ (s.mode ≠ .run → Answered r 3 (K.qData q) 0x08000022 [] t ∧ SameButHost s t)
      ∧ (∀ code, s.mode = .run → queueCode s q = some code → Answered r 3 (K.qData q) code [] t ∧ SameButHost s t)
      ∧ (s.mode = .run → queueCode s q = none → (len % 4096 ≠ 0 ∨ off.toNat % 4096 ≠ 0
          ∨ s.regN K.stoProtectedSectors < dataLba s r q off.toNat + (if len = 0 then 1 else len / 4096)) →
          Answered r 3 (K.qData q) 0x06090030 [] t ∧ SameButHost s t)
      ∧ (s.mode = .run → queueCode s q = none → len % 4096 = 0 → off.toNat % 4096 = 0 →
          dataLba s r q off.toNat + (if len = 0 then 1 else len / 4096) ≤ s.regN K.stoProtectedSectors →
          RegsBut [K.qWaiting q, K.qAtDrive q] s t
          ∧ t.cip.cmds = s.cip.cmds
              ++ [{ newCmd s r q .read (dataLba s r q off.toNat) (if len = 0 then 1 else len / 4096) with id := s.cip.nextId }]))
  ∧ (∀ (s : State) (r : Req) (q : Fin 8) (data : List Byte), BytesPass s r (K.qTransfer q) data { state := queueCode s q } →
    data.length = 24 → (leAt data 0 1 = 1 ∨ leAt data 0 1 = 2) → leAt data 2 2 = 0 → 0 < leAt data 4 4 → leAt data 4 4 ≤ 65536 →
    leAt data 16 8 % 4096 = 0 → leAt data 8 8 + leAt data 4 4 ≤ s.regN K.stoProtectedSectors →
    let op := if leAt data 0 1 = 1 then StOp.toDram (leAt data 1 1) (leAt data 16 8) else .fromDram (leAt data 1 1) (leAt data 16 8)
    ∃ t, exec (.storageTransfer r q data) s = .next t
      ∧ (blocked s (leAt data 16 8) (4096 * leAt data 4 4) = true → Answered r 4 (K.qTransfer q) 0x06060000 [] t ∧ SameButHost s t)
      ∧ (blocked s (leAt data 16 8) (4096 * leAt data 4 4) = false → RegsBut [K.qWaiting q, K.qAtDrive q] s t
          ∧ t.cip.cmds = s.cip.cmds ++ [{ newCmd s r q op (leAt data 8 8) (leAt data 4 4) with id := s.cip.nextId }]))
  ∧ (∀ (s : State) (r : Req) (q : Fin 8), Passes s r (K.qFlush q) 1 { state := queueCode s q } →
    ∃ t, exec (.storageFlush r q) s = .next t ∧ RegsBut [K.qWaiting q, K.qAtDrive q] s t
      ∧ t.cip.cmds = s.cip.cmds
          ++ [{ newCmd s r q .flush 0 (if s.cip.layout = 1 then 1 else 2) with id := s.cip.nextId, atDrive := true }])
  ∧ (∀ (s : State) (d : Fin 2) (q : Fin 9) (n : Nat) (c : StCmd) (r : Req), q.val < 7 →
    (s.cip.cmds.find? fun c => c.q == q.val && c.atDrive && (c.code != 0 || decide (c.count ≤ c.done) || c.op == .flush)) = some c →
    c.op = .read → c.req = some r → r.org = .sdo → s.mem.rangeQ = [] → s.reg (K.queueEnable q) = 1 →
    ∃ t, exec (.driveCompletion d q 0 n) s = .next t ∧ t.cip.cmds = (s.cip.cmds.filter fun d => d.id != c.id)
      ∧ (c.code ≠ 0 → (t.path r.path).resp = some ⟨c.code, []⟩)
      ∧ (c.code = 0 → payloadOk c c.data = true → (t.path r.path).resp = some ⟨0, c.data⟩)
      ∧ (c.code = 0 → payloadOk c c.data = false → (t.path r.path).resp = some ⟨0x06060000, []⟩))
  ∧ (∀ (s : State) (d : Fin 2) (q : Fin 9) (st : BitVec 16) (n : Nat) (c : StCmd), q.val < 7 → st ≠ 0 →
    (s.cip.cmds.find? fun c => c.q == q.val && c.atDrive && (c.code != 0 || decide (c.count ≤ c.done) || c.op == .flush)) = some c →
    ∃ t, exec (.driveCompletion d q st n) s = .next t
      ∧ (c.again = false → t = modCmd s c.id fun c => { c with again := true })
      ∧ (c.again = true → ∀ e ∈ t.cip.cmds, e.id ≠ c.id))
  ∧ (∀ (s : State) (d : Fin 2) (q : Fin 9) (st : BitVec 16) (n : Nat), q.val < 7 →
    (s.cip.cmds.find? fun c => c.q == q.val && c.atDrive && (c.code != 0 || decide (c.count ≤ c.done) || c.op == .flush)) = none →
    exec (.driveCompletion d q st n) s = .next s)
  ∧ (∀ (s : State) (d : Fin 2) (q : Fin 8) (c : StCmd), s.cip.cmds.find? (isAt q) = some c →
    ∃ t, exec (.driveCommandTimeout d q) s = .next t
      ∧ (c.again = false → { t with cip := s.cip } = s
          ∧ t.cip.cmds = s.cip.cmds.map fun c => if c.atDrive then { c with again := true } else c)
      ∧ (c.again = true → ∀ e ∈ t.cip.cmds, e.id ≠ c.id))
  ∧ ∀ (s : State) (d : Fin 2) (q : Fin 8), s.cip.cmds.find? (isAt q) = none → exec (.driveCommandTimeout d q) s = .next s

/-- Sectors: a write under the region's key puts the sector's data with the next counter and changes no other sector, and one whose
bytes have failed their check sum puts none (13 R502); a read of a sector gives its data back, one that does not verify an error
and no data; an unbound region reads as zeros; with no DRAM to stage in, a command fails, and while storage does not run, nothing
moves (12 R463, R465, R467, R470). -/
def SectorsKeepTheirData : Prop :=
  (∀ (s : State) (q : Fin 8) (c : StCmd) (d : List Byte), nextCmd s q true = some c → storageRuns s = true → dramUp s = true →
    c.op = .write d → payloadOk c d = true →
    keyServes s c.key c.gen = true → (s.region ((c.lba + c.done) / 2 ^ 18)).bound = some (c.key, c.gen) →
    (s.region ((c.lba + c.done) / 2 ^ 18)).ro = false → s.cip.active = none →
    let i := issue (s.region ((c.lba + c.done) / 2 ^ 18)) (s.sector (c.lba + c.done)) false
    i.1 < 2 ^ 32 - 1 →
    ∃ t, exec (.sectorWrite q) s = .next t
      ∧ t.sector (c.lba + c.done) = ⟨(d.drop (4096 * c.done)).take 4096, i.1, (s.region ((c.lba + c.done) / 2 ^ 18)).epoch, c.key, c.gen, false⟩
      ∧ (∀ l, l ≠ c.lba + c.done → t.sector l = s.sector l) ∧ ∃ c' ∈ t.cip.cmds, c'.id = c.id ∧ c'.done = c.done + 1 ∧ c'.code = 0)
  ∧ (∀ (s : State) (q : Fin 8) (c : StCmd) (d : List Byte), nextCmd s q true = some c → storageRuns s = true → dramUp s = true →
    c.op = .write d → payloadOk c d = false →
    ∃ t, exec (.sectorWrite q) s = .next t ∧ t.cip.sector = s.cip.sector
      ∧ ∃ c' ∈ t.cip.cmds, c'.id = c.id ∧ c'.done = c.done + 1 ∧ c'.code = 0x06060000)
  ∧ (∀ (s : State) (q : Fin 8) (c : StCmd) (how : SectorRead), nextCmd s q false = some c → storageRuns s = true → dramUp s = true →
    c.op = .read → (how = .good ∨ (how = .oneCopy ∧ s.cip.layout = 3)) →
    keyServes s c.key c.gen = true → (s.region ((c.lba + c.done) / 2 ^ 18)).bound = some (c.key, c.gen) → s.cip.active = none →
    (s.sector (c.lba + c.done)).counter ≠ 0 → (s.sector (c.lba + c.done)).poisoned = false →
    (s.sector (c.lba + c.done)).epoch = (s.region ((c.lba + c.done) / 2 ^ 18)).epoch →
    (s.sector (c.lba + c.done)).key = c.key → (s.sector (c.lba + c.done)).gen = c.gen →
    ∃ t, exec (.sectorRead q how) s = .next t ∧ t.cip.sector = s.cip.sector
      ∧ ∃ c' ∈ t.cip.cmds, c'.id = c.id ∧ c'.done = c.done + 1 ∧ c'.data = c.data ++ sectorData (s.sector (c.lba + c.done)))
  ∧ (∀ (s : State) (q : Fin 8) (c : StCmd) (how : SectorRead), nextCmd s q false = some c → storageRuns s = true → dramUp s = true →
    c.op = .read → keyServes s c.key c.gen = true → (s.region ((c.lba + c.done) / 2 ^ 18)).bound = some (c.key, c.gen) →
    (s.sector (c.lba + c.done)).counter ≠ 0 →
    ((s.sector (c.lba + c.done)).poisoned = true ∨ how = .altered ∨ (how = .oneCopy ∧ s.cip.layout ≠ 3)) → how ≠ .zeroed →
    ∃ t, exec (.sectorRead q how) s = .next t ∧ t.cip.sector = s.cip.sector
      ∧ t.reg K.ciStorageIntegrityFails = ((s.regN K.ciStorageIntegrityFails + 1) % 2 ^ 32 : Nat)
      ∧ ∃ c' ∈ t.cip.cmds, c'.id = c.id ∧ c'.done = c.done + 1 ∧ c'.code = 0x06060000 ∧ c'.data = c.data)
  ∧ (∀ (s : State) (q : Fin 8) (c : StCmd) (how : SectorRead), nextCmd s q false = some c → storageRuns s = true → dramUp s = true →
    c.op = .read → keyServes s c.key c.gen = true → (s.region ((c.lba + c.done) / 2 ^ 18)).bound = none →
    ∃ t, exec (.sectorRead q how) s = .next t ∧ t.cip.sector = s.cip.sector
      ∧ ∃ c' ∈ t.cip.cmds, c'.id = c.id ∧ c'.done = c.done + 1 ∧ c'.data = c.data ++ zeros 4096)
  ∧ (∀ (s : State) (q : Fin 8) (c : StCmd) (how : SectorRead), storageRuns s = true → dramUp s = false →
    (nextCmd s q true = some c → ∃ t, exec (.sectorWrite q) s = .next t ∧ t.cip.sector = s.cip.sector
      ∧ ∃ c' ∈ t.cip.cmds, c'.id = c.id ∧ c'.code = 0x06060000)
    ∧ (nextCmd s q false = some c → ∃ t, exec (.sectorRead q how) s = .next t ∧ t.cip.sector = s.cip.sector
      ∧ ∃ c' ∈ t.cip.cmds, c'.id = c.id ∧ c'.code = 0x06060000))
  ∧ ∀ (s : State) (q : Fin 8) (how : SectorRead),
    (storageRuns s = false ∨ nextCmd s q true = none → exec (.sectorWrite q) s = .next s)
    ∧ (storageRuns s = false ∨ nextCmd s q false = none → exec (.sectorRead q how) s = .next s)

/-- Storage comes up with its drives, one of a mirror gone leaves it degraded, and a degraded mirror is rebuilt; a drive that fails is
state 2; remelts move a region chunk by chunk to its next epoch; a re-key takes the regions bound to its index, pauses at a chunk's
end and resumes (12 R470 to R473, R478, R479). -/
def StorageComesUpAndRemelts : Prop :=
  (∀ (s : State) (n : Nat), s.reg K.storageState = 1 → s.cip.layout = 1 → s.cip.active = none → s.reg K.rekeyState ≠ 3 →
    ∃ t, exec (.storageReady (some n) none) s = .next t ∧ t.reg K.storageState = 2
      ∧ t.reg K.stoProtectedSectors = (min (protectedOf n) (2 ^ 33) : Nat)
      ∧ OnlyRegs [K.storageState, K.stoProtectedSectors, K.stoDriveState] s t)
  ∧ (∀ s : State, s.reg K.storageState = 1 → s.cip.layout ≠ 0 →
    ∃ t, exec (.storageReady none none) s = .next t ∧ t.reg K.storageState = 4 ∧ OnlyRegs [K.storageState, K.stoDriveState] s t)
  ∧ (∀ (s : State) (d0 d1 : Option Nat), s.reg K.storageState = 1 → s.cip.layout = 3 → s.cip.active = none → s.reg K.rekeyState ≠ 3 →
    d0.isSome ≠ d1.isSome →
    ∃ t, exec (.storageReady d0 d1) s = .next t ∧ t.reg K.storageState = 3
      ∧ OnlyRegs [K.storageState, K.stoProtectedSectors, K.stoDriveState] s t)
  ∧ (∀ (s : State) (d0 d1 : Option Nat), s.reg K.storageState ≠ 1 → exec (.storageReady d0 d1) s = .next s)
  ∧ (∀ (s : State) (d : Fin 2) (st : BitVec 16) (n : Nat),
    ((s.cip.layout = 0 ∨ (s.cip.layout = 1 ∧ d.val = 1) ∨ st = 0) → exec (.driveCompletion d 8 st n) s = .next s)
    ∧ (s.cip.layout ≠ 0 → (s.cip.layout = 1 → d.val = 0) → st ≠ 0 →
      ∃ t, exec (.driveCompletion d 8 st n) s = .next t ∧ driveState t d = 2
        ∧ (s.cip.layout ≠ 3 ∨ driveState s (1 - d.val) ≠ 1 → t.reg K.storageState = 4)))
  ∧ (∀ (s : State) (d : Fin 2) (st : BitVec 16) (n : Nat) (r : Req), s.cip.rebuild = some r → driveState s d = 3 →
    (st ≠ 0 → exec (.driveCompletion d 7 st n) s = .next s)
    ∧ ∃ t, exec (.driveCompletion d 7 0 n) s = .next t
      ∧ t.reg K.stoRebuildDone = (min (s.regN K.stoRebuildDone + n) (s.regN K.stoProtectedSectors) : Nat)
      ∧ (s.regN K.stoRebuildDone + n < s.regN K.stoProtectedSectors → t.cip.rebuild = some r ∧ driveState t d = 3)
      ∧ (s.regN K.stoProtectedSectors ≤ s.regN K.stoRebuildDone + n → t.cip.rebuild = none ∧ driveState t d = 1 ∧ t.reg K.storageState = 2))
  ∧ (∀ (s : State) (r : Req), Passes s r K.stoRebuild 1 {} → s.cip.layout = 3 → s.reg K.storageState = 3 → s.cip.rebuild = none →
    driveState s 0 = 1 → driveState s 1 ≠ 1 →
    ∃ t, exec (.rebuild r) s = .next t ∧ t.cip.rebuild = some r ∧ t.reg K.stoRebuildDone = 0 ∧ driveState t 1 = 3 ∧ driveState t 0 = 1
      ∧ RegsBut [K.stoRebuildDone, K.stoDriveState] s t)
  ∧ (∀ (s : State) (r : Nat) (rest : List Nat), s.cip.active = none → storageRuns s = true → s.cip.rebuild = none → s.power.step = 0 →
    s.cip.remeltQ = r :: rest →
    ∃ t, exec .remeltRegionStart s = .next t ∧ t.cip.active = some (r, 1 :: List.replicate 15 0) ∧ t.cip.remeltQ = rest
      ∧ t.cip.sector = s.cip.sector ∧ RegsBut [K.rekeyRemeltQueue, K.rekeyCurrent] s t)
  ∧ (∀ (s : State) (r : Nat) (rest : List Nat), s.cip.active = none → storageRuns s = true → s.cip.rebuild = none → s.power.step = 0 →
    s.cip.remeltQ = [] → s.cip.rekeyQ = r :: rest → s.reg K.rekeyState = 1 →
    ∃ t, exec .remeltRegionStart s = .next t ∧ t.cip.active = some (r, 1 :: List.replicate 15 0) ∧ t.cip.rekeyQ = s.cip.rekeyQ
      ∧ t.cip.sector = s.cip.sector ∧ RegsBut [K.rekeyCurrent] s t)
  ∧ (∀ s : State, (s.cip.active.isSome = true ∨ storageRuns s = false ∨ s.cip.rebuild.isSome = true ∨ s.power.step ≠ 0
      ∨ (s.cip.remeltQ = [] ∧ (s.cip.rekeyQ = [] ∨ s.reg K.rekeyState ≠ 1))) → exec .remeltRegionStart s = .next s)
  ∧ (∀ (s : State) (bad : List Nat), (s.cip.active = none ∨ storageRuns s = false) → exec (.remeltChunkDone bad) s = .next s)
  ∧ (∀ (s : State) (r : Nat) (cs bad : List Nat), s.cip.active = some (r, cs) → storageRuns s = true →
    cs.getD (cs.filter (· == 2)).length 0 = 1 →
    let done := cs.take (cs.filter (· == 2)).length ++ [2] ++ cs.drop ((cs.filter (· == 2)).length + 1)
    let pauses := s.cip.pauseReq = true ∧ r ∈ s.cip.rekeyQ
    ∃ t, exec (.remeltChunkDone bad) s = .next t
      ∧ ((cs.filter (· == 2)).length ≠ 15 → s.power.step = 0 → ¬ pauses → t.cip.active = some (r, beginChunk done))
      ∧ ((cs.filter (· == 2)).length ≠ 15 → s.power.step ≠ 0 → t.cip.active = some (r, done))
      ∧ ((cs.filter (· == 2)).length ≠ 15 → s.power.step = 0 → pauses → t.cip.active = some (r, done) ∧ t.reg K.rekeyState = 2
          ∧ t.cip.pauseReq = false)
      ∧ ((cs.filter (· == 2)).length = 15 → t.cip.active = none ∧ (t.region r).epoch = (s.region r).epoch + 1))
  ∧ (∀ (s : State) (r : Req), Passes s r K.rekeyControl 1 {} → s.reg K.rekeyState = 0 → (s.keySlot (s.regN K.rekeyIndex)).st ≠ 3 →
    ∃ t, exec (.rekeyStart r) s = .next t ∧ Answered r 2 K.rekeyControl 0 [] t ∧ t.reg K.rekeyRegionsDone = 0
      ∧ t.reg K.rekeyRegionsTotal = t.cip.rekeyQ.length ∧ t.reg K.rekeyState = (if t.cip.rekeyQ = [] then 0 else if storageUp s = true then 1 else 3)
      ∧ (∀ x ∈ t.cip.rekeyQ, ∃ b, (x, b) ∈ s.cip.region ∧ b.bound.isSome = true
          ∧ b.bound = (liveGen s (s.regN K.rekeyIndex)).map fun g => (s.regN K.rekeyIndex, g)))
  ∧ (∀ (s : State) (r : Req), Passes s r K.rekeyControl 2 {} →
    let busy := s.cip.active.any fun x => s.cip.rekeyQ.contains x.1
    ∃ t, exec (.rekeyPause r) s = .next t ∧ Answered r 2 K.rekeyControl 0 [] t
      ∧ (s.reg K.rekeyState ≠ 1 → SameButHost s t)
      ∧ (s.reg K.rekeyState = 1 → busy = false → t.reg K.rekeyState = 2 ∧ OnlyRegs [K.rekeyState] s t)
      ∧ (s.reg K.rekeyState = 1 → busy = true → t.cip.pauseReq = true ∧ t.regs = s.regs))
  ∧ ∀ (s : State) (r : Req), Passes s r K.rekeyControl 3 {} →
    ∃ t, exec (.rekeyResume r) s = .next t ∧ Answered r 2 K.rekeyControl 0 [] t
      ∧ (s.reg K.rekeyState = 2 → t.reg K.rekeyState = (if storageUp s = true then 1 else 3) ∧ RegsBut [K.rekeyState] s t
          ∧ (s.cip.active = none → OnlyRegs [K.rekeyState] s t)
          ∧ ∀ i cs, s.cip.active = some (i, cs) → i ∈ s.cip.rekeyQ → t.cip.active = some (i, beginChunk cs))
      ∧ (s.reg K.rekeyState ≠ 2 → t.cip.pauseReq = false ∧ t.regs = s.regs)

/-- Check units: a preset sets the five parameters and not RUNNING, a start begins the chain at CHAIN_ADDR and waits for its end, the
two units of the crucible take neither; a FEED descriptor passes its bytes through the register, counts them, is written back with
status 1, and the chain goes on, or ends at the last one; a descriptor that cannot be read ends it with an error, and a unit that
runs no chain does nothing (13 R488 to R490, R492, R495, R497, R498). -/
def CheckUnitsRunTheirChains : Prop :=
  (∀ (s : State) (r : Req) (k : Fin 8) (v : BitVec 8), 2 ≤ k.val → Passes s r (K.ckPreset k) v.toNat {} → s.reg (K.ckState k) ≠ 1 →
    ∃ t, exec (.ckPreset r k v) s = .next t ∧ Answered r 2 (K.ckPreset k) 0 [] t
      ∧ (t.regN (K.ckWidth k), t.regN (K.ckPoly k), t.regN (K.ckInit k), t.regN (K.ckReflect k), t.regN (K.ckXorout k)) = presets v.toNat
      ∧ OnlyRegs [K.ckWidth k, K.ckPoly k, K.ckInit k, K.ckReflect k, K.ckXorout k] s t)
  ∧ (∀ (s : State) (r : Req) (k : Fin 8) (v : BitVec 8), 2 ≤ k.val → Passes s r (K.ckStart k) v.toNat {} → s.reg (K.ckEnable k) = 1 →
    (0x1B, k.val) ∉ s.bad → s.reg (K.ckState k) ≠ 1 →
    ∃ t, exec (.ckStart r k v) s = .next t ∧ t.reg (K.ckState k) = 1 ∧ t.reg (K.ckChainNext k) = s.reg (K.ckChainAddr k)
      ∧ Waits t (.chain k) r ∧ OnlyRegs [K.ckState k, K.ckChainNext k] s t)
  ∧ (∀ (s : State) (r : Req) (k : Fin 8) (v : BitVec 8), k.val < 2 → Takes s r →
    (∃ t, exec (.ckPreset r k v) s = .next t ∧ Answered r 2 (K.ckPreset k) 0x06010002 [] t ∧ SameButHost s t)
    ∧ ∃ t, exec (.ckStart r k v) s = .next t ∧ Answered r 2 (K.ckStart k) 0x06010002 [] t ∧ SameButHost s t)
  ∧ (∀ (s : State) (k : Fin 8), (s.reg (K.ckState k) ≠ 1 ∨ s.test.late = true) → exec (.ckDescriptorDone k) s = .next s)
  ∧ (∀ (s u : State) (k : Fin 8) (st : Nat) (d : List Byte), s.reg (K.ckState k) = 1 → s.test.late = false → st ≠ 0 →
    ckRead s (s.regN (K.ckChainNext k)) 32 (s.regN (K.ckChainKey k)) = (u, st, d) →
    ∃ t, exec (.ckDescriptorDone k) s = .next t ∧ t = ckEnd u k 2 (ckAbort (ckStatus st)) ∧ t.reg (K.ckState k) = 2
      ∧ awaited t (.chain k) = false)
  ∧ ∀ (s u v : State) (k : Fin 8) (d data : List Byte),
    let a := s.regN (K.ckChainNext k)
    let w := s.regN (K.ckWidth k)
    let fl := byteAt d 21
    let start := if fl.testBit 1 then s.regN (K.ckInit k) else s.regN (K.ckRunning k) % 2 ^ w
    let reg := crcBytes w (s.regN (K.ckPoly k)) ((s.regN (K.ckReflect k)).testBit 0) start (data.take (leAt d 16 4))
    let res := if fl.testBit 2 then checkOf w ((s.regN (K.ckReflect k)).testBit 1) (s.regN (K.ckXorout k)) reg else reg
    s.reg (K.ckState k) = 1 → s.test.late = false → s.reg (K.ckEnable k) = 1 →
    ckRead s a 32 (s.regN (K.ckChainKey k)) = (u, 0, d) → ckFormatOk d ((w + 7) / 8) = true → byteAt d 20 = 0 →
    fl.testBit 4 = false → fl.testBit 3 = false → ckRead u (leAt d 0 8) (leAt d 16 4) (byteAt d 22) = (v, 0, data) →
    (ckWrite ((v.setReg (K.ckRunning k) reg).setReg (K.ckBytes k) ((s.regN (K.ckBytes k) + leAt d 16 4) % 2 ^ 64 : Nat)) (a + 23)
      (s.regN (K.ckChainKey k)) (leBytes 1 1 ++ leBytes 8 res)).2 = 0 →
    ∃ t, exec (.ckDescriptorDone k) s = .next t ∧ t.reg (K.ckRunning k) = reg
      ∧ t.reg (K.ckBytes k) = ((s.regN (K.ckBytes k) + leAt d 16 4) % 2 ^ 64 : Nat)
      ∧ t.reg (K.ckDescriptors k) = ((s.regN (K.ckDescriptors k) + 1) % 2 ^ 32 : Nat) ∧ t.reg (K.ckChainNext k) = (a + 32 : Nat)
      ∧ (fl.testBit 0 = false → t.reg (K.ckState k) = 1)
      ∧ (fl.testBit 0 = true → t.reg (K.ckState k) = 0 ∧ awaited t (.chain k) = false)

/-- A record of this type and payload has been formed and is the last that waits to be sealed: its SEQ is the next, it names the
SHA-256 of the record before it, and it ends with its own (14 R525, R526). -/
abbrev Recorded (s t : State) (type : Nat) (payload : List Byte) : Prop :=
  ∃ x, t.isl.recs = s.isl.recs ++ [x] ∧ x.seq = s.isl.seq + 1 ∧ x.data.take 4 = leBytes 4 x.seq ∧ byteOf x.data 4 = type
    ∧ (x.data.drop 32).take 32 = pad32 payload ∧ (x.data.drop 64).take 32 = pad32 (if x.seq = 1 then [] else s.isl.hash)
    ∧ x.data.drop 96 = sha256 (unitUid s ++ x.data.take 96) ∧ t.isl.seq = x.seq ∧ t.isl.hash = x.data.drop 96

/-- The seal store's next page can be programmed, or the erase before it can begin. -/
abbrev StoreReady (s : State) : Prop :=
  BankIdle s 2 ∧ (s.flBlock (182 + s.isl.storePage / 512 % 2)).incomplete = false
  ∧ (s.flBlock (182 + s.isl.storePage / 512 % 2)).top ≤ s.isl.storePage % 512

/-- A signed request of an OP is judged: LAST_RESULT shows the result; one that is refused changes no parameter, key or record, and an
accepted one waits until its records are sealed and the seal store is updated (14 R516). -/
abbrev Judged (s t : State) (r : Req) (d : List Byte) : Prop :=
  t.reg K.sreqLastResult = sealResult s d ∧ (t.blob K.islNonce).length = 16
  ∧ (sealResult s d ≠ 0 → Answered r 4 K.sreqSignedRequest (sealAbort (sealResult s d)) [] t ∧ t.isl = s.isl
      ∧ RegsBut [K.sreqLastResult] s t)
  ∧ (sealResult s d = 0 → ∃ id, Waits t (.island id) r)

/-- Signed requests, each when its checks pass: SET gives the parameters the values that its entries give one after the other;
FIRMWARE runs the staged copy; FIRST_SEAL seals the island with the key it brings and forms three records; NEW_KEY puts its key into
force; CHAIN_BREAK leaves state 4 for a broken chain (14 R514 to R516, R518, R520, R529). -/
def SignedRequestsActWhenTheyVerify : Prop :=
  (∀ (s : State) (r : Req) (data : List Byte), BytesPass s r K.sreqSignedRequest (overwrite data 4 (leBytes 1 1)) {} → StoreReady s →
    let d := overwrite data 4 (leBytes 1 1)
    ∃ t, exec (.set r data) s = .next t ∧ Judged s t r d
      ∧ (sealResult s d = 0 → ∀ id, paramOf t id = (setAll s (setEntries d)).bind fun u => paramOf u id))
  ∧ (∀ (s : State) (r : Req) (data : List Byte), BytesPass s r K.sreqSignedRequest (overwrite data 4 (leBytes 1 2)) {} → StoreReady s →
    let d := overwrite data 4 (leBytes 1 2)
    ∃ t, exec (.firmware r data) s = .next t ∧ Judged s t r d
      ∧ (sealResult s d = 0 → t.isl.copy = some (islStaged s) ∧ t.isl.digest = sealBody d ∧ t.reg K.sreqFwWritten = 0
          ∧ t.reg K.islFwVersion = leAt (islHeader s (islStaged s)) 4 4 ∧ t.reg K.islSealCount = (s.regN K.islSealCount + 1 : Nat)
          ∧ Recorded s t 9 ((sealBody d).take 28 ++ leBytes 4 (leAt (islHeader s (islStaged s)) 4 4))))
  ∧ (∀ (s : State) (r : Req) (data : List Byte), BytesPass s r K.sreqSignedRequest (overwrite data 4 (leBytes 1 3)) {} → StoreReady s →
    let d := overwrite data 4 (leBytes 1 3)
    ∃ t, exec (.firstSeal r data) s = .next t ∧ Judged s t r d
      ∧ (sealResult s d = 0 → t.reg K.islandState = 3 ∧ t.isl.makerKey = sealBody d ∧ t.blob K.islSealKeyHash = sha256 (sealBody d)
          ∧ t.reg K.islSealCount = (s.regN K.islSealCount + 1 : Nat)
          ∧ (t.isl.recs.drop s.isl.recs.length).map (fun x => byteOf x.data 4) = [1, 10, 9]))
  ∧ (∀ (s : State) (r : Req) (data : List Byte), BytesPass s r K.sreqSignedRequest (overwrite data 4 (leBytes 1 4)) {} → StoreReady s →
    let d := overwrite data 4 (leBytes 1 4)
    ∃ t, exec (.newKey r data) s = .next t ∧ Judged s t r d
      ∧ (sealResult s d = 0 → t.isl.makerKey = sealBody d ∧ t.blob K.islSealKeyHash = sha256 (sealBody d)
          ∧ t.reg K.islSealCount = (s.regN K.islSealCount + 1 : Nat) ∧ Recorded s t 10 (sha256 (sealBody d))))
  ∧ ∀ (s : State) (r : Req) (data : List Byte), BytesPass s r K.sreqSignedRequest (overwrite data 4 (leBytes 1 5)) {} → StoreReady s →
    let d := overwrite data 4 (leBytes 1 5)
    ∃ t, exec (.chainBreak r data) s = .next t ∧ Judged s t r d
      ∧ (sealResult s d = 0 → t.reg K.islSealCount = (s.regN K.islSealCount + 1 : Nat)
          ∧ Recorded s t 7 (leBytes 2 6 ++ zeros 6 ++ leBytes 16 s.isl.firstBad)
          ∧ (s.reg K.islandState = 4 → (s.reg K.islFaultCause = 3 ∨ s.reg K.islFaultCause = 4) →
              t.reg K.islandState = 3 ∧ t.reg K.islFaultCause = 0 ∧ t.isl.firstBad = 0))

/-- The value of the measuring input at an edge: a tap's captured value, or the count of an AM input (14 R509). -/
def triggerValue (s : State) (t : Nat) (interp : Int) : Int :=
  match tapPort s ((ownParam s 1).toNat - 2) with
  | some p => if 2 ≤ ownParam s 1 then capValue (s.fb p) t interp else (islInput s).1
  | none => (islInput s).1

/-- The payload of a MEASUREMENT from v0 to v1 with the flags seen (14 R522, R526). -/
def measurement (s : State) (v0 v1 : Int) (flags : Nat) : List Byte :=
  let d := islDelta s v0 v1
  let l := legalValue s d
  leBytes 8 (ofSigned 64 l) ++ leBytes 8 (ofSigned 64 d) ++ leBytes 8 (ofSigned 64 v1)
    ++ leBytes 4 (b2n (errorFlags flags == 0) + 2 * b2n (decide (l < ownParam s 7)) + 2 ^ 16 * (flags % 2 ^ 16))

/-- Jobs: a start on a sealed island with a valid input begins one with its record; a trigger begins a piece, and ends the piece before
with a MEASUREMENT whose legal value is that of R522, and with 2048 records unsealed it ends the job; LIVE_LENGTH follows the input;
a stop forms JOB_END, in MODE 0 after the one measurement; without a job, and at another edge, nothing is measured (14 R509, R521, R522, R524, R526, R534). -/
def JobsMeasureAndEnd : Prop :=
  (∀ (s : State) (r : Req), Passes s r K.jobCommand 1 {} → s.reg K.islandState = 2 → s.isl.job = none → islUnsealed s < 2048 →
    (islInput s).2.2 = true → (ownParam s 8 ≠ 1 ∨ s.reg K.rtcValid ≠ 0) → 128 ≤ s.regN K.logFree →
    ∃ t, exec (.jobStart r) s = .next t ∧ Answered r 2 K.jobCommand 0 [] t
      ∧ t.isl.job = some { id := s.regN K.jobId, mode := (ownParam s 4).toNat, start := (islInput s).1, piece := none }
      ∧ t.reg K.jobState = 1 ∧ t.reg K.jobPieces = 0 ∧ t.reg K.jobLiveLength = 0
      ∧ Recorded s t 2 (leBytes 8 (ofSigned 64 (islInput s).1) ++ leBytes 1 (ownParam s 4).toNat)
      ∧ RegsBut [K.jobState, K.jobPieces, K.jobLiveLength] s t)
  ∧ (∀ (s : State) (r : Req), Passes s r K.jobCommand 2 {} →
    ∃ t, exec (.jobStop r) s = .next t ∧ Answered r 2 K.jobCommand 0 [] t ∧ t.isl.job = none
      ∧ (s.isl.job = none → SameButHost s t)
      ∧ (∀ j, s.isl.job = some j → t.reg K.jobState = 0 ∧ RegsBut [K.jobState] s t)
      ∧ (∀ j, s.isl.job = some j → j.mode ≠ 0 →
          Recorded s t 4 (leBytes 1 1 ++ zeros 3 ++ leBytes 4 j.pieces ++ leBytes 8 (ofSigned 64 j.total)))
      ∧ (∀ j, s.isl.job = some j → j.mode = 0 → ∃ u, Recorded s u 3 (measurement s j.start (islInput s).1 (islInput s).2.1)
          ∧ Recorded u t 4 (leBytes 1 1 ++ zeros 3 ++ leBytes 4 (j.pieces + 1)
              ++ leBytes 8 (ofSigned 64 (j.total + legalValue s (islDelta s j.start (islInput s).1))))))
  ∧ (∀ (s : State) (k : Channel) (rising : Bool) (at' : Nat) (interp : Int) (j : IslJob), s.isl.job = some j → j.mode = 1 →
    ownParam s 5 = (k.val + (if rising then 0 else 0x80) : Nat) → islUnsealed s + 1 < 2048 →
    ∃ t, exec (.assayTrigger k rising at' interp) s = .next t ∧ t.reg K.jobLiveLength = 0 ∧ RegsBut [K.jobLiveLength] s t
      ∧ (j.piece = none → t.isl.recs = s.isl.recs ∧ t.isl.job = some { j with piece := some (triggerValue s at' interp) })
      ∧ (∀ v0, j.piece = some v0 → Recorded s t 3 (measurement s v0 (triggerValue s at' interp) (islInput s).2.1)
          ∧ t.isl.job = some { j with
              pieces := j.pieces + 1, total := j.total + legalValue s (islDelta s v0 (triggerValue s at' interp)),
              piece := some (triggerValue s at' interp) }))
  ∧ (∀ (s : State) (k : Channel) (rising : Bool) (at' : Nat) (interp : Int),
    (∀ j, s.isl.job = some j → j.mode ≠ 1 ∨ ownParam s 5 ≠ (k.val + (if rising then 0 else 0x80) : Nat)) →
    exec (.assayTrigger k rising at' interp) s = .next s)
  ∧ (∀ (s : State) (k : Channel) (rising : Bool) (at' : Nat) (interp : Int) (j : IslJob), s.isl.job = some j → j.mode = 1 →
    ownParam s 5 = (k.val + (if rising then 0 else 0x80) : Nat) → 2048 ≤ islUnsealed s →
    ∃ t, exec (.assayTrigger k rising at' interp) s = .next t ∧ t.isl.job = none ∧ t.reg K.jobState = 0 ∧ t.reg K.jobLiveLength = 0)
  ∧ (∀ s : State, (∀ j, s.isl.job = some j → j.mode ≠ 0 ∧ j.piece = none) → exec .liveLengthUpdate s = .next s)
  ∧ ∀ (s : State) (j : IslJob) (v0 : Int), s.isl.job = some j → (if j.mode = 0 then some j.start else j.piece) = some v0 →
    ∃ t, exec .liveLengthUpdate s = .next t
      ∧ t.reg K.jobLiveLength = wrap64 (roundAway (islDelta s v0 (islInput s).1 * ownParam s 2) (2 ^ 32)) ∧ OnlyRegs [K.jobLiveLength] s t

/-- The next page of the log can be programmed, without an end of the log in reach or a block to erase behind it. -/
abbrev LogReady (s : State) : Prop :=
  17 < s.regN K.logFree ∧ flashServes s = true ∧ BankIdle s 2 ∧ (s.flBlock (logBlock s.isl.pos)).incomplete = false
    ∧ (s.flBlock (logBlock s.isl.pos)).top ≤ s.isl.pos % 512 ∧ (s.isl.pos + 1) / 512 ≤ s.isl.tail

/-- The first four records that wait have gone to the log's next page, whose program runs. -/
abbrev PageBegun (s t : State) : Prop :=
  t.isl.recs = s.isl.recs.drop 4 ∧ t.isl.pos = s.isl.pos + 1 ∧ t.reg K.logFree = (s.regN K.logFree - 1 : Nat)
    ∧ t.isl.prog = s.isl.prog ++ [⟨s.isl.pos, (s.isl.recs.take 4).map fun r => { r with page := s.isl.pos }, false⟩]
    ∧ Runs t 2 (.program (logBlock s.isl.pos) (s.isl.pos % 512) ((((s.isl.recs.take 4).flatMap fun r => r.data) ++ zeros 512).take 512))

/-- The log: up to four records go to one page and leave one page less; a page that verifies seals its records in order; an
acknowledgement is taken only with the sealed record's own hash; a read gives up to 32 sealed records and moves on past them
(14 R506, R523, R527, R530, R531, R535). -/
def RecordsAreSealedReadAndAcknowledged : Prop :=
  (∀ s : State, s.isl.recs ≠ [] → LogReady s → ∃ t, exec (.assayPageProgram) s = .next t ∧ PageBegun s t)
  ∧ (∀ s : State, s.isl.recs ≠ [] → s.isl.recs.length ≤ 4 → LogReady s → ∃ t, exec (.assayDeferredSeal) s = .next t ∧ PageBegun s t)
  ∧ (∀ s : State, (s.isl.recs = [] ∨ s.reg K.logFree = 0 ∨ flashServes s = false) →
    exec (.assayPageProgram) s = .next s ∧ exec (.assayDeferredSeal) s = .next s)
  ∧ (∀ s : State, (∀ p rest, s.isl.prog = p :: rest → p.done = false) → exec (.assayRecordSealed) s = .next s)
  ∧ (∀ (s : State) (p : IslPage) (rest : List IslPage) (rs : List IslRec) (x : IslRec), s.isl.prog = p :: rest → p.done = true →
    p.recs = rs ++ [x] →
    ∃ t, exec .assayRecordSealed s = .next t ∧ t.isl.prog = rest ∧ t.isl.log = s.isl.log ++ p.recs ∧ t.reg K.logHeadSeq = x.seq
      ∧ t.blob K.logHeadHash = x.data.drop 96
      ∧ (byteOf x.data 4 = 3 → t.reg K.jobLastSeq = x.seq ∧ t.reg K.jobLastLegal = toSigned 64 (leAt x.data 32 8)))
  ∧ (∀ (s : State) (r : Req) (data : List Byte), BytesPass s r K.logExportAck data {} → s.isl.pos / 512 ≤ s.isl.tail →
    let seq := leAt data 0 4
    ∃ t, exec (.exportAck r data) s = .next t
      ∧ (seq ≤ s.regN K.logAckSeq → Answered r 2 K.logExportAck 0 [] t ∧ SameButHost s t)
      ∧ (s.regN K.logAckSeq < seq → s.regN K.logHeadSeq < seq → Answered r 2 K.logExportAck 0x06090031 [] t ∧ SameButHost s t)
      ∧ (s.regN K.logAckSeq < seq → seq ≤ s.regN K.logHeadSeq → (s.isl.log.find? fun x => x.seq == seq) = none →
          Answered r 2 K.logExportAck 0x0F000009 [] t ∧ SameButHost s t)
      ∧ (s.regN K.logAckSeq < seq → seq ≤ s.regN K.logHeadSeq → ∀ x, (s.isl.log.find? fun x => x.seq == seq) = some x →
          (x.data.drop 96 ≠ data.drop 4 → Answered r 2 K.logExportAck 0x0F000009 [] t ∧ SameButHost s t)
          ∧ (x.data.drop 96 = data.drop 4 → Answered r 2 K.logExportAck 0 [] t ∧ t.reg K.logAckSeq = seq
              ∧ RegsBut [K.logAckSeq] s t ∧ (islSealed s = true → Recorded s t 8 (leBytes 4 seq)))))
  ∧ ∀ (s : State) (r : Req), Takes s r →
    let rs := (s.isl.log.filter fun x => decide ((s.path r.path).readSeq ≤ x.seq)).take 32
    ∃ t, exec (.assayRecordsRead r) s = .next t ∧ Answered r 3 K.logRecords 0 ((rs.flatMap fun x => x.data).take 4096) t ∧ SameButHost s t
      ∧ (t.path r.path).readSeq = ((rs.getLast?.map fun x => x.seq + 1).getD (s.path r.path).readSeq)

/-- Firmware images are written in ascending order while the seal is open; opening the seal ends a job and unseals, closing it seals
again; a start runs the sealed copy and forms a POWER record, and the JOB_END of a job that was cut, or ends in state 4 with what is
wrong (14 R518 to R520, R524, R528,
R529, R537). -/
def IslandStartsAndItsSeal : Prop :=
  (∀ (s : State) (r : Req) (off : BitVec 32) (data : List Byte), BytesPass s r K.sreqFwImage data {} → s.reg K.islAseal ≠ 0 →
    0 < data.length → data.length % 512 = 0 → off.toNat + data.length ≤ 786432 →
    let base := islCopyBase (islStaged s)
    ((s.flBank 2).op.isSome = true → (off = 0 ∨ off.toNat = s.regN K.sreqFwWritten) →
        ∃ t, exec (.fwImage r off data) s = .next t ∧ t.flash.array = s.flash.array ∧ (t.flBank 2).op = (s.flBank 2).op
          ∧ (t.flBank 2).queue.length = (s.flBank 2).queue.length + (if off = 0 then 3 else 0) + data.length / 512)
    ∧ (BankIdle s 2 → flashServes s = true → off = 0 → ∃ t, exec (.fwImage r off data) s = .next t ∧ t.reg K.sreqFwWritten = 0 ∧ t.flash.array = s.flash.array
        ∧ Runs t 2 (.erase (base / 0x40000)))
    ∧ (BankIdle s 2 → flashServes s = true → off ≠ 0 → off.toNat = s.regN K.sreqFwWritten → (s.flBlock ((base + off.toNat) / 0x40000)).incomplete = false →
        (s.flBlock ((base + off.toNat) / 0x40000)).top ≤ (base + off.toNat) % 0x40000 / 512 →
        ∃ t, exec (.fwImage r off data) s = .next t ∧ t.reg K.sreqFwWritten = s.reg K.sreqFwWritten ∧ t.flash.array = s.flash.array
          ∧ Runs t 2 (.program ((base + off.toNat) / 0x40000) ((base + off.toNat) % 0x40000 / 512) (data.take 512))))
  ∧ (∀ s : State, ∃ t, exec .asealRise s = .next t ∧ t.reg K.islAseal = 1
      ∧ (s.reg K.islandState = 2 → t.reg K.islandState = 3 ∧ t.isl.job = none)
      ∧ (s.reg K.islandState ≠ 2 → OnlyRegs [K.islAseal] s t)
      ∧ RegsBut [K.islAseal, K.islandState, K.jobState, K.errRegErrorRegister, K.tagEmcyOverflow] s t)
  ∧ (∀ s : State, ∃ t, exec .asealFall s = .next t ∧ t.reg K.islAseal = 0 ∧ OnlyRegs [K.islAseal, K.islandState] s t
      ∧ t.reg K.islandState = if s.reg K.islandState = 3 then 2 else s.reg K.islandState)
  ∧ ∀ (s : State) (check : IslandCheck),
    ∃ t, exec (.islandStart check) s = .next t ∧ t.reg K.jobState = 0 ∧ t.isl.job = none ∧ t.isl.prog = [] ∧ t.isl.waits = []
      ∧ (t.blob K.islNonce).length = 16 ∧ t.isl.log = s.isl.log
      ∧ (s.isl.digest = [] → s.reg K.islSealCount = 0 → t.reg K.islandState = 0 ∧ t.isl.recs = [])
      ∧ (¬(s.isl.digest = [] ∧ s.reg K.islSealCount = 0) →
          (check = .store → t.reg K.islandState = 4 ∧ t.reg K.islFaultCause = 2)
          ∧ (check ≠ .store → sealedCopy s = none → t.reg K.islandState = 4 ∧ t.reg K.islFaultCause = 1)
          ∧ (∀ c q, sealedCopy s = some c → check = .chain q → q.toNat ≠ 0 → q.toNat ≤ s.regN K.logHeadSeq →
              s.regN K.logHeadSeq < q.toNat + 64 → t.reg K.islandState = 4 ∧ t.reg K.islFaultCause = 3 ∧ t.isl.firstBad = q.toNat)
          ∧ (∀ c, sealedCopy s = some c → (check = .log → t.reg K.islandState = 4 ∧ t.reg K.islFaultCause = 4)
              ∧ (check = .good → s.isl.firstBad = 0 → t.isl.copy = some c ∧ t.reg K.islFwVersion = leAt (islHeader s c) 4 4
                  ∧ t.reg K.islandState = (if s.reg K.islAseal = 1 then 3 else 2) ∧ t.reg K.islFaultCause = 0
                  ∧ (t.isl.recs.map fun x => (x.seq, byteOf x.data 4)) = (s.regN K.logHeadSeq + 1, 6)
                      :: (if s.isl.job.isSome = true then [(s.regN K.logHeadSeq + 2, 4)] else []))))

/-- Crystals and PLLs: a lost crystal is no longer healthy, and the reference moves to the other one if it was in use and the other is
good; it does not come back on its own; with both lost the PLLs hold over, and at rest LIMP state follows; XO_SELECT moves the
reference; an output that serves nothing takes its setting; a PLL locks by a hop or a search, and counts the locks it loses;
each of these events does nothing where its condition does not hold (15 R542 to R545, R548 to R550). -/
def CrystalsAndPllsFollowTheirClocks : Prop :=
  (∀ (s : State) (x : Fin 2), crystalGood s x = true →
    ∃ t, exec (.crystalLoss x) s = .next t ∧ t.regBit K.xoHealth x = false
      ∧ (s.reg K.xoInUse = (x.val : Int) → crystalGood s (1 - x.val) = true → t.reg K.xoInUse = (1 - x.val : Nat)
          ∧ t.reg K.xoSwitchovers = ((s.regN K.xoSwitchovers + 1) % 2 ^ 32 : Nat)
          ∧ OnlyRegs [K.xoHealth, K.xoInUse, K.xoSwitchovers, K.errRegErrorRegister, K.tagEmcyOverflow] s t)
      ∧ (s.reg K.xoInUse ≠ (x.val : Int) ∨ crystalGood s (1 - x.val) = false → OnlyRegs [K.xoHealth] s t))
  ∧ (∀ (s : State) (x : Fin 2), ∃ t, exec (.crystalRestored x) s = .next t ∧ t.regBit K.xoHealth x = true ∧ OnlyRegs [K.xoHealth] s t)
  ∧ (∀ s : State, s.mode = .run → s.clock.lost = false → s.power.low = 0 → s.reg K.xoInUse ≠ 2 →
    ∃ t, exec .bothCrystalsLost s = .next t ∧ t.clock.lost = true ∧ t.reg K.xoHealth = 0
      ∧ (∀ p < 8, t.reg (K.pllState p) = if s.reg (K.pllState p) = 3 then 4 else s.reg (K.pllState p)))
  ∧ (∀ (s : State) (waited : Bool), s.mode = .run → s.clock.lost = true → (waited || !anyGroupMoves s) = true →
    ∃ t, exec (.limpEntry waited) s = .next t ∧ t.mode = .limp ∧ t.reg K.powerState = 2 ∧ t.reg K.xoInUse = 2 ∧ t.reg K.linkState = 0
      ∧ t.reg K.storageState = 0 ∧ t.host.fn.al = .init)
  ∧ (∀ (s : State) (r : Req) (v : BitVec 8), Passes s r K.xoSelect v.toNat {} → (v.toNat < 2 → crystalGood s v.toNat = true) →
    ∃ t, exec (.xoSelect r v) s = .next t ∧ Answered r 2 K.xoSelect 0 [] t ∧ t.reg K.xoInUse = v.toNat
      ∧ (s.reg K.xoInUse = v.toNat → SameButHost s t)
      ∧ (s.reg K.xoInUse ≠ v.toNat → t.reg K.xoSwitchovers = ((s.regN K.xoSwitchovers + 1) % 2 ^ 32 : Nat)
          ∧ OnlyRegs [K.xoInUse, K.xoSwitchovers, K.errRegErrorRegister, K.tagEmcyOverflow] s t))
  ∧ (∀ (s : State) (x : Fin 2), crystalGood s x = false → exec (.crystalLoss x) s = .next s)
  ∧ (∀ s : State, (s.mode ≠ .run ∨ s.clock.lost = true ∨ s.power.low ≠ 0 ∨ s.reg K.xoInUse = 2) → exec .bothCrystalsLost s = .next s)
  ∧ (∀ (s : State) (waited : Bool), (s.mode ≠ .run ∨ s.clock.lost = false ∨ (waited = false ∧ anyGroupMoves s = true)) →
    exec (.limpEntry waited) s = .next s)
  ∧ (∀ (s : State) (p : Fin 8) (temp : Int) (band : Nat), (s.reg (K.pllState p) = 3 ∨ s.power.low ≠ 0) →
    exec (.pllLocked p temp band) s = .next s)
  ∧ (∀ (s : State) (p : Fin 8) (again : Bool), s.reg (K.pllState p) ≠ 3 → exec (.pllLockLoss p again) s = .next s)
  ∧ (∀ (s : State) (r : Req) (p : Fin 8) (e : PllField) (o : Fin 7) (v : BitVec 16), Passes s r (pllKey p e o) v.toNat {} →
    (sysOuts p).length ≤ o.val → outServes s (8 * p.val + o.val) 16 = false → outAwaited s (8 * p.val + o.val) = false →
    ∃ t, exec (.pllOutputWrite r p e o v) s = .next t ∧ t.reg (pllKey p e o) = v.toNat ∧ Answered r 2 (pllKey p e o) 0 [] t
      ∧ OnlyRegs [pllKey p e o] s t)
  ∧ (∀ (s : State) (p : Fin 8) (temp : Int) (band : Nat), s.reg (K.pllState p) ≠ 3 → s.power.low = 0 →
    ∃ t, exec (.pllLocked p temp band) s = .next t ∧ t.reg (K.pllState p) = 3
      ∧ OnlyRegs [K.pllState p, K.pllHops p, K.pllSearches p, K.pllBandSlot p] { s with clock := t.clock } t
      ∧ (∀ b, bandFor s p temp = some b → t.reg (K.pllHops p) = ((s.regN (K.pllHops p) + 1) % 2 ^ 32 : Nat)
          ∧ t.reg (K.pllBandSlot p) = b.slot ∧ t.reg (K.pllSearches p) = s.reg (K.pllSearches p))
      ∧ (bandFor s p temp = none → t.reg (K.pllSearches p) = ((s.regN (K.pllSearches p) + 1) % 2 ^ 32 : Nat)
          ∧ t.reg (K.pllHops p) = s.reg (K.pllHops p)))
  ∧ (∀ (s : State) (p : Fin 8) (again : Bool), s.reg (K.pllState p) = 3 → (again = false ∨ sysOuts p = [] ∨ s.mode = .safe) →
    ∃ t, exec (.pllLockLoss p again) s = .next t ∧ t.reg (K.pllLockLosses p) = ((s.regN (K.pllLockLosses p) + 1) % 2 ^ 32 : Nat)
      ∧ t.reg (K.pllState p) = (if (bandFor s p (s.reg K.thermTjNow)).isSome then 2 else 1)
      ∧ OnlyRegs [K.pllLockLosses p, K.pllState p, K.errRegErrorRegister, K.tagEmcyOverflow] s t)
  ∧ ∀ (s : State) (p : Fin 8), s.reg (K.pllState p) = 3 → sysOuts p ≠ [] → s.mode ≠ .safe →
    ∃ t, exec (.pllLockLoss p true) s = .next t ∧ t.mode = .safe ∧ t.reg K.safeStSafeCause = 0x0A ∧ t.reg K.safeStSafeUnit = p.val
      ∧ t.reg K.powerState = 3

/-- The RTC: a write of a count or of a date sets the count and makes it valid, and a sealed island records the change; the count goes
on by one a second, and at the end of the calendar it stops and is no longer valid (15 R552, R554 to R556, R559; 14 R537). -/
def RtcCountsAndIsSet : Prop :=
  (∀ (s : State) (r : Req) (v : BitVec 64), Passes s r K.rtcSeconds v.toNat {} → v.toNat ≤ rtcLast →
    ∃ t, exec (.rtcSecondsWrite r v) s = .next t ∧ t.reg K.rtcSeconds = v.toNat ∧ t.reg K.rtcValid = 1
      ∧ t.reg K.rtcWrites = ((s.regN K.rtcWrites + 1) % 2 ^ 32 : Nat) ∧ Answered r 2 K.rtcSeconds 0 [] t
      ∧ RegsBut [K.rtcSeconds, K.rtcValid, K.rtcWrites] s t
      ∧ (islSealed s = true → Recorded s t 7 (leBytes 2 1 ++ zeros 6 ++ leBytes 8 (s.regN K.rtcSeconds) ++ leBytes 8 v.toNat)))
  ∧ (∀ (s : State) (r : Req) (data : List Byte) (n : Nat), BytesPass s r K.rtcCalendar data {} → data.getD 7 0 = 0 →
    calendarSeconds data = some n →
    ∃ t, exec (.rtcCalendarWrite r data) s = .next t ∧ t.reg K.rtcSeconds = n ∧ t.reg K.rtcValid = 1
      ∧ t.reg K.rtcWrites = ((s.regN K.rtcWrites + 1) % 2 ^ 32 : Nat) ∧ Answered r 2 K.rtcCalendar 0 [] t
      ∧ RegsBut [K.rtcSeconds, K.rtcValid, K.rtcWrites] s t)
  ∧ (∀ s : State, s.regN K.rtcSeconds < rtcLast → ∃ t, exec .rtcSecond s = .next t
      ∧ t.reg K.rtcSeconds = (s.regN K.rtcSeconds + 1 : Nat) ∧ OnlyRegs [K.rtcSeconds] s t)
  ∧ (∀ s : State, rtcLast ≤ s.regN K.rtcSeconds → s.reg K.rtcValid = 1 →
    ∃ t, exec .rtcSecond s = .next t ∧ t.reg K.rtcValid = 0 ∧ RegsBut [K.rtcValid, K.errRegErrorRegister, K.tagEmcyOverflow] s t
      ∧ Raised t 0xFF74 0xFF 0)
  ∧ ∀ s : State, rtcLast ≤ s.regN K.rtcSeconds → s.reg K.rtcValid ≠ 1 → ∃ t, exec .rtcSecond s = .next t ∧ t = s

/-- Every count of the calendar, written as the date it reads as, is that count again (15 R552, R554, R555). -/
def CalendarReadsBackAsWritten : Prop :=
  ∀ n ≤ rtcLast, calendarSeconds (calendarBytes n) = some n ∧ (calendarBytes n).length = 8
    ∧ ((calendarBytes n).getD 7 0).toNat = (n / 86400 + 5) % 7 + 1

/-- Self test and service: the late part of a roll check shows its time, and takes up no finding but of a check unit 2 to 7, which it
marks failed and whose chain ends with an error; WRAP_NEXT and SAFE_RESET are recorded; service hours count, with the running mean of
the temperature and the hot hours (18 R631, R634 to R637, R642, R649; 20 R682). -/
def SelfTestAndServiceHours : Prop :=
  (∀ (s : State) (found : List Finding) (time : BitVec 32), s.test.late = true → (∀ k : Fin 8, (0x1B, k.val) ∉ s.bad) →
    (∀ f ∈ found, lateBlock (entryOf f) = false) →
    ∃ t, exec (.rollCheckLateDone found time) s = .next t ∧ t.reg K.wrapRollTime = time.toNat ∧ t.test.late = false
      ∧ t.reg K.wrapRollFailures = (s.regN K.wrapRollFailures % 65536 : Nat)
      ∧ OnlyRegs [K.wrapRollTime, K.wrapRollFailures] { s with test := t.test } t)
  ∧ (∀ (s : State) (u : Fin 8) (index : BitVec 16) (time : BitVec 32), s.test.late = true → (∀ k : Fin 8, (0x1B, k.val) ∉ s.bad) →
    2 ≤ u.val →
    ∃ t, exec (.rollCheckLateDone [⟨0x1B, u.val, index⟩] time) s = .next t ∧ t.bad = s.bad ++ [(0x1B, u.val)] ∧ t.test.late = false
      ∧ t.reg K.wrapRollFailures = ((s.regN K.wrapRollFailures + 1) % 65536 : Nat) ∧ t.reg K.wrapRollTime = time.toNat
      ∧ (s.reg (K.ckState u) = 1 → t.reg (K.ckState u) = 2 ∧ awaited t (.chain u) = false))
  ∧ (∀ (s : State) (found : List Finding) (time : BitVec 32), s.test.late = false → exec (.rollCheckLateDone found time) s = .next s)
  ∧ (∀ (s : State) (r : Req) (v : BitVec 8), Passes s r K.wrapNext v.toNat {} →
    ∃ t, exec (.wrapNext r v) s = .next t ∧ t.test.wrapNext = (v == 1) ∧ Answered r 2 K.wrapNext 0 [] t
      ∧ SameButHost { s with test := t.test } t)
  ∧ (∀ (s : State) (r : Req), Passes s r K.safeStSafeReset 1 {} →
    ∃ t, exec (.safeReset r) s = .next t ∧ t.test.resetDue = true ∧ Answered r 2 K.safeStSafeReset 0 [] t
      ∧ SameButHost { s with test := t.test } t)
  ∧ (∀ s : State, sysOn s = true →
    ∃ t, exec .serviceHour s = .next t ∧ t.reg K.resvServiceHours = ((s.regN K.resvServiceHours + 1) % 2 ^ 32 : Nat)
      ∧ t.reg K.thermTjAverage = (s.reg K.thermTjAverage * (s.regN K.resvServiceHours : Int) + s.reg K.thermTjNow)
          / ((s.regN K.resvServiceHours : Int) + 1)
      ∧ t.reg K.thermHoursHot = (if 1000 < s.reg K.thermTjNow then (((s.regN K.thermHoursHot + 1) % 2 ^ 32 : Nat) : Int)
          else s.reg K.thermHoursHot))
  ∧ ∀ s : State, sysOn s = false → ∃ t, exec .serviceHour s = .next t ∧ t = s

/-- A lifecycle transition: a request that a check of R611 refuses shows the check and blows no fuse, one whose supply margin fails is
refused with 8; an accepted one appends its state to the log, spends the request's nonce, and the device resets; a path to FIELD_RETURN
or SCRAPPED has first destroyed every key of the crucible and BK (17 R607, R609 to R614). -/
def TransitionsBlowTheirFuses : Prop :=
  (∀ (s : State) (r : Req) (data : List Byte) (margin : Fin 32), Takes s r →
    let b := byteOf data 5
    ∃ t, exec (.transitionRequest r data margin) s = .next t ∧ (t.blob K.transDeviceNonce).length = 32
      ∧ (transResult s data ≠ 0 → Answered r 4 K.transitionRequest (transAbort (transResult s data)) [] t
          ∧ t.reg K.transLastResult = transResult s data ∧ t.life = s.life ∧ t.cip = s.cip ∧ RegsBut [K.transLastResult] s t)
      ∧ (transResult s data = 0 → margin.val ≠ 31 → t.reg K.transLastResult = 8 ∧ t.reg K.transMargin = margin.val ∧ t.life = s.life
          ∧ (b ≠ 5 → b ≠ 6 → Answered r 4 K.transitionRequest 0x0F00000D [] t))
      ∧ (transResult s data = 0 → margin.val = 31 → t.reg K.transLastResult = 0 ∧ t.reg K.transitionState = 2 ∧ t.life.trans = true
          ∧ t.life.log = s.life.log ++ [logEntry b]
          ∧ t.life.spent = (if spendsToken (byteOf data 4) b then setBitTo s.life.spent (byteOf data 6) true else s.life.spent)
          ∧ (b ≠ 5 → b ≠ 6 → Answered r 4 K.transitionRequest 0 [] t))
      ∧ (transResult s data = 0 → b = 5 ∨ b = 6 → t.cip.bk = none ∧ ∀ i, (t.keySlot i).key = []))
  ∧ (∀ s : State, s.life.trans = true →
    ∃ t, exec .transitionReset s = .next t ∧ t.life.trans = false ∧ t.life.log = s.life.log ∧ t.host.waits = [] ∧ t.mode = .run
      ∧ t.host.hpi.served = false)
  ∧ ∀ s : State, s.life.trans = false → ∃ t, exec .transitionReset s = .next t ∧ t = s

/-- Debug grants and the backup key: a challenge gives the unit, a new nonce of the path and the lifecycle state; a grant that verifies
opens its scope, ends halts of the grant before, and one that does not is refused; DEBUG_CLOSE ends scope and halts; BK is loaded in OWNED from a record that unwraps, cleared by
BK_CLEAR and by TAMPER#, which also empties every slot and closes debug (17 R616, R618 to R624). -/
def DebugBackupKeyAndTamper : Prop :=
  (∀ (s : State) (r : Req), Takes s r →
    ∃ t, exec (.debugChallenge r) s = .next t ∧ ((t.path r.path).dbgNonce).length = 32 ∧ t.regs = s.regs
      ∧ Answered r 3 K.dbgDebugChallenge 0 (unitUid s ++ (t.path r.path).dbgNonce ++ leBytes 1 (lifeState s) ++ zeros 3
          ++ leBytes 4 s.host.attCounter ++ zeros 8) t)
  ∧ (∀ (s : State) (r : Req) (d : List Byte), Takes s r →
    ((lifeState s ≠ 3 ∧ lifeState s ≠ 4 ∧ lifeState s ≠ 5) ∨ (BytesPass s r K.dbgDebugGrant d {} ∧ keyWorkCode s = none)) →
    ∃ t, exec (.debugGrant r d) s = .next t
      ∧ (lifeState s ≠ 3 ∧ lifeState s ≠ 4 ∧ lifeState s ≠ 5 → Answered r 4 K.dbgDebugGrant 0x0F000008 [] t ∧ SameButHost s t)
      ∧ (lifeState s = 3 ∨ lifeState s = 4 ∨ lifeState s = 5 →
          (∀ c, grantCode s r d = some c → Answered r 4 K.dbgDebugGrant c [] t ∧ SameButHost s t)
          ∧ (grantCode s r d = none → Answered r 4 K.dbgDebugGrant 0 [] t ∧ t.reg K.dbgDebugScope = leAt d 4 4
              ∧ t.life.halted = 0
              ∧ OnlyRegs [K.dbgDebugScope, K.errRegErrorRegister, K.tagEmcyOverflow] { s with life := { s.life with halted := 0 } } t)))
  ∧ (∀ (s : State) (r : Req), Passes s r K.dbgDebugClose 1 {} →
    ∃ t, exec (.debugClose r) s = .next t ∧ t.reg K.dbgDebugScope = 0 ∧ Answered r 2 K.dbgDebugClose 0 [] t
      ∧ t.life.halted = 0 ∧ OnlyRegs [K.dbgDebugScope] { s with life := { s.life with halted := 0 } } t)
  ∧ (∀ (s : State) (r : Req) (data : List Byte), BytesPass s r K.bkRecord data {} → lifeState s = 4 → keyWorkCode s = none →
    s.cip.bk = none → zeroRun data 0 4 = true →
    ∃ t, exec (.bkRecord r data) s = .next t
      ∧ (∀ k, unwrapKey (fusedKey s) (asciiOf [66, 75, 87, 80]) (unitUid s) data = some k →
          t.cip = { s.cip with bk := some k } ∧ Answered r 4 K.bkRecord 0 [] t ∧ t.reg K.bkState = 1 ∧ RegsBut [K.bkState] s t)
      ∧ (unwrapKey (fusedKey s) (asciiOf [66, 75, 87, 80]) (unitUid s) data = none →
          Answered r 4 K.bkRecord 0x0F000009 [] t ∧ SameButHost s t))
  ∧ (∀ (s : State) (r : Req), Passes s r K.bkClear 1 {} →
    ∃ t, exec (.bkClear r) s = .next t ∧ t.cip = { s.cip with bk := none } ∧ t.reg K.bkState = 0 ∧ Answered r 2 K.bkClear 0 [] t
      ∧ RegsBut [K.bkState] s t)
  ∧ (∀ s : State, ∃ t, exec .tamper s = .next t ∧ t.cip.bk = none ∧ t.reg K.bkState = 0 ∧ t.reg K.dbgDebugScope = 0 ∧ t.life.halted = 0
      ∧ t.reg K.tamperCount = ((s.regN K.tamperCount + 1) % 2 ^ 32 : Nat)
      ∧ (sysOn s = false → t.reg K.tamperState = 1 ∧ t.life.owed = true)
      ∧ (sysOn s = true → t.cip.noEphemeral = true ∧ ∀ i, (t.keySlot i).key = [])
      ∧ (sysOn s = true → s.power.low = 0 → t.reg K.tamperState = 2 ∧ t.life.owed = false))
  ∧ ∀ (s : State) (r : Req) (high : Bool), Passes s r K.tamperClear 1 {} →
    ∃ t, exec (.tamperClear r high) s = .next t
      ∧ (s.reg K.tamperState ≠ 0 → (high = false ∨ s.reg K.tamperState = 1) → Answered r 2 K.tamperClear 0x08000022 [] t ∧ SameButHost s t)
      ∧ (s.reg K.tamperState = 0 ∨ (high = true ∧ s.reg K.tamperState ≠ 1) → t.reg K.tamperState = 0 ∧ t.life.tamperPin = true
          ∧ Answered r 2 K.tamperClear 0 [] t ∧ OnlyRegs [K.tamperState] { s with life := t.life } t)

/-- Firmware is staged into the copy that does not run, checked at close, and discarded by its owner alone; a verified copy whose cell
level is met is switched to, and refused where it is not met; it runs on trial after the restart, and is kept by a confirm or left
when the trial runs out; the floor only rises (19 R665 to R668). -/
def FirmwareIsStagedTriedAndConfirmed : Prop :=
  (∀ (s : State) (r : Req), Passes s r K.fwCommand 1 {} → (s.fw.owner = 0 ∨ s.fw.owner = pathNo r.path) → s.fw.due = false →
    awaited s .fwOpen = false → BankIdle s (fwOther s) →
    ∃ t, exec (.fwOpen r) s = .next t ∧ t.fw = { s.fw with owner := pathNo r.path, written := 0 } ∧ t.reg K.fwOtherState = 1
      ∧ t.reg K.fwOtherVersion = 0 ∧ Waits t .fwOpen r ∧ t.flash.array = s.flash.array)
  ∧ (∀ (s : State) (r : Req) (off : BitVec 32) (data : List Byte),
    let a := 0x40000 * fwBlock (fwOther s) + s.fw.written
    BytesPass s r K.fwData data {} → s.fw.owner = pathNo r.path → s.reg K.fwOtherState = 1 → awaited s .fwOpen = false →
    (r.org = .sdo ∨ off.toNat = s.fw.written) → 0 < data.length → data.length % 512 = 0 → s.fw.written + data.length ≤ 0x400000 →
    BankIdle s (fwOther s) → FlashRuns s → (s.flBlock (a / 0x40000)).incomplete = false →
    (s.flBlock (a / 0x40000)).top ≤ a % 0x40000 / 512 →
    ∃ t, exec (.fwData r off data) s = .next t ∧ Runs t (fwOther s) (.program (a / 0x40000) (a % 0x40000 / 512) (data.take 512))
      ∧ t.flash.array = s.flash.array ∧ t.fw = s.fw)
  ∧ (∀ (s : State) (r : Req) (off : BitVec 32), BytesPass s r K.fwData [] {} → s.fw.owner = pathNo r.path →
    s.reg K.fwOtherState = 1 → fwBusy s = false → awaited s .fwOpen = false → (r.org = .sdo ∨ off.toNat = s.fw.written) →
    s.fw.written ≤ 0x400000 →
    ∃ t, exec (.fwData r off []) s = .next t ∧ Answered r 4 K.fwData 0 [] t ∧ SameButHost s t)
  ∧ (∀ (s : State) (r : Req), Passes s r K.fwCommand 2 {} → s.fw.owner = pathNo r.path → fwBusy s = false →
    let c := fwCheck s (fwOther s) s.fw.written
    ∃ t, exec (.fwClose r) s = .next t ∧ t.fw = { s.fw with owner := 0 } ∧ t.reg K.fwResult = c
      ∧ t.reg K.fwOtherState = (if c = 0 then 2 else 3) ∧ Answered r 2 K.fwCommand (fwAbort c) [] t
      ∧ RegsBut [K.fwResult, K.fwOtherState, K.fwOtherVersion] s t)
  ∧ (∀ (s : State) (r : Req), Passes s r K.fwCommand 3 {} → s.fw.owner = pathNo r.path → BankIdle s (fwOther s) →
    awaited s .fwOpen = false →
    ∃ t, exec (.fwDiscard r) s = .next t ∧ t.fw = { s.fw with owner := 0 } ∧ t.reg K.fwOtherState = 3 ∧ Answered r 2 K.fwCommand 0 [] t
      ∧ RegsBut [K.fwOtherState] s t)
  ∧ (∀ (s : State) (r : Req), Passes s r K.fwCommand 3 {} → s.fw.owner = pathNo r.path →
    ∃ t, exec (.fwDiscard r) s = .next t ∧ t.fw = { s.fw with owner := 0 } ∧ t.reg K.fwOtherState = 3 ∧ fwOpening t = false
      ∧ t.flash.array = s.flash.array ∧ RegsBut [K.fwOtherState] s t)
  ∧ (∀ (s : State) (r : Req), Passes s r K.fwCommand 4 {} → s.mode = .run → s.reg K.fwOtherState = 2 →
    s.regN K.cellLevel < fwMinCell (fwHeader s (fwOther s)) →
    ∃ t, exec (.fwSwitch r) s = .next t ∧ t.fw = s.fw ∧ Answered r 2 K.fwCommand 0x0F00000A [] t ∧ t.reg K.fwResult = 7
      ∧ OnlyRegs [K.fwResult] s t)
  ∧ (∀ (s : State) (r : Req), Passes s r K.fwCommand 4 {} → s.reg K.fwOtherState = 2 →
    fwMinCell (fwHeader s (fwOther s)) ≤ s.regN K.cellLevel → powerBusy s = false → s.fw.due = false → moving s = false →
    ∃ t, exec (.fwSwitch r) s = .next t ∧ t.fw = { s.fw with due := true } ∧ Answered r 2 K.fwCommand 0 [] t
      ∧ OnlyRegs [] { s with fw := t.fw } t)
  ∧ (∀ (s : State) (r : Req), Passes s r K.fwCommand 5 {} →
    ∃ t, exec (.fwConfirm r) s = .next t ∧ t.fw = { s.fw with confirmed := s.regN K.fwRunning } ∧ t.reg K.fwTrial = 0
      ∧ Answered r 2 K.fwCommand 0 [] t ∧ OnlyRegs [K.fwTrial] { s with fw := t.fw } t)
  ∧ (∀ (s : State) (r : Req) (v : BitVec 32), Passes s r K.fwFloorCommit v.toNat {} → s.reg K.fwTrial ≠ 1 →
    v.toNat ≤ fwRollback (fwHeader s (s.regN K.fwRunning)) →
    ∃ t, exec (.fwFloorCommit r v) s = .next t ∧ t.reg K.fwFloor = (max (s.regN K.fwFloor) v.toNat : Nat)
      ∧ Answered r 2 K.fwFloorCommit 0 [] t ∧ OnlyRegs [K.fwFloor] s t)
  ∧ (∀ s : State, s.fw.due = true →
    ∃ t, exec .fwSwitchRestart s = .next t ∧ t.reg K.fwRunning = fwOther s ∧ t.fw.due = false ∧ t.reg K.fwOtherState = 2
      ∧ t.reg K.fwTrial = (if fwOther s = s.fw.confirmed then 0 else 1) ∧ t.host.waits = [] ∧ t.host.hpi.served = true)
  ∧ (∀ s : State, s.fw.due = false → exec .fwSwitchRestart s = .next s)
  ∧ (∀ s : State, (s.reg K.fwTrial ≠ 1 ∨ fwMayRestart s = false) → exec .fwTrialTimeout s = .next s)
  ∧ ∀ s : State, s.reg K.fwTrial = 1 → fwMayRestart s = true →
    ∃ t, exec .fwTrialTimeout s = .next t ∧ t.reg K.fwRunning = s.fw.confirmed ∧ t.reg K.fwTrial = 0 ∧ t.reg K.fwOtherState = 2
      ∧ t.host.waits = []

/-- Temperature and the die bridge: a sample gives every region its reading, and TJ_NOW the highest of all sensors; a good flit ends a
run of replays, a bad one lengthens it, and after sixteen bad replays in a row the bridge is down and the device in SAFE state, once (20
R682; 01 R10, R12). -/
def TemperatureAndBridge : Prop :=
  (∀ (s : State) (xs : List Int), xs.length = 22 →
    ∃ t, exec (.temperatureSample xs) s = .next t ∧ (∀ r < 16, t.reg (K.regionTemperature r) = xs.getD r 0)
      ∧ t.reg K.thermTjNow ∈ xs ∧ (∀ x ∈ xs, x ≤ t.reg K.thermTjNow) ∧ t.reg K.thermTjPeak = max (s.reg K.thermTjPeak) (t.reg K.thermTjNow))
  ∧ (∀ (s : State) (xs : List Int), xs.length ≠ 22 → exec (.temperatureSample xs) s = .next s)
  ∧ (∀ s : State, (s.fe.replays < 17 ∨ s.fe.bridgeDown = true) → exec .bridgeDown s = .next s)
  ∧ (∀ s : State, 17 ≤ s.fe.replays → s.fe.bridgeDown = false → s.mode = .safe →
    ∃ t, exec .bridgeDown s = .next t ∧ t = { s with fe := { s.fe with bridgeDown := true } })
  ∧ (∀ s : State, (∃ t, exec (.bridgeFlit true) s = .next t ∧ t = { s with fe := { s.fe with replays := 0 } })
      ∧ ∃ t, exec (.bridgeFlit false) s = .next t ∧ t = { s with fe := { s.fe with replays := s.fe.replays + 1 } })
  ∧ ∀ s : State, 17 ≤ s.fe.replays → s.fe.bridgeDown = false → s.mode ≠ .safe →
    ∃ t, exec .bridgeDown s = .next t ∧ t.mode = .safe ∧ t.fe.bridgeDown = true ∧ t.reg K.safeStSafeCause = 2
      ∧ t.reg K.safeStSafeUnit = 0xFF ∧ t.reg K.powerState = 3

/-- Test and debug masters: a scope is open as the lifecycle state and the grant say, and in SCRAPPED and INVALID never; keys, tokens,
the key records and the island are reached through none; a halted SC3 lets no safe stop end; at the test port TEST answers every
request, any other state the two reads and WRAP_NEXT alone; a block is fenced to the test only out of use, and comes back zeroed (17
R603, R616 to R618; 18 R645, R646). -/
def TestAndDebugStayInTheirBounds : Prop :=
  (∀ (s : State) (x : DebugScope), ((lifeState s = 1 ∨ lifeState s = 2) → scopeOpen s x = true)
    ∧ ((lifeState s = 3 ∨ lifeState s = 4 ∨ lifeState s = 5) → scopeOpen s x = (s.regN K.dbgDebugScope).testBit x.bit)
    ∧ (lifeState s = 0 ∨ 6 ≤ lifeState s → scopeOpen s x = false))
  ∧ (∀ (s : State) (i : Nat), debugReaches s .crucible = false ∧ debugReaches s .batteryKey = false ∧ debugReaches s .fuseKey = false
      ∧ debugReaches s .transportKey = false ∧ debugReaches s (.token i) = false ∧ debugReaches s .attestKey = false
      ∧ debugReaches s .keyRecords = false ∧ debugReaches s .island = false)
  ∧ (∀ (s : State) (addr : Nat) (data : List Byte), scopeOpen s .memory = false →
      debugSpWrite s addr data = s ∧ debugDramWrite s addr data = s
        ∧ debugSpRead s addr data.length = zeros data.length ∧ debugDramRead s addr data.length = (s, zeros data.length))
  ∧ (∀ (s : State) (addr : Nat) (data : List Byte), blocked s addr data.length = true →
      debugDramWrite s addr data = s ∧ debugDramRead s addr data.length = (s, zeros data.length))
  ∧ (∀ s : State, s.life.halted.testBit 3 = true → exec .safeStopReleasable s = .next s)
  ∧ (∀ (s : State) (key op : Nat), answers s .test key op = true →
      lifeState s = 2 ∨ key = K.wrapNext ∨ ((op = 1 ∨ op = 3) ∧ (keyIndex key = 0x2900 ∨ keyIndex key = 0x2901)))
  ∧ (∀ (s : State) (key op : Nat), s.host.testUp = true → lifeState s = 2 → answers s .test key op = true)
  ∧ ∀ (s : State) (b : TestBlock), s.test.handed.Nodup →
      (testReaches (handOver s b) b = true → testReaches s b = true ∨ mayHand s b = true)
      ∧ (mayHand s b = true → testReaches (handOver s b) b = true)
      ∧ testReaches (handBack s b) b = false

/-- The LAST_WAKE bits of a wake source, and what admits it in the lower state that it finds (16 R574, R579). -/
def wakeBits : WakeSource → Nat
  | .pin => 0x02
  | .can _ => 0x10
  | .hpi => 0x20
  | .reset => 0x40

def wakeAdmitted (s : State) : WakeSource → Bool
  | .pin => s.regBit K.wakeEnable 0
  | .can c => s.regBit K.wakeEnable (2 + c.val) && lowOf s == 2
  | .hpi => s.regBit K.wakeEnable 4 && lowOf s == 2
  | .reset => true

/-- The device has left a lower state: LAST_WAKE and LAST_STATE say why and from where, and the start goes on from step 2 out of
SLEEP, else from step 1 with no request left (16 R580, R581). -/
abbrev Woken (s t : State) (bits : Nat) : Prop :=
  t.reg K.powLastWake = bits ∧ t.power.low = 0 ∧ t.reg K.powLastState = s.power.low ∧ t.power.wokeFrom = s.power.low
  ∧ (s.power.low = 2 → t.power.stage = 2) ∧ (s.power.low ≠ 2 → t.power.stage = 1 ∧ t.host.waits = [])

/-- A request of a lower state is recorded and completes. -/
abbrev LowerAccepted (s t : State) (r : Req) (v : Nat) : Prop :=
  t.power = { s.power with target := v, step := 0 } ∧ Answered r 2 K.powerRequest 0 [] t ∧ SameButHost { s with power := t.power } t

/-- Lower states: a request is accepted at rest and recorded; its entry begins, and once all is drained the state is reached, with SC0
not serving, the PLLs stopped, a CLEAN record before DEEP SLEEP and OFF, and a wrap test first where one is due at OFF, but neither
with PWR_DOWN# low; sources that are admitted wake the device, or are kept while it is on its way (16 R574 to R579, R601; 18 R630, R631). -/
def LowerStatesAreEnteredAndLeft : Prop :=
  (∀ (s : State) (r : Req), powerBusy s = false → moving s = false →
    (Passes s r K.powerRequest 2 {} → ∃ t, exec (.sleepRequest r) s = .next t ∧ LowerAccepted s t r 2)
    ∧ (Passes s r K.powerRequest 3 {} → ∃ t, exec (.deepSleepRequest r) s = .next t ∧ LowerAccepted s t r 3)
    ∧ (Passes s r K.powerRequest 4 {} → ∃ t, exec (.offRequest r) s = .next t ∧ LowerAccepted s t r 4))
  ∧ (∀ s : State, (s.power.target = 0 ∨ s.power.step ≠ 0) → exec .powerEntryBegin s = .next s)
  ∧ (∀ s : State, (s.power.target = 0 ∨ s.power.step ≠ 1 ∨ entryDrained s = false) → exec .powerEntryDrained s = .next s)
  ∧ (∀ s : State, s.power.target ≠ 0 → s.power.step = 0 →
    ∃ t, exec .powerEntryBegin s = .next t ∧ t.reg K.powerState = 1 ∧ t.power = { s.power with step := 1 }
      ∧ OnlyRegs [K.powerState] { s with power := t.power } t)
  ∧ (∀ s : State, s.power.target ≠ 0 → s.power.step = 1 → entryDrained s = true → s.power.wakes = 0 →
    ∃ t, exec .powerEntryDrained s = .next t ∧ t.host.hpi.served = false ∧ t.reg K.linkState = 0 ∧ t.reg K.storageState = 0
      ∧ (s.power.target = 2 → t.power.low = 2 ∧ t.power.target = 0 ∧ ∀ p < 8, t.reg (K.pllState p) = 0)
      ∧ (s.power.target = 3 → t.power.low = 3 ∧ t.fe.ana18 = false ∧ (∀ n, (t.cm n).driven = false) ∧ (s.power.down = false → t.test.s4.getLast?.map recKind = some 2))
      ∧ (s.power.target = 4 → (wrapDue s = false ∨ s.power.down = true) → t.power.low = 4
          ∧ (s.power.down = false → t.test.s4.getLast?.map recKind = some 2))
      ∧ (s.power.target = 4 → wrapDue s = true → s.power.down = false → t.power.low = s.power.low ∧ t.power.step = 2 ∧ t.power.wrapping = true))
  ∧ (∀ (s : State) (src : WakeSource), wakeAdmitted s src = true →
    ∃ t, exec (.wakeEvent src) s = .next t ∧ (s.power.low ≠ 0 → Woken s t (wakeBits src))
      ∧ (s.power.low = 0 → s.power.target ≠ 0 → t = { s with power := { s.power with wakes := s.power.wakes ||| wakeBits src } })
      ∧ (s.power.low = 0 → s.power.target = 0 → t = s))
  ∧ (∀ (s : State) (src : WakeSource), wakeAdmitted s src = false → ∃ t, exec (.wakeEvent src) s = .next t ∧ t = s)
  ∧ (∀ s : State, (s.reg K.rtcValid ≠ 1 ∨ s.reg K.wakeAlarm = 0 ∨ s.reg K.rtcSeconds < s.reg K.wakeAlarm ∨ s.regBit K.wakeEnable 1 = false) →
    exec .rtcAlarm s = .next s)
  ∧ ∀ s : State, s.reg K.rtcValid = 1 → s.reg K.wakeAlarm ≠ 0 → s.reg K.wakeAlarm ≤ s.reg K.rtcSeconds → s.regBit K.wakeEnable 1 = true →
    s.power.low ≠ 0 → ∃ t, exec .rtcAlarm s = .next t ∧ Woken s t 0x04

/-- A start in its stages: power applied begins it with nothing driven; each stage that is ready leads to the next; the wake from SLEEP
ends with SC0 serving, any other with the late part of the roll check and a START record; a regulator stage that times out is tried
again with the rails off and ends in OFF with its fault recorded, the oscillator stage in LIMP, the memory stage in SAFE state; in
another stage, and while RESET# holds the device, nothing happens; a fault is cleared on request (16 R574, R580 to R585; 18 R630, R634). -/
def StartsGoThroughTheirStages : Prop :=
  (∀ s : State, ∃ t, exec .powerApplied s = .next t ∧ t.reg K.powLastWake = 1 ∧ t.reg K.powLastState = (if s.power.low = 4 then 4 else 0)
      ∧ t.power.stage = 1 ∧ t.power.low = 0 ∧ t.power.wokeFrom = 0 ∧ t.host.waits = [] ∧ ∀ n, (t.cm n).driven = false)
  ∧ (∀ (s : State) (w : WakeStage), s.fe.safe.resetTaken = true → exec (.wakeStageReady w) s = .next s)
  ∧ (∀ (s : State) (xa xb cal : Bool) (found : List Finding) (time : BitVec 32),
    (s.power.stage ≠ 1 → exec (.wakeStageReady .aon) s = .next s)
    ∧ (s.power.stage ≠ 2 → exec (.wakeStageReady .rails) s = .next s ∧ exec .regulatorStageTimeout s = .next s)
    ∧ (s.power.stage ≠ 3 → exec (.wakeStageReady (.clocks xa xb)) s = .next s ∧ exec .oscillatorStageTimeout s = .next s)
    ∧ (s.power.stage ≠ 4 → exec (.wakeStageReady (.memory cal found time)) s = .next s ∧ exec .memoryStageTimeout s = .next s))
  ∧ (∀ s : State, s.fe.safe.resetTaken = true → exec .regulatorStageTimeout s = .next s ∧ exec .oscillatorStageTimeout s = .next s
      ∧ exec .memoryStageTimeout s = .next s)
  ∧ (∀ s : State, s.fe.safe.resetTaken = false → s.power.stage = 1 →
    ∃ t, exec (.wakeStageReady .aon) s = .next t ∧ t = { s with power := { s.power with stage := 2, attempts := 0, acked := 0 } })
  ∧ (∀ s : State, s.fe.safe.resetTaken = false → s.power.stage = 2 →
    ∃ t, exec (.wakeStageReady .rails) s = .next t ∧ t.power = { s.power with stage := 3, pg := 0x3F }
      ∧ ∀ p < 8, t.reg (K.pllState p) = if (bandFor s p (s.reg K.thermTjNow)).isSome then 2 else 1)
  ∧ (∀ (s : State) (xa xb : Bool), s.fe.safe.resetTaken = false → s.power.stage = 3 → (xa || xb) = true →
    (∀ p < 8, s.reg (K.pllState p) = 3) →
    ∃ t, exec (.wakeStageReady (.clocks xa xb)) s = .next t ∧ t.power = { s.power with stage := 4 }
      ∧ t.reg K.xoHealth = (b2n xa + 2 * b2n xb : Nat)
      ∧ t.reg K.xoInUse = (if (if s.regN K.xoPreferred = 0 then xa else xb) then (s.regN K.xoPreferred : Int) else 1 - (s.regN K.xoPreferred : Int))
      ∧ OnlyRegs [K.xoHealth, K.xoInUse] { s with power := t.power } t)
  ∧ (∀ (s : State) (time : BitVec 32), s.fe.safe.resetTaken = false → s.power.stage = 4 → s.power.wokeFrom = 2 → s.mode = .run →
    ∃ t, exec (.wakeStageReady (.memory true [] time)) s = .next t ∧ t.power.stage = 0 ∧ t.host.hpi.served = true ∧ t.host.hpi.busy = false
      ∧ t.reg K.powerState = 0 ∧ t.reg K.powWakeTime = time.toNat
      ∧ t.reg K.storageState = (if s.cip.layout = 0 then 0 else 1))
  ∧ (∀ (s : State) (time : BitVec 32), s.fe.safe.resetTaken = false → s.power.stage = 4 → s.power.wokeFrom ≠ 2 → repairMap s = [] →
    ∃ t, exec (.wakeStageReady (.memory true [] time)) s = .next t ∧ t.test.late = true ∧ t.test.s4.getLast?.map recKind = some 1
      ∧ (t.blob K.transDeviceNonce).length = 32)
  ∧ (∀ s : State, s.fe.safe.resetTaken = false → s.power.stage = 2 → s.power.wokeFrom ≠ 2 →
    ∃ t, exec .regulatorStageTimeout s = .next t ∧ t.fe.ana18 = false ∧ (∀ n, (t.cm n).driven = false)
      ∧ (s.power.attempts < 3 → t.power.stage = 2 ∧ t.power.low = 0 ∧ t.power.attempts = s.power.attempts + 1)
      ∧ (3 ≤ s.power.attempts → t.power.low = 4 ∧ t.power.faultPin = true ∧ t.reg K.pfaultFaultStage = 1
          ∧ t.reg K.pfaultFaultAttempts = (s.power.attempts + 1 : Nat) ∧ t.reg K.pfaultFaultTime = rtcTime s
          ∧ t.reg K.pfaultFaultRail = ((railOrder.filter fun r => mapped s r && !s.power.acked.testBit r).head?).getD 0))
  ∧ (∀ s : State, s.fe.safe.resetTaken = false → s.power.stage = 2 → s.power.wokeFrom = 2 →
    ∃ t, exec .regulatorStageTimeout s = .next t ∧ t.fe.ana18 = false ∧ (∀ n, (t.cm n).driven = false) ∧ t.host.waits = []
      ∧ (s.power.attempts < 3 → t.power.stage = 2 ∧ t.power.low = 0 ∧ t.power.wokeFrom = 0 ∧ t.power.attempts = s.power.attempts + 1)
      ∧ (3 ≤ s.power.attempts → t.power.low = 4 ∧ t.power.faultPin = true ∧ t.reg K.pfaultFaultStage = 1
          ∧ t.reg K.pfaultFaultAttempts = (s.power.attempts + 1 : Nat)))
  ∧ (∀ s : State, s.fe.safe.resetTaken = false → s.power.stage = 3 →
    ∃ t, exec .oscillatorStageTimeout s = .next t ∧ t.mode = .limp ∧ t.power = { s.power with stage := 4 } ∧ t.reg K.powerState = 2
      ∧ t.reg K.xoInUse = 2 ∧ t.reg K.linkState = 0 ∧ t.reg K.storageState = 0 ∧ t.host.fn.al = .init ∧ ∀ p < 8, t.reg (K.pllState p) = 3)
  ∧ (∀ s : State, s.fe.safe.resetTaken = false → s.power.stage = 4 → s.mode ≠ .safe →
    ∃ t, exec .memoryStageTimeout s = .next t ∧ t.mode = .safe ∧ t.reg K.safeStSafeCause = 5 ∧ t.reg K.safeStSafeUnit = 0xFF
      ∧ t.host.hpi.served = true)
  ∧ ∀ (s : State) (r : Req), Passes s r K.pfaultFaultClear 1 {} →
    ∃ t, exec (.faultClear r) s = .next t ∧ t.reg K.pfaultFaultStage = 0 ∧ t.reg K.pfaultFaultRail = 0 ∧ t.reg K.pfaultFaultAttempts = 0
      ∧ t.reg K.pfaultFaultTime = 0 ∧ t.power = { s.power with faultPin := false } ∧ Answered r 2 K.pfaultFaultClear 0 [] t
      ∧ OnlyRegs [K.pfaultFaultStage, K.pfaultFaultRail, K.pfaultFaultAttempts, K.pfaultFaultTime] { s with power := t.power } t

/-- RESET# and the supplies: a low counts once it is qualified, and then the device resets and stays held until the line rises; PWR_DOWN#
stops what moves, or ends a start in OFF, and its rise lets flash work go on; a power-good line that falls is reported, and PG0 and
PG5 act as PWR_DOWN# (20 R685; 04 R179; 16 R586, R587, R601). -/
def ResetAndSuppliesAct : Prop :=
  (∀ s : State, ∃ t, exec .resetFall s = .next t ∧ t = s.modSafe fun x => { x with resetLow := true })
  ∧ (∀ (s : State) (dt : Nat), s.fe.safe.resetLow = true → s.fe.safe.resetTaken = false →
    ∃ t, exec (.resetQualified dt) s = .next t ∧ t.fe.safe.resetTaken = true ∧ t.host.waits = [] ∧ t.host.hpi.served = false
      ∧ t.mode = .run ∧ t.power.low = 0 ∧ (s.power.low = 0 → s.power.stage ≠ 1 → s.power.stage ≠ 2 → t.power.stage = 3)
      ∧ (s.power.low = 3 ∨ s.power.low = 4 → t.power.stage = 1 ∧ t.reg K.powLastWake = 0x40))
  ∧ (∀ (s : State) (dt : Nat), s.fe.safe.resetLow = false ∨ s.fe.safe.resetTaken = true →
    ∃ t, exec (.resetQualified dt) s = .next t ∧ t = s)
  ∧ (∀ s : State, ∃ t, exec .resetRise s = .next t ∧ t.fe.safe.resetLow = false ∧ t.fe.safe.resetTaken = false
      ∧ (s.fe.safe.resetTaken = false → t = s.modSafe fun x => { x with resetLow := false })
      ∧ (s.fe.safe.resetTaken = true → t.power = s.power))
  ∧ (∀ s : State, s.power.down = false →
    ∃ t, exec .pwrDownFall s = .next t ∧ t.power.down = true
      ∧ (s.power.low ≠ 0 → t = { s with power := { s.power with down := true } })
      ∧ (s.power.low = 0 → s.power.stage ≠ 0 → t.power.low = 4 ∧ t.power.stage = 0)
      ∧ (s.power.low = 0 → s.power.stage = 0 → s.power.wrapping = false → anyGroupMoves s = false → islSealed s = false →
          t = { s with power := { s.power with down := true } }))
  ∧ (∀ s : State, s.power.down = true → ∃ t, exec .pwrDownFall s = .next t ∧ t = s)
  ∧ (∀ s : State, (s.power.down = true → ∃ t, exec .pwrDownRise s = .next t ∧ t.power.down = false)
      ∧ (s.power.down = false → ∃ t, exec .pwrDownRise s = .next t ∧ t = s))
  ∧ (∀ (s : State) (i : Fin 6), (s.power.pg.testBit i = false ∨ s.power.low ≠ 0 ∨ (s.power.stage ≠ 0 ∧ s.power.stage ≠ 5)) →
    exec (.powerGoodLost i) s = .next s)
  ∧ ∀ (s : State) (i : Fin 6), s.power.pg.testBit i = true → s.power.low = 0 → (s.power.stage = 0 ∨ s.power.stage = 5) →
    ∃ t, exec (.powerGoodLost i) s = .next t ∧ t.power.pg.testBit i = false ∧ (i.val = 0 ∨ i.val = 5 → t.power.down = true)
      ∧ (i.val = 1 ∨ i.val = 4 → OnlyRegs [K.errRegErrorRegister, K.tagEmcyOverflow] { s with power := t.power } t)

/-- PMBus and the quadrant rails: a transaction is counted by how it ends; an acknowledgement counts in the regulator stage, and
completes the setting of a quadrant rail, as does, with 0x06060000, its timeout or a third poll that finds another master's value;
what is not asked of a mapped rail changes nothing; an alert is shown; VCCQ_SET sets a rail without a regulator at once and waits for
one that has it (16 R588 to R595; 08 R309). -/
def PmbusSetsAndWatchesTheRails : Prop :=
  (∀ (s : State) (rail : Fin 12) (addr : BitVec 7) (losses : Fin 9) (how : PmbResult), mapped s rail.val = true →
    mapOf s rail.val % 128 = addr.toNat →
    ∃ t, exec (.pmbusTransaction rail addr losses how) s = .next t
      ∧ t.reg K.pmbArbLost = ((s.regN K.pmbArbLost + losses.val) % 2 ^ 32 : Nat)
      ∧ t.reg K.pmbTransactions = (if losses.val ≠ 8 ∧ how = .good then (((s.regN K.pmbTransactions + 1) % 2 ^ 32 : Nat) : Int)
          else s.reg K.pmbTransactions)
      ∧ t.reg K.pmbFailed = (if losses.val ≠ 8 ∧ how = .good then s.reg K.pmbFailed else (((s.regN K.pmbFailed + 1) % 2 ^ 32 : Nat) : Int))
      ∧ t.reg K.pmbPecErrors = (if losses.val ≠ 8 ∧ how = .pecError then (((s.regN K.pmbPecErrors + 1) % 2 ^ 32 : Nat) : Int)
          else s.reg K.pmbPecErrors))
  ∧ (∀ (s : State) (rail : Fin 12) (addr : BitVec 7), mapped s rail.val = true → mapOf s rail.val % 128 = addr.toNat →
    ∃ t, exec (.pmbusSclTimeout rail addr) s = .next t ∧ t.reg K.pmbFailed = ((s.regN K.pmbFailed + 1) % 2 ^ 32 : Nat)
      ∧ OnlyRegs [K.pmbFailed, K.errRegErrorRegister, K.tagEmcyOverflow] s t)
  ∧ (∀ (s : State) (rail : Fin 12) (status mv : BitVec 16), s.power.stage = 2 → mapped s rail.val = true → statusGood status.toNat = true →
    ∃ t, exec (.pmbusAckPoll rail status mv) s = .next t
      ∧ t = { s with power := { s.power with acked := setBitTo s.power.acked rail.val true } })
  ∧ (∀ (s : State) (rail : Fin 12) (status mv : BitVec 16) (q : Nat), s.power.stage ≠ 2 → railAsked s rail.val = some q → NoLoad s →
    statusGood status.toNat = true → ((mv.toNat : Int) - ((s.rail q).target : Int)).natAbs ≤ 15 →
    ∃ t, exec (.pmbusAckPoll rail status mv) s = .next t ∧ (t.rail q).target = 0 ∧ awaited t (.vccq q) = false)
  ∧ (∀ (s : State) (rail : Fin 12) (status mv : BitVec 16) (q : Nat), s.power.stage ≠ 2 → railAsked s rail.val = some q → NoLoad s →
    status.toNat.testBit 11 = false → 15 < ((mv.toNat : Int) - ((s.rail q).target : Int)).natAbs →
    ∃ t, exec (.pmbusAckPoll rail status mv) s = .next t
      ∧ ((s.rail q).odd < 2 → t = s.modRail q fun x => { x with odd := x.odd + 1 })
      ∧ (2 ≤ (s.rail q).odd → (t.rail q).target = 0 ∧ awaited t (.vccq q) = false
          ∧ t.reg K.pmbForeign = ((s.regN K.pmbForeign + 1) % 2 ^ 16 : Nat)))
  ∧ (∀ (s : State) (rail : Fin 12), s.power.stage = 2 → mapped s rail.val = true → s.power.acked.testBit rail.val = false →
    ∃ t, exec (.pmbusAckTimeout rail) s = .next t ∧ OnlyRegs [K.errRegErrorRegister, K.tagEmcyOverflow] s t
      ∧ t.regBit K.errRegErrorRegister 2 = true)
  ∧ (∀ (s : State) (rail : Fin 12) (q : Nat), s.power.stage ≠ 2 → railAsked s rail.val = some q → NoLoad s →
    ∃ t, exec (.pmbusAckTimeout rail) s = .next t ∧ (t.rail q).target = 0 ∧ awaited t (.vccq q) = false)
  ∧ (∀ (s : State) (addr : BitVec 7) (status : BitVec 16),
    ∃ t, exec (.pmbusAlert addr status) s = .next t ∧ t.reg K.pmbLastAlert = addr.toNat
      ∧ OnlyRegs [K.pmbLastAlert, K.errRegErrorRegister, K.tagEmcyOverflow] s t)
  ∧ (∀ (s : State) (rail : Fin 12) (addr : BitVec 7) (losses : Fin 9) (how : PmbResult),
    (mapped s rail.val = false ∨ mapOf s rail.val % 128 ≠ addr.toNat) →
    exec (.pmbusTransaction rail addr losses how) s = .next s ∧ exec (.pmbusSclTimeout rail addr) s = .next s)
  ∧ (∀ (s : State) (rail : Fin 12) (status mv : BitVec 16),
    (s.power.stage = 2 → (mapped s rail.val = false ∨ statusGood status.toNat = false) → exec (.pmbusAckPoll rail status mv) s = .next s)
    ∧ (s.power.stage = 2 → (mapped s rail.val = false ∨ s.power.acked.testBit rail.val = true) → exec (.pmbusAckTimeout rail) s = .next s)
    ∧ (s.power.stage ≠ 2 → railAsked s rail.val = none →
        exec (.pmbusAckPoll rail status mv) s = .next s ∧ exec (.pmbusAckTimeout rail) s = .next s)
    ∧ (∀ q, s.power.stage ≠ 2 → railAsked s rail.val = some q → statusGood status.toNat = false →
        (status.toNat.testBit 11 = true ∨ ((mv.toNat : Int) - ((s.rail q).target : Int)).natAbs ≤ 15) →
        exec (.pmbusAckPoll rail status mv) s = .next s))
  ∧ (∀ (s : State) (rail : Fin 12), ∃ t, exec (.pmbusTelemetry rail) s = .next t ∧ t = s)
  ∧ ∀ (s : State) (r : Req) (q : Fin 4) (mv : BitVec 16), Passes s r (K.railVccq0Set + q.val) mv.toNat {} → s.fab.load = none →
    s.power.target = 0 → s.fab.slate = [] →
    ∃ t, exec (.vccqSet r q mv) s = .next t ∧ t.reg (K.railVccq0Set + q.val) = mv.toNat
      ∧ (railPresent s q.val = false → Answered r 2 (K.railVccq0Set + q.val) 0 [] t ∧ (t.rail q.val).target = (s.rail q.val).target)
      ∧ (railPresent s q.val = true → Waits t (.vccq q.val) r ∧ (t.rail q.val).target = mv.toNat)

/-- The backup domain and the wrap test: a switch of the supply is counted; where the canary has failed what BBRAM and the RTC held is
lost; a wrap test ends with its record, and the device goes to OFF (16 R596 to R598; 18
R631 to R633). -/
def BackupSupplyAndWrapTest : Prop :=
  (∀ (s : State) (toAon ok : Bool), s.reg K.batSupplyInUse ≠ b2i toAon → (toAon = true → ok = true) →
    ∃ t, exec (.backupSupplySwitch toAon ok) s = .next t ∧ t.reg K.batSupplyInUse = b2i toAon
      ∧ t.reg K.batSwitches = ((s.regN K.batSwitches + 1) % 2 ^ 32 : Nat)
      ∧ (toAon = true → t.regBit K.batBackupStatus 1 = false)
      ∧ OnlyRegs [K.batSupplyInUse, K.batSwitches, K.batBackupStatus] s t)
  ∧ (∀ s : State, s.reg K.batSupplyInUse ≠ 1 →
    ∃ t, exec (.backupSupplySwitch true false) s = .next t ∧ t.reg K.batSupplyInUse = 1 ∧ t.reg K.rtcValid = 0 ∧ t.reg K.rtcSeconds = 0
      ∧ t.blob K.batUserBbram = [] ∧ t.cip.bk = none ∧ t.clock.bands = [] ∧ t.regBit K.batBackupStatus 1 = true)
  ∧ (∀ (s : State) (toAon ok : Bool), s.reg K.batSupplyInUse = b2i toAon → ∃ t, exec (.backupSupplySwitch toAon ok) s = .next t ∧ t = s)
  ∧ (∀ (s : State) (ms : BitVec 32), s.power.wrapping = true → s.power.wakes = 0 →
    ∃ t, exec (.wrapTestDone [] [] ms) s = .next t ∧ t.power.low = 4 ∧ t.power.wrapping = false ∧ t.test.wrapNext = false
      ∧ t.test.s4.getLast?.map (fun x => (recKind x, leAt x 9 1, leAt x 12 4)) = some (3, 0, ms.toNat))
  ∧ (∀ (s : State) (found : List Finding) (margins : List (Fin 256 × Fin 256)), s.power.wrapping = true → s.power.wakes = 0 →
    ∃ t, exec (.wrapTestLimit found margins) s = .next t ∧ t.power.low = 4 ∧ t.power.wrapping = false
      ∧ t.test.s4.getLast?.map (fun x => (recKind x, leAt x 9 1)) = some (3, 4))
  ∧ ∀ (s : State) (found : List Finding) (margins : List (Fin 256 × Fin 256)) (ms : BitVec 32), s.power.wrapping = false →
    exec (.wrapTestLimit found margins) s = .next s ∧ exec (.wrapTestDone found margins ms) s = .next s

/-- The source of the tick: at rest it is chosen, 0 from the next tick on and another once it has been joined; a source that is lost
leaves the unit in holdover (01 R18, R20, R699). -/
def TickSourcesAreJoinedAndLost : Prop :=
  (∀ (s : State) (r : Req) (v : BitVec 8), Passes s r K.tickSource v.toNat {} → moving s = false →
    ∃ t, exec (.tickSourceWrite r v) s = .next t ∧ t.reg K.tickSource = v.toNat ∧ Answered r 2 K.tickSource 0 [] t
      ∧ t.fe = { s.fe with srcPend := decide (v.toNat = 0) } ∧ t.reg K.tickState = (if v.toNat = 0 then s.reg K.tickState else 2)
      ∧ OnlyRegs [K.tickSource, K.tickState] { s with fe := t.fe } t)
  ∧ (∀ s : State, s.reg K.tickState = 2 → s.reg K.tickSource ≠ 0 → moving s = false → (s.reg K.tickSource = 2 ∨ linkLocked s = true) →
    ∃ t, exec .tickSourceJoin s = .next t ∧ t.reg K.tickState = 0 ∧ OnlyRegs [K.tickState] s t)
  ∧ (∀ s : State, (s.reg K.tickState ≠ 2 ∨ s.reg K.tickSource = 0 ∨ moving s = true ∨ (s.reg K.tickSource ≠ 2 ∧ linkLocked s = false)) →
    exec .tickSourceJoin s = .next s)
  ∧ (∀ s : State, s.reg K.tickSource ≠ 0 → s.reg K.tickState = 0 →
    ∃ t, exec .tickHoldover s = .next t ∧ t.reg K.tickState = 1 ∧ t.regBit K.errRegErrorRegister 4 = true
      ∧ (s.reg K.tickSource = 1 → s.reg K.linkState ≠ 0 → t.reg K.linkState = 4 ∧ t.link.inOrder = 0)
      ∧ RegsBut [K.tickState, K.linkState, K.errRegErrorRegister, K.tagEmcyOverflow] s t)
  ∧ ∀ s : State, (s.reg K.tickSource = 0 ∨ s.reg K.tickState ≠ 0) → ∃ t, exec .tickHoldover s = .next t ∧ t = s

/-- A frame with a bad CRC changes nothing but the count of such frames, where the link is on. -/
abbrev CrcCounted (s t : State) : Prop :=
  (linkOn s = false → t = s)
    ∧ (linkOn s = true → t.reg K.linkCrcErrors = ((s.regN K.linkCrcErrors + 1) % 2 ^ 32 : Nat) ∧ OnlyRegs [K.linkCrcErrors] s t)

/-- Frames of the clapper link: TICK frames in order lock the link at the sixteenth; a TIME frame sets cell time, which never runs
backwards; a STATUS frame makes a member present as it describes itself, one under this member's CFG_ID with a lower UID keeps it
from locking; an AXIS frame gives followers their set-point, and a late one none; a probe shows its hop; a frame with a bad CRC is only
counted, and while the link is off none is taken (15 R560 to R565; 19 R652, R653, R659, R662). -/
def ClapperFramesAreTaken : Prop :=
  (∀ (s : State) (seq : BitVec 8),
    let n := if s.link.tickSeq.all fun q => (q + 1) % 256 == seq.toNat then min 16 (s.link.inOrder + 1) else 1
    let u := s.modLink fun l => { l with tickSeq := some seq.toNat, inOrder := n }
    linkOn s = true → s.regN K.cellTimeSource ≠ 0xFF → s.regN K.cellTimeSource ≠ cellId s → s.link.tickSeq ≠ some seq.toNat →
    ∃ t, exec (.clapperTickFrame seq) s = .next t
      ∧ (n ≠ 16 → t = u)
      ∧ (n = 16 → (s.reg K.linkState = 1 ∨ (s.reg K.linkState = 4 ∧ s.reg K.tickState ≠ 1)) → s.link.dup = false → (s.member (s.regN K.cellTimeSource)).rate = s.regN K.rateServoRate →
          t = u.setReg K.linkState (if s.regBit K.linkFlags 2 then 3 else 2)))
  ∧ (∀ (s : State) (seq : BitVec 8), (linkOn s = false ∨ s.regN K.cellTimeSource = 0xFF ∨ s.regN K.cellTimeSource = cellId s
      ∨ s.link.tickSeq = some seq.toNat) → exec (.clapperTickFrame seq) s = .next s)
  ∧ (∀ (s : State) (time : BitVec 64) (w : Option (BitVec 64 × BitVec 32)) (m : StatusFrame) (src : Fin 8) (es : List AxisEntry)
      (xs : List (Fin 8 × Axis)) (late : Bool) (side : Fin 2) (ns path : BitVec 16), linkOn s = false →
    exec (.clapperTimeFrame true time w) s = .next s ∧ exec (.clapperStatusFrame true m) s = .next s
      ∧ exec (.clapperAxisFrame true src es xs late) s = .next s ∧ exec (.clapperDelayProbe true side ns path) s = .next s)
  ∧ (∀ (s : State) (time : BitVec 64), linkOn s = true → linkLocked s = true → s.regN K.cellTimeSource ≠ cellId s →
    ∃ t, exec (.clapperTimeFrame true time none) s = .next t ∧ t.link = { s.link with base := time.toNat, timed := true }
      ∧ t.reg K.linkCellTime = (if s.link.timed then max (s.regN K.linkCellTime) time.toNat else time.toNat : Nat)
      ∧ OnlyRegs [K.linkCellTime, K.linkTimeJumps] { s with link := t.link } t)
  ∧ (∀ (s : State) (time at' : BitVec 64) (period : BitVec 32), linkOn s = true → s.reg K.wakeCellWake = 1 →
    ∃ t, exec (.clapperTimeFrame true time (some (at', period))) s = .next t ∧ t.reg K.linkWakeAt = at'.toNat
      ∧ t.reg K.linkBurstPeriod = period.toNat)
  ∧ (∀ (s : State) (m : StatusFrame), linkOn s = true → m.id.val ≠ cellId s →
    ¬((s.member m.id.val).heard = true ∧ memberPresent s m.id.val = true ∧ (s.member m.id.val).seq = m.seq.toNat) →
    ∃ t, exec (.clapperStatusFrame true m) s = .next t ∧ memberPresent t m.id.val = true
      ∧ (t.member m.id.val).uid = m.uid.toNat ∧ (t.member m.id.val).level = max 1 m.level.toNat ∧ (t.member m.id.val).heard = true
      ∧ (t.member m.id.val).locked = m.locked ∧ (t.member m.id.val).priority = m.priority.toNat
      ∧ (∀ i, i ≠ m.id.val → t.member i = s.member i) ∧ RegsBut [K.cellPresent, K.linkMembers, K.cfgDoneLine] s t)
  ∧ (∀ (s : State) (m : StatusFrame), linkOn s = true → m.id.val = cellId s → m.uid.toNat < leAt (unitUid s) 0 4 → s.link.dup = false →
    ∃ t, exec (.clapperStatusFrame true m) s = .next t ∧ t.reg K.linkState = 1 ∧ t.link = { s.link with dup := true }
      ∧ RegsBut [K.linkState, K.errRegErrorRegister, K.tagEmcyOverflow] s t)
  ∧ (∀ (s : State) (src : Fin 8) (e : AxisEntry), linkOn s = true → linkLocked s = true → src.val ≠ cellId s → e.servo = true →
    ∃ t, exec (.clapperAxisFrame true src [e] [] false) s = .next t ∧ (t.member src.val).published = 1 ∧ t.regs = s.regs
      ∧ ∀ n, t.engine n = if n ∈ followers s src.val e.axis.val then { s.engine n with nCell := some e.sp.toInt } else s.engine n)
  ∧ (∀ (s : State) (src : Fin 8) (es : List AxisEntry) (xs : List (Fin 8 × Axis)) (late : Bool), linkOn s = true →
    (linkLocked s = false ∨ src.val = cellId s) → exec (.clapperAxisFrame true src es xs late) s = .next s)
  ∧ (∀ (s : State) (src : Fin 8) (es : List AxisEntry), linkOn s = true → linkLocked s = true → src.val ≠ cellId s →
    ∃ t, exec (.clapperAxisFrame true src es [] true) s = .next t ∧ t = s.modMember src.val fun m => { m with published := es.length })
  ∧ (∀ (s : State) (side : Fin 2) (ns path : BitVec 16), linkOn s = true →
    ∃ t, exec (.clapperDelayProbe true side ns path) s = .next t ∧ t.reg (K.linkHopDelay0 + side.val) = ns.toNat
      ∧ t.reg K.linkPathDelay = path.toNat ∧ t.regBit K.linkFlags side.val = decide (ns.toNat ≤ 100)
      ∧ (100 < ns.toNat → t.regBit K.linkFlags 3 = true)
      ∧ OnlyRegs [K.linkHopDelay0 + side.val, K.linkPathDelay, K.linkFlags] s t)
  ∧ (∀ (s : State) (time : BitVec 64) (w : Option (BitVec 64 × BitVec 32)) (m : StatusFrame) (src : Fin 8) (es : List AxisEntry)
      (xs : List (Fin 8 × Axis)) (late : Bool) (side : Fin 2) (ns path : BitVec 16),
    (∃ t, exec (.clapperTimeFrame false time w) s = .next t ∧ CrcCounted s t)
    ∧ (∃ t, exec (.clapperStatusFrame false m) s = .next t ∧ CrcCounted s t)
    ∧ (∃ t, exec (.clapperAxisFrame false src es xs late) s = .next t ∧ CrcCounted s t)
    ∧ ∃ t, exec (.clapperDelayProbe false side ns path) s = .next t ∧ CrcCounted s t)
  ∧ (∀ (s : State) (m : Fin 8), (m.val = cellId s ∨ memberPresent s m.val = false) → exec (.memberAbsent m) s = .next s)
  ∧ ∀ (s : State) (m : Fin 8), m.val ≠ cellId s → memberPresent s m.val = true →
    ∃ t, exec (.memberAbsent m) s = .next t ∧ memberPresent t m.val = false ∧ (t.member m.val).published = 0
      ∧ (t.member m.val).level = (s.member m.val).level ∧ (∀ i, i ≠ m.val → t.member i = s.member i)
      ∧ RegsBut [K.cellPresent, K.linkMembers, K.cfgDoneLine] s t

/-- The ring and the time source: a side that fails makes the ring a chain, and both sides up a ring again; an election keeps a source
that is present and eligible, and otherwise takes the eligible member of the highest priority, or none; a member that is elected ticks
from its own generator, one that was the source goes back to waiting for a lock; while the link is off nothing happens (15 R566; 19
R655 to R658; TICK_STATE at an election is a choice of the model). -/
def RingsBreakAndSourcesAreElected : Prop :=
  (∀ (s : State) (side : Fin 2), linkOn s = true → s.regBit K.linkFlags side.val = true →
    ∃ t, exec (.ringBroken side) s = .next t ∧ t.regBit K.linkFlags side.val = false ∧ t.regBit K.linkFlags 2 = true
      ∧ t.reg K.linkState = (if s.reg K.linkState = 2 then 3 else s.reg K.linkState)
      ∧ OnlyRegs [K.linkFlags, K.linkState, K.errRegErrorRegister, K.tagEmcyOverflow] s t)
  ∧ (∀ (s : State) (side : Fin 2), linkOn s = true →
    ∃ t, exec (.neighbourLinkRestored side) s = .next t ∧ t.regBit K.linkFlags side.val = true ∧ OnlyRegs [K.linkFlags, K.linkState] s t
      ∧ (s.regBit K.linkFlags (1 - side.val) = true → t.regBit K.linkFlags 2 = false
          ∧ t.reg K.linkState = (if s.reg K.linkState = 3 then 2 else s.reg K.linkState))
      ∧ (s.regBit K.linkFlags (1 - side.val) = false → t.regBit K.linkFlags 2 = s.regBit K.linkFlags 2
          ∧ t.reg K.linkState = s.reg K.linkState))
  ∧ (∀ (s : State) (side : Fin 2), (linkOn s = false ∨ s.regBit K.linkFlags side.val = false) → exec (.ringBroken side) s = .next s)
  ∧ (∀ (s : State) (side : Fin 2), linkOn s = false → exec (.neighbourLinkRestored side) s = .next s ∧ exec .timeSourceElection s = .next s)
  ∧ ∀ s : State, linkOn s = true →
    let was := s.regN K.cellTimeSource
    ∃ t, exec .timeSourceElection s = .next t ∧ t.reg K.cellElections = ((s.regN K.cellElections + 1) % 2 ^ 32 : Nat)
      ∧ (was < 8 → eligibleMember s was = true → t.reg K.cellTimeSource = was)
      ∧ (was < 8 → eligibleMember s was = true → was ≠ cellId s → t.link = s.link ∧ t.reg K.linkState = s.reg K.linkState)
      ∧ (∀ i < 8, eligibleMember s was = false → eligibleMember s i = true →
          (∀ j < 8, eligibleMember s j = true → priorityOf s j < priorityOf s i ∨ (priorityOf s j = priorityOf s i ∧ i ≤ j)) →
          t.reg K.cellTimeSource = i
          ∧ (i ≠ cellId s → was = cellId s → t.reg K.linkState = 1)
          ∧ (i = cellId s → t.reg K.tickState = 0 ∧ t.reg K.linkState = (if s.regBit K.linkFlags 2 then 3 else 2)))
      ∧ ((∀ i < 8, eligibleMember s i = false) → t.reg K.cellTimeSource = 0xFF)

/-- Sleeping partners: at a window the time source wakes and a member listens; a beacon sets cell time and wakes the member; windows 1
to 3 close, the fourth ends in a search that times out; the time source calls until every member has locked, or 640 s are over;
awake, and without a window or a time to wake, nothing happens (15 R568). -/
def SleepingPartnersWake : Prop :=
  (∀ (s : State) (w : Fin 4), s.power.low ≠ 0 → s.reg K.linkWakeAt ≠ 0 → s.reg K.linkEnable ≠ 0 →
    ∃ t, exec (.wakeWindowOpen w) s = .next t
      ∧ (s.regN K.cellTimeSource = cellId s → Woken s t 0x08)
      ∧ (s.regN K.cellTimeSource ≠ cellId s → t = (s.setReg K.linkState 5).modLink fun l => { l with window := w.val + 1 }))
  ∧ (∀ s : State, 1 ≤ s.link.window → s.link.window ≤ 3 → s.power.low ≠ 0 →
    ∃ t, exec .wakeWindowClose s = .next t ∧ t = (s.setReg K.linkState 0).modLink fun l => { l with window := 0 })
  ∧ (∀ (s : State) (time own : BitVec 64) (period : BitVec 32), s.link.window ≠ 0 → s.power.low ≠ 0 →
    ∃ t, exec (.clapperBeacon true time period own) s = .next t ∧ Woken s t 0x08 ∧ t.reg K.linkWakeResult = s.link.window
      ∧ t.reg K.linkCellTime = time.toNat ∧ t.reg K.linkBurstPeriod = period.toNat ∧ t.reg K.linkState = 1 ∧ t.link.window = 0
      ∧ t.link.base = time.toNat ∧ t.link.timed = true)
  ∧ (∀ (s : State) (time own : BitVec 64) (period : BitVec 32), s.link.window ≠ 0 → s.power.low ≠ 0 →
    ∃ t, exec (.clapperBeacon false time period own) s = .next t ∧ t.reg K.linkCrcErrors = ((s.regN K.linkCrcErrors + 1) % 2 ^ 32 : Nat)
      ∧ OnlyRegs [K.linkCrcErrors] s t)
  ∧ (∀ s : State, s.link.window = 4 → s.power.low ≠ 0 →
    ∃ t, exec .wakeSearchTimeout s = .next t ∧ Woken s t 0x08 ∧ t.reg K.linkWakeResult = 5 ∧ t.reg K.linkState = 1 ∧ t.link.window = 0)
  ∧ (∀ (s : State) (w : Fin 4) (good : Bool) (time own : BitVec 64) (period : BitVec 32),
    (s.power.low = 0 ∨ s.reg K.linkWakeAt = 0 ∨ s.reg K.linkEnable = 0 → exec (.wakeWindowOpen w) s = .next s)
    ∧ (s.power.low = 0 ∨ s.link.window = 0 ∨ 3 < s.link.window → exec .wakeWindowClose s = .next s)
    ∧ (s.power.low = 0 ∨ s.link.window = 0 → exec (.clapperBeacon good time period own) s = .next s)
    ∧ (s.power.low = 0 ∨ s.link.window ≠ 4 → exec .wakeSearchTimeout s = .next s))
  ∧ ∀ s : State,
    let all := (List.range 8).all fun i => i == cellId s || !s.regBit K.cellExpected i || (memberPresent s i && (s.member i).locked)
    let calls := s.reg K.linkEnable = 1 ∧ s.power.low = 0 ∧ s.regBit K.powLastWake 3 = true ∧ all = false
      ∧ s.link.bursts * s.regN K.linkBurstPeriod < 640000
    ∃ t, exec .beaconBurst s = .next t ∧ (¬ calls → t = s) ∧ (calls → t = s.modLink fun l => { l with bursts := l.bursts + 1 })

/-- VBAT while VCC_AON is in use: each measurement is shown, VBAT_LOW tells whether it is below 2.2 V, and 0xFFA3 is raised with the mV
as detail when it first falls below, and not again while it stays below (16 R598). While the backup supply is in use nothing is
measured. -/
def BackupVoltageIsWatched : Prop :=
  (∀ (s : State) (mv : BitVec 16), s.reg K.batSupplyInUse = 1 →
    ∃ t, exec (.vbatMeasure mv) s = .next t ∧ t.reg K.batVbatMv = mv.toNat ∧ t.regBit K.batBackupStatus 0 = decide (mv.toNat < 2200)
      ∧ (mv.toNat < 2200 → s.regBit K.batBackupStatus 0 = false → Raised t 0xFFA3 0xFF mv.toNat)
      ∧ ((2200 ≤ mv.toNat ∨ s.regBit K.batBackupStatus 0 = true) → t.host = s.host)
      ∧ OnlyRegs [K.batVbatMv, K.batBackupStatus, K.errRegErrorRegister, K.tagEmcyOverflow] s t)
  ∧ ∀ (s : State) (mv : BitVec 16), s.reg K.batSupplyInUse ≠ 1 → ∃ t, exec (.vbatMeasure mv) s = .next t ∧ t = s

/-- The parts that a command may change: those that the rules of its row name, and the host paths wherever a request
is answered, an emergency told or a waiting request ends. -/
def touched : Instr → List StatePart
  | .pmbusTelemetry .. => []
  | .tickSourceJoin .. | .seamSwitchDone .. | .dramInitDone .. | .asealFall .. | .clapperDelayProbe .. |
    .crystalRestored .. | .neighbourLinkRestored .. | .liveLengthUpdate .. => [.regs]
  | .hpiCplRead .. | .clrResetSeen .. | .clrProtoErr .. | .abortRecord .. | .attnEnWrite .. | .hpiRecordTimeout .. |
    .hpiAttentionPulse .. | .escStateChange .. | .txpdoFreeze .. | .sdoTimeout .. | .nmtCommand .. | .canSync .. |
    .heartbeatProducer .. => [.host]
  | .resetFall .. | .bridgeFlit .. | .ssiFrameStart .. | .faultInputEdge .. | .safeStopRise .. | .captureTrigger .. => [.fe]
  | .disableDelayEnd .. | .fabricAxisWord .. => [.eng]
  | .eraseSuspend .. | .infoRead .. | .resetSequence .. | .flashSequenceTimeout .. | .protectionSessionTimeout .. => [.flash]
  | .fabricFlagWrite .. | .fabricObjectRequest .. => [.fab]
  | .beaconBurst .. => [.link]
  | .completionPortRead .. | .storeVerified .. | .restoreDefaults .. | .errorReset .. | .heartbeatTimeout .. |
    .attestChallenge .. | .cmStatusClear .. | .aoutReadback .. | .engineClear .. | .ackFault .. | .feedOverrideWrite .. |
    .stageClose .. | .rollbackCommit .. | .userDataRead .. | .dramTrained .. | .rangeLock .. | .ckPreset .. |
    .ckStart .. | .assayRecordsRead .. | .crystalLoss .. | .xoSelect .. | .pllOutputWrite .. | .ringBroken .. |
    .pmbusSclTimeout .. | .pmbusAlert .. | .vbatMeasure .. | .fwFloorCommit .. | .canErrorStateChange .. => [.regs, .host]
  | .rangeRampDone .. | .ana50Restored .. | .safeStopFall .. | .safeStopReleasable .. => [.regs, .fe]
  | .sourceJoin .. => [.regs, .eng]
  | .refOriginApply .. => [.regs, .grp]
  | .remeltRegionStart .. => [.regs, .cip]
  | .cfgClose .. => [.regs, .fab]
  | .powerEntryBegin .. => [.regs, .power]
  | .pllLocked .. => [.regs, .clock]
  | .clapperTickFrame .. | .clapperTimeFrame .. | .wakeWindowClose .. => [.regs, .link]
  | .tickSourceWrite .. | .feedbackModeWrite .. | .feedbackClear .. | .indexPulse .. | .phaseLearn .. |
    .phaseLearnDone .. | .refArm .. | .posOriginWrite .. | .rangeChange .. | .rangeSettleDone .. | .clampRelease .. |
    .servoRateWrite .. | .captureArm .. | .captureDisarm .. => [.regs, .host, .fe]
  | .processDataLoss .. | .biquadCommit .. | .biquadBypass .. | .notchCommit .. | .notchBypass .. | .sourceLost .. |
    .sourceWrite .. => [.regs, .host, .eng]
  | .segmentWrite .. | .queueRoomAppend .. | .queueFullTimeout .. | .queueDmaFetch .. => [.regs, .host, .grp]
  | .eventInputEdge .. | .debounceExpiry .. | .eventPulseEnd .. => [.regs, .fe, .grp]
  | .stageDiscard .. | .openProtectionSession .. | .flashArrayRead .. | .flashPassword .. | .flashSessionClose .. =>
    [.regs, .host, .flash]
  | .bankHandover .. | .protectedRangeWrite .. | .dramLineWrite .. | .dramRemeltDone .. => [.regs, .host, .mem]
  | .keyLoad .. | .sectorWrite .. | .remeltChunkDone .. | .rekeyStart .. | .rekeyPause .. | .rekeyResume .. |
    .retireDrained .. | .rebuild .. | .storageDataWrite .. | .storageDataRead .. | .storageTransfer .. |
    .storageFlush .. | .bkRecord .. | .bkClear .. | .storageReady .. => [.regs, .host, .cip]
  | .railMonitorSample .. | .fabricObjectAnswer .. | .fabricObjectTimeout .. | .scrubFrameRead .. |
    .frameRewriteDone .. | .regionLoaded .. | .cutoverNextTick .. | .cutoverAtTime .. | .cutoverCancel .. |
    .cutoverBegin .. | .cutoverDone .. | .fcpStreamData .. | .fcpStalled .. | .reload .. | .pmbusTransaction .. |
    .pmbusAckTimeout .. | .vccqSet .. | .imageVerifyDone .. => [.regs, .host, .fab]
  | .fwClose .. | .fwSwitch .. | .fwConfirm .. => [.regs, .host, .fw]
  | .debugGrant .. | .debugClose .. | .tamperClear .. => [.regs, .host, .life]
  | .wrapNext .. | .safeReset .. | .serviceHour .. => [.regs, .host, .test]
  | .sleepRequest .. | .deepSleepRequest .. | .offRequest .. | .faultClear .. => [.regs, .host, .power]
  | .memberAbsent .. => [.regs, .blobs, .link]
  | .tickHoldover .. | .timeSourceElection .. => [.regs, .host, .link]
  | .temperatureSample .. => [.regs, .host, .therm]
  | .storeParameters .. | .attestResponseReady .. | .debugChallenge .. => [.regs, .host, .freeCtr]
  | .axisEnable .. => [.regs, .host, .fe, .eng]
  | .resTrackerUpdate .. | .resLocked .. | .ssiFrameEnd .. | .safeStopRelease .. | .compareArm .. | .compareDisarm .. |
    .compareFire .. => [.regs, .host, .fe, .grp]
  | .groupEnable .. | .groupDisableDrain .. | .groupDisableAbort .. | .controlledStop .. | .quickStop .. |
    .stopComplete .. | .handoverDone .. => [.regs, .host, .grp, .mem]
  | .sectorRead .. => [.regs, .host, .mem, .cip]
  | .fabricMemoryResponse .. => [.regs, .host, .mem, .fab]
  | .fwDiscard .. => [.regs, .host, .flash, .fw]
  | .wireFault .. => [.regs, .host, .fe, .isl]
  | .blockRefresh .. => [.regs, .host, .flash, .test]
  | .dramPatrolScrub .. | .dramLineRead .. => [.regs, .host, .mem, .test]
  | .pmbusAckPoll .. => [.regs, .host, .fab, .power]
  | .clapperStatusFrame .. => [.regs, .blobs, .host, .link]
  | .oscillatorStageTimeout .. => [.regs, .host, .power, .mode]
  | .dwellEnd .. | .waitMet .. => [.regs, .host, .grp, .events]
  | .ckDescriptorDone .. => [.regs, .host, .mem, .freeCtr]
  | .keyGenerate .. => [.regs, .host, .cip, .freeCtr]
  | .assayTrigger .. | .jobStart .. | .jobStop .. | .asealRise .. | .rtcSecondsWrite .. | .rtcCalendarWrite .. |
    .rtcSecond .. => [.regs, .host, .isl, .freeCtr]
  | .outputInstant .. => [.regs, .host, .fe, .eng, .grp]
  | .axisDisableDrain .. | .axisDisableAbort .. | .feFault .. | .fabricDemandLost .. => [.regs, .host, .eng, .grp, .mem]
  | .assayRecordSealed .. => [.regs, .blobs, .host, .cip, .isl]
  | .driveCompletion .. | .driveCommandTimeout .. => [.regs, .host, .mem, .cip, .isl]
  | .disableComplete .. => [.regs, .host, .cip, .fab, .isl]
  | .fabricMemoryRequest .. => [.regs, .host, .mem, .fab, .test]
  | .bothCrystalsLost .. => [.regs, .host, .grp, .mem, .clock]
  | .waitTimeout .. => [.regs, .host, .grp, .mem, .events]
  | .scSample .. => [.regs, .host, .fe, .grp, .freeCtr]
  | .sdoUpload .. => [.regs, .host, .cip, .fab, .freeCtr]
  | .islandStart .. => [.regs, .blobs, .host, .isl, .freeCtr]
  | .processDataFrame .. => [.regs, .blobs, .host, .fe, .eng, .grp]
  | .commandWatchdogExpiry .. | .enableSettled .. | .faultQualified .. | .analogRailsGood .. | .ana50Loss .. |
    .safeStopQualified .. | .deviceWatchdogExpiry .. => [.regs, .host, .fe, .eng, .grp, .mem]
  | .reelChunkDone .. | .keyRetire .. => [.regs, .host, .mem, .reel, .cip, .isl]
  | .clapperAxisFrame .. => [.regs, .host, .eng, .grp, .mem, .link]
  | .incEdge .. => [.regs, .host, .fe, .grp, .isl, .freeCtr]
  | .resetRise .. => [.regs, .host, .fe, .eng, .grp, .mem, .power]
  | .limpEntry .. => [.regs, .host, .fe, .eng, .grp, .mem, .mode]
  | .servoTick .. => [.regs, .host, .fe, .eng, .grp, .link, .memUse]
  | .bridgeDown .. | .pllLockLoss .. => [.regs, .host, .fe, .eng, .grp, .mem, .fab, .mode]
  | .tamper .. => [.regs, .host, .mem, .reel, .cip, .isl, .life, .freeCtr]
  | .backupSupplySwitch .. => [.regs, .blobs, .host, .cip, .isl, .power, .clock, .freeCtr]
  | .fwSwitchRestart .. | .fwTrialTimeout .. => [.regs, .host, .fe, .grp, .flash, .mem, .cip, .fab, .fw]
  | .memoryStageTimeout .. => [.regs, .host, .fe, .eng, .grp, .mem, .fab, .power, .mode]
  | .stageOpen .. | .stageData .. | .promoteGolden .. | .cfgOpen .. | .cfgData .. | .pageProgram .. | .blockErase .. |
    .eraseResume .. | .protectBlock .. | .unprotectBlock .. | .changePassword .. | .programDone .. | .eraseDone .. |
    .suspendEffective .. | .eraseAutoResume .. | .autoFinishErase .. | .flashNewPassword .. | .protectMapWrite .. |
    .userDataWrite .. | .userErase .. | .fwImage .. | .assayPageProgram .. | .assayDeferredSeal .. | .exportAck .. |
    .fwOpen .. | .fwData .. | .infoRowWriteDone .. => [.regs, .blobs, .host, .flash, .fab, .fw, .isl, .test, .freeCtr]
  | .set .. | .firmware .. | .firstSeal .. | .newKey .. | .chainBreak .. =>
    [.regs, .blobs, .host, .fe, .flash, .fab, .fw, .isl, .test, .freeCtr]
  | .pwrDownRise .. => [.regs, .blobs, .host, .flash, .fab, .fw, .isl, .test, .power, .freeCtr]
  | .transitionRequest .. => [.regs, .blobs, .host, .flash, .mem, .reel, .cip, .isl, .life, .test, .freeCtr]
  | .doneConditionMet .. | .doneTimeout .. =>
    [.regs, .host, .fe, .grp, .fab, .isl, .test, .power, .link, .released, .freeCtr]
  | .rollCheckLateDone .. => [.regs, .host, .fe, .eng, .si, .grp, .mem, .fab, .fw, .test, .mode, .bad]
  | .pwrDownFall .. => [.regs, .blobs, .host, .fe, .grp, .flash, .mem, .fab, .fw, .isl, .test, .power, .freeCtr]
  | .setpointSampleInstant .. =>
    [.regs, .host, .fe, .eng, .si, .grp, .mem, .reel, .cip, .fab, .test, .link, .events, .freeCtr]
  | .powerGoodLost .. =>
    [.regs, .blobs, .host, .fe, .eng, .grp, .flash, .mem, .reel, .fab, .fw, .isl, .test, .power, .freeCtr]
  | .functionEnable .. | .functionDisableDrain .. | .functionDisableAbort .. =>
    [.regs, .blobs, .host, .fe, .eng, .grp, .flash, .mem, .reel, .cip, .fab, .fw, .isl, .test, .link, .freeCtr]
  | .objectWrite .. | .taggedRead .. | .taggedWrite .. | .domainRead .. | .domainWrite .. | .cancel .. |
    .hpiReqWrite .. | .sdoDownload .. | .canRpdo .. =>
    [.regs, .blobs, .host, .fe, .eng, .grp, .flash, .mem, .reel, .cip, .fab, .fw, .isl, .life, .test, .power, .link, .freeCtr]
  | .wakeStageReady .. =>
    [.regs, .blobs, .host, .fe, .eng, .si, .grp, .flash, .mem, .cip, .fab, .fw, .isl, .life, .test, .power, .mode, .bad, .freeCtr]
  | .resetQualified .. | .rtcAlarm .. | .clapperBeacon .. | .wakeWindowOpen .. | .wakeSearchTimeout .. |
    .powerEntryDrained .. | .wakeEvent .. | .powerApplied .. | .regulatorStageTimeout .. | .transitionReset .. =>
    allBut [.bad]
  | .wrapTestDone .. | .wrapTestLimit .. => allBut []

/-- Frames of the commands that touch few parts of the state: every other part is as it was, whatever the command answers next,
and so is the queue. -/
def CommandsKeepTheOtherParts : Prop :=
  ∀ (c : Instr) (s t : State), (touched c).length ≤ 5 → exec c s = .next t →
    t.pending = s.pending ∧ ∀ p, p ∉ touched c → sameIn s t p

/-- Frames of the commands that reach through several chapters (ticks, clamps, flash operations with their followers, requests
of any entry, resets and wakes): they too leave alone the parts that they have nothing to do with. -/
def WideCommandsKeepTheOtherParts : Prop :=
  ∀ (c : Instr) (s t : State), 5 < (touched c).length → exec c s = .next t →
    t.pending = s.pending ∧ ∀ p, p ∉ touched c → sameIn s t p

/-- The commands that may change the flash array: the ends of a page program and of an erase, the destruction of keys, every
route by which a request may command one, and a reset that finds an operation under way. -/
def changesArray : Instr → Bool
  | .objectWrite .. | .taggedRead .. | .taggedWrite .. | .domainRead .. | .domainWrite .. | .cancel .. |
    .resetQualified .. | .hpiReqWrite .. | .sdoDownload .. | .canRpdo .. | .programDone .. | .eraseDone .. |
    .rtcAlarm .. | .clapperBeacon .. | .wakeWindowOpen .. | .wakeSearchTimeout .. | .powerEntryDrained .. |
    .wakeEvent .. | .powerApplied .. | .regulatorStageTimeout .. | .transitionRequest .. | .transitionReset .. |
    .wrapTestDone .. | .wrapTestLimit .. => true
  | _ => false

/-- The commands that may change the scratchpad: accesses of the fabric, the end of a handover with HANDOVER_ZERO, and resets. -/
def changesScratchpad : Instr → Bool
  | .resetQualified .. | .fabricMemoryRequest .. | .handoverDone .. | .rtcAlarm .. | .clapperBeacon .. |
    .wakeWindowOpen .. | .wakeSearchTimeout .. | .powerEntryDrained .. | .wakeEvent .. | .powerApplied .. |
    .regulatorStageTimeout .. | .transitionReset .. | .wrapTestDone .. | .wrapTestLimit .. => true
  | _ => false

/-- The commands that may change DRAM: writes of its lines on any route, a read that finds a line broken, and resets. -/
def changesDram : Instr → Bool
  | .objectWrite .. | .taggedRead .. | .taggedWrite .. | .domainRead .. | .domainWrite .. | .cancel .. |
    .functionEnable .. | .functionDisableDrain .. | .functionDisableAbort .. | .resetQualified .. | .hpiReqWrite .. |
    .sdoDownload .. | .canRpdo .. | .setpointSampleInstant .. | .fabricMemoryRequest .. | .dramLineWrite .. |
    .dramLineRead .. | .sectorRead .. | .ckDescriptorDone .. | .rtcAlarm .. | .clapperBeacon .. | .wakeWindowOpen .. |
    .wakeSearchTimeout .. | .powerEntryDrained .. | .wakeEvent .. | .powerApplied .. | .regulatorStageTimeout .. |
    .transitionReset .. | .wrapTestDone .. | .wrapTestLimit .. => true
  | _ => false

/-- The commands that may change a protected sector: writes, the remelting of a region, the reel, and resets. -/
def changesSectors : Instr → Bool
  | .resetQualified .. | .reelChunkDone .. | .sectorWrite .. | .remeltChunkDone .. | .rtcAlarm .. | .clapperBeacon .. |
    .wakeWindowOpen .. | .wakeSearchTimeout .. | .powerEntryDrained .. | .wakeEvent .. | .powerApplied .. |
    .regulatorStageTimeout .. | .transitionReset .. | .wrapTestDone .. | .wrapTestLimit .. => true
  | _ => false

/-- Memory is changed only by the commands that store to it: every byte of the flash array and of the scratchpad, every line of
DRAM and every protected sector reads after any other command as it did before; a DRAM line command changes its own line alone, the
end of a program only bytes of its page, and the end of an erase only bytes of its block. -/
def MemoriesChangeByTheirCommandsOnly : Prop :=
  ∀ (c : Instr) (s t : State), exec c s = .next t →
    (changesArray c = false → ∀ a, arrayByte t a = arrayByte s a)
    ∧ (changesScratchpad c = false → ∀ a n, spBytes t a n = spBytes s a n)
    ∧ (changesDram c = false → ∀ l, dramLine t l = dramLine s l)
    ∧ (changesSectors c = false → ∀ l, t.sector l = s.sector l)
    ∧ (∀ line key data, c = .dramLineWrite line key data → ∀ l, l ≠ line → dramLine t l = dramLine s l)
    ∧ (∀ line key x y, c = .dramLineRead line key x y → ∀ l, l ≠ line → dramLine t l = dramLine s l)
    ∧ (∀ b good j k page data, c = .programDone b good → (s.flBank b).op = some j → j.op = .program k page data →
        ∀ a, (a < k * 0x40000 + page * 512 ∨ k * 0x40000 + page * 512 + max 512 data.length ≤ a) → arrayByte t a = arrayByte s a)
    ∧ (∀ b good j k, c = .eraseDone b good → (s.flBank b).op = some j → j.op = .erase k →
        ∀ a, a / 0x40000 ≠ k → arrayByte t a = arrayByte s a)

end Claims

/-- A step runs the command at the front of the queue and takes no other from it. The queue is the model's (log entry
1). -/
def Obligations.StepRunsTheFrontCommand : Prop :=
  Claims.StepRunsTheFrontCommand ∧ Claims.EveryStepTakesExactlyOneCommand

/-- What reset leaves, and that its tables are canonical. Entries without a default read 0 by log entry 2, a choice of
the model. -/
def Obligations.ResetLeavesDefaults : Prop :=
  Claims.ResetLeavesDefaults ∧ Claims.ResetIsCanonical

/-- Every step keeps every table and memory in its canonical form. The canonical form is the model's representation, in
which equal contents are equal data. -/
def Obligations.EveryStepKeepsTablesCanonical : Prop :=
  Claims.EveryStepKeepsTablesCanonical

/-- Request records decode to the record they encode. That read records carry no payload is log entry 15. -/
def Obligations.RequestRecordsDecode : Prop :=
  Claims.RequestRecordsDecode

/-- The words of a record on the HPI do what the record's command does. That read records carry no payload is log entry
15. -/
def Obligations.RecordWordsMakeTheCommand : Prop :=
  Claims.RecordWordsMakeTheCommand

/-- The checks of a write come in their order, and a refused write changes nothing. The order within a chapter's own
checks is log entry 36. -/
def Obligations.WriteChecksComeInOrder : Prop :=
  Claims.RefusedWriteChangesNothing ∧ Claims.ChecksComeInOrder

/-- Object writes, and read and write records, reach their entry. Opcodes on entries of another type and partial writes
of USER_BBRAM are log entries 16 and 25. -/
def Obligations.ReadsAndWritesReachTheEntry : Prop :=
  Claims.ObjectWriteStoresTheValue ∧ Claims.ReadRecordsReturnTheValue ∧ Claims.WriteRecordsStoreTheValue

/-- CANCEL takes back what has not started and answers what it found. -/
def Obligations.CancelAnswersWhatItFound : Prop :=
  Claims.CancelAnswersWhatItFound

/-- Emergencies set their bits of the error register and ERROR_RESET clears it. -/
def Obligations.ErrorRegisterFollowsEmergencies : Prop :=
  Claims.ErrorResetClearsTheRegister ∧ Claims.EmergencySetsItsBits

/-- An incomplete request record is discarded by the time limit and by ABORT_RECORD. -/
def Obligations.IncompleteRecordsAreDiscarded : Prop :=
  Claims.IncompleteRecordsAreDiscarded

/-- HPI words, control bits and the completion port. -/
def Obligations.HpiAndCompletionPortMoveRecords : Prop :=
  Claims.HpiControlBitsAct ∧ Claims.HpiWordsComeAndGo ∧ Claims.CompletionPortGivesWholeRecords

/-- Stores take a snapshot and replace the older copy; restores mark. -/
def Obligations.StoreAndRestoreParameters : Prop :=
  Claims.StoreTakesASnapshot ∧ Claims.RestoreOnlyMarks ∧ Claims.StoreReplacesTheOlderCopy

/-- Functions are enabled and disabled by one rule. -/
def Obligations.EnableEntriesFollowOneRule : Prop :=
  Claims.EnableEntriesFollowOneRule ∧ Claims.DisablesCompleteAtZero

/-- Attestation answers the challenge with the unit's identity and a new count. Two challenges on one path are log entry
32. -/
def Obligations.AttestationAnswersTheChallenge : Prop :=
  Claims.AttestationAnswersTheChallenge

/-- Field network states, process data frames and their loss. AL status 0x0011 is log entry 28 (presumed), frames of a
wrong length log entry 29. -/
def Obligations.FieldNetworkAndProcessData : Prop :=
  Claims.FieldNetworkStatesFollowRequests ∧ Claims.ProcessDataMovesWithTheTick

/-- CANopen nodes follow NMT, and SDO transfers keep their toggle. The PDO mapping objects of CAN, the code 0x8210 and
NMT resets are log entries 27 and 30; SDO details are log entry 31. -/
def Obligations.CanNodesAndSdoTransfers : Prop :=
  Claims.CanNodesFollowNmt ∧ Claims.SdoTransfersKeepTheirToggle

/-- Requests to the feedback ports. -/
def Obligations.FeedbackRequestsAct : Prop :=
  Claims.FeedbackRequestsAct

/-- Incremental, sine-cosine and resolver inputs move POS64. -/
def Obligations.IncrementalAndAngleInputs : Prop :=
  Claims.IncrementalInputsCount ∧ Claims.AngleInputsMovePos64

/-- SSI frames give positions, and an armed reference takes its origin. -/
def Obligations.SsiFramesAndReferences : Prop :=
  Claims.SsiFramesGivePositions ∧ Claims.ReferenceOriginApplies

/-- The instants of the servo tick. -/
def Obligations.TickInstantsMoveTheData : Prop :=
  Claims.ServoTickLatchesThePorts ∧ Claims.TickInstantsMoveTheData

/-- Command ports clamp, open and start with the analog rails. -/
def Obligations.CommandPortsClampAndStart : Prop :=
  Claims.CommandPortsClampAndOpen ∧ Claims.AnalogRailsStartThePorts

/-- RANGE changes in steps, and a safe stop clamps every port. -/
def Obligations.RangesChangeAndSafeStopClamps : Prop :=
  Claims.RangeChangesInSteps ∧ Claims.SafeStopClampsEveryPort

/-- Event channels, compare units and capture units. The operand of COMPARE_FIRE is log entry 38. -/
def Obligations.EventsComparesAndCapturesAct : Prop :=
  Claims.EventChannelsFollowTheirBalls ∧ Claims.CompareAndCaptureAct

/-- Axes are enabled, disabled and supervised. -/
def Obligations.AxesAreEnabledAndSupervised : Prop :=
  Claims.AxisEnablesAndDisables ∧ Claims.EnginesAnswerFaults

/-- Settings of the engines wait for their boundary. The boundary is log entry 45. -/
def Obligations.EngineSettingsAct : Prop :=
  Claims.EngineSettingsAct

/-- Motion groups are enabled, disabled, stopped and flushed. -/
def Obligations.GroupsEnableAndStop : Prop :=
  Claims.GroupsEnableAndDisable ∧ Claims.GroupsStopAndFlush

/-- Segments enter the queue whole; dwells and waits end. -/
def Obligations.SegmentsEnterAndEnd : Prop :=
  Claims.SegmentsEnterTheQueueWhole ∧ Claims.DwellsAndWaitsEnd

/-- Fabric memory requests, axis words, flags and published entries. Memory requests act when they come (log entry 80);
the abort form of PORT_ENABLE is log entry 81. -/
def Obligations.FabricPortsServeTheirLogic : Prop :=
  Claims.FabricMemoryReadsAndWrites ∧ Claims.FabricWordsReachTheirAxis ∧ Claims.PublishedEntriesAnswer

/-- Scrubbing, seams, their words and the rail monitors of the fabric. -/
def Obligations.FabricScrubsAndMonitors : Prop :=
  Claims.FabricScrubsAndMonitors ∧ Claims.SeamsPassTheirWords

/-- The release of the device, cutovers, promotion and the rollback floor. The codes of a cutover that fails are log
entry 89. -/
def Obligations.ReleaseAndCutover : Prop :=
  Claims.DoneConditionReleasesTheDevice ∧ Claims.CutoversSwapTheSlots

/-- Staging of an ingot follows its claim. -/
def Obligations.StagingFollowsItsClaim : Prop :=
  Claims.StagingFollowsItsClaim

/-- Loads take regions in order, and the CFG port takes its sections. Discarded DATA sections are log entry 88. -/
def Obligations.LoadsAndCfgSections : Prop :=
  Claims.LoadsTakeRegionsInOrder ∧ Claims.CfgSectionsAct

/-- Flash sequences start and flash operations end. That an erased byte reads 0xFF is log entry 66 (presumed); a suspend
by another master is log entry 70. -/
def Obligations.FlashSequencesStartAndEnd : Prop :=
  Claims.FlashSequencesStart ∧ Claims.OtherCommandsBreakAPart ∧ Claims.FlashOperationsEnd ∧
    Claims.FlashReadsGiveTheirLine

/-- Flash protection needs a password, and the user area keeps its data. Reads of USER_DATA are served at once (log
entry 72). -/
def Obligations.FlashProtectionAndUserArea : Prop :=
  Claims.FlashProtectionNeedsAPassword ∧ Claims.UserAreaReadsAndWrites

/-- DRAM keeps its lines and comes up in steps. A line nothing has written reads 0 by log entry 73. -/
def Obligations.DramKeepsItsLines : Prop :=
  Claims.DramLinesKeepTheirData ∧ Claims.DramComesUpInSteps

/-- Scratchpad banks change hands; queue DMA and the reel move their data. -/
def Obligations.BanksDmaAndReel : Prop :=
  Claims.BanksAndRangesChangeHands ∧ Claims.DmaAndReelMoveTheirData

/-- Keys enter and leave the crucible. -/
def Obligations.KeysEnterAndLeaveTheirSlots : Prop :=
  Claims.KeysEnterAndLeaveTheirSlots

/-- Storage requests become commands, and sectors keep their data. -/
def Obligations.StorageRequestsAndSectors : Prop :=
  Claims.StorageRequestsBecomeCommands ∧ Claims.SectorsKeepTheirData

/-- Storage comes up, is rebuilt and remelted. -/
def Obligations.StorageComesUpAndRemelts : Prop :=
  Claims.StorageComesUpAndRemelts

/-- Check units run their chains. -/
def Obligations.CheckUnitsRunTheirChains : Prop :=
  Claims.CheckUnitsRunTheirChains

/-- Signed requests of the island act when they verify. -/
def Obligations.SignedRequestsActWhenTheyVerify : Prop :=
  Claims.SignedRequestsActWhenTheyVerify

/-- Jobs of the island measure and end. -/
def Obligations.JobsMeasureAndEnd : Prop :=
  Claims.JobsMeasureAndEnd

/-- Records are sealed, read and acknowledged; the island starts and its seal. Moves of ISLAND_STATE that the rules
leave between the lines are log entry 106, erases of the log entry 101. -/
def Obligations.RecordsAreSealedAndAcknowledged : Prop :=
  Claims.RecordsAreSealedReadAndAcknowledged ∧ Claims.IslandStartsAndItsSeal

/-- Crystals and PLLs. The choice of hop or search is log entry 114. -/
def Obligations.CrystalsAndPllsFollowTheirClocks : Prop :=
  Claims.CrystalsAndPllsFollowTheirClocks

/-- The RTC counts, is set and stops at the end of its calendar. When it stops is log entry 115. -/
def Obligations.RtcCountsAndIsSet : Prop :=
  Claims.RtcCountsAndIsSet

/-- The calendar reads back as written. -/
def Obligations.CalendarReadsBackAsWritten : Prop :=
  Claims.CalendarReadsBackAsWritten

/-- Self test, service hours, temperature and the die bridge. The mean of the temperature is log entry 124. -/
def Obligations.SelfTestServiceAndBridge : Prop :=
  Claims.SelfTestAndServiceHours ∧ Claims.TemperatureAndBridge

/-- Lifecycle transitions. -/
def Obligations.TransitionsBlowTheirFuses : Prop :=
  Claims.TransitionsBlowTheirFuses

/-- Debug grants, the backup key, TAMPER#, and the bounds of test and debug masters. -/
def Obligations.DebugBackupKeyAndTamper : Prop :=
  Claims.DebugBackupKeyAndTamper ∧ Claims.TestAndDebugStayInTheirBounds

/-- Firmware is staged, tried and confirmed. Codes of a close and of a switch are log entry 122. -/
def Obligations.FirmwareIsStagedTriedAndConfirmed : Prop :=
  Claims.FirmwareIsStagedTriedAndConfirmed

/-- Lower power states are entered and left. -/
def Obligations.LowerStatesAreEnteredAndLeft : Prop :=
  Claims.LowerStatesAreEnteredAndLeft

/-- A start goes through its stages. -/
def Obligations.StartsGoThroughTheirStages : Prop :=
  Claims.StartsGoThroughTheirStages

/-- RESET#, the supplies, the backup domain and the wrap test. -/
def Obligations.SuppliesResetAndWrapTest : Prop :=
  Claims.ResetAndSuppliesAct ∧ Claims.BackupSupplyAndWrapTest

/-- PMBus sets and watches the rails. Telemetry changes nothing by log entry 132. -/
def Obligations.PmbusSetsAndWatchesTheRails : Prop :=
  Claims.PmbusSetsAndWatchesTheRails

/-- VBAT is measured while VCC_AON is in use, and a low one is told once. That VBAT_LOW falls again when VBAT rises is
log entry 153. -/
def Obligations.BackupVoltageIsWatched : Prop :=
  Claims.BackupVoltageIsWatched

/-- Tick sources, the ring, the time source and sleeping partners. Elections and bursts are log entries 147 and 148;
TICK_STATE of an elected member is a choice of the model (log entry 161). -/
def Obligations.TicksRingsAndSleepingPartners : Prop :=
  Claims.TickSourcesAreJoinedAndLost ∧ Claims.RingsBreakAndSourcesAreElected ∧ Claims.SleepingPartnersWake

/-- Frames of the clapper link. -/
def Obligations.ClapperFramesAreTaken : Prop :=
  Claims.ClapperFramesAreTaken

/-- Frames: commands of few parts leave every other part of the state alone. -/
def Obligations.CommandsKeepTheOtherParts : Prop :=
  Claims.CommandsKeepTheOtherParts

/-- Frames: commands of many parts leave the others alone. -/
def Obligations.WideCommandsKeepTheOtherParts : Prop :=
  Claims.WideCommandsKeepTheOtherParts

/-- Frames: memory changes only by the commands that store to it. -/
def Obligations.MemoriesChangeByTheirCommandsOnly : Prop :=
  Claims.MemoriesChangeByTheirCommandsOnly
end

