-- ==== Sys2Proof/Laws/State.lean ====
section
/-! SUPPORT. What each update of the state leaves alone, and what a read after a write gives: one lemma per field per
update, so that no proof unfolds a record. -/

namespace Sys2Proof.Machine

/-! ### setReg -/

@[simp] theorem State.setReg_blobs (s : State) (k : Nat) (v : Int) : (s.setReg k v).blobs = s.blobs := rfl
@[simp] theorem State.setReg_host (s : State) (k : Nat) (v : Int) : (s.setReg k v).host = s.host := rfl
@[simp] theorem State.setReg_fe (s : State) (k : Nat) (v : Int) : (s.setReg k v).fe = s.fe := rfl
@[simp] theorem State.setReg_eng (s : State) (k : Nat) (v : Int) : (s.setReg k v).eng = s.eng := rfl
@[simp] theorem State.setReg_si (s : State) (k : Nat) (v : Int) : (s.setReg k v).si = s.si := rfl
@[simp] theorem State.setReg_grp (s : State) (k : Nat) (v : Int) : (s.setReg k v).grp = s.grp := rfl
@[simp] theorem State.setReg_flash (s : State) (k : Nat) (v : Int) : (s.setReg k v).flash = s.flash := rfl
@[simp] theorem State.setReg_mem (s : State) (k : Nat) (v : Int) : (s.setReg k v).mem = s.mem := rfl
@[simp] theorem State.setReg_reel (s : State) (k : Nat) (v : Int) : (s.setReg k v).reel = s.reel := rfl
@[simp] theorem State.setReg_cip (s : State) (k : Nat) (v : Int) : (s.setReg k v).cip = s.cip := rfl
@[simp] theorem State.setReg_fab (s : State) (k : Nat) (v : Int) : (s.setReg k v).fab = s.fab := rfl
@[simp] theorem State.setReg_fw (s : State) (k : Nat) (v : Int) : (s.setReg k v).fw = s.fw := rfl
@[simp] theorem State.setReg_isl (s : State) (k : Nat) (v : Int) : (s.setReg k v).isl = s.isl := rfl
@[simp] theorem State.setReg_life (s : State) (k : Nat) (v : Int) : (s.setReg k v).life = s.life := rfl
@[simp] theorem State.setReg_test (s : State) (k : Nat) (v : Int) : (s.setReg k v).test = s.test := rfl
@[simp] theorem State.setReg_power (s : State) (k : Nat) (v : Int) : (s.setReg k v).power = s.power := rfl
@[simp] theorem State.setReg_clock (s : State) (k : Nat) (v : Int) : (s.setReg k v).clock = s.clock := rfl
@[simp] theorem State.setReg_link (s : State) (k : Nat) (v : Int) : (s.setReg k v).link = s.link := rfl
@[simp] theorem State.setReg_therm (s : State) (k : Nat) (v : Int) : (s.setReg k v).therm = s.therm := rfl
@[simp] theorem State.setReg_mode (s : State) (k : Nat) (v : Int) : (s.setReg k v).mode = s.mode := rfl
@[simp] theorem State.setReg_bad (s : State) (k : Nat) (v : Int) : (s.setReg k v).bad = s.bad := rfl
@[simp] theorem State.setReg_events (s : State) (k : Nat) (v : Int) : (s.setReg k v).events = s.events := rfl
@[simp] theorem State.setReg_memUse (s : State) (k : Nat) (v : Int) : (s.setReg k v).memUse = s.memUse := rfl
@[simp] theorem State.setReg_released (s : State) (k : Nat) (v : Int) : (s.setReg k v).released = s.released := rfl
@[simp] theorem State.setReg_freeCtr (s : State) (k : Nat) (v : Int) : (s.setReg k v).freeCtr = s.freeCtr := rfl
@[simp] theorem State.setReg_pending (s : State) (k : Nat) (v : Int) : (s.setReg k v).pending = s.pending := rfl
@[simp] theorem State.setReg_blob (s : State) (k : Nat) (v : Int) (x : Nat) : (s.setReg k v).blob x = s.blob x := rfl
@[simp] theorem State.setReg_fb (s : State) (k : Nat) (v : Int) (x : Nat) : (s.setReg k v).fb x = s.fb x := rfl
@[simp] theorem State.setReg_cm (s : State) (k : Nat) (v : Int) (x : Nat) : (s.setReg k v).cm x = s.cm x := rfl
@[simp] theorem State.setReg_ev (s : State) (k : Nat) (v : Int) (x : Nat) : (s.setReg k v).ev x = s.ev x := rfl
@[simp] theorem State.setReg_cmp (s : State) (k : Nat) (v : Int) (x : Nat) : (s.setReg k v).cmp x = s.cmp x := rfl
@[simp] theorem State.setReg_cap (s : State) (k : Nat) (v : Int) (x : Nat) : (s.setReg k v).cap x = s.cap x := rfl
@[simp] theorem State.setReg_engine (s : State) (k : Nat) (v : Int) (x : Nat) : (s.setReg k v).engine x = s.engine x := rfl
@[simp] theorem State.setReg_group (s : State) (k : Nat) (v : Int) (x : Nat) : (s.setReg k v).group x = s.group x := rfl
@[simp] theorem State.setReg_standIn (s : State) (k : Nat) (v : Int) (x : Nat) : (s.setReg k v).standIn x = s.standIn x := rfl
@[simp] theorem State.setReg_path (s : State) (k : Nat) (v : Int) (x : Path) : (s.setReg k v).path x = s.path x := rfl
@[simp] theorem State.setReg_bankSt (s : State) (k : Nat) (v : Int) (x : Nat) : (s.setReg k v).bankSt x = s.bankSt x := rfl
@[simp] theorem State.setReg_keySlot (s : State) (k : Nat) (v : Int) (x : Nat) : (s.setReg k v).keySlot x = s.keySlot x := rfl
@[simp] theorem State.setReg_region (s : State) (k : Nat) (v : Int) (x : Nat) : (s.setReg k v).region x = s.region x := rfl
@[simp] theorem State.setReg_sector (s : State) (k : Nat) (v : Int) (x : Nat) : (s.setReg k v).sector x = s.sector x := rfl
@[simp] theorem State.setReg_flBlock (s : State) (k : Nat) (v : Int) (x : Nat) : (s.setReg k v).flBlock x = s.flBlock x := rfl
@[simp] theorem State.setReg_flBank (s : State) (k : Nat) (v : Int) (x : Nat) : (s.setReg k v).flBank x = s.flBank x := rfl
@[simp] theorem State.setReg_flMaster (s : State) (k : Nat) (v : Int) (x : FlashMaster) : (s.setReg k v).flMaster x = s.flMaster x := rfl
@[simp] theorem State.setReg_port (s : State) (k : Nat) (v : Int) (x : Nat) : (s.setReg k v).port x = s.port x := rfl
@[simp] theorem State.setReg_rail (s : State) (k : Nat) (v : Int) (x : Nat) : (s.setReg k v).rail x = s.rail x := rfl
@[simp] theorem State.setReg_member (s : State) (k : Nat) (v : Int) (x : Nat) : (s.setReg k v).member x = s.member x := rfl

/-! ### setBit -/

@[simp] theorem State.setBit_blobs (s : State) (k i : Nat) (b : Bool) : (s.setBit k i b).blobs = s.blobs := rfl
@[simp] theorem State.setBit_host (s : State) (k i : Nat) (b : Bool) : (s.setBit k i b).host = s.host := rfl
@[simp] theorem State.setBit_fe (s : State) (k i : Nat) (b : Bool) : (s.setBit k i b).fe = s.fe := rfl
@[simp] theorem State.setBit_eng (s : State) (k i : Nat) (b : Bool) : (s.setBit k i b).eng = s.eng := rfl
@[simp] theorem State.setBit_si (s : State) (k i : Nat) (b : Bool) : (s.setBit k i b).si = s.si := rfl
@[simp] theorem State.setBit_grp (s : State) (k i : Nat) (b : Bool) : (s.setBit k i b).grp = s.grp := rfl
@[simp] theorem State.setBit_flash (s : State) (k i : Nat) (b : Bool) : (s.setBit k i b).flash = s.flash := rfl
@[simp] theorem State.setBit_mem (s : State) (k i : Nat) (b : Bool) : (s.setBit k i b).mem = s.mem := rfl
@[simp] theorem State.setBit_reel (s : State) (k i : Nat) (b : Bool) : (s.setBit k i b).reel = s.reel := rfl
@[simp] theorem State.setBit_cip (s : State) (k i : Nat) (b : Bool) : (s.setBit k i b).cip = s.cip := rfl
@[simp] theorem State.setBit_fab (s : State) (k i : Nat) (b : Bool) : (s.setBit k i b).fab = s.fab := rfl
@[simp] theorem State.setBit_fw (s : State) (k i : Nat) (b : Bool) : (s.setBit k i b).fw = s.fw := rfl
@[simp] theorem State.setBit_isl (s : State) (k i : Nat) (b : Bool) : (s.setBit k i b).isl = s.isl := rfl
@[simp] theorem State.setBit_life (s : State) (k i : Nat) (b : Bool) : (s.setBit k i b).life = s.life := rfl
@[simp] theorem State.setBit_test (s : State) (k i : Nat) (b : Bool) : (s.setBit k i b).test = s.test := rfl
@[simp] theorem State.setBit_power (s : State) (k i : Nat) (b : Bool) : (s.setBit k i b).power = s.power := rfl
@[simp] theorem State.setBit_clock (s : State) (k i : Nat) (b : Bool) : (s.setBit k i b).clock = s.clock := rfl
@[simp] theorem State.setBit_link (s : State) (k i : Nat) (b : Bool) : (s.setBit k i b).link = s.link := rfl
@[simp] theorem State.setBit_therm (s : State) (k i : Nat) (b : Bool) : (s.setBit k i b).therm = s.therm := rfl
@[simp] theorem State.setBit_mode (s : State) (k i : Nat) (b : Bool) : (s.setBit k i b).mode = s.mode := rfl
@[simp] theorem State.setBit_bad (s : State) (k i : Nat) (b : Bool) : (s.setBit k i b).bad = s.bad := rfl
@[simp] theorem State.setBit_events (s : State) (k i : Nat) (b : Bool) : (s.setBit k i b).events = s.events := rfl
@[simp] theorem State.setBit_memUse (s : State) (k i : Nat) (b : Bool) : (s.setBit k i b).memUse = s.memUse := rfl
@[simp] theorem State.setBit_released (s : State) (k i : Nat) (b : Bool) : (s.setBit k i b).released = s.released := rfl
@[simp] theorem State.setBit_freeCtr (s : State) (k i : Nat) (b : Bool) : (s.setBit k i b).freeCtr = s.freeCtr := rfl
@[simp] theorem State.setBit_pending (s : State) (k i : Nat) (b : Bool) : (s.setBit k i b).pending = s.pending := rfl
@[simp] theorem State.setBit_blob (s : State) (k i : Nat) (b : Bool) (x : Nat) : (s.setBit k i b).blob x = s.blob x := rfl
@[simp] theorem State.setBit_fb (s : State) (k i : Nat) (b : Bool) (x : Nat) : (s.setBit k i b).fb x = s.fb x := rfl
@[simp] theorem State.setBit_cm (s : State) (k i : Nat) (b : Bool) (x : Nat) : (s.setBit k i b).cm x = s.cm x := rfl
@[simp] theorem State.setBit_ev (s : State) (k i : Nat) (b : Bool) (x : Nat) : (s.setBit k i b).ev x = s.ev x := rfl
@[simp] theorem State.setBit_cmp (s : State) (k i : Nat) (b : Bool) (x : Nat) : (s.setBit k i b).cmp x = s.cmp x := rfl
@[simp] theorem State.setBit_cap (s : State) (k i : Nat) (b : Bool) (x : Nat) : (s.setBit k i b).cap x = s.cap x := rfl
@[simp] theorem State.setBit_engine (s : State) (k i : Nat) (b : Bool) (x : Nat) : (s.setBit k i b).engine x = s.engine x := rfl
@[simp] theorem State.setBit_group (s : State) (k i : Nat) (b : Bool) (x : Nat) : (s.setBit k i b).group x = s.group x := rfl
@[simp] theorem State.setBit_standIn (s : State) (k i : Nat) (b : Bool) (x : Nat) : (s.setBit k i b).standIn x = s.standIn x := rfl
@[simp] theorem State.setBit_path (s : State) (k i : Nat) (b : Bool) (x : Path) : (s.setBit k i b).path x = s.path x := rfl
@[simp] theorem State.setBit_bankSt (s : State) (k i : Nat) (b : Bool) (x : Nat) : (s.setBit k i b).bankSt x = s.bankSt x := rfl
@[simp] theorem State.setBit_keySlot (s : State) (k i : Nat) (b : Bool) (x : Nat) : (s.setBit k i b).keySlot x = s.keySlot x := rfl
@[simp] theorem State.setBit_region (s : State) (k i : Nat) (b : Bool) (x : Nat) : (s.setBit k i b).region x = s.region x := rfl
@[simp] theorem State.setBit_sector (s : State) (k i : Nat) (b : Bool) (x : Nat) : (s.setBit k i b).sector x = s.sector x := rfl
@[simp] theorem State.setBit_flBlock (s : State) (k i : Nat) (b : Bool) (x : Nat) : (s.setBit k i b).flBlock x = s.flBlock x := rfl
@[simp] theorem State.setBit_flBank (s : State) (k i : Nat) (b : Bool) (x : Nat) : (s.setBit k i b).flBank x = s.flBank x := rfl
@[simp] theorem State.setBit_flMaster (s : State) (k i : Nat) (b : Bool) (x : FlashMaster) : (s.setBit k i b).flMaster x = s.flMaster x := rfl
@[simp] theorem State.setBit_port (s : State) (k i : Nat) (b : Bool) (x : Nat) : (s.setBit k i b).port x = s.port x := rfl
@[simp] theorem State.setBit_rail (s : State) (k i : Nat) (b : Bool) (x : Nat) : (s.setBit k i b).rail x = s.rail x := rfl
@[simp] theorem State.setBit_member (s : State) (k i : Nat) (b : Bool) (x : Nat) : (s.setBit k i b).member x = s.member x := rfl

/-! ### bump -/

@[simp] theorem State.bump_blobs (s : State) (k w : Nat) : (s.bump k w).blobs = s.blobs := rfl
@[simp] theorem State.bump_host (s : State) (k w : Nat) : (s.bump k w).host = s.host := rfl
@[simp] theorem State.bump_fe (s : State) (k w : Nat) : (s.bump k w).fe = s.fe := rfl
@[simp] theorem State.bump_eng (s : State) (k w : Nat) : (s.bump k w).eng = s.eng := rfl
@[simp] theorem State.bump_si (s : State) (k w : Nat) : (s.bump k w).si = s.si := rfl
@[simp] theorem State.bump_grp (s : State) (k w : Nat) : (s.bump k w).grp = s.grp := rfl
@[simp] theorem State.bump_flash (s : State) (k w : Nat) : (s.bump k w).flash = s.flash := rfl
@[simp] theorem State.bump_mem (s : State) (k w : Nat) : (s.bump k w).mem = s.mem := rfl
@[simp] theorem State.bump_reel (s : State) (k w : Nat) : (s.bump k w).reel = s.reel := rfl
@[simp] theorem State.bump_cip (s : State) (k w : Nat) : (s.bump k w).cip = s.cip := rfl
@[simp] theorem State.bump_fab (s : State) (k w : Nat) : (s.bump k w).fab = s.fab := rfl
@[simp] theorem State.bump_fw (s : State) (k w : Nat) : (s.bump k w).fw = s.fw := rfl
@[simp] theorem State.bump_isl (s : State) (k w : Nat) : (s.bump k w).isl = s.isl := rfl
@[simp] theorem State.bump_life (s : State) (k w : Nat) : (s.bump k w).life = s.life := rfl
@[simp] theorem State.bump_test (s : State) (k w : Nat) : (s.bump k w).test = s.test := rfl
@[simp] theorem State.bump_power (s : State) (k w : Nat) : (s.bump k w).power = s.power := rfl
@[simp] theorem State.bump_clock (s : State) (k w : Nat) : (s.bump k w).clock = s.clock := rfl
@[simp] theorem State.bump_link (s : State) (k w : Nat) : (s.bump k w).link = s.link := rfl
@[simp] theorem State.bump_therm (s : State) (k w : Nat) : (s.bump k w).therm = s.therm := rfl
@[simp] theorem State.bump_mode (s : State) (k w : Nat) : (s.bump k w).mode = s.mode := rfl
@[simp] theorem State.bump_bad (s : State) (k w : Nat) : (s.bump k w).bad = s.bad := rfl
@[simp] theorem State.bump_events (s : State) (k w : Nat) : (s.bump k w).events = s.events := rfl
@[simp] theorem State.bump_memUse (s : State) (k w : Nat) : (s.bump k w).memUse = s.memUse := rfl
@[simp] theorem State.bump_released (s : State) (k w : Nat) : (s.bump k w).released = s.released := rfl
@[simp] theorem State.bump_freeCtr (s : State) (k w : Nat) : (s.bump k w).freeCtr = s.freeCtr := rfl
@[simp] theorem State.bump_pending (s : State) (k w : Nat) : (s.bump k w).pending = s.pending := rfl
@[simp] theorem State.bump_blob (s : State) (k w : Nat) (x : Nat) : (s.bump k w).blob x = s.blob x := rfl
@[simp] theorem State.bump_fb (s : State) (k w : Nat) (x : Nat) : (s.bump k w).fb x = s.fb x := rfl
@[simp] theorem State.bump_cm (s : State) (k w : Nat) (x : Nat) : (s.bump k w).cm x = s.cm x := rfl
@[simp] theorem State.bump_ev (s : State) (k w : Nat) (x : Nat) : (s.bump k w).ev x = s.ev x := rfl
@[simp] theorem State.bump_cmp (s : State) (k w : Nat) (x : Nat) : (s.bump k w).cmp x = s.cmp x := rfl
@[simp] theorem State.bump_cap (s : State) (k w : Nat) (x : Nat) : (s.bump k w).cap x = s.cap x := rfl
@[simp] theorem State.bump_engine (s : State) (k w : Nat) (x : Nat) : (s.bump k w).engine x = s.engine x := rfl
@[simp] theorem State.bump_group (s : State) (k w : Nat) (x : Nat) : (s.bump k w).group x = s.group x := rfl
@[simp] theorem State.bump_standIn (s : State) (k w : Nat) (x : Nat) : (s.bump k w).standIn x = s.standIn x := rfl
@[simp] theorem State.bump_path (s : State) (k w : Nat) (x : Path) : (s.bump k w).path x = s.path x := rfl
@[simp] theorem State.bump_bankSt (s : State) (k w : Nat) (x : Nat) : (s.bump k w).bankSt x = s.bankSt x := rfl
@[simp] theorem State.bump_keySlot (s : State) (k w : Nat) (x : Nat) : (s.bump k w).keySlot x = s.keySlot x := rfl
@[simp] theorem State.bump_region (s : State) (k w : Nat) (x : Nat) : (s.bump k w).region x = s.region x := rfl
@[simp] theorem State.bump_sector (s : State) (k w : Nat) (x : Nat) : (s.bump k w).sector x = s.sector x := rfl
@[simp] theorem State.bump_flBlock (s : State) (k w : Nat) (x : Nat) : (s.bump k w).flBlock x = s.flBlock x := rfl
@[simp] theorem State.bump_flBank (s : State) (k w : Nat) (x : Nat) : (s.bump k w).flBank x = s.flBank x := rfl
@[simp] theorem State.bump_flMaster (s : State) (k w : Nat) (x : FlashMaster) : (s.bump k w).flMaster x = s.flMaster x := rfl
@[simp] theorem State.bump_port (s : State) (k w : Nat) (x : Nat) : (s.bump k w).port x = s.port x := rfl
@[simp] theorem State.bump_rail (s : State) (k w : Nat) (x : Nat) : (s.bump k w).rail x = s.rail x := rfl
@[simp] theorem State.bump_member (s : State) (k w : Nat) (x : Nat) : (s.bump k w).member x = s.member x := rfl

/-! ### bumpBy -/

@[simp] theorem State.bumpBy_blobs (s : State) (k w n : Nat) : (s.bumpBy k w n).blobs = s.blobs := rfl
@[simp] theorem State.bumpBy_host (s : State) (k w n : Nat) : (s.bumpBy k w n).host = s.host := rfl
@[simp] theorem State.bumpBy_fe (s : State) (k w n : Nat) : (s.bumpBy k w n).fe = s.fe := rfl
@[simp] theorem State.bumpBy_eng (s : State) (k w n : Nat) : (s.bumpBy k w n).eng = s.eng := rfl
@[simp] theorem State.bumpBy_si (s : State) (k w n : Nat) : (s.bumpBy k w n).si = s.si := rfl
@[simp] theorem State.bumpBy_grp (s : State) (k w n : Nat) : (s.bumpBy k w n).grp = s.grp := rfl
@[simp] theorem State.bumpBy_flash (s : State) (k w n : Nat) : (s.bumpBy k w n).flash = s.flash := rfl
@[simp] theorem State.bumpBy_mem (s : State) (k w n : Nat) : (s.bumpBy k w n).mem = s.mem := rfl
@[simp] theorem State.bumpBy_reel (s : State) (k w n : Nat) : (s.bumpBy k w n).reel = s.reel := rfl
@[simp] theorem State.bumpBy_cip (s : State) (k w n : Nat) : (s.bumpBy k w n).cip = s.cip := rfl
@[simp] theorem State.bumpBy_fab (s : State) (k w n : Nat) : (s.bumpBy k w n).fab = s.fab := rfl
@[simp] theorem State.bumpBy_fw (s : State) (k w n : Nat) : (s.bumpBy k w n).fw = s.fw := rfl
@[simp] theorem State.bumpBy_isl (s : State) (k w n : Nat) : (s.bumpBy k w n).isl = s.isl := rfl
@[simp] theorem State.bumpBy_life (s : State) (k w n : Nat) : (s.bumpBy k w n).life = s.life := rfl
@[simp] theorem State.bumpBy_test (s : State) (k w n : Nat) : (s.bumpBy k w n).test = s.test := rfl
@[simp] theorem State.bumpBy_power (s : State) (k w n : Nat) : (s.bumpBy k w n).power = s.power := rfl
@[simp] theorem State.bumpBy_clock (s : State) (k w n : Nat) : (s.bumpBy k w n).clock = s.clock := rfl
@[simp] theorem State.bumpBy_link (s : State) (k w n : Nat) : (s.bumpBy k w n).link = s.link := rfl
@[simp] theorem State.bumpBy_therm (s : State) (k w n : Nat) : (s.bumpBy k w n).therm = s.therm := rfl
@[simp] theorem State.bumpBy_mode (s : State) (k w n : Nat) : (s.bumpBy k w n).mode = s.mode := rfl
@[simp] theorem State.bumpBy_bad (s : State) (k w n : Nat) : (s.bumpBy k w n).bad = s.bad := rfl
@[simp] theorem State.bumpBy_events (s : State) (k w n : Nat) : (s.bumpBy k w n).events = s.events := rfl
@[simp] theorem State.bumpBy_memUse (s : State) (k w n : Nat) : (s.bumpBy k w n).memUse = s.memUse := rfl
@[simp] theorem State.bumpBy_released (s : State) (k w n : Nat) : (s.bumpBy k w n).released = s.released := rfl
@[simp] theorem State.bumpBy_freeCtr (s : State) (k w n : Nat) : (s.bumpBy k w n).freeCtr = s.freeCtr := rfl
@[simp] theorem State.bumpBy_pending (s : State) (k w n : Nat) : (s.bumpBy k w n).pending = s.pending := rfl
@[simp] theorem State.bumpBy_blob (s : State) (k w n : Nat) (x : Nat) : (s.bumpBy k w n).blob x = s.blob x := rfl
@[simp] theorem State.bumpBy_fb (s : State) (k w n : Nat) (x : Nat) : (s.bumpBy k w n).fb x = s.fb x := rfl
@[simp] theorem State.bumpBy_cm (s : State) (k w n : Nat) (x : Nat) : (s.bumpBy k w n).cm x = s.cm x := rfl
@[simp] theorem State.bumpBy_ev (s : State) (k w n : Nat) (x : Nat) : (s.bumpBy k w n).ev x = s.ev x := rfl
@[simp] theorem State.bumpBy_cmp (s : State) (k w n : Nat) (x : Nat) : (s.bumpBy k w n).cmp x = s.cmp x := rfl
@[simp] theorem State.bumpBy_cap (s : State) (k w n : Nat) (x : Nat) : (s.bumpBy k w n).cap x = s.cap x := rfl
@[simp] theorem State.bumpBy_engine (s : State) (k w n : Nat) (x : Nat) : (s.bumpBy k w n).engine x = s.engine x := rfl
@[simp] theorem State.bumpBy_group (s : State) (k w n : Nat) (x : Nat) : (s.bumpBy k w n).group x = s.group x := rfl
@[simp] theorem State.bumpBy_standIn (s : State) (k w n : Nat) (x : Nat) : (s.bumpBy k w n).standIn x = s.standIn x := rfl
@[simp] theorem State.bumpBy_path (s : State) (k w n : Nat) (x : Path) : (s.bumpBy k w n).path x = s.path x := rfl
@[simp] theorem State.bumpBy_bankSt (s : State) (k w n : Nat) (x : Nat) : (s.bumpBy k w n).bankSt x = s.bankSt x := rfl
@[simp] theorem State.bumpBy_keySlot (s : State) (k w n : Nat) (x : Nat) : (s.bumpBy k w n).keySlot x = s.keySlot x := rfl
@[simp] theorem State.bumpBy_region (s : State) (k w n : Nat) (x : Nat) : (s.bumpBy k w n).region x = s.region x := rfl
@[simp] theorem State.bumpBy_sector (s : State) (k w n : Nat) (x : Nat) : (s.bumpBy k w n).sector x = s.sector x := rfl
@[simp] theorem State.bumpBy_flBlock (s : State) (k w n : Nat) (x : Nat) : (s.bumpBy k w n).flBlock x = s.flBlock x := rfl
@[simp] theorem State.bumpBy_flBank (s : State) (k w n : Nat) (x : Nat) : (s.bumpBy k w n).flBank x = s.flBank x := rfl
@[simp] theorem State.bumpBy_flMaster (s : State) (k w n : Nat) (x : FlashMaster) : (s.bumpBy k w n).flMaster x = s.flMaster x := rfl
@[simp] theorem State.bumpBy_port (s : State) (k w n : Nat) (x : Nat) : (s.bumpBy k w n).port x = s.port x := rfl
@[simp] theorem State.bumpBy_rail (s : State) (k w n : Nat) (x : Nat) : (s.bumpBy k w n).rail x = s.rail x := rfl
@[simp] theorem State.bumpBy_member (s : State) (k w n : Nat) (x : Nat) : (s.bumpBy k w n).member x = s.member x := rfl

/-! ### setBlob -/

@[simp] theorem State.setBlob_regs (s : State) (k : Nat) (v : List Byte) : (s.setBlob k v).regs = s.regs := rfl
@[simp] theorem State.setBlob_host (s : State) (k : Nat) (v : List Byte) : (s.setBlob k v).host = s.host := rfl
@[simp] theorem State.setBlob_fe (s : State) (k : Nat) (v : List Byte) : (s.setBlob k v).fe = s.fe := rfl
@[simp] theorem State.setBlob_eng (s : State) (k : Nat) (v : List Byte) : (s.setBlob k v).eng = s.eng := rfl
@[simp] theorem State.setBlob_si (s : State) (k : Nat) (v : List Byte) : (s.setBlob k v).si = s.si := rfl
@[simp] theorem State.setBlob_grp (s : State) (k : Nat) (v : List Byte) : (s.setBlob k v).grp = s.grp := rfl
@[simp] theorem State.setBlob_flash (s : State) (k : Nat) (v : List Byte) : (s.setBlob k v).flash = s.flash := rfl
@[simp] theorem State.setBlob_mem (s : State) (k : Nat) (v : List Byte) : (s.setBlob k v).mem = s.mem := rfl
@[simp] theorem State.setBlob_reel (s : State) (k : Nat) (v : List Byte) : (s.setBlob k v).reel = s.reel := rfl
@[simp] theorem State.setBlob_cip (s : State) (k : Nat) (v : List Byte) : (s.setBlob k v).cip = s.cip := rfl
@[simp] theorem State.setBlob_fab (s : State) (k : Nat) (v : List Byte) : (s.setBlob k v).fab = s.fab := rfl
@[simp] theorem State.setBlob_fw (s : State) (k : Nat) (v : List Byte) : (s.setBlob k v).fw = s.fw := rfl
@[simp] theorem State.setBlob_isl (s : State) (k : Nat) (v : List Byte) : (s.setBlob k v).isl = s.isl := rfl
@[simp] theorem State.setBlob_life (s : State) (k : Nat) (v : List Byte) : (s.setBlob k v).life = s.life := rfl
@[simp] theorem State.setBlob_test (s : State) (k : Nat) (v : List Byte) : (s.setBlob k v).test = s.test := rfl
@[simp] theorem State.setBlob_power (s : State) (k : Nat) (v : List Byte) : (s.setBlob k v).power = s.power := rfl
@[simp] theorem State.setBlob_clock (s : State) (k : Nat) (v : List Byte) : (s.setBlob k v).clock = s.clock := rfl
@[simp] theorem State.setBlob_link (s : State) (k : Nat) (v : List Byte) : (s.setBlob k v).link = s.link := rfl
@[simp] theorem State.setBlob_therm (s : State) (k : Nat) (v : List Byte) : (s.setBlob k v).therm = s.therm := rfl
@[simp] theorem State.setBlob_mode (s : State) (k : Nat) (v : List Byte) : (s.setBlob k v).mode = s.mode := rfl
@[simp] theorem State.setBlob_bad (s : State) (k : Nat) (v : List Byte) : (s.setBlob k v).bad = s.bad := rfl
@[simp] theorem State.setBlob_events (s : State) (k : Nat) (v : List Byte) : (s.setBlob k v).events = s.events := rfl
@[simp] theorem State.setBlob_memUse (s : State) (k : Nat) (v : List Byte) : (s.setBlob k v).memUse = s.memUse := rfl
@[simp] theorem State.setBlob_released (s : State) (k : Nat) (v : List Byte) : (s.setBlob k v).released = s.released := rfl
@[simp] theorem State.setBlob_freeCtr (s : State) (k : Nat) (v : List Byte) : (s.setBlob k v).freeCtr = s.freeCtr := rfl
@[simp] theorem State.setBlob_pending (s : State) (k : Nat) (v : List Byte) : (s.setBlob k v).pending = s.pending := rfl
@[simp] theorem State.setBlob_reg (s : State) (k : Nat) (v : List Byte) (x : Nat) : (s.setBlob k v).reg x = s.reg x := rfl
@[simp] theorem State.setBlob_regN (s : State) (k : Nat) (v : List Byte) (x : Nat) : (s.setBlob k v).regN x = s.regN x := rfl
@[simp] theorem State.setBlob_regBit (s : State) (k : Nat) (v : List Byte) (x y : Nat) : (s.setBlob k v).regBit x y = s.regBit x y := rfl
@[simp] theorem State.setBlob_fb (s : State) (k : Nat) (v : List Byte) (x : Nat) : (s.setBlob k v).fb x = s.fb x := rfl
@[simp] theorem State.setBlob_cm (s : State) (k : Nat) (v : List Byte) (x : Nat) : (s.setBlob k v).cm x = s.cm x := rfl
@[simp] theorem State.setBlob_ev (s : State) (k : Nat) (v : List Byte) (x : Nat) : (s.setBlob k v).ev x = s.ev x := rfl
@[simp] theorem State.setBlob_cmp (s : State) (k : Nat) (v : List Byte) (x : Nat) : (s.setBlob k v).cmp x = s.cmp x := rfl
@[simp] theorem State.setBlob_cap (s : State) (k : Nat) (v : List Byte) (x : Nat) : (s.setBlob k v).cap x = s.cap x := rfl
@[simp] theorem State.setBlob_engine (s : State) (k : Nat) (v : List Byte) (x : Nat) : (s.setBlob k v).engine x = s.engine x := rfl
@[simp] theorem State.setBlob_group (s : State) (k : Nat) (v : List Byte) (x : Nat) : (s.setBlob k v).group x = s.group x := rfl
@[simp] theorem State.setBlob_standIn (s : State) (k : Nat) (v : List Byte) (x : Nat) : (s.setBlob k v).standIn x = s.standIn x := rfl
@[simp] theorem State.setBlob_path (s : State) (k : Nat) (v : List Byte) (x : Path) : (s.setBlob k v).path x = s.path x := rfl
@[simp] theorem State.setBlob_bankSt (s : State) (k : Nat) (v : List Byte) (x : Nat) : (s.setBlob k v).bankSt x = s.bankSt x := rfl
@[simp] theorem State.setBlob_keySlot (s : State) (k : Nat) (v : List Byte) (x : Nat) : (s.setBlob k v).keySlot x = s.keySlot x := rfl
@[simp] theorem State.setBlob_region (s : State) (k : Nat) (v : List Byte) (x : Nat) : (s.setBlob k v).region x = s.region x := rfl
@[simp] theorem State.setBlob_sector (s : State) (k : Nat) (v : List Byte) (x : Nat) : (s.setBlob k v).sector x = s.sector x := rfl
@[simp] theorem State.setBlob_flBlock (s : State) (k : Nat) (v : List Byte) (x : Nat) : (s.setBlob k v).flBlock x = s.flBlock x := rfl
@[simp] theorem State.setBlob_flBank (s : State) (k : Nat) (v : List Byte) (x : Nat) : (s.setBlob k v).flBank x = s.flBank x := rfl
@[simp] theorem State.setBlob_flMaster (s : State) (k : Nat) (v : List Byte) (x : FlashMaster) : (s.setBlob k v).flMaster x = s.flMaster x := rfl
@[simp] theorem State.setBlob_port (s : State) (k : Nat) (v : List Byte) (x : Nat) : (s.setBlob k v).port x = s.port x := rfl
@[simp] theorem State.setBlob_rail (s : State) (k : Nat) (v : List Byte) (x : Nat) : (s.setBlob k v).rail x = s.rail x := rfl
@[simp] theorem State.setBlob_member (s : State) (k : Nat) (v : List Byte) (x : Nat) : (s.setBlob k v).member x = s.member x := rfl

/-! ### modFb -/

@[simp] theorem State.modFb_regs (s : State) (n : Nat) (f : FbPort → FbPort) : (s.modFb n f).regs = s.regs := rfl
@[simp] theorem State.modFb_blobs (s : State) (n : Nat) (f : FbPort → FbPort) : (s.modFb n f).blobs = s.blobs := rfl
@[simp] theorem State.modFb_host (s : State) (n : Nat) (f : FbPort → FbPort) : (s.modFb n f).host = s.host := rfl
@[simp] theorem State.modFb_eng (s : State) (n : Nat) (f : FbPort → FbPort) : (s.modFb n f).eng = s.eng := rfl
@[simp] theorem State.modFb_si (s : State) (n : Nat) (f : FbPort → FbPort) : (s.modFb n f).si = s.si := rfl
@[simp] theorem State.modFb_grp (s : State) (n : Nat) (f : FbPort → FbPort) : (s.modFb n f).grp = s.grp := rfl
@[simp] theorem State.modFb_flash (s : State) (n : Nat) (f : FbPort → FbPort) : (s.modFb n f).flash = s.flash := rfl
@[simp] theorem State.modFb_mem (s : State) (n : Nat) (f : FbPort → FbPort) : (s.modFb n f).mem = s.mem := rfl
@[simp] theorem State.modFb_reel (s : State) (n : Nat) (f : FbPort → FbPort) : (s.modFb n f).reel = s.reel := rfl
@[simp] theorem State.modFb_cip (s : State) (n : Nat) (f : FbPort → FbPort) : (s.modFb n f).cip = s.cip := rfl
@[simp] theorem State.modFb_fab (s : State) (n : Nat) (f : FbPort → FbPort) : (s.modFb n f).fab = s.fab := rfl
@[simp] theorem State.modFb_fw (s : State) (n : Nat) (f : FbPort → FbPort) : (s.modFb n f).fw = s.fw := rfl
@[simp] theorem State.modFb_isl (s : State) (n : Nat) (f : FbPort → FbPort) : (s.modFb n f).isl = s.isl := rfl
@[simp] theorem State.modFb_life (s : State) (n : Nat) (f : FbPort → FbPort) : (s.modFb n f).life = s.life := rfl
@[simp] theorem State.modFb_test (s : State) (n : Nat) (f : FbPort → FbPort) : (s.modFb n f).test = s.test := rfl
@[simp] theorem State.modFb_power (s : State) (n : Nat) (f : FbPort → FbPort) : (s.modFb n f).power = s.power := rfl
@[simp] theorem State.modFb_clock (s : State) (n : Nat) (f : FbPort → FbPort) : (s.modFb n f).clock = s.clock := rfl
@[simp] theorem State.modFb_link (s : State) (n : Nat) (f : FbPort → FbPort) : (s.modFb n f).link = s.link := rfl
@[simp] theorem State.modFb_therm (s : State) (n : Nat) (f : FbPort → FbPort) : (s.modFb n f).therm = s.therm := rfl
@[simp] theorem State.modFb_mode (s : State) (n : Nat) (f : FbPort → FbPort) : (s.modFb n f).mode = s.mode := rfl
@[simp] theorem State.modFb_bad (s : State) (n : Nat) (f : FbPort → FbPort) : (s.modFb n f).bad = s.bad := rfl
@[simp] theorem State.modFb_events (s : State) (n : Nat) (f : FbPort → FbPort) : (s.modFb n f).events = s.events := rfl
@[simp] theorem State.modFb_memUse (s : State) (n : Nat) (f : FbPort → FbPort) : (s.modFb n f).memUse = s.memUse := rfl
@[simp] theorem State.modFb_released (s : State) (n : Nat) (f : FbPort → FbPort) : (s.modFb n f).released = s.released := rfl
@[simp] theorem State.modFb_freeCtr (s : State) (n : Nat) (f : FbPort → FbPort) : (s.modFb n f).freeCtr = s.freeCtr := rfl
@[simp] theorem State.modFb_pending (s : State) (n : Nat) (f : FbPort → FbPort) : (s.modFb n f).pending = s.pending := rfl
@[simp] theorem State.modFb_fe_safe (s : State) (n : Nat) (f : FbPort → FbPort) : (s.modFb n f).fe.safe = s.fe.safe := rfl
@[simp] theorem State.modFb_fe_ana18 (s : State) (n : Nat) (f : FbPort → FbPort) : (s.modFb n f).fe.ana18 = s.fe.ana18 := rfl
@[simp] theorem State.modFb_fe_ana50 (s : State) (n : Nat) (f : FbPort → FbPort) : (s.modFb n f).fe.ana50 = s.fe.ana50 := rfl
@[simp] theorem State.modFb_fe_bridgeDown (s : State) (n : Nat) (f : FbPort → FbPort) : (s.modFb n f).fe.bridgeDown = s.fe.bridgeDown := rfl
@[simp] theorem State.modFb_fe_tickJoined (s : State) (n : Nat) (f : FbPort → FbPort) : (s.modFb n f).fe.tickJoined = s.fe.tickJoined := rfl
@[simp] theorem State.modFb_fe_tickT (s : State) (n : Nat) (f : FbPort → FbPort) : (s.modFb n f).fe.tickT = s.fe.tickT := rfl
@[simp] theorem State.modFb_fe_srcPend (s : State) (n : Nat) (f : FbPort → FbPort) : (s.modFb n f).fe.srcPend = s.fe.srcPend := rfl
@[simp] theorem State.modFb_fe_ratePend (s : State) (n : Nat) (f : FbPort → FbPort) : (s.modFb n f).fe.ratePend = s.fe.ratePend := rfl
@[simp] theorem State.modFb_fe_tickHeard (s : State) (n : Nat) (f : FbPort → FbPort) : (s.modFb n f).fe.tickHeard = s.fe.tickHeard := rfl
@[simp] theorem State.modFb_fe_spares (s : State) (n : Nat) (f : FbPort → FbPort) : (s.modFb n f).fe.spares = s.fe.spares := rfl
@[simp] theorem State.modFb_fe_replays (s : State) (n : Nat) (f : FbPort → FbPort) : (s.modFb n f).fe.replays = s.fe.replays := rfl
@[simp] theorem State.modFb_reg (s : State) (n : Nat) (f : FbPort → FbPort) (x : Nat) : (s.modFb n f).reg x = s.reg x := rfl
@[simp] theorem State.modFb_regN (s : State) (n : Nat) (f : FbPort → FbPort) (x : Nat) : (s.modFb n f).regN x = s.regN x := rfl
@[simp] theorem State.modFb_regBit (s : State) (n : Nat) (f : FbPort → FbPort) (x y : Nat) : (s.modFb n f).regBit x y = s.regBit x y := rfl
@[simp] theorem State.modFb_blob (s : State) (n : Nat) (f : FbPort → FbPort) (x : Nat) : (s.modFb n f).blob x = s.blob x := rfl
@[simp] theorem State.modFb_cm (s : State) (n : Nat) (f : FbPort → FbPort) (x : Nat) : (s.modFb n f).cm x = s.cm x := rfl
@[simp] theorem State.modFb_ev (s : State) (n : Nat) (f : FbPort → FbPort) (x : Nat) : (s.modFb n f).ev x = s.ev x := rfl
@[simp] theorem State.modFb_cmp (s : State) (n : Nat) (f : FbPort → FbPort) (x : Nat) : (s.modFb n f).cmp x = s.cmp x := rfl
@[simp] theorem State.modFb_cap (s : State) (n : Nat) (f : FbPort → FbPort) (x : Nat) : (s.modFb n f).cap x = s.cap x := rfl
@[simp] theorem State.modFb_engine (s : State) (n : Nat) (f : FbPort → FbPort) (x : Nat) : (s.modFb n f).engine x = s.engine x := rfl
@[simp] theorem State.modFb_group (s : State) (n : Nat) (f : FbPort → FbPort) (x : Nat) : (s.modFb n f).group x = s.group x := rfl
@[simp] theorem State.modFb_standIn (s : State) (n : Nat) (f : FbPort → FbPort) (x : Nat) : (s.modFb n f).standIn x = s.standIn x := rfl
@[simp] theorem State.modFb_path (s : State) (n : Nat) (f : FbPort → FbPort) (x : Path) : (s.modFb n f).path x = s.path x := rfl
@[simp] theorem State.modFb_bankSt (s : State) (n : Nat) (f : FbPort → FbPort) (x : Nat) : (s.modFb n f).bankSt x = s.bankSt x := rfl
@[simp] theorem State.modFb_keySlot (s : State) (n : Nat) (f : FbPort → FbPort) (x : Nat) : (s.modFb n f).keySlot x = s.keySlot x := rfl
@[simp] theorem State.modFb_region (s : State) (n : Nat) (f : FbPort → FbPort) (x : Nat) : (s.modFb n f).region x = s.region x := rfl
@[simp] theorem State.modFb_sector (s : State) (n : Nat) (f : FbPort → FbPort) (x : Nat) : (s.modFb n f).sector x = s.sector x := rfl
@[simp] theorem State.modFb_flBlock (s : State) (n : Nat) (f : FbPort → FbPort) (x : Nat) : (s.modFb n f).flBlock x = s.flBlock x := rfl
@[simp] theorem State.modFb_flBank (s : State) (n : Nat) (f : FbPort → FbPort) (x : Nat) : (s.modFb n f).flBank x = s.flBank x := rfl
@[simp] theorem State.modFb_flMaster (s : State) (n : Nat) (f : FbPort → FbPort) (x : FlashMaster) : (s.modFb n f).flMaster x = s.flMaster x := rfl
@[simp] theorem State.modFb_port (s : State) (n : Nat) (f : FbPort → FbPort) (x : Nat) : (s.modFb n f).port x = s.port x := rfl
@[simp] theorem State.modFb_rail (s : State) (n : Nat) (f : FbPort → FbPort) (x : Nat) : (s.modFb n f).rail x = s.rail x := rfl
@[simp] theorem State.modFb_member (s : State) (n : Nat) (f : FbPort → FbPort) (x : Nat) : (s.modFb n f).member x = s.member x := rfl

/-! ### modCm -/

@[simp] theorem State.modCm_regs (s : State) (n : Nat) (f : CmPort → CmPort) : (s.modCm n f).regs = s.regs := rfl
@[simp] theorem State.modCm_blobs (s : State) (n : Nat) (f : CmPort → CmPort) : (s.modCm n f).blobs = s.blobs := rfl
@[simp] theorem State.modCm_host (s : State) (n : Nat) (f : CmPort → CmPort) : (s.modCm n f).host = s.host := rfl
@[simp] theorem State.modCm_eng (s : State) (n : Nat) (f : CmPort → CmPort) : (s.modCm n f).eng = s.eng := rfl
@[simp] theorem State.modCm_si (s : State) (n : Nat) (f : CmPort → CmPort) : (s.modCm n f).si = s.si := rfl
@[simp] theorem State.modCm_grp (s : State) (n : Nat) (f : CmPort → CmPort) : (s.modCm n f).grp = s.grp := rfl
@[simp] theorem State.modCm_flash (s : State) (n : Nat) (f : CmPort → CmPort) : (s.modCm n f).flash = s.flash := rfl
@[simp] theorem State.modCm_mem (s : State) (n : Nat) (f : CmPort → CmPort) : (s.modCm n f).mem = s.mem := rfl
@[simp] theorem State.modCm_reel (s : State) (n : Nat) (f : CmPort → CmPort) : (s.modCm n f).reel = s.reel := rfl
@[simp] theorem State.modCm_cip (s : State) (n : Nat) (f : CmPort → CmPort) : (s.modCm n f).cip = s.cip := rfl
@[simp] theorem State.modCm_fab (s : State) (n : Nat) (f : CmPort → CmPort) : (s.modCm n f).fab = s.fab := rfl
@[simp] theorem State.modCm_fw (s : State) (n : Nat) (f : CmPort → CmPort) : (s.modCm n f).fw = s.fw := rfl
@[simp] theorem State.modCm_isl (s : State) (n : Nat) (f : CmPort → CmPort) : (s.modCm n f).isl = s.isl := rfl
@[simp] theorem State.modCm_life (s : State) (n : Nat) (f : CmPort → CmPort) : (s.modCm n f).life = s.life := rfl
@[simp] theorem State.modCm_test (s : State) (n : Nat) (f : CmPort → CmPort) : (s.modCm n f).test = s.test := rfl
@[simp] theorem State.modCm_power (s : State) (n : Nat) (f : CmPort → CmPort) : (s.modCm n f).power = s.power := rfl
@[simp] theorem State.modCm_clock (s : State) (n : Nat) (f : CmPort → CmPort) : (s.modCm n f).clock = s.clock := rfl
@[simp] theorem State.modCm_link (s : State) (n : Nat) (f : CmPort → CmPort) : (s.modCm n f).link = s.link := rfl
@[simp] theorem State.modCm_therm (s : State) (n : Nat) (f : CmPort → CmPort) : (s.modCm n f).therm = s.therm := rfl
@[simp] theorem State.modCm_mode (s : State) (n : Nat) (f : CmPort → CmPort) : (s.modCm n f).mode = s.mode := rfl
@[simp] theorem State.modCm_bad (s : State) (n : Nat) (f : CmPort → CmPort) : (s.modCm n f).bad = s.bad := rfl
@[simp] theorem State.modCm_events (s : State) (n : Nat) (f : CmPort → CmPort) : (s.modCm n f).events = s.events := rfl
@[simp] theorem State.modCm_memUse (s : State) (n : Nat) (f : CmPort → CmPort) : (s.modCm n f).memUse = s.memUse := rfl
@[simp] theorem State.modCm_released (s : State) (n : Nat) (f : CmPort → CmPort) : (s.modCm n f).released = s.released := rfl
@[simp] theorem State.modCm_freeCtr (s : State) (n : Nat) (f : CmPort → CmPort) : (s.modCm n f).freeCtr = s.freeCtr := rfl
@[simp] theorem State.modCm_pending (s : State) (n : Nat) (f : CmPort → CmPort) : (s.modCm n f).pending = s.pending := rfl
@[simp] theorem State.modCm_fe_safe (s : State) (n : Nat) (f : CmPort → CmPort) : (s.modCm n f).fe.safe = s.fe.safe := rfl
@[simp] theorem State.modCm_fe_ana18 (s : State) (n : Nat) (f : CmPort → CmPort) : (s.modCm n f).fe.ana18 = s.fe.ana18 := rfl
@[simp] theorem State.modCm_fe_ana50 (s : State) (n : Nat) (f : CmPort → CmPort) : (s.modCm n f).fe.ana50 = s.fe.ana50 := rfl
@[simp] theorem State.modCm_fe_bridgeDown (s : State) (n : Nat) (f : CmPort → CmPort) : (s.modCm n f).fe.bridgeDown = s.fe.bridgeDown := rfl
@[simp] theorem State.modCm_fe_tickJoined (s : State) (n : Nat) (f : CmPort → CmPort) : (s.modCm n f).fe.tickJoined = s.fe.tickJoined := rfl
@[simp] theorem State.modCm_fe_tickT (s : State) (n : Nat) (f : CmPort → CmPort) : (s.modCm n f).fe.tickT = s.fe.tickT := rfl
@[simp] theorem State.modCm_fe_srcPend (s : State) (n : Nat) (f : CmPort → CmPort) : (s.modCm n f).fe.srcPend = s.fe.srcPend := rfl
@[simp] theorem State.modCm_fe_ratePend (s : State) (n : Nat) (f : CmPort → CmPort) : (s.modCm n f).fe.ratePend = s.fe.ratePend := rfl
@[simp] theorem State.modCm_fe_tickHeard (s : State) (n : Nat) (f : CmPort → CmPort) : (s.modCm n f).fe.tickHeard = s.fe.tickHeard := rfl
@[simp] theorem State.modCm_fe_spares (s : State) (n : Nat) (f : CmPort → CmPort) : (s.modCm n f).fe.spares = s.fe.spares := rfl
@[simp] theorem State.modCm_fe_replays (s : State) (n : Nat) (f : CmPort → CmPort) : (s.modCm n f).fe.replays = s.fe.replays := rfl
@[simp] theorem State.modCm_reg (s : State) (n : Nat) (f : CmPort → CmPort) (x : Nat) : (s.modCm n f).reg x = s.reg x := rfl
@[simp] theorem State.modCm_regN (s : State) (n : Nat) (f : CmPort → CmPort) (x : Nat) : (s.modCm n f).regN x = s.regN x := rfl
@[simp] theorem State.modCm_regBit (s : State) (n : Nat) (f : CmPort → CmPort) (x y : Nat) : (s.modCm n f).regBit x y = s.regBit x y := rfl
@[simp] theorem State.modCm_blob (s : State) (n : Nat) (f : CmPort → CmPort) (x : Nat) : (s.modCm n f).blob x = s.blob x := rfl
@[simp] theorem State.modCm_fb (s : State) (n : Nat) (f : CmPort → CmPort) (x : Nat) : (s.modCm n f).fb x = s.fb x := rfl
@[simp] theorem State.modCm_ev (s : State) (n : Nat) (f : CmPort → CmPort) (x : Nat) : (s.modCm n f).ev x = s.ev x := rfl
@[simp] theorem State.modCm_cmp (s : State) (n : Nat) (f : CmPort → CmPort) (x : Nat) : (s.modCm n f).cmp x = s.cmp x := rfl
@[simp] theorem State.modCm_cap (s : State) (n : Nat) (f : CmPort → CmPort) (x : Nat) : (s.modCm n f).cap x = s.cap x := rfl
@[simp] theorem State.modCm_engine (s : State) (n : Nat) (f : CmPort → CmPort) (x : Nat) : (s.modCm n f).engine x = s.engine x := rfl
@[simp] theorem State.modCm_group (s : State) (n : Nat) (f : CmPort → CmPort) (x : Nat) : (s.modCm n f).group x = s.group x := rfl
@[simp] theorem State.modCm_standIn (s : State) (n : Nat) (f : CmPort → CmPort) (x : Nat) : (s.modCm n f).standIn x = s.standIn x := rfl
@[simp] theorem State.modCm_path (s : State) (n : Nat) (f : CmPort → CmPort) (x : Path) : (s.modCm n f).path x = s.path x := rfl
@[simp] theorem State.modCm_bankSt (s : State) (n : Nat) (f : CmPort → CmPort) (x : Nat) : (s.modCm n f).bankSt x = s.bankSt x := rfl
@[simp] theorem State.modCm_keySlot (s : State) (n : Nat) (f : CmPort → CmPort) (x : Nat) : (s.modCm n f).keySlot x = s.keySlot x := rfl
@[simp] theorem State.modCm_region (s : State) (n : Nat) (f : CmPort → CmPort) (x : Nat) : (s.modCm n f).region x = s.region x := rfl
@[simp] theorem State.modCm_sector (s : State) (n : Nat) (f : CmPort → CmPort) (x : Nat) : (s.modCm n f).sector x = s.sector x := rfl
@[simp] theorem State.modCm_flBlock (s : State) (n : Nat) (f : CmPort → CmPort) (x : Nat) : (s.modCm n f).flBlock x = s.flBlock x := rfl
@[simp] theorem State.modCm_flBank (s : State) (n : Nat) (f : CmPort → CmPort) (x : Nat) : (s.modCm n f).flBank x = s.flBank x := rfl
@[simp] theorem State.modCm_flMaster (s : State) (n : Nat) (f : CmPort → CmPort) (x : FlashMaster) : (s.modCm n f).flMaster x = s.flMaster x := rfl
@[simp] theorem State.modCm_port (s : State) (n : Nat) (f : CmPort → CmPort) (x : Nat) : (s.modCm n f).port x = s.port x := rfl
@[simp] theorem State.modCm_rail (s : State) (n : Nat) (f : CmPort → CmPort) (x : Nat) : (s.modCm n f).rail x = s.rail x := rfl
@[simp] theorem State.modCm_member (s : State) (n : Nat) (f : CmPort → CmPort) (x : Nat) : (s.modCm n f).member x = s.member x := rfl

/-! ### modEv -/

@[simp] theorem State.modEv_regs (s : State) (k : Nat) (f : EvChan → EvChan) : (s.modEv k f).regs = s.regs := rfl
@[simp] theorem State.modEv_blobs (s : State) (k : Nat) (f : EvChan → EvChan) : (s.modEv k f).blobs = s.blobs := rfl
@[simp] theorem State.modEv_host (s : State) (k : Nat) (f : EvChan → EvChan) : (s.modEv k f).host = s.host := rfl
@[simp] theorem State.modEv_eng (s : State) (k : Nat) (f : EvChan → EvChan) : (s.modEv k f).eng = s.eng := rfl
@[simp] theorem State.modEv_si (s : State) (k : Nat) (f : EvChan → EvChan) : (s.modEv k f).si = s.si := rfl
@[simp] theorem State.modEv_grp (s : State) (k : Nat) (f : EvChan → EvChan) : (s.modEv k f).grp = s.grp := rfl
@[simp] theorem State.modEv_flash (s : State) (k : Nat) (f : EvChan → EvChan) : (s.modEv k f).flash = s.flash := rfl
@[simp] theorem State.modEv_mem (s : State) (k : Nat) (f : EvChan → EvChan) : (s.modEv k f).mem = s.mem := rfl
@[simp] theorem State.modEv_reel (s : State) (k : Nat) (f : EvChan → EvChan) : (s.modEv k f).reel = s.reel := rfl
@[simp] theorem State.modEv_cip (s : State) (k : Nat) (f : EvChan → EvChan) : (s.modEv k f).cip = s.cip := rfl
@[simp] theorem State.modEv_fab (s : State) (k : Nat) (f : EvChan → EvChan) : (s.modEv k f).fab = s.fab := rfl
@[simp] theorem State.modEv_fw (s : State) (k : Nat) (f : EvChan → EvChan) : (s.modEv k f).fw = s.fw := rfl
@[simp] theorem State.modEv_isl (s : State) (k : Nat) (f : EvChan → EvChan) : (s.modEv k f).isl = s.isl := rfl
@[simp] theorem State.modEv_life (s : State) (k : Nat) (f : EvChan → EvChan) : (s.modEv k f).life = s.life := rfl
@[simp] theorem State.modEv_test (s : State) (k : Nat) (f : EvChan → EvChan) : (s.modEv k f).test = s.test := rfl
@[simp] theorem State.modEv_power (s : State) (k : Nat) (f : EvChan → EvChan) : (s.modEv k f).power = s.power := rfl
@[simp] theorem State.modEv_clock (s : State) (k : Nat) (f : EvChan → EvChan) : (s.modEv k f).clock = s.clock := rfl
@[simp] theorem State.modEv_link (s : State) (k : Nat) (f : EvChan → EvChan) : (s.modEv k f).link = s.link := rfl
@[simp] theorem State.modEv_therm (s : State) (k : Nat) (f : EvChan → EvChan) : (s.modEv k f).therm = s.therm := rfl
@[simp] theorem State.modEv_mode (s : State) (k : Nat) (f : EvChan → EvChan) : (s.modEv k f).mode = s.mode := rfl
@[simp] theorem State.modEv_bad (s : State) (k : Nat) (f : EvChan → EvChan) : (s.modEv k f).bad = s.bad := rfl
@[simp] theorem State.modEv_events (s : State) (k : Nat) (f : EvChan → EvChan) : (s.modEv k f).events = s.events := rfl
@[simp] theorem State.modEv_memUse (s : State) (k : Nat) (f : EvChan → EvChan) : (s.modEv k f).memUse = s.memUse := rfl
@[simp] theorem State.modEv_released (s : State) (k : Nat) (f : EvChan → EvChan) : (s.modEv k f).released = s.released := rfl
@[simp] theorem State.modEv_freeCtr (s : State) (k : Nat) (f : EvChan → EvChan) : (s.modEv k f).freeCtr = s.freeCtr := rfl
@[simp] theorem State.modEv_pending (s : State) (k : Nat) (f : EvChan → EvChan) : (s.modEv k f).pending = s.pending := rfl
@[simp] theorem State.modEv_fe_safe (s : State) (k : Nat) (f : EvChan → EvChan) : (s.modEv k f).fe.safe = s.fe.safe := rfl
@[simp] theorem State.modEv_fe_ana18 (s : State) (k : Nat) (f : EvChan → EvChan) : (s.modEv k f).fe.ana18 = s.fe.ana18 := rfl
@[simp] theorem State.modEv_fe_ana50 (s : State) (k : Nat) (f : EvChan → EvChan) : (s.modEv k f).fe.ana50 = s.fe.ana50 := rfl
@[simp] theorem State.modEv_fe_bridgeDown (s : State) (k : Nat) (f : EvChan → EvChan) : (s.modEv k f).fe.bridgeDown = s.fe.bridgeDown := rfl
@[simp] theorem State.modEv_fe_tickJoined (s : State) (k : Nat) (f : EvChan → EvChan) : (s.modEv k f).fe.tickJoined = s.fe.tickJoined := rfl
@[simp] theorem State.modEv_fe_tickT (s : State) (k : Nat) (f : EvChan → EvChan) : (s.modEv k f).fe.tickT = s.fe.tickT := rfl
@[simp] theorem State.modEv_fe_srcPend (s : State) (k : Nat) (f : EvChan → EvChan) : (s.modEv k f).fe.srcPend = s.fe.srcPend := rfl
@[simp] theorem State.modEv_fe_ratePend (s : State) (k : Nat) (f : EvChan → EvChan) : (s.modEv k f).fe.ratePend = s.fe.ratePend := rfl
@[simp] theorem State.modEv_fe_tickHeard (s : State) (k : Nat) (f : EvChan → EvChan) : (s.modEv k f).fe.tickHeard = s.fe.tickHeard := rfl
@[simp] theorem State.modEv_fe_spares (s : State) (k : Nat) (f : EvChan → EvChan) : (s.modEv k f).fe.spares = s.fe.spares := rfl
@[simp] theorem State.modEv_fe_replays (s : State) (k : Nat) (f : EvChan → EvChan) : (s.modEv k f).fe.replays = s.fe.replays := rfl
@[simp] theorem State.modEv_reg (s : State) (k : Nat) (f : EvChan → EvChan) (x : Nat) : (s.modEv k f).reg x = s.reg x := rfl
@[simp] theorem State.modEv_regN (s : State) (k : Nat) (f : EvChan → EvChan) (x : Nat) : (s.modEv k f).regN x = s.regN x := rfl
@[simp] theorem State.modEv_regBit (s : State) (k : Nat) (f : EvChan → EvChan) (x y : Nat) : (s.modEv k f).regBit x y = s.regBit x y := rfl
@[simp] theorem State.modEv_blob (s : State) (k : Nat) (f : EvChan → EvChan) (x : Nat) : (s.modEv k f).blob x = s.blob x := rfl
@[simp] theorem State.modEv_fb (s : State) (k : Nat) (f : EvChan → EvChan) (x : Nat) : (s.modEv k f).fb x = s.fb x := rfl
@[simp] theorem State.modEv_cm (s : State) (k : Nat) (f : EvChan → EvChan) (x : Nat) : (s.modEv k f).cm x = s.cm x := rfl
@[simp] theorem State.modEv_cmp (s : State) (k : Nat) (f : EvChan → EvChan) (x : Nat) : (s.modEv k f).cmp x = s.cmp x := rfl
@[simp] theorem State.modEv_cap (s : State) (k : Nat) (f : EvChan → EvChan) (x : Nat) : (s.modEv k f).cap x = s.cap x := rfl
@[simp] theorem State.modEv_engine (s : State) (k : Nat) (f : EvChan → EvChan) (x : Nat) : (s.modEv k f).engine x = s.engine x := rfl
@[simp] theorem State.modEv_group (s : State) (k : Nat) (f : EvChan → EvChan) (x : Nat) : (s.modEv k f).group x = s.group x := rfl
@[simp] theorem State.modEv_standIn (s : State) (k : Nat) (f : EvChan → EvChan) (x : Nat) : (s.modEv k f).standIn x = s.standIn x := rfl
@[simp] theorem State.modEv_path (s : State) (k : Nat) (f : EvChan → EvChan) (x : Path) : (s.modEv k f).path x = s.path x := rfl
@[simp] theorem State.modEv_bankSt (s : State) (k : Nat) (f : EvChan → EvChan) (x : Nat) : (s.modEv k f).bankSt x = s.bankSt x := rfl
@[simp] theorem State.modEv_keySlot (s : State) (k : Nat) (f : EvChan → EvChan) (x : Nat) : (s.modEv k f).keySlot x = s.keySlot x := rfl
@[simp] theorem State.modEv_region (s : State) (k : Nat) (f : EvChan → EvChan) (x : Nat) : (s.modEv k f).region x = s.region x := rfl
@[simp] theorem State.modEv_sector (s : State) (k : Nat) (f : EvChan → EvChan) (x : Nat) : (s.modEv k f).sector x = s.sector x := rfl
@[simp] theorem State.modEv_flBlock (s : State) (k : Nat) (f : EvChan → EvChan) (x : Nat) : (s.modEv k f).flBlock x = s.flBlock x := rfl
@[simp] theorem State.modEv_flBank (s : State) (k : Nat) (f : EvChan → EvChan) (x : Nat) : (s.modEv k f).flBank x = s.flBank x := rfl
@[simp] theorem State.modEv_flMaster (s : State) (k : Nat) (f : EvChan → EvChan) (x : FlashMaster) : (s.modEv k f).flMaster x = s.flMaster x := rfl
@[simp] theorem State.modEv_port (s : State) (k : Nat) (f : EvChan → EvChan) (x : Nat) : (s.modEv k f).port x = s.port x := rfl
@[simp] theorem State.modEv_rail (s : State) (k : Nat) (f : EvChan → EvChan) (x : Nat) : (s.modEv k f).rail x = s.rail x := rfl
@[simp] theorem State.modEv_member (s : State) (k : Nat) (f : EvChan → EvChan) (x : Nat) : (s.modEv k f).member x = s.member x := rfl

/-! ### modCmp -/

@[simp] theorem State.modCmp_regs (s : State) (i : Nat) (f : CmpUnit → CmpUnit) : (s.modCmp i f).regs = s.regs := rfl
@[simp] theorem State.modCmp_blobs (s : State) (i : Nat) (f : CmpUnit → CmpUnit) : (s.modCmp i f).blobs = s.blobs := rfl
@[simp] theorem State.modCmp_host (s : State) (i : Nat) (f : CmpUnit → CmpUnit) : (s.modCmp i f).host = s.host := rfl
@[simp] theorem State.modCmp_eng (s : State) (i : Nat) (f : CmpUnit → CmpUnit) : (s.modCmp i f).eng = s.eng := rfl
@[simp] theorem State.modCmp_si (s : State) (i : Nat) (f : CmpUnit → CmpUnit) : (s.modCmp i f).si = s.si := rfl
@[simp] theorem State.modCmp_grp (s : State) (i : Nat) (f : CmpUnit → CmpUnit) : (s.modCmp i f).grp = s.grp := rfl
@[simp] theorem State.modCmp_flash (s : State) (i : Nat) (f : CmpUnit → CmpUnit) : (s.modCmp i f).flash = s.flash := rfl
@[simp] theorem State.modCmp_mem (s : State) (i : Nat) (f : CmpUnit → CmpUnit) : (s.modCmp i f).mem = s.mem := rfl
@[simp] theorem State.modCmp_reel (s : State) (i : Nat) (f : CmpUnit → CmpUnit) : (s.modCmp i f).reel = s.reel := rfl
@[simp] theorem State.modCmp_cip (s : State) (i : Nat) (f : CmpUnit → CmpUnit) : (s.modCmp i f).cip = s.cip := rfl
@[simp] theorem State.modCmp_fab (s : State) (i : Nat) (f : CmpUnit → CmpUnit) : (s.modCmp i f).fab = s.fab := rfl
@[simp] theorem State.modCmp_fw (s : State) (i : Nat) (f : CmpUnit → CmpUnit) : (s.modCmp i f).fw = s.fw := rfl
@[simp] theorem State.modCmp_isl (s : State) (i : Nat) (f : CmpUnit → CmpUnit) : (s.modCmp i f).isl = s.isl := rfl
@[simp] theorem State.modCmp_life (s : State) (i : Nat) (f : CmpUnit → CmpUnit) : (s.modCmp i f).life = s.life := rfl
@[simp] theorem State.modCmp_test (s : State) (i : Nat) (f : CmpUnit → CmpUnit) : (s.modCmp i f).test = s.test := rfl
@[simp] theorem State.modCmp_power (s : State) (i : Nat) (f : CmpUnit → CmpUnit) : (s.modCmp i f).power = s.power := rfl
@[simp] theorem State.modCmp_clock (s : State) (i : Nat) (f : CmpUnit → CmpUnit) : (s.modCmp i f).clock = s.clock := rfl
@[simp] theorem State.modCmp_link (s : State) (i : Nat) (f : CmpUnit → CmpUnit) : (s.modCmp i f).link = s.link := rfl
@[simp] theorem State.modCmp_therm (s : State) (i : Nat) (f : CmpUnit → CmpUnit) : (s.modCmp i f).therm = s.therm := rfl
@[simp] theorem State.modCmp_mode (s : State) (i : Nat) (f : CmpUnit → CmpUnit) : (s.modCmp i f).mode = s.mode := rfl
@[simp] theorem State.modCmp_bad (s : State) (i : Nat) (f : CmpUnit → CmpUnit) : (s.modCmp i f).bad = s.bad := rfl
@[simp] theorem State.modCmp_events (s : State) (i : Nat) (f : CmpUnit → CmpUnit) : (s.modCmp i f).events = s.events := rfl
@[simp] theorem State.modCmp_memUse (s : State) (i : Nat) (f : CmpUnit → CmpUnit) : (s.modCmp i f).memUse = s.memUse := rfl
@[simp] theorem State.modCmp_released (s : State) (i : Nat) (f : CmpUnit → CmpUnit) : (s.modCmp i f).released = s.released := rfl
@[simp] theorem State.modCmp_freeCtr (s : State) (i : Nat) (f : CmpUnit → CmpUnit) : (s.modCmp i f).freeCtr = s.freeCtr := rfl
@[simp] theorem State.modCmp_pending (s : State) (i : Nat) (f : CmpUnit → CmpUnit) : (s.modCmp i f).pending = s.pending := rfl
@[simp] theorem State.modCmp_fe_safe (s : State) (i : Nat) (f : CmpUnit → CmpUnit) : (s.modCmp i f).fe.safe = s.fe.safe := rfl
@[simp] theorem State.modCmp_fe_ana18 (s : State) (i : Nat) (f : CmpUnit → CmpUnit) : (s.modCmp i f).fe.ana18 = s.fe.ana18 := rfl
@[simp] theorem State.modCmp_fe_ana50 (s : State) (i : Nat) (f : CmpUnit → CmpUnit) : (s.modCmp i f).fe.ana50 = s.fe.ana50 := rfl
@[simp] theorem State.modCmp_fe_bridgeDown (s : State) (i : Nat) (f : CmpUnit → CmpUnit) : (s.modCmp i f).fe.bridgeDown = s.fe.bridgeDown := rfl
@[simp] theorem State.modCmp_fe_tickJoined (s : State) (i : Nat) (f : CmpUnit → CmpUnit) : (s.modCmp i f).fe.tickJoined = s.fe.tickJoined := rfl
@[simp] theorem State.modCmp_fe_tickT (s : State) (i : Nat) (f : CmpUnit → CmpUnit) : (s.modCmp i f).fe.tickT = s.fe.tickT := rfl
@[simp] theorem State.modCmp_fe_srcPend (s : State) (i : Nat) (f : CmpUnit → CmpUnit) : (s.modCmp i f).fe.srcPend = s.fe.srcPend := rfl
@[simp] theorem State.modCmp_fe_ratePend (s : State) (i : Nat) (f : CmpUnit → CmpUnit) : (s.modCmp i f).fe.ratePend = s.fe.ratePend := rfl
@[simp] theorem State.modCmp_fe_tickHeard (s : State) (i : Nat) (f : CmpUnit → CmpUnit) : (s.modCmp i f).fe.tickHeard = s.fe.tickHeard := rfl
@[simp] theorem State.modCmp_fe_spares (s : State) (i : Nat) (f : CmpUnit → CmpUnit) : (s.modCmp i f).fe.spares = s.fe.spares := rfl
@[simp] theorem State.modCmp_fe_replays (s : State) (i : Nat) (f : CmpUnit → CmpUnit) : (s.modCmp i f).fe.replays = s.fe.replays := rfl
@[simp] theorem State.modCmp_reg (s : State) (i : Nat) (f : CmpUnit → CmpUnit) (x : Nat) : (s.modCmp i f).reg x = s.reg x := rfl
@[simp] theorem State.modCmp_regN (s : State) (i : Nat) (f : CmpUnit → CmpUnit) (x : Nat) : (s.modCmp i f).regN x = s.regN x := rfl
@[simp] theorem State.modCmp_regBit (s : State) (i : Nat) (f : CmpUnit → CmpUnit) (x y : Nat) : (s.modCmp i f).regBit x y = s.regBit x y := rfl
@[simp] theorem State.modCmp_blob (s : State) (i : Nat) (f : CmpUnit → CmpUnit) (x : Nat) : (s.modCmp i f).blob x = s.blob x := rfl
@[simp] theorem State.modCmp_fb (s : State) (i : Nat) (f : CmpUnit → CmpUnit) (x : Nat) : (s.modCmp i f).fb x = s.fb x := rfl
@[simp] theorem State.modCmp_cm (s : State) (i : Nat) (f : CmpUnit → CmpUnit) (x : Nat) : (s.modCmp i f).cm x = s.cm x := rfl
@[simp] theorem State.modCmp_ev (s : State) (i : Nat) (f : CmpUnit → CmpUnit) (x : Nat) : (s.modCmp i f).ev x = s.ev x := rfl
@[simp] theorem State.modCmp_cap (s : State) (i : Nat) (f : CmpUnit → CmpUnit) (x : Nat) : (s.modCmp i f).cap x = s.cap x := rfl
@[simp] theorem State.modCmp_engine (s : State) (i : Nat) (f : CmpUnit → CmpUnit) (x : Nat) : (s.modCmp i f).engine x = s.engine x := rfl
@[simp] theorem State.modCmp_group (s : State) (i : Nat) (f : CmpUnit → CmpUnit) (x : Nat) : (s.modCmp i f).group x = s.group x := rfl
@[simp] theorem State.modCmp_standIn (s : State) (i : Nat) (f : CmpUnit → CmpUnit) (x : Nat) : (s.modCmp i f).standIn x = s.standIn x := rfl
@[simp] theorem State.modCmp_path (s : State) (i : Nat) (f : CmpUnit → CmpUnit) (x : Path) : (s.modCmp i f).path x = s.path x := rfl
@[simp] theorem State.modCmp_bankSt (s : State) (i : Nat) (f : CmpUnit → CmpUnit) (x : Nat) : (s.modCmp i f).bankSt x = s.bankSt x := rfl
@[simp] theorem State.modCmp_keySlot (s : State) (i : Nat) (f : CmpUnit → CmpUnit) (x : Nat) : (s.modCmp i f).keySlot x = s.keySlot x := rfl
@[simp] theorem State.modCmp_region (s : State) (i : Nat) (f : CmpUnit → CmpUnit) (x : Nat) : (s.modCmp i f).region x = s.region x := rfl
@[simp] theorem State.modCmp_sector (s : State) (i : Nat) (f : CmpUnit → CmpUnit) (x : Nat) : (s.modCmp i f).sector x = s.sector x := rfl
@[simp] theorem State.modCmp_flBlock (s : State) (i : Nat) (f : CmpUnit → CmpUnit) (x : Nat) : (s.modCmp i f).flBlock x = s.flBlock x := rfl
@[simp] theorem State.modCmp_flBank (s : State) (i : Nat) (f : CmpUnit → CmpUnit) (x : Nat) : (s.modCmp i f).flBank x = s.flBank x := rfl
@[simp] theorem State.modCmp_flMaster (s : State) (i : Nat) (f : CmpUnit → CmpUnit) (x : FlashMaster) : (s.modCmp i f).flMaster x = s.flMaster x := rfl
@[simp] theorem State.modCmp_port (s : State) (i : Nat) (f : CmpUnit → CmpUnit) (x : Nat) : (s.modCmp i f).port x = s.port x := rfl
@[simp] theorem State.modCmp_rail (s : State) (i : Nat) (f : CmpUnit → CmpUnit) (x : Nat) : (s.modCmp i f).rail x = s.rail x := rfl
@[simp] theorem State.modCmp_member (s : State) (i : Nat) (f : CmpUnit → CmpUnit) (x : Nat) : (s.modCmp i f).member x = s.member x := rfl

/-! ### modCap -/

@[simp] theorem State.modCap_regs (s : State) (i : Nat) (f : CapUnit → CapUnit) : (s.modCap i f).regs = s.regs := rfl
@[simp] theorem State.modCap_blobs (s : State) (i : Nat) (f : CapUnit → CapUnit) : (s.modCap i f).blobs = s.blobs := rfl
@[simp] theorem State.modCap_host (s : State) (i : Nat) (f : CapUnit → CapUnit) : (s.modCap i f).host = s.host := rfl
@[simp] theorem State.modCap_eng (s : State) (i : Nat) (f : CapUnit → CapUnit) : (s.modCap i f).eng = s.eng := rfl
@[simp] theorem State.modCap_si (s : State) (i : Nat) (f : CapUnit → CapUnit) : (s.modCap i f).si = s.si := rfl
@[simp] theorem State.modCap_grp (s : State) (i : Nat) (f : CapUnit → CapUnit) : (s.modCap i f).grp = s.grp := rfl
@[simp] theorem State.modCap_flash (s : State) (i : Nat) (f : CapUnit → CapUnit) : (s.modCap i f).flash = s.flash := rfl
@[simp] theorem State.modCap_mem (s : State) (i : Nat) (f : CapUnit → CapUnit) : (s.modCap i f).mem = s.mem := rfl
@[simp] theorem State.modCap_reel (s : State) (i : Nat) (f : CapUnit → CapUnit) : (s.modCap i f).reel = s.reel := rfl
@[simp] theorem State.modCap_cip (s : State) (i : Nat) (f : CapUnit → CapUnit) : (s.modCap i f).cip = s.cip := rfl
@[simp] theorem State.modCap_fab (s : State) (i : Nat) (f : CapUnit → CapUnit) : (s.modCap i f).fab = s.fab := rfl
@[simp] theorem State.modCap_fw (s : State) (i : Nat) (f : CapUnit → CapUnit) : (s.modCap i f).fw = s.fw := rfl
@[simp] theorem State.modCap_isl (s : State) (i : Nat) (f : CapUnit → CapUnit) : (s.modCap i f).isl = s.isl := rfl
@[simp] theorem State.modCap_life (s : State) (i : Nat) (f : CapUnit → CapUnit) : (s.modCap i f).life = s.life := rfl
@[simp] theorem State.modCap_test (s : State) (i : Nat) (f : CapUnit → CapUnit) : (s.modCap i f).test = s.test := rfl
@[simp] theorem State.modCap_power (s : State) (i : Nat) (f : CapUnit → CapUnit) : (s.modCap i f).power = s.power := rfl
@[simp] theorem State.modCap_clock (s : State) (i : Nat) (f : CapUnit → CapUnit) : (s.modCap i f).clock = s.clock := rfl
@[simp] theorem State.modCap_link (s : State) (i : Nat) (f : CapUnit → CapUnit) : (s.modCap i f).link = s.link := rfl
@[simp] theorem State.modCap_therm (s : State) (i : Nat) (f : CapUnit → CapUnit) : (s.modCap i f).therm = s.therm := rfl
@[simp] theorem State.modCap_mode (s : State) (i : Nat) (f : CapUnit → CapUnit) : (s.modCap i f).mode = s.mode := rfl
@[simp] theorem State.modCap_bad (s : State) (i : Nat) (f : CapUnit → CapUnit) : (s.modCap i f).bad = s.bad := rfl
@[simp] theorem State.modCap_events (s : State) (i : Nat) (f : CapUnit → CapUnit) : (s.modCap i f).events = s.events := rfl
@[simp] theorem State.modCap_memUse (s : State) (i : Nat) (f : CapUnit → CapUnit) : (s.modCap i f).memUse = s.memUse := rfl
@[simp] theorem State.modCap_released (s : State) (i : Nat) (f : CapUnit → CapUnit) : (s.modCap i f).released = s.released := rfl
@[simp] theorem State.modCap_freeCtr (s : State) (i : Nat) (f : CapUnit → CapUnit) : (s.modCap i f).freeCtr = s.freeCtr := rfl
@[simp] theorem State.modCap_pending (s : State) (i : Nat) (f : CapUnit → CapUnit) : (s.modCap i f).pending = s.pending := rfl
@[simp] theorem State.modCap_fe_safe (s : State) (i : Nat) (f : CapUnit → CapUnit) : (s.modCap i f).fe.safe = s.fe.safe := rfl
@[simp] theorem State.modCap_fe_ana18 (s : State) (i : Nat) (f : CapUnit → CapUnit) : (s.modCap i f).fe.ana18 = s.fe.ana18 := rfl
@[simp] theorem State.modCap_fe_ana50 (s : State) (i : Nat) (f : CapUnit → CapUnit) : (s.modCap i f).fe.ana50 = s.fe.ana50 := rfl
@[simp] theorem State.modCap_fe_bridgeDown (s : State) (i : Nat) (f : CapUnit → CapUnit) : (s.modCap i f).fe.bridgeDown = s.fe.bridgeDown := rfl
@[simp] theorem State.modCap_fe_tickJoined (s : State) (i : Nat) (f : CapUnit → CapUnit) : (s.modCap i f).fe.tickJoined = s.fe.tickJoined := rfl
@[simp] theorem State.modCap_fe_tickT (s : State) (i : Nat) (f : CapUnit → CapUnit) : (s.modCap i f).fe.tickT = s.fe.tickT := rfl
@[simp] theorem State.modCap_fe_srcPend (s : State) (i : Nat) (f : CapUnit → CapUnit) : (s.modCap i f).fe.srcPend = s.fe.srcPend := rfl
@[simp] theorem State.modCap_fe_ratePend (s : State) (i : Nat) (f : CapUnit → CapUnit) : (s.modCap i f).fe.ratePend = s.fe.ratePend := rfl
@[simp] theorem State.modCap_fe_tickHeard (s : State) (i : Nat) (f : CapUnit → CapUnit) : (s.modCap i f).fe.tickHeard = s.fe.tickHeard := rfl
@[simp] theorem State.modCap_fe_spares (s : State) (i : Nat) (f : CapUnit → CapUnit) : (s.modCap i f).fe.spares = s.fe.spares := rfl
@[simp] theorem State.modCap_fe_replays (s : State) (i : Nat) (f : CapUnit → CapUnit) : (s.modCap i f).fe.replays = s.fe.replays := rfl
@[simp] theorem State.modCap_reg (s : State) (i : Nat) (f : CapUnit → CapUnit) (x : Nat) : (s.modCap i f).reg x = s.reg x := rfl
@[simp] theorem State.modCap_regN (s : State) (i : Nat) (f : CapUnit → CapUnit) (x : Nat) : (s.modCap i f).regN x = s.regN x := rfl
@[simp] theorem State.modCap_regBit (s : State) (i : Nat) (f : CapUnit → CapUnit) (x y : Nat) : (s.modCap i f).regBit x y = s.regBit x y := rfl
@[simp] theorem State.modCap_blob (s : State) (i : Nat) (f : CapUnit → CapUnit) (x : Nat) : (s.modCap i f).blob x = s.blob x := rfl
@[simp] theorem State.modCap_fb (s : State) (i : Nat) (f : CapUnit → CapUnit) (x : Nat) : (s.modCap i f).fb x = s.fb x := rfl
@[simp] theorem State.modCap_cm (s : State) (i : Nat) (f : CapUnit → CapUnit) (x : Nat) : (s.modCap i f).cm x = s.cm x := rfl
@[simp] theorem State.modCap_ev (s : State) (i : Nat) (f : CapUnit → CapUnit) (x : Nat) : (s.modCap i f).ev x = s.ev x := rfl
@[simp] theorem State.modCap_cmp (s : State) (i : Nat) (f : CapUnit → CapUnit) (x : Nat) : (s.modCap i f).cmp x = s.cmp x := rfl
@[simp] theorem State.modCap_engine (s : State) (i : Nat) (f : CapUnit → CapUnit) (x : Nat) : (s.modCap i f).engine x = s.engine x := rfl
@[simp] theorem State.modCap_group (s : State) (i : Nat) (f : CapUnit → CapUnit) (x : Nat) : (s.modCap i f).group x = s.group x := rfl
@[simp] theorem State.modCap_standIn (s : State) (i : Nat) (f : CapUnit → CapUnit) (x : Nat) : (s.modCap i f).standIn x = s.standIn x := rfl
@[simp] theorem State.modCap_path (s : State) (i : Nat) (f : CapUnit → CapUnit) (x : Path) : (s.modCap i f).path x = s.path x := rfl
@[simp] theorem State.modCap_bankSt (s : State) (i : Nat) (f : CapUnit → CapUnit) (x : Nat) : (s.modCap i f).bankSt x = s.bankSt x := rfl
@[simp] theorem State.modCap_keySlot (s : State) (i : Nat) (f : CapUnit → CapUnit) (x : Nat) : (s.modCap i f).keySlot x = s.keySlot x := rfl
@[simp] theorem State.modCap_region (s : State) (i : Nat) (f : CapUnit → CapUnit) (x : Nat) : (s.modCap i f).region x = s.region x := rfl
@[simp] theorem State.modCap_sector (s : State) (i : Nat) (f : CapUnit → CapUnit) (x : Nat) : (s.modCap i f).sector x = s.sector x := rfl
@[simp] theorem State.modCap_flBlock (s : State) (i : Nat) (f : CapUnit → CapUnit) (x : Nat) : (s.modCap i f).flBlock x = s.flBlock x := rfl
@[simp] theorem State.modCap_flBank (s : State) (i : Nat) (f : CapUnit → CapUnit) (x : Nat) : (s.modCap i f).flBank x = s.flBank x := rfl
@[simp] theorem State.modCap_flMaster (s : State) (i : Nat) (f : CapUnit → CapUnit) (x : FlashMaster) : (s.modCap i f).flMaster x = s.flMaster x := rfl
@[simp] theorem State.modCap_port (s : State) (i : Nat) (f : CapUnit → CapUnit) (x : Nat) : (s.modCap i f).port x = s.port x := rfl
@[simp] theorem State.modCap_rail (s : State) (i : Nat) (f : CapUnit → CapUnit) (x : Nat) : (s.modCap i f).rail x = s.rail x := rfl
@[simp] theorem State.modCap_member (s : State) (i : Nat) (f : CapUnit → CapUnit) (x : Nat) : (s.modCap i f).member x = s.member x := rfl

/-! ### modSafe -/

@[simp] theorem State.modSafe_regs (s : State) (f : SafeSt → SafeSt) : (s.modSafe f).regs = s.regs := rfl
@[simp] theorem State.modSafe_blobs (s : State) (f : SafeSt → SafeSt) : (s.modSafe f).blobs = s.blobs := rfl
@[simp] theorem State.modSafe_host (s : State) (f : SafeSt → SafeSt) : (s.modSafe f).host = s.host := rfl
@[simp] theorem State.modSafe_eng (s : State) (f : SafeSt → SafeSt) : (s.modSafe f).eng = s.eng := rfl
@[simp] theorem State.modSafe_si (s : State) (f : SafeSt → SafeSt) : (s.modSafe f).si = s.si := rfl
@[simp] theorem State.modSafe_grp (s : State) (f : SafeSt → SafeSt) : (s.modSafe f).grp = s.grp := rfl
@[simp] theorem State.modSafe_flash (s : State) (f : SafeSt → SafeSt) : (s.modSafe f).flash = s.flash := rfl
@[simp] theorem State.modSafe_mem (s : State) (f : SafeSt → SafeSt) : (s.modSafe f).mem = s.mem := rfl
@[simp] theorem State.modSafe_reel (s : State) (f : SafeSt → SafeSt) : (s.modSafe f).reel = s.reel := rfl
@[simp] theorem State.modSafe_cip (s : State) (f : SafeSt → SafeSt) : (s.modSafe f).cip = s.cip := rfl
@[simp] theorem State.modSafe_fab (s : State) (f : SafeSt → SafeSt) : (s.modSafe f).fab = s.fab := rfl
@[simp] theorem State.modSafe_fw (s : State) (f : SafeSt → SafeSt) : (s.modSafe f).fw = s.fw := rfl
@[simp] theorem State.modSafe_isl (s : State) (f : SafeSt → SafeSt) : (s.modSafe f).isl = s.isl := rfl
@[simp] theorem State.modSafe_life (s : State) (f : SafeSt → SafeSt) : (s.modSafe f).life = s.life := rfl
@[simp] theorem State.modSafe_test (s : State) (f : SafeSt → SafeSt) : (s.modSafe f).test = s.test := rfl
@[simp] theorem State.modSafe_power (s : State) (f : SafeSt → SafeSt) : (s.modSafe f).power = s.power := rfl
@[simp] theorem State.modSafe_clock (s : State) (f : SafeSt → SafeSt) : (s.modSafe f).clock = s.clock := rfl
@[simp] theorem State.modSafe_link (s : State) (f : SafeSt → SafeSt) : (s.modSafe f).link = s.link := rfl
@[simp] theorem State.modSafe_therm (s : State) (f : SafeSt → SafeSt) : (s.modSafe f).therm = s.therm := rfl
@[simp] theorem State.modSafe_mode (s : State) (f : SafeSt → SafeSt) : (s.modSafe f).mode = s.mode := rfl
@[simp] theorem State.modSafe_bad (s : State) (f : SafeSt → SafeSt) : (s.modSafe f).bad = s.bad := rfl
@[simp] theorem State.modSafe_events (s : State) (f : SafeSt → SafeSt) : (s.modSafe f).events = s.events := rfl
@[simp] theorem State.modSafe_memUse (s : State) (f : SafeSt → SafeSt) : (s.modSafe f).memUse = s.memUse := rfl
@[simp] theorem State.modSafe_released (s : State) (f : SafeSt → SafeSt) : (s.modSafe f).released = s.released := rfl
@[simp] theorem State.modSafe_freeCtr (s : State) (f : SafeSt → SafeSt) : (s.modSafe f).freeCtr = s.freeCtr := rfl
@[simp] theorem State.modSafe_pending (s : State) (f : SafeSt → SafeSt) : (s.modSafe f).pending = s.pending := rfl
@[simp] theorem State.modSafe_fe_ana18 (s : State) (f : SafeSt → SafeSt) : (s.modSafe f).fe.ana18 = s.fe.ana18 := rfl
@[simp] theorem State.modSafe_fe_ana50 (s : State) (f : SafeSt → SafeSt) : (s.modSafe f).fe.ana50 = s.fe.ana50 := rfl
@[simp] theorem State.modSafe_fe_bridgeDown (s : State) (f : SafeSt → SafeSt) : (s.modSafe f).fe.bridgeDown = s.fe.bridgeDown := rfl
@[simp] theorem State.modSafe_fe_tickJoined (s : State) (f : SafeSt → SafeSt) : (s.modSafe f).fe.tickJoined = s.fe.tickJoined := rfl
@[simp] theorem State.modSafe_fe_tickT (s : State) (f : SafeSt → SafeSt) : (s.modSafe f).fe.tickT = s.fe.tickT := rfl
@[simp] theorem State.modSafe_fe_srcPend (s : State) (f : SafeSt → SafeSt) : (s.modSafe f).fe.srcPend = s.fe.srcPend := rfl
@[simp] theorem State.modSafe_fe_ratePend (s : State) (f : SafeSt → SafeSt) : (s.modSafe f).fe.ratePend = s.fe.ratePend := rfl
@[simp] theorem State.modSafe_fe_tickHeard (s : State) (f : SafeSt → SafeSt) : (s.modSafe f).fe.tickHeard = s.fe.tickHeard := rfl
@[simp] theorem State.modSafe_fe_spares (s : State) (f : SafeSt → SafeSt) : (s.modSafe f).fe.spares = s.fe.spares := rfl
@[simp] theorem State.modSafe_fe_replays (s : State) (f : SafeSt → SafeSt) : (s.modSafe f).fe.replays = s.fe.replays := rfl
@[simp] theorem State.modSafe_reg (s : State) (f : SafeSt → SafeSt) (x : Nat) : (s.modSafe f).reg x = s.reg x := rfl
@[simp] theorem State.modSafe_regN (s : State) (f : SafeSt → SafeSt) (x : Nat) : (s.modSafe f).regN x = s.regN x := rfl
@[simp] theorem State.modSafe_regBit (s : State) (f : SafeSt → SafeSt) (x y : Nat) : (s.modSafe f).regBit x y = s.regBit x y := rfl
@[simp] theorem State.modSafe_blob (s : State) (f : SafeSt → SafeSt) (x : Nat) : (s.modSafe f).blob x = s.blob x := rfl
@[simp] theorem State.modSafe_fb (s : State) (f : SafeSt → SafeSt) (x : Nat) : (s.modSafe f).fb x = s.fb x := rfl
@[simp] theorem State.modSafe_cm (s : State) (f : SafeSt → SafeSt) (x : Nat) : (s.modSafe f).cm x = s.cm x := rfl
@[simp] theorem State.modSafe_ev (s : State) (f : SafeSt → SafeSt) (x : Nat) : (s.modSafe f).ev x = s.ev x := rfl
@[simp] theorem State.modSafe_cmp (s : State) (f : SafeSt → SafeSt) (x : Nat) : (s.modSafe f).cmp x = s.cmp x := rfl
@[simp] theorem State.modSafe_cap (s : State) (f : SafeSt → SafeSt) (x : Nat) : (s.modSafe f).cap x = s.cap x := rfl
@[simp] theorem State.modSafe_engine (s : State) (f : SafeSt → SafeSt) (x : Nat) : (s.modSafe f).engine x = s.engine x := rfl
@[simp] theorem State.modSafe_group (s : State) (f : SafeSt → SafeSt) (x : Nat) : (s.modSafe f).group x = s.group x := rfl
@[simp] theorem State.modSafe_standIn (s : State) (f : SafeSt → SafeSt) (x : Nat) : (s.modSafe f).standIn x = s.standIn x := rfl
@[simp] theorem State.modSafe_path (s : State) (f : SafeSt → SafeSt) (x : Path) : (s.modSafe f).path x = s.path x := rfl
@[simp] theorem State.modSafe_bankSt (s : State) (f : SafeSt → SafeSt) (x : Nat) : (s.modSafe f).bankSt x = s.bankSt x := rfl
@[simp] theorem State.modSafe_keySlot (s : State) (f : SafeSt → SafeSt) (x : Nat) : (s.modSafe f).keySlot x = s.keySlot x := rfl
@[simp] theorem State.modSafe_region (s : State) (f : SafeSt → SafeSt) (x : Nat) : (s.modSafe f).region x = s.region x := rfl
@[simp] theorem State.modSafe_sector (s : State) (f : SafeSt → SafeSt) (x : Nat) : (s.modSafe f).sector x = s.sector x := rfl
@[simp] theorem State.modSafe_flBlock (s : State) (f : SafeSt → SafeSt) (x : Nat) : (s.modSafe f).flBlock x = s.flBlock x := rfl
@[simp] theorem State.modSafe_flBank (s : State) (f : SafeSt → SafeSt) (x : Nat) : (s.modSafe f).flBank x = s.flBank x := rfl
@[simp] theorem State.modSafe_flMaster (s : State) (f : SafeSt → SafeSt) (x : FlashMaster) : (s.modSafe f).flMaster x = s.flMaster x := rfl
@[simp] theorem State.modSafe_port (s : State) (f : SafeSt → SafeSt) (x : Nat) : (s.modSafe f).port x = s.port x := rfl
@[simp] theorem State.modSafe_rail (s : State) (f : SafeSt → SafeSt) (x : Nat) : (s.modSafe f).rail x = s.rail x := rfl
@[simp] theorem State.modSafe_member (s : State) (f : SafeSt → SafeSt) (x : Nat) : (s.modSafe f).member x = s.member x := rfl

/-! ### modEng -/

@[simp] theorem State.modEng_regs (s : State) (n : Nat) (f : Eng → Eng) : (s.modEng n f).regs = s.regs := rfl
@[simp] theorem State.modEng_blobs (s : State) (n : Nat) (f : Eng → Eng) : (s.modEng n f).blobs = s.blobs := rfl
@[simp] theorem State.modEng_host (s : State) (n : Nat) (f : Eng → Eng) : (s.modEng n f).host = s.host := rfl
@[simp] theorem State.modEng_fe (s : State) (n : Nat) (f : Eng → Eng) : (s.modEng n f).fe = s.fe := rfl
@[simp] theorem State.modEng_si (s : State) (n : Nat) (f : Eng → Eng) : (s.modEng n f).si = s.si := rfl
@[simp] theorem State.modEng_grp (s : State) (n : Nat) (f : Eng → Eng) : (s.modEng n f).grp = s.grp := rfl
@[simp] theorem State.modEng_flash (s : State) (n : Nat) (f : Eng → Eng) : (s.modEng n f).flash = s.flash := rfl
@[simp] theorem State.modEng_mem (s : State) (n : Nat) (f : Eng → Eng) : (s.modEng n f).mem = s.mem := rfl
@[simp] theorem State.modEng_reel (s : State) (n : Nat) (f : Eng → Eng) : (s.modEng n f).reel = s.reel := rfl
@[simp] theorem State.modEng_cip (s : State) (n : Nat) (f : Eng → Eng) : (s.modEng n f).cip = s.cip := rfl
@[simp] theorem State.modEng_fab (s : State) (n : Nat) (f : Eng → Eng) : (s.modEng n f).fab = s.fab := rfl
@[simp] theorem State.modEng_fw (s : State) (n : Nat) (f : Eng → Eng) : (s.modEng n f).fw = s.fw := rfl
@[simp] theorem State.modEng_isl (s : State) (n : Nat) (f : Eng → Eng) : (s.modEng n f).isl = s.isl := rfl
@[simp] theorem State.modEng_life (s : State) (n : Nat) (f : Eng → Eng) : (s.modEng n f).life = s.life := rfl
@[simp] theorem State.modEng_test (s : State) (n : Nat) (f : Eng → Eng) : (s.modEng n f).test = s.test := rfl
@[simp] theorem State.modEng_power (s : State) (n : Nat) (f : Eng → Eng) : (s.modEng n f).power = s.power := rfl
@[simp] theorem State.modEng_clock (s : State) (n : Nat) (f : Eng → Eng) : (s.modEng n f).clock = s.clock := rfl
@[simp] theorem State.modEng_link (s : State) (n : Nat) (f : Eng → Eng) : (s.modEng n f).link = s.link := rfl
@[simp] theorem State.modEng_therm (s : State) (n : Nat) (f : Eng → Eng) : (s.modEng n f).therm = s.therm := rfl
@[simp] theorem State.modEng_mode (s : State) (n : Nat) (f : Eng → Eng) : (s.modEng n f).mode = s.mode := rfl
@[simp] theorem State.modEng_bad (s : State) (n : Nat) (f : Eng → Eng) : (s.modEng n f).bad = s.bad := rfl
@[simp] theorem State.modEng_events (s : State) (n : Nat) (f : Eng → Eng) : (s.modEng n f).events = s.events := rfl
@[simp] theorem State.modEng_memUse (s : State) (n : Nat) (f : Eng → Eng) : (s.modEng n f).memUse = s.memUse := rfl
@[simp] theorem State.modEng_released (s : State) (n : Nat) (f : Eng → Eng) : (s.modEng n f).released = s.released := rfl
@[simp] theorem State.modEng_freeCtr (s : State) (n : Nat) (f : Eng → Eng) : (s.modEng n f).freeCtr = s.freeCtr := rfl
@[simp] theorem State.modEng_pending (s : State) (n : Nat) (f : Eng → Eng) : (s.modEng n f).pending = s.pending := rfl
@[simp] theorem State.modEng_reg (s : State) (n : Nat) (f : Eng → Eng) (x : Nat) : (s.modEng n f).reg x = s.reg x := rfl
@[simp] theorem State.modEng_regN (s : State) (n : Nat) (f : Eng → Eng) (x : Nat) : (s.modEng n f).regN x = s.regN x := rfl
@[simp] theorem State.modEng_regBit (s : State) (n : Nat) (f : Eng → Eng) (x y : Nat) : (s.modEng n f).regBit x y = s.regBit x y := rfl
@[simp] theorem State.modEng_blob (s : State) (n : Nat) (f : Eng → Eng) (x : Nat) : (s.modEng n f).blob x = s.blob x := rfl
@[simp] theorem State.modEng_fb (s : State) (n : Nat) (f : Eng → Eng) (x : Nat) : (s.modEng n f).fb x = s.fb x := rfl
@[simp] theorem State.modEng_cm (s : State) (n : Nat) (f : Eng → Eng) (x : Nat) : (s.modEng n f).cm x = s.cm x := rfl
@[simp] theorem State.modEng_ev (s : State) (n : Nat) (f : Eng → Eng) (x : Nat) : (s.modEng n f).ev x = s.ev x := rfl
@[simp] theorem State.modEng_cmp (s : State) (n : Nat) (f : Eng → Eng) (x : Nat) : (s.modEng n f).cmp x = s.cmp x := rfl
@[simp] theorem State.modEng_cap (s : State) (n : Nat) (f : Eng → Eng) (x : Nat) : (s.modEng n f).cap x = s.cap x := rfl
@[simp] theorem State.modEng_group (s : State) (n : Nat) (f : Eng → Eng) (x : Nat) : (s.modEng n f).group x = s.group x := rfl
@[simp] theorem State.modEng_standIn (s : State) (n : Nat) (f : Eng → Eng) (x : Nat) : (s.modEng n f).standIn x = s.standIn x := rfl
@[simp] theorem State.modEng_path (s : State) (n : Nat) (f : Eng → Eng) (x : Path) : (s.modEng n f).path x = s.path x := rfl
@[simp] theorem State.modEng_bankSt (s : State) (n : Nat) (f : Eng → Eng) (x : Nat) : (s.modEng n f).bankSt x = s.bankSt x := rfl
@[simp] theorem State.modEng_keySlot (s : State) (n : Nat) (f : Eng → Eng) (x : Nat) : (s.modEng n f).keySlot x = s.keySlot x := rfl
@[simp] theorem State.modEng_region (s : State) (n : Nat) (f : Eng → Eng) (x : Nat) : (s.modEng n f).region x = s.region x := rfl
@[simp] theorem State.modEng_sector (s : State) (n : Nat) (f : Eng → Eng) (x : Nat) : (s.modEng n f).sector x = s.sector x := rfl
@[simp] theorem State.modEng_flBlock (s : State) (n : Nat) (f : Eng → Eng) (x : Nat) : (s.modEng n f).flBlock x = s.flBlock x := rfl
@[simp] theorem State.modEng_flBank (s : State) (n : Nat) (f : Eng → Eng) (x : Nat) : (s.modEng n f).flBank x = s.flBank x := rfl
@[simp] theorem State.modEng_flMaster (s : State) (n : Nat) (f : Eng → Eng) (x : FlashMaster) : (s.modEng n f).flMaster x = s.flMaster x := rfl
@[simp] theorem State.modEng_port (s : State) (n : Nat) (f : Eng → Eng) (x : Nat) : (s.modEng n f).port x = s.port x := rfl
@[simp] theorem State.modEng_rail (s : State) (n : Nat) (f : Eng → Eng) (x : Nat) : (s.modEng n f).rail x = s.rail x := rfl
@[simp] theorem State.modEng_member (s : State) (n : Nat) (f : Eng → Eng) (x : Nat) : (s.modEng n f).member x = s.member x := rfl

/-! ### modGrp -/

@[simp] theorem State.modGrp_regs (s : State) (g : Nat) (f : Grp → Grp) : (s.modGrp g f).regs = s.regs := rfl
@[simp] theorem State.modGrp_blobs (s : State) (g : Nat) (f : Grp → Grp) : (s.modGrp g f).blobs = s.blobs := rfl
@[simp] theorem State.modGrp_host (s : State) (g : Nat) (f : Grp → Grp) : (s.modGrp g f).host = s.host := rfl
@[simp] theorem State.modGrp_fe (s : State) (g : Nat) (f : Grp → Grp) : (s.modGrp g f).fe = s.fe := rfl
@[simp] theorem State.modGrp_eng (s : State) (g : Nat) (f : Grp → Grp) : (s.modGrp g f).eng = s.eng := rfl
@[simp] theorem State.modGrp_si (s : State) (g : Nat) (f : Grp → Grp) : (s.modGrp g f).si = s.si := rfl
@[simp] theorem State.modGrp_flash (s : State) (g : Nat) (f : Grp → Grp) : (s.modGrp g f).flash = s.flash := rfl
@[simp] theorem State.modGrp_mem (s : State) (g : Nat) (f : Grp → Grp) : (s.modGrp g f).mem = s.mem := rfl
@[simp] theorem State.modGrp_reel (s : State) (g : Nat) (f : Grp → Grp) : (s.modGrp g f).reel = s.reel := rfl
@[simp] theorem State.modGrp_cip (s : State) (g : Nat) (f : Grp → Grp) : (s.modGrp g f).cip = s.cip := rfl
@[simp] theorem State.modGrp_fab (s : State) (g : Nat) (f : Grp → Grp) : (s.modGrp g f).fab = s.fab := rfl
@[simp] theorem State.modGrp_fw (s : State) (g : Nat) (f : Grp → Grp) : (s.modGrp g f).fw = s.fw := rfl
@[simp] theorem State.modGrp_isl (s : State) (g : Nat) (f : Grp → Grp) : (s.modGrp g f).isl = s.isl := rfl
@[simp] theorem State.modGrp_life (s : State) (g : Nat) (f : Grp → Grp) : (s.modGrp g f).life = s.life := rfl
@[simp] theorem State.modGrp_test (s : State) (g : Nat) (f : Grp → Grp) : (s.modGrp g f).test = s.test := rfl
@[simp] theorem State.modGrp_power (s : State) (g : Nat) (f : Grp → Grp) : (s.modGrp g f).power = s.power := rfl
@[simp] theorem State.modGrp_clock (s : State) (g : Nat) (f : Grp → Grp) : (s.modGrp g f).clock = s.clock := rfl
@[simp] theorem State.modGrp_link (s : State) (g : Nat) (f : Grp → Grp) : (s.modGrp g f).link = s.link := rfl
@[simp] theorem State.modGrp_therm (s : State) (g : Nat) (f : Grp → Grp) : (s.modGrp g f).therm = s.therm := rfl
@[simp] theorem State.modGrp_mode (s : State) (g : Nat) (f : Grp → Grp) : (s.modGrp g f).mode = s.mode := rfl
@[simp] theorem State.modGrp_bad (s : State) (g : Nat) (f : Grp → Grp) : (s.modGrp g f).bad = s.bad := rfl
@[simp] theorem State.modGrp_events (s : State) (g : Nat) (f : Grp → Grp) : (s.modGrp g f).events = s.events := rfl
@[simp] theorem State.modGrp_memUse (s : State) (g : Nat) (f : Grp → Grp) : (s.modGrp g f).memUse = s.memUse := rfl
@[simp] theorem State.modGrp_released (s : State) (g : Nat) (f : Grp → Grp) : (s.modGrp g f).released = s.released := rfl
@[simp] theorem State.modGrp_freeCtr (s : State) (g : Nat) (f : Grp → Grp) : (s.modGrp g f).freeCtr = s.freeCtr := rfl
@[simp] theorem State.modGrp_pending (s : State) (g : Nat) (f : Grp → Grp) : (s.modGrp g f).pending = s.pending := rfl
@[simp] theorem State.modGrp_reg (s : State) (g : Nat) (f : Grp → Grp) (x : Nat) : (s.modGrp g f).reg x = s.reg x := rfl
@[simp] theorem State.modGrp_regN (s : State) (g : Nat) (f : Grp → Grp) (x : Nat) : (s.modGrp g f).regN x = s.regN x := rfl
@[simp] theorem State.modGrp_regBit (s : State) (g : Nat) (f : Grp → Grp) (x y : Nat) : (s.modGrp g f).regBit x y = s.regBit x y := rfl
@[simp] theorem State.modGrp_blob (s : State) (g : Nat) (f : Grp → Grp) (x : Nat) : (s.modGrp g f).blob x = s.blob x := rfl
@[simp] theorem State.modGrp_fb (s : State) (g : Nat) (f : Grp → Grp) (x : Nat) : (s.modGrp g f).fb x = s.fb x := rfl
@[simp] theorem State.modGrp_cm (s : State) (g : Nat) (f : Grp → Grp) (x : Nat) : (s.modGrp g f).cm x = s.cm x := rfl
@[simp] theorem State.modGrp_ev (s : State) (g : Nat) (f : Grp → Grp) (x : Nat) : (s.modGrp g f).ev x = s.ev x := rfl
@[simp] theorem State.modGrp_cmp (s : State) (g : Nat) (f : Grp → Grp) (x : Nat) : (s.modGrp g f).cmp x = s.cmp x := rfl
@[simp] theorem State.modGrp_cap (s : State) (g : Nat) (f : Grp → Grp) (x : Nat) : (s.modGrp g f).cap x = s.cap x := rfl
@[simp] theorem State.modGrp_engine (s : State) (g : Nat) (f : Grp → Grp) (x : Nat) : (s.modGrp g f).engine x = s.engine x := rfl
@[simp] theorem State.modGrp_standIn (s : State) (g : Nat) (f : Grp → Grp) (x : Nat) : (s.modGrp g f).standIn x = s.standIn x := rfl
@[simp] theorem State.modGrp_path (s : State) (g : Nat) (f : Grp → Grp) (x : Path) : (s.modGrp g f).path x = s.path x := rfl
@[simp] theorem State.modGrp_bankSt (s : State) (g : Nat) (f : Grp → Grp) (x : Nat) : (s.modGrp g f).bankSt x = s.bankSt x := rfl
@[simp] theorem State.modGrp_keySlot (s : State) (g : Nat) (f : Grp → Grp) (x : Nat) : (s.modGrp g f).keySlot x = s.keySlot x := rfl
@[simp] theorem State.modGrp_region (s : State) (g : Nat) (f : Grp → Grp) (x : Nat) : (s.modGrp g f).region x = s.region x := rfl
@[simp] theorem State.modGrp_sector (s : State) (g : Nat) (f : Grp → Grp) (x : Nat) : (s.modGrp g f).sector x = s.sector x := rfl
@[simp] theorem State.modGrp_flBlock (s : State) (g : Nat) (f : Grp → Grp) (x : Nat) : (s.modGrp g f).flBlock x = s.flBlock x := rfl
@[simp] theorem State.modGrp_flBank (s : State) (g : Nat) (f : Grp → Grp) (x : Nat) : (s.modGrp g f).flBank x = s.flBank x := rfl
@[simp] theorem State.modGrp_flMaster (s : State) (g : Nat) (f : Grp → Grp) (x : FlashMaster) : (s.modGrp g f).flMaster x = s.flMaster x := rfl
@[simp] theorem State.modGrp_port (s : State) (g : Nat) (f : Grp → Grp) (x : Nat) : (s.modGrp g f).port x = s.port x := rfl
@[simp] theorem State.modGrp_rail (s : State) (g : Nat) (f : Grp → Grp) (x : Nat) : (s.modGrp g f).rail x = s.rail x := rfl
@[simp] theorem State.modGrp_member (s : State) (g : Nat) (f : Grp → Grp) (x : Nat) : (s.modGrp g f).member x = s.member x := rfl

/-! ### modSi -/

@[simp] theorem State.modSi_regs (s : State) (j : Nat) (f : Si → Si) : (s.modSi j f).regs = s.regs := rfl
@[simp] theorem State.modSi_blobs (s : State) (j : Nat) (f : Si → Si) : (s.modSi j f).blobs = s.blobs := rfl
@[simp] theorem State.modSi_host (s : State) (j : Nat) (f : Si → Si) : (s.modSi j f).host = s.host := rfl
@[simp] theorem State.modSi_fe (s : State) (j : Nat) (f : Si → Si) : (s.modSi j f).fe = s.fe := rfl
@[simp] theorem State.modSi_eng (s : State) (j : Nat) (f : Si → Si) : (s.modSi j f).eng = s.eng := rfl
@[simp] theorem State.modSi_grp (s : State) (j : Nat) (f : Si → Si) : (s.modSi j f).grp = s.grp := rfl
@[simp] theorem State.modSi_flash (s : State) (j : Nat) (f : Si → Si) : (s.modSi j f).flash = s.flash := rfl
@[simp] theorem State.modSi_mem (s : State) (j : Nat) (f : Si → Si) : (s.modSi j f).mem = s.mem := rfl
@[simp] theorem State.modSi_reel (s : State) (j : Nat) (f : Si → Si) : (s.modSi j f).reel = s.reel := rfl
@[simp] theorem State.modSi_cip (s : State) (j : Nat) (f : Si → Si) : (s.modSi j f).cip = s.cip := rfl
@[simp] theorem State.modSi_fab (s : State) (j : Nat) (f : Si → Si) : (s.modSi j f).fab = s.fab := rfl
@[simp] theorem State.modSi_fw (s : State) (j : Nat) (f : Si → Si) : (s.modSi j f).fw = s.fw := rfl
@[simp] theorem State.modSi_isl (s : State) (j : Nat) (f : Si → Si) : (s.modSi j f).isl = s.isl := rfl
@[simp] theorem State.modSi_life (s : State) (j : Nat) (f : Si → Si) : (s.modSi j f).life = s.life := rfl
@[simp] theorem State.modSi_test (s : State) (j : Nat) (f : Si → Si) : (s.modSi j f).test = s.test := rfl
@[simp] theorem State.modSi_power (s : State) (j : Nat) (f : Si → Si) : (s.modSi j f).power = s.power := rfl
@[simp] theorem State.modSi_clock (s : State) (j : Nat) (f : Si → Si) : (s.modSi j f).clock = s.clock := rfl
@[simp] theorem State.modSi_link (s : State) (j : Nat) (f : Si → Si) : (s.modSi j f).link = s.link := rfl
@[simp] theorem State.modSi_therm (s : State) (j : Nat) (f : Si → Si) : (s.modSi j f).therm = s.therm := rfl
@[simp] theorem State.modSi_mode (s : State) (j : Nat) (f : Si → Si) : (s.modSi j f).mode = s.mode := rfl
@[simp] theorem State.modSi_bad (s : State) (j : Nat) (f : Si → Si) : (s.modSi j f).bad = s.bad := rfl
@[simp] theorem State.modSi_events (s : State) (j : Nat) (f : Si → Si) : (s.modSi j f).events = s.events := rfl
@[simp] theorem State.modSi_memUse (s : State) (j : Nat) (f : Si → Si) : (s.modSi j f).memUse = s.memUse := rfl
@[simp] theorem State.modSi_released (s : State) (j : Nat) (f : Si → Si) : (s.modSi j f).released = s.released := rfl
@[simp] theorem State.modSi_freeCtr (s : State) (j : Nat) (f : Si → Si) : (s.modSi j f).freeCtr = s.freeCtr := rfl
@[simp] theorem State.modSi_pending (s : State) (j : Nat) (f : Si → Si) : (s.modSi j f).pending = s.pending := rfl
@[simp] theorem State.modSi_reg (s : State) (j : Nat) (f : Si → Si) (x : Nat) : (s.modSi j f).reg x = s.reg x := rfl
@[simp] theorem State.modSi_regN (s : State) (j : Nat) (f : Si → Si) (x : Nat) : (s.modSi j f).regN x = s.regN x := rfl
@[simp] theorem State.modSi_regBit (s : State) (j : Nat) (f : Si → Si) (x y : Nat) : (s.modSi j f).regBit x y = s.regBit x y := rfl
@[simp] theorem State.modSi_blob (s : State) (j : Nat) (f : Si → Si) (x : Nat) : (s.modSi j f).blob x = s.blob x := rfl
@[simp] theorem State.modSi_fb (s : State) (j : Nat) (f : Si → Si) (x : Nat) : (s.modSi j f).fb x = s.fb x := rfl
@[simp] theorem State.modSi_cm (s : State) (j : Nat) (f : Si → Si) (x : Nat) : (s.modSi j f).cm x = s.cm x := rfl
@[simp] theorem State.modSi_ev (s : State) (j : Nat) (f : Si → Si) (x : Nat) : (s.modSi j f).ev x = s.ev x := rfl
@[simp] theorem State.modSi_cmp (s : State) (j : Nat) (f : Si → Si) (x : Nat) : (s.modSi j f).cmp x = s.cmp x := rfl
@[simp] theorem State.modSi_cap (s : State) (j : Nat) (f : Si → Si) (x : Nat) : (s.modSi j f).cap x = s.cap x := rfl
@[simp] theorem State.modSi_engine (s : State) (j : Nat) (f : Si → Si) (x : Nat) : (s.modSi j f).engine x = s.engine x := rfl
@[simp] theorem State.modSi_group (s : State) (j : Nat) (f : Si → Si) (x : Nat) : (s.modSi j f).group x = s.group x := rfl
@[simp] theorem State.modSi_path (s : State) (j : Nat) (f : Si → Si) (x : Path) : (s.modSi j f).path x = s.path x := rfl
@[simp] theorem State.modSi_bankSt (s : State) (j : Nat) (f : Si → Si) (x : Nat) : (s.modSi j f).bankSt x = s.bankSt x := rfl
@[simp] theorem State.modSi_keySlot (s : State) (j : Nat) (f : Si → Si) (x : Nat) : (s.modSi j f).keySlot x = s.keySlot x := rfl
@[simp] theorem State.modSi_region (s : State) (j : Nat) (f : Si → Si) (x : Nat) : (s.modSi j f).region x = s.region x := rfl
@[simp] theorem State.modSi_sector (s : State) (j : Nat) (f : Si → Si) (x : Nat) : (s.modSi j f).sector x = s.sector x := rfl
@[simp] theorem State.modSi_flBlock (s : State) (j : Nat) (f : Si → Si) (x : Nat) : (s.modSi j f).flBlock x = s.flBlock x := rfl
@[simp] theorem State.modSi_flBank (s : State) (j : Nat) (f : Si → Si) (x : Nat) : (s.modSi j f).flBank x = s.flBank x := rfl
@[simp] theorem State.modSi_flMaster (s : State) (j : Nat) (f : Si → Si) (x : FlashMaster) : (s.modSi j f).flMaster x = s.flMaster x := rfl
@[simp] theorem State.modSi_port (s : State) (j : Nat) (f : Si → Si) (x : Nat) : (s.modSi j f).port x = s.port x := rfl
@[simp] theorem State.modSi_rail (s : State) (j : Nat) (f : Si → Si) (x : Nat) : (s.modSi j f).rail x = s.rail x := rfl
@[simp] theorem State.modSi_member (s : State) (j : Nat) (f : Si → Si) (x : Nat) : (s.modSi j f).member x = s.member x := rfl

/-! ### modPath -/

@[simp] theorem State.modPath_regs (s : State) (p : Path) (f : PathSt → PathSt) : (s.modPath p f).regs = s.regs := rfl
@[simp] theorem State.modPath_blobs (s : State) (p : Path) (f : PathSt → PathSt) : (s.modPath p f).blobs = s.blobs := rfl
@[simp] theorem State.modPath_fe (s : State) (p : Path) (f : PathSt → PathSt) : (s.modPath p f).fe = s.fe := rfl
@[simp] theorem State.modPath_eng (s : State) (p : Path) (f : PathSt → PathSt) : (s.modPath p f).eng = s.eng := rfl
@[simp] theorem State.modPath_si (s : State) (p : Path) (f : PathSt → PathSt) : (s.modPath p f).si = s.si := rfl
@[simp] theorem State.modPath_grp (s : State) (p : Path) (f : PathSt → PathSt) : (s.modPath p f).grp = s.grp := rfl
@[simp] theorem State.modPath_flash (s : State) (p : Path) (f : PathSt → PathSt) : (s.modPath p f).flash = s.flash := rfl
@[simp] theorem State.modPath_mem (s : State) (p : Path) (f : PathSt → PathSt) : (s.modPath p f).mem = s.mem := rfl
@[simp] theorem State.modPath_reel (s : State) (p : Path) (f : PathSt → PathSt) : (s.modPath p f).reel = s.reel := rfl
@[simp] theorem State.modPath_cip (s : State) (p : Path) (f : PathSt → PathSt) : (s.modPath p f).cip = s.cip := rfl
@[simp] theorem State.modPath_fab (s : State) (p : Path) (f : PathSt → PathSt) : (s.modPath p f).fab = s.fab := rfl
@[simp] theorem State.modPath_fw (s : State) (p : Path) (f : PathSt → PathSt) : (s.modPath p f).fw = s.fw := rfl
@[simp] theorem State.modPath_isl (s : State) (p : Path) (f : PathSt → PathSt) : (s.modPath p f).isl = s.isl := rfl
@[simp] theorem State.modPath_life (s : State) (p : Path) (f : PathSt → PathSt) : (s.modPath p f).life = s.life := rfl
@[simp] theorem State.modPath_test (s : State) (p : Path) (f : PathSt → PathSt) : (s.modPath p f).test = s.test := rfl
@[simp] theorem State.modPath_power (s : State) (p : Path) (f : PathSt → PathSt) : (s.modPath p f).power = s.power := rfl
@[simp] theorem State.modPath_clock (s : State) (p : Path) (f : PathSt → PathSt) : (s.modPath p f).clock = s.clock := rfl
@[simp] theorem State.modPath_link (s : State) (p : Path) (f : PathSt → PathSt) : (s.modPath p f).link = s.link := rfl
@[simp] theorem State.modPath_therm (s : State) (p : Path) (f : PathSt → PathSt) : (s.modPath p f).therm = s.therm := rfl
@[simp] theorem State.modPath_mode (s : State) (p : Path) (f : PathSt → PathSt) : (s.modPath p f).mode = s.mode := rfl
@[simp] theorem State.modPath_bad (s : State) (p : Path) (f : PathSt → PathSt) : (s.modPath p f).bad = s.bad := rfl
@[simp] theorem State.modPath_events (s : State) (p : Path) (f : PathSt → PathSt) : (s.modPath p f).events = s.events := rfl
@[simp] theorem State.modPath_memUse (s : State) (p : Path) (f : PathSt → PathSt) : (s.modPath p f).memUse = s.memUse := rfl
@[simp] theorem State.modPath_released (s : State) (p : Path) (f : PathSt → PathSt) : (s.modPath p f).released = s.released := rfl
@[simp] theorem State.modPath_freeCtr (s : State) (p : Path) (f : PathSt → PathSt) : (s.modPath p f).freeCtr = s.freeCtr := rfl
@[simp] theorem State.modPath_pending (s : State) (p : Path) (f : PathSt → PathSt) : (s.modPath p f).pending = s.pending := rfl
@[simp] theorem State.modPath_host_hpi (s : State) (p : Path) (f : PathSt → PathSt) : (s.modPath p f).host.hpi = s.host.hpi := rfl
@[simp] theorem State.modPath_host_fn (s : State) (p : Path) (f : PathSt → PathSt) : (s.modPath p f).host.fn = s.host.fn := rfl
@[simp] theorem State.modPath_host_can0 (s : State) (p : Path) (f : PathSt → PathSt) : (s.modPath p f).host.can0 = s.host.can0 := rfl
@[simp] theorem State.modPath_host_can1 (s : State) (p : Path) (f : PathSt → PathSt) : (s.modPath p f).host.can1 = s.host.can1 := rfl
@[simp] theorem State.modPath_host_store (s : State) (p : Path) (f : PathSt → PathSt) : (s.modPath p f).host.store = s.host.store := rfl
@[simp] theorem State.modPath_host_waits (s : State) (p : Path) (f : PathSt → PathSt) : (s.modPath p f).host.waits = s.host.waits := rfl
@[simp] theorem State.modPath_host_attCounter (s : State) (p : Path) (f : PathSt → PathSt) : (s.modPath p f).host.attCounter = s.host.attCounter := rfl
@[simp] theorem State.modPath_reg (s : State) (p : Path) (f : PathSt → PathSt) (x : Nat) : (s.modPath p f).reg x = s.reg x := rfl
@[simp] theorem State.modPath_regN (s : State) (p : Path) (f : PathSt → PathSt) (x : Nat) : (s.modPath p f).regN x = s.regN x := rfl
@[simp] theorem State.modPath_regBit (s : State) (p : Path) (f : PathSt → PathSt) (x y : Nat) : (s.modPath p f).regBit x y = s.regBit x y := rfl
@[simp] theorem State.modPath_blob (s : State) (p : Path) (f : PathSt → PathSt) (x : Nat) : (s.modPath p f).blob x = s.blob x := rfl
@[simp] theorem State.modPath_fb (s : State) (p : Path) (f : PathSt → PathSt) (x : Nat) : (s.modPath p f).fb x = s.fb x := rfl
@[simp] theorem State.modPath_cm (s : State) (p : Path) (f : PathSt → PathSt) (x : Nat) : (s.modPath p f).cm x = s.cm x := rfl
@[simp] theorem State.modPath_ev (s : State) (p : Path) (f : PathSt → PathSt) (x : Nat) : (s.modPath p f).ev x = s.ev x := rfl
@[simp] theorem State.modPath_cmp (s : State) (p : Path) (f : PathSt → PathSt) (x : Nat) : (s.modPath p f).cmp x = s.cmp x := rfl
@[simp] theorem State.modPath_cap (s : State) (p : Path) (f : PathSt → PathSt) (x : Nat) : (s.modPath p f).cap x = s.cap x := rfl
@[simp] theorem State.modPath_engine (s : State) (p : Path) (f : PathSt → PathSt) (x : Nat) : (s.modPath p f).engine x = s.engine x := rfl
@[simp] theorem State.modPath_group (s : State) (p : Path) (f : PathSt → PathSt) (x : Nat) : (s.modPath p f).group x = s.group x := rfl
@[simp] theorem State.modPath_standIn (s : State) (p : Path) (f : PathSt → PathSt) (x : Nat) : (s.modPath p f).standIn x = s.standIn x := rfl
@[simp] theorem State.modPath_bankSt (s : State) (p : Path) (f : PathSt → PathSt) (x : Nat) : (s.modPath p f).bankSt x = s.bankSt x := rfl
@[simp] theorem State.modPath_keySlot (s : State) (p : Path) (f : PathSt → PathSt) (x : Nat) : (s.modPath p f).keySlot x = s.keySlot x := rfl
@[simp] theorem State.modPath_region (s : State) (p : Path) (f : PathSt → PathSt) (x : Nat) : (s.modPath p f).region x = s.region x := rfl
@[simp] theorem State.modPath_sector (s : State) (p : Path) (f : PathSt → PathSt) (x : Nat) : (s.modPath p f).sector x = s.sector x := rfl
@[simp] theorem State.modPath_flBlock (s : State) (p : Path) (f : PathSt → PathSt) (x : Nat) : (s.modPath p f).flBlock x = s.flBlock x := rfl
@[simp] theorem State.modPath_flBank (s : State) (p : Path) (f : PathSt → PathSt) (x : Nat) : (s.modPath p f).flBank x = s.flBank x := rfl
@[simp] theorem State.modPath_flMaster (s : State) (p : Path) (f : PathSt → PathSt) (x : FlashMaster) : (s.modPath p f).flMaster x = s.flMaster x := rfl
@[simp] theorem State.modPath_port (s : State) (p : Path) (f : PathSt → PathSt) (x : Nat) : (s.modPath p f).port x = s.port x := rfl
@[simp] theorem State.modPath_rail (s : State) (p : Path) (f : PathSt → PathSt) (x : Nat) : (s.modPath p f).rail x = s.rail x := rfl
@[simp] theorem State.modPath_member (s : State) (p : Path) (f : PathSt → PathSt) (x : Nat) : (s.modPath p f).member x = s.member x := rfl

/-! ### modHpi -/

@[simp] theorem State.modHpi_regs (s : State) (f : HpiSt → HpiSt) : (s.modHpi f).regs = s.regs := rfl
@[simp] theorem State.modHpi_blobs (s : State) (f : HpiSt → HpiSt) : (s.modHpi f).blobs = s.blobs := rfl
@[simp] theorem State.modHpi_fe (s : State) (f : HpiSt → HpiSt) : (s.modHpi f).fe = s.fe := rfl
@[simp] theorem State.modHpi_eng (s : State) (f : HpiSt → HpiSt) : (s.modHpi f).eng = s.eng := rfl
@[simp] theorem State.modHpi_si (s : State) (f : HpiSt → HpiSt) : (s.modHpi f).si = s.si := rfl
@[simp] theorem State.modHpi_grp (s : State) (f : HpiSt → HpiSt) : (s.modHpi f).grp = s.grp := rfl
@[simp] theorem State.modHpi_flash (s : State) (f : HpiSt → HpiSt) : (s.modHpi f).flash = s.flash := rfl
@[simp] theorem State.modHpi_mem (s : State) (f : HpiSt → HpiSt) : (s.modHpi f).mem = s.mem := rfl
@[simp] theorem State.modHpi_reel (s : State) (f : HpiSt → HpiSt) : (s.modHpi f).reel = s.reel := rfl
@[simp] theorem State.modHpi_cip (s : State) (f : HpiSt → HpiSt) : (s.modHpi f).cip = s.cip := rfl
@[simp] theorem State.modHpi_fab (s : State) (f : HpiSt → HpiSt) : (s.modHpi f).fab = s.fab := rfl
@[simp] theorem State.modHpi_fw (s : State) (f : HpiSt → HpiSt) : (s.modHpi f).fw = s.fw := rfl
@[simp] theorem State.modHpi_isl (s : State) (f : HpiSt → HpiSt) : (s.modHpi f).isl = s.isl := rfl
@[simp] theorem State.modHpi_life (s : State) (f : HpiSt → HpiSt) : (s.modHpi f).life = s.life := rfl
@[simp] theorem State.modHpi_test (s : State) (f : HpiSt → HpiSt) : (s.modHpi f).test = s.test := rfl
@[simp] theorem State.modHpi_power (s : State) (f : HpiSt → HpiSt) : (s.modHpi f).power = s.power := rfl
@[simp] theorem State.modHpi_clock (s : State) (f : HpiSt → HpiSt) : (s.modHpi f).clock = s.clock := rfl
@[simp] theorem State.modHpi_link (s : State) (f : HpiSt → HpiSt) : (s.modHpi f).link = s.link := rfl
@[simp] theorem State.modHpi_therm (s : State) (f : HpiSt → HpiSt) : (s.modHpi f).therm = s.therm := rfl
@[simp] theorem State.modHpi_mode (s : State) (f : HpiSt → HpiSt) : (s.modHpi f).mode = s.mode := rfl
@[simp] theorem State.modHpi_bad (s : State) (f : HpiSt → HpiSt) : (s.modHpi f).bad = s.bad := rfl
@[simp] theorem State.modHpi_events (s : State) (f : HpiSt → HpiSt) : (s.modHpi f).events = s.events := rfl
@[simp] theorem State.modHpi_memUse (s : State) (f : HpiSt → HpiSt) : (s.modHpi f).memUse = s.memUse := rfl
@[simp] theorem State.modHpi_released (s : State) (f : HpiSt → HpiSt) : (s.modHpi f).released = s.released := rfl
@[simp] theorem State.modHpi_freeCtr (s : State) (f : HpiSt → HpiSt) : (s.modHpi f).freeCtr = s.freeCtr := rfl
@[simp] theorem State.modHpi_pending (s : State) (f : HpiSt → HpiSt) : (s.modHpi f).pending = s.pending := rfl
@[simp] theorem State.modHpi_host_fn (s : State) (f : HpiSt → HpiSt) : (s.modHpi f).host.fn = s.host.fn := rfl
@[simp] theorem State.modHpi_host_can0 (s : State) (f : HpiSt → HpiSt) : (s.modHpi f).host.can0 = s.host.can0 := rfl
@[simp] theorem State.modHpi_host_can1 (s : State) (f : HpiSt → HpiSt) : (s.modHpi f).host.can1 = s.host.can1 := rfl
@[simp] theorem State.modHpi_host_store (s : State) (f : HpiSt → HpiSt) : (s.modHpi f).host.store = s.host.store := rfl
@[simp] theorem State.modHpi_host_waits (s : State) (f : HpiSt → HpiSt) : (s.modHpi f).host.waits = s.host.waits := rfl
@[simp] theorem State.modHpi_host_attCounter (s : State) (f : HpiSt → HpiSt) : (s.modHpi f).host.attCounter = s.host.attCounter := rfl
@[simp] theorem State.modHpi_reg (s : State) (f : HpiSt → HpiSt) (x : Nat) : (s.modHpi f).reg x = s.reg x := rfl
@[simp] theorem State.modHpi_regN (s : State) (f : HpiSt → HpiSt) (x : Nat) : (s.modHpi f).regN x = s.regN x := rfl
@[simp] theorem State.modHpi_regBit (s : State) (f : HpiSt → HpiSt) (x y : Nat) : (s.modHpi f).regBit x y = s.regBit x y := rfl
@[simp] theorem State.modHpi_blob (s : State) (f : HpiSt → HpiSt) (x : Nat) : (s.modHpi f).blob x = s.blob x := rfl
@[simp] theorem State.modHpi_fb (s : State) (f : HpiSt → HpiSt) (x : Nat) : (s.modHpi f).fb x = s.fb x := rfl
@[simp] theorem State.modHpi_cm (s : State) (f : HpiSt → HpiSt) (x : Nat) : (s.modHpi f).cm x = s.cm x := rfl
@[simp] theorem State.modHpi_ev (s : State) (f : HpiSt → HpiSt) (x : Nat) : (s.modHpi f).ev x = s.ev x := rfl
@[simp] theorem State.modHpi_cmp (s : State) (f : HpiSt → HpiSt) (x : Nat) : (s.modHpi f).cmp x = s.cmp x := rfl
@[simp] theorem State.modHpi_cap (s : State) (f : HpiSt → HpiSt) (x : Nat) : (s.modHpi f).cap x = s.cap x := rfl
@[simp] theorem State.modHpi_engine (s : State) (f : HpiSt → HpiSt) (x : Nat) : (s.modHpi f).engine x = s.engine x := rfl
@[simp] theorem State.modHpi_group (s : State) (f : HpiSt → HpiSt) (x : Nat) : (s.modHpi f).group x = s.group x := rfl
@[simp] theorem State.modHpi_standIn (s : State) (f : HpiSt → HpiSt) (x : Nat) : (s.modHpi f).standIn x = s.standIn x := rfl
@[simp] theorem State.modHpi_path (s : State) (f : HpiSt → HpiSt) (x : Path) : (s.modHpi f).path x = s.path x := rfl
@[simp] theorem State.modHpi_bankSt (s : State) (f : HpiSt → HpiSt) (x : Nat) : (s.modHpi f).bankSt x = s.bankSt x := rfl
@[simp] theorem State.modHpi_keySlot (s : State) (f : HpiSt → HpiSt) (x : Nat) : (s.modHpi f).keySlot x = s.keySlot x := rfl
@[simp] theorem State.modHpi_region (s : State) (f : HpiSt → HpiSt) (x : Nat) : (s.modHpi f).region x = s.region x := rfl
@[simp] theorem State.modHpi_sector (s : State) (f : HpiSt → HpiSt) (x : Nat) : (s.modHpi f).sector x = s.sector x := rfl
@[simp] theorem State.modHpi_flBlock (s : State) (f : HpiSt → HpiSt) (x : Nat) : (s.modHpi f).flBlock x = s.flBlock x := rfl
@[simp] theorem State.modHpi_flBank (s : State) (f : HpiSt → HpiSt) (x : Nat) : (s.modHpi f).flBank x = s.flBank x := rfl
@[simp] theorem State.modHpi_flMaster (s : State) (f : HpiSt → HpiSt) (x : FlashMaster) : (s.modHpi f).flMaster x = s.flMaster x := rfl
@[simp] theorem State.modHpi_port (s : State) (f : HpiSt → HpiSt) (x : Nat) : (s.modHpi f).port x = s.port x := rfl
@[simp] theorem State.modHpi_rail (s : State) (f : HpiSt → HpiSt) (x : Nat) : (s.modHpi f).rail x = s.rail x := rfl
@[simp] theorem State.modHpi_member (s : State) (f : HpiSt → HpiSt) (x : Nat) : (s.modHpi f).member x = s.member x := rfl

/-! ### modFn -/

@[simp] theorem State.modFn_regs (s : State) (f : FnSt → FnSt) : (s.modFn f).regs = s.regs := rfl
@[simp] theorem State.modFn_blobs (s : State) (f : FnSt → FnSt) : (s.modFn f).blobs = s.blobs := rfl
@[simp] theorem State.modFn_fe (s : State) (f : FnSt → FnSt) : (s.modFn f).fe = s.fe := rfl
@[simp] theorem State.modFn_eng (s : State) (f : FnSt → FnSt) : (s.modFn f).eng = s.eng := rfl
@[simp] theorem State.modFn_si (s : State) (f : FnSt → FnSt) : (s.modFn f).si = s.si := rfl
@[simp] theorem State.modFn_grp (s : State) (f : FnSt → FnSt) : (s.modFn f).grp = s.grp := rfl
@[simp] theorem State.modFn_flash (s : State) (f : FnSt → FnSt) : (s.modFn f).flash = s.flash := rfl
@[simp] theorem State.modFn_mem (s : State) (f : FnSt → FnSt) : (s.modFn f).mem = s.mem := rfl
@[simp] theorem State.modFn_reel (s : State) (f : FnSt → FnSt) : (s.modFn f).reel = s.reel := rfl
@[simp] theorem State.modFn_cip (s : State) (f : FnSt → FnSt) : (s.modFn f).cip = s.cip := rfl
@[simp] theorem State.modFn_fab (s : State) (f : FnSt → FnSt) : (s.modFn f).fab = s.fab := rfl
@[simp] theorem State.modFn_fw (s : State) (f : FnSt → FnSt) : (s.modFn f).fw = s.fw := rfl
@[simp] theorem State.modFn_isl (s : State) (f : FnSt → FnSt) : (s.modFn f).isl = s.isl := rfl
@[simp] theorem State.modFn_life (s : State) (f : FnSt → FnSt) : (s.modFn f).life = s.life := rfl
@[simp] theorem State.modFn_test (s : State) (f : FnSt → FnSt) : (s.modFn f).test = s.test := rfl
@[simp] theorem State.modFn_power (s : State) (f : FnSt → FnSt) : (s.modFn f).power = s.power := rfl
@[simp] theorem State.modFn_clock (s : State) (f : FnSt → FnSt) : (s.modFn f).clock = s.clock := rfl
@[simp] theorem State.modFn_link (s : State) (f : FnSt → FnSt) : (s.modFn f).link = s.link := rfl
@[simp] theorem State.modFn_therm (s : State) (f : FnSt → FnSt) : (s.modFn f).therm = s.therm := rfl
@[simp] theorem State.modFn_mode (s : State) (f : FnSt → FnSt) : (s.modFn f).mode = s.mode := rfl
@[simp] theorem State.modFn_bad (s : State) (f : FnSt → FnSt) : (s.modFn f).bad = s.bad := rfl
@[simp] theorem State.modFn_events (s : State) (f : FnSt → FnSt) : (s.modFn f).events = s.events := rfl
@[simp] theorem State.modFn_memUse (s : State) (f : FnSt → FnSt) : (s.modFn f).memUse = s.memUse := rfl
@[simp] theorem State.modFn_released (s : State) (f : FnSt → FnSt) : (s.modFn f).released = s.released := rfl
@[simp] theorem State.modFn_freeCtr (s : State) (f : FnSt → FnSt) : (s.modFn f).freeCtr = s.freeCtr := rfl
@[simp] theorem State.modFn_pending (s : State) (f : FnSt → FnSt) : (s.modFn f).pending = s.pending := rfl
@[simp] theorem State.modFn_host_hpi (s : State) (f : FnSt → FnSt) : (s.modFn f).host.hpi = s.host.hpi := rfl
@[simp] theorem State.modFn_host_can0 (s : State) (f : FnSt → FnSt) : (s.modFn f).host.can0 = s.host.can0 := rfl
@[simp] theorem State.modFn_host_can1 (s : State) (f : FnSt → FnSt) : (s.modFn f).host.can1 = s.host.can1 := rfl
@[simp] theorem State.modFn_host_store (s : State) (f : FnSt → FnSt) : (s.modFn f).host.store = s.host.store := rfl
@[simp] theorem State.modFn_host_waits (s : State) (f : FnSt → FnSt) : (s.modFn f).host.waits = s.host.waits := rfl
@[simp] theorem State.modFn_host_attCounter (s : State) (f : FnSt → FnSt) : (s.modFn f).host.attCounter = s.host.attCounter := rfl
@[simp] theorem State.modFn_reg (s : State) (f : FnSt → FnSt) (x : Nat) : (s.modFn f).reg x = s.reg x := rfl
@[simp] theorem State.modFn_regN (s : State) (f : FnSt → FnSt) (x : Nat) : (s.modFn f).regN x = s.regN x := rfl
@[simp] theorem State.modFn_regBit (s : State) (f : FnSt → FnSt) (x y : Nat) : (s.modFn f).regBit x y = s.regBit x y := rfl
@[simp] theorem State.modFn_blob (s : State) (f : FnSt → FnSt) (x : Nat) : (s.modFn f).blob x = s.blob x := rfl
@[simp] theorem State.modFn_fb (s : State) (f : FnSt → FnSt) (x : Nat) : (s.modFn f).fb x = s.fb x := rfl
@[simp] theorem State.modFn_cm (s : State) (f : FnSt → FnSt) (x : Nat) : (s.modFn f).cm x = s.cm x := rfl
@[simp] theorem State.modFn_ev (s : State) (f : FnSt → FnSt) (x : Nat) : (s.modFn f).ev x = s.ev x := rfl
@[simp] theorem State.modFn_cmp (s : State) (f : FnSt → FnSt) (x : Nat) : (s.modFn f).cmp x = s.cmp x := rfl
@[simp] theorem State.modFn_cap (s : State) (f : FnSt → FnSt) (x : Nat) : (s.modFn f).cap x = s.cap x := rfl
@[simp] theorem State.modFn_engine (s : State) (f : FnSt → FnSt) (x : Nat) : (s.modFn f).engine x = s.engine x := rfl
@[simp] theorem State.modFn_group (s : State) (f : FnSt → FnSt) (x : Nat) : (s.modFn f).group x = s.group x := rfl
@[simp] theorem State.modFn_standIn (s : State) (f : FnSt → FnSt) (x : Nat) : (s.modFn f).standIn x = s.standIn x := rfl
@[simp] theorem State.modFn_path (s : State) (f : FnSt → FnSt) (x : Path) : (s.modFn f).path x = s.path x := rfl
@[simp] theorem State.modFn_bankSt (s : State) (f : FnSt → FnSt) (x : Nat) : (s.modFn f).bankSt x = s.bankSt x := rfl
@[simp] theorem State.modFn_keySlot (s : State) (f : FnSt → FnSt) (x : Nat) : (s.modFn f).keySlot x = s.keySlot x := rfl
@[simp] theorem State.modFn_region (s : State) (f : FnSt → FnSt) (x : Nat) : (s.modFn f).region x = s.region x := rfl
@[simp] theorem State.modFn_sector (s : State) (f : FnSt → FnSt) (x : Nat) : (s.modFn f).sector x = s.sector x := rfl
@[simp] theorem State.modFn_flBlock (s : State) (f : FnSt → FnSt) (x : Nat) : (s.modFn f).flBlock x = s.flBlock x := rfl
@[simp] theorem State.modFn_flBank (s : State) (f : FnSt → FnSt) (x : Nat) : (s.modFn f).flBank x = s.flBank x := rfl
@[simp] theorem State.modFn_flMaster (s : State) (f : FnSt → FnSt) (x : FlashMaster) : (s.modFn f).flMaster x = s.flMaster x := rfl
@[simp] theorem State.modFn_port (s : State) (f : FnSt → FnSt) (x : Nat) : (s.modFn f).port x = s.port x := rfl
@[simp] theorem State.modFn_rail (s : State) (f : FnSt → FnSt) (x : Nat) : (s.modFn f).rail x = s.rail x := rfl
@[simp] theorem State.modFn_member (s : State) (f : FnSt → FnSt) (x : Nat) : (s.modFn f).member x = s.member x := rfl

/-! ### modStore -/

@[simp] theorem State.modStore_regs (s : State) (f : StoreSt → StoreSt) : (s.modStore f).regs = s.regs := rfl
@[simp] theorem State.modStore_blobs (s : State) (f : StoreSt → StoreSt) : (s.modStore f).blobs = s.blobs := rfl
@[simp] theorem State.modStore_fe (s : State) (f : StoreSt → StoreSt) : (s.modStore f).fe = s.fe := rfl
@[simp] theorem State.modStore_eng (s : State) (f : StoreSt → StoreSt) : (s.modStore f).eng = s.eng := rfl
@[simp] theorem State.modStore_si (s : State) (f : StoreSt → StoreSt) : (s.modStore f).si = s.si := rfl
@[simp] theorem State.modStore_grp (s : State) (f : StoreSt → StoreSt) : (s.modStore f).grp = s.grp := rfl
@[simp] theorem State.modStore_flash (s : State) (f : StoreSt → StoreSt) : (s.modStore f).flash = s.flash := rfl
@[simp] theorem State.modStore_mem (s : State) (f : StoreSt → StoreSt) : (s.modStore f).mem = s.mem := rfl
@[simp] theorem State.modStore_reel (s : State) (f : StoreSt → StoreSt) : (s.modStore f).reel = s.reel := rfl
@[simp] theorem State.modStore_cip (s : State) (f : StoreSt → StoreSt) : (s.modStore f).cip = s.cip := rfl
@[simp] theorem State.modStore_fab (s : State) (f : StoreSt → StoreSt) : (s.modStore f).fab = s.fab := rfl
@[simp] theorem State.modStore_fw (s : State) (f : StoreSt → StoreSt) : (s.modStore f).fw = s.fw := rfl
@[simp] theorem State.modStore_isl (s : State) (f : StoreSt → StoreSt) : (s.modStore f).isl = s.isl := rfl
@[simp] theorem State.modStore_life (s : State) (f : StoreSt → StoreSt) : (s.modStore f).life = s.life := rfl
@[simp] theorem State.modStore_test (s : State) (f : StoreSt → StoreSt) : (s.modStore f).test = s.test := rfl
@[simp] theorem State.modStore_power (s : State) (f : StoreSt → StoreSt) : (s.modStore f).power = s.power := rfl
@[simp] theorem State.modStore_clock (s : State) (f : StoreSt → StoreSt) : (s.modStore f).clock = s.clock := rfl
@[simp] theorem State.modStore_link (s : State) (f : StoreSt → StoreSt) : (s.modStore f).link = s.link := rfl
@[simp] theorem State.modStore_therm (s : State) (f : StoreSt → StoreSt) : (s.modStore f).therm = s.therm := rfl
@[simp] theorem State.modStore_mode (s : State) (f : StoreSt → StoreSt) : (s.modStore f).mode = s.mode := rfl
@[simp] theorem State.modStore_bad (s : State) (f : StoreSt → StoreSt) : (s.modStore f).bad = s.bad := rfl
@[simp] theorem State.modStore_events (s : State) (f : StoreSt → StoreSt) : (s.modStore f).events = s.events := rfl
@[simp] theorem State.modStore_memUse (s : State) (f : StoreSt → StoreSt) : (s.modStore f).memUse = s.memUse := rfl
@[simp] theorem State.modStore_released (s : State) (f : StoreSt → StoreSt) : (s.modStore f).released = s.released := rfl
@[simp] theorem State.modStore_freeCtr (s : State) (f : StoreSt → StoreSt) : (s.modStore f).freeCtr = s.freeCtr := rfl
@[simp] theorem State.modStore_pending (s : State) (f : StoreSt → StoreSt) : (s.modStore f).pending = s.pending := rfl
@[simp] theorem State.modStore_host_hpi (s : State) (f : StoreSt → StoreSt) : (s.modStore f).host.hpi = s.host.hpi := rfl
@[simp] theorem State.modStore_host_fn (s : State) (f : StoreSt → StoreSt) : (s.modStore f).host.fn = s.host.fn := rfl
@[simp] theorem State.modStore_host_can0 (s : State) (f : StoreSt → StoreSt) : (s.modStore f).host.can0 = s.host.can0 := rfl
@[simp] theorem State.modStore_host_can1 (s : State) (f : StoreSt → StoreSt) : (s.modStore f).host.can1 = s.host.can1 := rfl
@[simp] theorem State.modStore_host_waits (s : State) (f : StoreSt → StoreSt) : (s.modStore f).host.waits = s.host.waits := rfl
@[simp] theorem State.modStore_host_attCounter (s : State) (f : StoreSt → StoreSt) : (s.modStore f).host.attCounter = s.host.attCounter := rfl
@[simp] theorem State.modStore_reg (s : State) (f : StoreSt → StoreSt) (x : Nat) : (s.modStore f).reg x = s.reg x := rfl
@[simp] theorem State.modStore_regN (s : State) (f : StoreSt → StoreSt) (x : Nat) : (s.modStore f).regN x = s.regN x := rfl
@[simp] theorem State.modStore_regBit (s : State) (f : StoreSt → StoreSt) (x y : Nat) : (s.modStore f).regBit x y = s.regBit x y := rfl
@[simp] theorem State.modStore_blob (s : State) (f : StoreSt → StoreSt) (x : Nat) : (s.modStore f).blob x = s.blob x := rfl
@[simp] theorem State.modStore_fb (s : State) (f : StoreSt → StoreSt) (x : Nat) : (s.modStore f).fb x = s.fb x := rfl
@[simp] theorem State.modStore_cm (s : State) (f : StoreSt → StoreSt) (x : Nat) : (s.modStore f).cm x = s.cm x := rfl
@[simp] theorem State.modStore_ev (s : State) (f : StoreSt → StoreSt) (x : Nat) : (s.modStore f).ev x = s.ev x := rfl
@[simp] theorem State.modStore_cmp (s : State) (f : StoreSt → StoreSt) (x : Nat) : (s.modStore f).cmp x = s.cmp x := rfl
@[simp] theorem State.modStore_cap (s : State) (f : StoreSt → StoreSt) (x : Nat) : (s.modStore f).cap x = s.cap x := rfl
@[simp] theorem State.modStore_engine (s : State) (f : StoreSt → StoreSt) (x : Nat) : (s.modStore f).engine x = s.engine x := rfl
@[simp] theorem State.modStore_group (s : State) (f : StoreSt → StoreSt) (x : Nat) : (s.modStore f).group x = s.group x := rfl
@[simp] theorem State.modStore_standIn (s : State) (f : StoreSt → StoreSt) (x : Nat) : (s.modStore f).standIn x = s.standIn x := rfl
@[simp] theorem State.modStore_path (s : State) (f : StoreSt → StoreSt) (x : Path) : (s.modStore f).path x = s.path x := rfl
@[simp] theorem State.modStore_bankSt (s : State) (f : StoreSt → StoreSt) (x : Nat) : (s.modStore f).bankSt x = s.bankSt x := rfl
@[simp] theorem State.modStore_keySlot (s : State) (f : StoreSt → StoreSt) (x : Nat) : (s.modStore f).keySlot x = s.keySlot x := rfl
@[simp] theorem State.modStore_region (s : State) (f : StoreSt → StoreSt) (x : Nat) : (s.modStore f).region x = s.region x := rfl
@[simp] theorem State.modStore_sector (s : State) (f : StoreSt → StoreSt) (x : Nat) : (s.modStore f).sector x = s.sector x := rfl
@[simp] theorem State.modStore_flBlock (s : State) (f : StoreSt → StoreSt) (x : Nat) : (s.modStore f).flBlock x = s.flBlock x := rfl
@[simp] theorem State.modStore_flBank (s : State) (f : StoreSt → StoreSt) (x : Nat) : (s.modStore f).flBank x = s.flBank x := rfl
@[simp] theorem State.modStore_flMaster (s : State) (f : StoreSt → StoreSt) (x : FlashMaster) : (s.modStore f).flMaster x = s.flMaster x := rfl
@[simp] theorem State.modStore_port (s : State) (f : StoreSt → StoreSt) (x : Nat) : (s.modStore f).port x = s.port x := rfl
@[simp] theorem State.modStore_rail (s : State) (f : StoreSt → StoreSt) (x : Nat) : (s.modStore f).rail x = s.rail x := rfl
@[simp] theorem State.modStore_member (s : State) (f : StoreSt → StoreSt) (x : Nat) : (s.modStore f).member x = s.member x := rfl

/-! ### modBank -/

@[simp] theorem State.modBank_regs (s : State) (b : Nat) (f : BankSt → BankSt) : (s.modBank b f).regs = s.regs := rfl
@[simp] theorem State.modBank_blobs (s : State) (b : Nat) (f : BankSt → BankSt) : (s.modBank b f).blobs = s.blobs := rfl
@[simp] theorem State.modBank_host (s : State) (b : Nat) (f : BankSt → BankSt) : (s.modBank b f).host = s.host := rfl
@[simp] theorem State.modBank_fe (s : State) (b : Nat) (f : BankSt → BankSt) : (s.modBank b f).fe = s.fe := rfl
@[simp] theorem State.modBank_eng (s : State) (b : Nat) (f : BankSt → BankSt) : (s.modBank b f).eng = s.eng := rfl
@[simp] theorem State.modBank_si (s : State) (b : Nat) (f : BankSt → BankSt) : (s.modBank b f).si = s.si := rfl
@[simp] theorem State.modBank_grp (s : State) (b : Nat) (f : BankSt → BankSt) : (s.modBank b f).grp = s.grp := rfl
@[simp] theorem State.modBank_flash (s : State) (b : Nat) (f : BankSt → BankSt) : (s.modBank b f).flash = s.flash := rfl
@[simp] theorem State.modBank_reel (s : State) (b : Nat) (f : BankSt → BankSt) : (s.modBank b f).reel = s.reel := rfl
@[simp] theorem State.modBank_cip (s : State) (b : Nat) (f : BankSt → BankSt) : (s.modBank b f).cip = s.cip := rfl
@[simp] theorem State.modBank_fab (s : State) (b : Nat) (f : BankSt → BankSt) : (s.modBank b f).fab = s.fab := rfl
@[simp] theorem State.modBank_fw (s : State) (b : Nat) (f : BankSt → BankSt) : (s.modBank b f).fw = s.fw := rfl
@[simp] theorem State.modBank_isl (s : State) (b : Nat) (f : BankSt → BankSt) : (s.modBank b f).isl = s.isl := rfl
@[simp] theorem State.modBank_life (s : State) (b : Nat) (f : BankSt → BankSt) : (s.modBank b f).life = s.life := rfl
@[simp] theorem State.modBank_test (s : State) (b : Nat) (f : BankSt → BankSt) : (s.modBank b f).test = s.test := rfl
@[simp] theorem State.modBank_power (s : State) (b : Nat) (f : BankSt → BankSt) : (s.modBank b f).power = s.power := rfl
@[simp] theorem State.modBank_clock (s : State) (b : Nat) (f : BankSt → BankSt) : (s.modBank b f).clock = s.clock := rfl
@[simp] theorem State.modBank_link (s : State) (b : Nat) (f : BankSt → BankSt) : (s.modBank b f).link = s.link := rfl
@[simp] theorem State.modBank_therm (s : State) (b : Nat) (f : BankSt → BankSt) : (s.modBank b f).therm = s.therm := rfl
@[simp] theorem State.modBank_mode (s : State) (b : Nat) (f : BankSt → BankSt) : (s.modBank b f).mode = s.mode := rfl
@[simp] theorem State.modBank_bad (s : State) (b : Nat) (f : BankSt → BankSt) : (s.modBank b f).bad = s.bad := rfl
@[simp] theorem State.modBank_events (s : State) (b : Nat) (f : BankSt → BankSt) : (s.modBank b f).events = s.events := rfl
@[simp] theorem State.modBank_memUse (s : State) (b : Nat) (f : BankSt → BankSt) : (s.modBank b f).memUse = s.memUse := rfl
@[simp] theorem State.modBank_released (s : State) (b : Nat) (f : BankSt → BankSt) : (s.modBank b f).released = s.released := rfl
@[simp] theorem State.modBank_freeCtr (s : State) (b : Nat) (f : BankSt → BankSt) : (s.modBank b f).freeCtr = s.freeCtr := rfl
@[simp] theorem State.modBank_pending (s : State) (b : Nat) (f : BankSt → BankSt) : (s.modBank b f).pending = s.pending := rfl
@[simp] theorem State.modBank_reg (s : State) (b : Nat) (f : BankSt → BankSt) (x : Nat) : (s.modBank b f).reg x = s.reg x := rfl
@[simp] theorem State.modBank_regN (s : State) (b : Nat) (f : BankSt → BankSt) (x : Nat) : (s.modBank b f).regN x = s.regN x := rfl
@[simp] theorem State.modBank_regBit (s : State) (b : Nat) (f : BankSt → BankSt) (x y : Nat) : (s.modBank b f).regBit x y = s.regBit x y := rfl
@[simp] theorem State.modBank_blob (s : State) (b : Nat) (f : BankSt → BankSt) (x : Nat) : (s.modBank b f).blob x = s.blob x := rfl
@[simp] theorem State.modBank_fb (s : State) (b : Nat) (f : BankSt → BankSt) (x : Nat) : (s.modBank b f).fb x = s.fb x := rfl
@[simp] theorem State.modBank_cm (s : State) (b : Nat) (f : BankSt → BankSt) (x : Nat) : (s.modBank b f).cm x = s.cm x := rfl
@[simp] theorem State.modBank_ev (s : State) (b : Nat) (f : BankSt → BankSt) (x : Nat) : (s.modBank b f).ev x = s.ev x := rfl
@[simp] theorem State.modBank_cmp (s : State) (b : Nat) (f : BankSt → BankSt) (x : Nat) : (s.modBank b f).cmp x = s.cmp x := rfl
@[simp] theorem State.modBank_cap (s : State) (b : Nat) (f : BankSt → BankSt) (x : Nat) : (s.modBank b f).cap x = s.cap x := rfl
@[simp] theorem State.modBank_engine (s : State) (b : Nat) (f : BankSt → BankSt) (x : Nat) : (s.modBank b f).engine x = s.engine x := rfl
@[simp] theorem State.modBank_group (s : State) (b : Nat) (f : BankSt → BankSt) (x : Nat) : (s.modBank b f).group x = s.group x := rfl
@[simp] theorem State.modBank_standIn (s : State) (b : Nat) (f : BankSt → BankSt) (x : Nat) : (s.modBank b f).standIn x = s.standIn x := rfl
@[simp] theorem State.modBank_path (s : State) (b : Nat) (f : BankSt → BankSt) (x : Path) : (s.modBank b f).path x = s.path x := rfl
@[simp] theorem State.modBank_keySlot (s : State) (b : Nat) (f : BankSt → BankSt) (x : Nat) : (s.modBank b f).keySlot x = s.keySlot x := rfl
@[simp] theorem State.modBank_region (s : State) (b : Nat) (f : BankSt → BankSt) (x : Nat) : (s.modBank b f).region x = s.region x := rfl
@[simp] theorem State.modBank_sector (s : State) (b : Nat) (f : BankSt → BankSt) (x : Nat) : (s.modBank b f).sector x = s.sector x := rfl
@[simp] theorem State.modBank_flBlock (s : State) (b : Nat) (f : BankSt → BankSt) (x : Nat) : (s.modBank b f).flBlock x = s.flBlock x := rfl
@[simp] theorem State.modBank_flBank (s : State) (b : Nat) (f : BankSt → BankSt) (x : Nat) : (s.modBank b f).flBank x = s.flBank x := rfl
@[simp] theorem State.modBank_flMaster (s : State) (b : Nat) (f : BankSt → BankSt) (x : FlashMaster) : (s.modBank b f).flMaster x = s.flMaster x := rfl
@[simp] theorem State.modBank_port (s : State) (b : Nat) (f : BankSt → BankSt) (x : Nat) : (s.modBank b f).port x = s.port x := rfl
@[simp] theorem State.modBank_rail (s : State) (b : Nat) (f : BankSt → BankSt) (x : Nat) : (s.modBank b f).rail x = s.rail x := rfl
@[simp] theorem State.modBank_member (s : State) (b : Nat) (f : BankSt → BankSt) (x : Nat) : (s.modBank b f).member x = s.member x := rfl

/-! ### modMem -/

@[simp] theorem State.modMem_regs (s : State) (f : MemSt → MemSt) : (s.modMem f).regs = s.regs := rfl
@[simp] theorem State.modMem_blobs (s : State) (f : MemSt → MemSt) : (s.modMem f).blobs = s.blobs := rfl
@[simp] theorem State.modMem_host (s : State) (f : MemSt → MemSt) : (s.modMem f).host = s.host := rfl
@[simp] theorem State.modMem_fe (s : State) (f : MemSt → MemSt) : (s.modMem f).fe = s.fe := rfl
@[simp] theorem State.modMem_eng (s : State) (f : MemSt → MemSt) : (s.modMem f).eng = s.eng := rfl
@[simp] theorem State.modMem_si (s : State) (f : MemSt → MemSt) : (s.modMem f).si = s.si := rfl
@[simp] theorem State.modMem_grp (s : State) (f : MemSt → MemSt) : (s.modMem f).grp = s.grp := rfl
@[simp] theorem State.modMem_flash (s : State) (f : MemSt → MemSt) : (s.modMem f).flash = s.flash := rfl
@[simp] theorem State.modMem_reel (s : State) (f : MemSt → MemSt) : (s.modMem f).reel = s.reel := rfl
@[simp] theorem State.modMem_cip (s : State) (f : MemSt → MemSt) : (s.modMem f).cip = s.cip := rfl
@[simp] theorem State.modMem_fab (s : State) (f : MemSt → MemSt) : (s.modMem f).fab = s.fab := rfl
@[simp] theorem State.modMem_fw (s : State) (f : MemSt → MemSt) : (s.modMem f).fw = s.fw := rfl
@[simp] theorem State.modMem_isl (s : State) (f : MemSt → MemSt) : (s.modMem f).isl = s.isl := rfl
@[simp] theorem State.modMem_life (s : State) (f : MemSt → MemSt) : (s.modMem f).life = s.life := rfl
@[simp] theorem State.modMem_test (s : State) (f : MemSt → MemSt) : (s.modMem f).test = s.test := rfl
@[simp] theorem State.modMem_power (s : State) (f : MemSt → MemSt) : (s.modMem f).power = s.power := rfl
@[simp] theorem State.modMem_clock (s : State) (f : MemSt → MemSt) : (s.modMem f).clock = s.clock := rfl
@[simp] theorem State.modMem_link (s : State) (f : MemSt → MemSt) : (s.modMem f).link = s.link := rfl
@[simp] theorem State.modMem_therm (s : State) (f : MemSt → MemSt) : (s.modMem f).therm = s.therm := rfl
@[simp] theorem State.modMem_mode (s : State) (f : MemSt → MemSt) : (s.modMem f).mode = s.mode := rfl
@[simp] theorem State.modMem_bad (s : State) (f : MemSt → MemSt) : (s.modMem f).bad = s.bad := rfl
@[simp] theorem State.modMem_events (s : State) (f : MemSt → MemSt) : (s.modMem f).events = s.events := rfl
@[simp] theorem State.modMem_memUse (s : State) (f : MemSt → MemSt) : (s.modMem f).memUse = s.memUse := rfl
@[simp] theorem State.modMem_released (s : State) (f : MemSt → MemSt) : (s.modMem f).released = s.released := rfl
@[simp] theorem State.modMem_freeCtr (s : State) (f : MemSt → MemSt) : (s.modMem f).freeCtr = s.freeCtr := rfl
@[simp] theorem State.modMem_pending (s : State) (f : MemSt → MemSt) : (s.modMem f).pending = s.pending := rfl
@[simp] theorem State.modMem_reg (s : State) (f : MemSt → MemSt) (x : Nat) : (s.modMem f).reg x = s.reg x := rfl
@[simp] theorem State.modMem_regN (s : State) (f : MemSt → MemSt) (x : Nat) : (s.modMem f).regN x = s.regN x := rfl
@[simp] theorem State.modMem_regBit (s : State) (f : MemSt → MemSt) (x y : Nat) : (s.modMem f).regBit x y = s.regBit x y := rfl
@[simp] theorem State.modMem_blob (s : State) (f : MemSt → MemSt) (x : Nat) : (s.modMem f).blob x = s.blob x := rfl
@[simp] theorem State.modMem_fb (s : State) (f : MemSt → MemSt) (x : Nat) : (s.modMem f).fb x = s.fb x := rfl
@[simp] theorem State.modMem_cm (s : State) (f : MemSt → MemSt) (x : Nat) : (s.modMem f).cm x = s.cm x := rfl
@[simp] theorem State.modMem_ev (s : State) (f : MemSt → MemSt) (x : Nat) : (s.modMem f).ev x = s.ev x := rfl
@[simp] theorem State.modMem_cmp (s : State) (f : MemSt → MemSt) (x : Nat) : (s.modMem f).cmp x = s.cmp x := rfl
@[simp] theorem State.modMem_cap (s : State) (f : MemSt → MemSt) (x : Nat) : (s.modMem f).cap x = s.cap x := rfl
@[simp] theorem State.modMem_engine (s : State) (f : MemSt → MemSt) (x : Nat) : (s.modMem f).engine x = s.engine x := rfl
@[simp] theorem State.modMem_group (s : State) (f : MemSt → MemSt) (x : Nat) : (s.modMem f).group x = s.group x := rfl
@[simp] theorem State.modMem_standIn (s : State) (f : MemSt → MemSt) (x : Nat) : (s.modMem f).standIn x = s.standIn x := rfl
@[simp] theorem State.modMem_path (s : State) (f : MemSt → MemSt) (x : Path) : (s.modMem f).path x = s.path x := rfl
@[simp] theorem State.modMem_keySlot (s : State) (f : MemSt → MemSt) (x : Nat) : (s.modMem f).keySlot x = s.keySlot x := rfl
@[simp] theorem State.modMem_region (s : State) (f : MemSt → MemSt) (x : Nat) : (s.modMem f).region x = s.region x := rfl
@[simp] theorem State.modMem_sector (s : State) (f : MemSt → MemSt) (x : Nat) : (s.modMem f).sector x = s.sector x := rfl
@[simp] theorem State.modMem_flBlock (s : State) (f : MemSt → MemSt) (x : Nat) : (s.modMem f).flBlock x = s.flBlock x := rfl
@[simp] theorem State.modMem_flBank (s : State) (f : MemSt → MemSt) (x : Nat) : (s.modMem f).flBank x = s.flBank x := rfl
@[simp] theorem State.modMem_flMaster (s : State) (f : MemSt → MemSt) (x : FlashMaster) : (s.modMem f).flMaster x = s.flMaster x := rfl
@[simp] theorem State.modMem_port (s : State) (f : MemSt → MemSt) (x : Nat) : (s.modMem f).port x = s.port x := rfl
@[simp] theorem State.modMem_rail (s : State) (f : MemSt → MemSt) (x : Nat) : (s.modMem f).rail x = s.rail x := rfl
@[simp] theorem State.modMem_member (s : State) (f : MemSt → MemSt) (x : Nat) : (s.modMem f).member x = s.member x := rfl

/-! ### modCip -/

@[simp] theorem State.modCip_regs (s : State) (f : CipherSt → CipherSt) : (s.modCip f).regs = s.regs := rfl
@[simp] theorem State.modCip_blobs (s : State) (f : CipherSt → CipherSt) : (s.modCip f).blobs = s.blobs := rfl
@[simp] theorem State.modCip_host (s : State) (f : CipherSt → CipherSt) : (s.modCip f).host = s.host := rfl
@[simp] theorem State.modCip_fe (s : State) (f : CipherSt → CipherSt) : (s.modCip f).fe = s.fe := rfl
@[simp] theorem State.modCip_eng (s : State) (f : CipherSt → CipherSt) : (s.modCip f).eng = s.eng := rfl
@[simp] theorem State.modCip_si (s : State) (f : CipherSt → CipherSt) : (s.modCip f).si = s.si := rfl
@[simp] theorem State.modCip_grp (s : State) (f : CipherSt → CipherSt) : (s.modCip f).grp = s.grp := rfl
@[simp] theorem State.modCip_flash (s : State) (f : CipherSt → CipherSt) : (s.modCip f).flash = s.flash := rfl
@[simp] theorem State.modCip_mem (s : State) (f : CipherSt → CipherSt) : (s.modCip f).mem = s.mem := rfl
@[simp] theorem State.modCip_reel (s : State) (f : CipherSt → CipherSt) : (s.modCip f).reel = s.reel := rfl
@[simp] theorem State.modCip_fab (s : State) (f : CipherSt → CipherSt) : (s.modCip f).fab = s.fab := rfl
@[simp] theorem State.modCip_fw (s : State) (f : CipherSt → CipherSt) : (s.modCip f).fw = s.fw := rfl
@[simp] theorem State.modCip_isl (s : State) (f : CipherSt → CipherSt) : (s.modCip f).isl = s.isl := rfl
@[simp] theorem State.modCip_life (s : State) (f : CipherSt → CipherSt) : (s.modCip f).life = s.life := rfl
@[simp] theorem State.modCip_test (s : State) (f : CipherSt → CipherSt) : (s.modCip f).test = s.test := rfl
@[simp] theorem State.modCip_power (s : State) (f : CipherSt → CipherSt) : (s.modCip f).power = s.power := rfl
@[simp] theorem State.modCip_clock (s : State) (f : CipherSt → CipherSt) : (s.modCip f).clock = s.clock := rfl
@[simp] theorem State.modCip_link (s : State) (f : CipherSt → CipherSt) : (s.modCip f).link = s.link := rfl
@[simp] theorem State.modCip_therm (s : State) (f : CipherSt → CipherSt) : (s.modCip f).therm = s.therm := rfl
@[simp] theorem State.modCip_mode (s : State) (f : CipherSt → CipherSt) : (s.modCip f).mode = s.mode := rfl
@[simp] theorem State.modCip_bad (s : State) (f : CipherSt → CipherSt) : (s.modCip f).bad = s.bad := rfl
@[simp] theorem State.modCip_events (s : State) (f : CipherSt → CipherSt) : (s.modCip f).events = s.events := rfl
@[simp] theorem State.modCip_memUse (s : State) (f : CipherSt → CipherSt) : (s.modCip f).memUse = s.memUse := rfl
@[simp] theorem State.modCip_released (s : State) (f : CipherSt → CipherSt) : (s.modCip f).released = s.released := rfl
@[simp] theorem State.modCip_freeCtr (s : State) (f : CipherSt → CipherSt) : (s.modCip f).freeCtr = s.freeCtr := rfl
@[simp] theorem State.modCip_pending (s : State) (f : CipherSt → CipherSt) : (s.modCip f).pending = s.pending := rfl
@[simp] theorem State.modCip_reg (s : State) (f : CipherSt → CipherSt) (x : Nat) : (s.modCip f).reg x = s.reg x := rfl
@[simp] theorem State.modCip_regN (s : State) (f : CipherSt → CipherSt) (x : Nat) : (s.modCip f).regN x = s.regN x := rfl
@[simp] theorem State.modCip_regBit (s : State) (f : CipherSt → CipherSt) (x y : Nat) : (s.modCip f).regBit x y = s.regBit x y := rfl
@[simp] theorem State.modCip_blob (s : State) (f : CipherSt → CipherSt) (x : Nat) : (s.modCip f).blob x = s.blob x := rfl
@[simp] theorem State.modCip_fb (s : State) (f : CipherSt → CipherSt) (x : Nat) : (s.modCip f).fb x = s.fb x := rfl
@[simp] theorem State.modCip_cm (s : State) (f : CipherSt → CipherSt) (x : Nat) : (s.modCip f).cm x = s.cm x := rfl
@[simp] theorem State.modCip_ev (s : State) (f : CipherSt → CipherSt) (x : Nat) : (s.modCip f).ev x = s.ev x := rfl
@[simp] theorem State.modCip_cmp (s : State) (f : CipherSt → CipherSt) (x : Nat) : (s.modCip f).cmp x = s.cmp x := rfl
@[simp] theorem State.modCip_cap (s : State) (f : CipherSt → CipherSt) (x : Nat) : (s.modCip f).cap x = s.cap x := rfl
@[simp] theorem State.modCip_engine (s : State) (f : CipherSt → CipherSt) (x : Nat) : (s.modCip f).engine x = s.engine x := rfl
@[simp] theorem State.modCip_group (s : State) (f : CipherSt → CipherSt) (x : Nat) : (s.modCip f).group x = s.group x := rfl
@[simp] theorem State.modCip_standIn (s : State) (f : CipherSt → CipherSt) (x : Nat) : (s.modCip f).standIn x = s.standIn x := rfl
@[simp] theorem State.modCip_path (s : State) (f : CipherSt → CipherSt) (x : Path) : (s.modCip f).path x = s.path x := rfl
@[simp] theorem State.modCip_bankSt (s : State) (f : CipherSt → CipherSt) (x : Nat) : (s.modCip f).bankSt x = s.bankSt x := rfl
@[simp] theorem State.modCip_flBlock (s : State) (f : CipherSt → CipherSt) (x : Nat) : (s.modCip f).flBlock x = s.flBlock x := rfl
@[simp] theorem State.modCip_flBank (s : State) (f : CipherSt → CipherSt) (x : Nat) : (s.modCip f).flBank x = s.flBank x := rfl
@[simp] theorem State.modCip_flMaster (s : State) (f : CipherSt → CipherSt) (x : FlashMaster) : (s.modCip f).flMaster x = s.flMaster x := rfl
@[simp] theorem State.modCip_port (s : State) (f : CipherSt → CipherSt) (x : Nat) : (s.modCip f).port x = s.port x := rfl
@[simp] theorem State.modCip_rail (s : State) (f : CipherSt → CipherSt) (x : Nat) : (s.modCip f).rail x = s.rail x := rfl
@[simp] theorem State.modCip_member (s : State) (f : CipherSt → CipherSt) (x : Nat) : (s.modCip f).member x = s.member x := rfl

/-! ### modKey -/

@[simp] theorem State.modKey_regs (s : State) (i : Nat) (f : KeySlot → KeySlot) : (s.modKey i f).regs = s.regs := rfl
@[simp] theorem State.modKey_blobs (s : State) (i : Nat) (f : KeySlot → KeySlot) : (s.modKey i f).blobs = s.blobs := rfl
@[simp] theorem State.modKey_host (s : State) (i : Nat) (f : KeySlot → KeySlot) : (s.modKey i f).host = s.host := rfl
@[simp] theorem State.modKey_fe (s : State) (i : Nat) (f : KeySlot → KeySlot) : (s.modKey i f).fe = s.fe := rfl
@[simp] theorem State.modKey_eng (s : State) (i : Nat) (f : KeySlot → KeySlot) : (s.modKey i f).eng = s.eng := rfl
@[simp] theorem State.modKey_si (s : State) (i : Nat) (f : KeySlot → KeySlot) : (s.modKey i f).si = s.si := rfl
@[simp] theorem State.modKey_grp (s : State) (i : Nat) (f : KeySlot → KeySlot) : (s.modKey i f).grp = s.grp := rfl
@[simp] theorem State.modKey_flash (s : State) (i : Nat) (f : KeySlot → KeySlot) : (s.modKey i f).flash = s.flash := rfl
@[simp] theorem State.modKey_mem (s : State) (i : Nat) (f : KeySlot → KeySlot) : (s.modKey i f).mem = s.mem := rfl
@[simp] theorem State.modKey_reel (s : State) (i : Nat) (f : KeySlot → KeySlot) : (s.modKey i f).reel = s.reel := rfl
@[simp] theorem State.modKey_fab (s : State) (i : Nat) (f : KeySlot → KeySlot) : (s.modKey i f).fab = s.fab := rfl
@[simp] theorem State.modKey_fw (s : State) (i : Nat) (f : KeySlot → KeySlot) : (s.modKey i f).fw = s.fw := rfl
@[simp] theorem State.modKey_isl (s : State) (i : Nat) (f : KeySlot → KeySlot) : (s.modKey i f).isl = s.isl := rfl
@[simp] theorem State.modKey_life (s : State) (i : Nat) (f : KeySlot → KeySlot) : (s.modKey i f).life = s.life := rfl
@[simp] theorem State.modKey_test (s : State) (i : Nat) (f : KeySlot → KeySlot) : (s.modKey i f).test = s.test := rfl
@[simp] theorem State.modKey_power (s : State) (i : Nat) (f : KeySlot → KeySlot) : (s.modKey i f).power = s.power := rfl
@[simp] theorem State.modKey_clock (s : State) (i : Nat) (f : KeySlot → KeySlot) : (s.modKey i f).clock = s.clock := rfl
@[simp] theorem State.modKey_link (s : State) (i : Nat) (f : KeySlot → KeySlot) : (s.modKey i f).link = s.link := rfl
@[simp] theorem State.modKey_therm (s : State) (i : Nat) (f : KeySlot → KeySlot) : (s.modKey i f).therm = s.therm := rfl
@[simp] theorem State.modKey_mode (s : State) (i : Nat) (f : KeySlot → KeySlot) : (s.modKey i f).mode = s.mode := rfl
@[simp] theorem State.modKey_bad (s : State) (i : Nat) (f : KeySlot → KeySlot) : (s.modKey i f).bad = s.bad := rfl
@[simp] theorem State.modKey_events (s : State) (i : Nat) (f : KeySlot → KeySlot) : (s.modKey i f).events = s.events := rfl
@[simp] theorem State.modKey_memUse (s : State) (i : Nat) (f : KeySlot → KeySlot) : (s.modKey i f).memUse = s.memUse := rfl
@[simp] theorem State.modKey_released (s : State) (i : Nat) (f : KeySlot → KeySlot) : (s.modKey i f).released = s.released := rfl
@[simp] theorem State.modKey_freeCtr (s : State) (i : Nat) (f : KeySlot → KeySlot) : (s.modKey i f).freeCtr = s.freeCtr := rfl
@[simp] theorem State.modKey_pending (s : State) (i : Nat) (f : KeySlot → KeySlot) : (s.modKey i f).pending = s.pending := rfl
@[simp] theorem State.modKey_reg (s : State) (i : Nat) (f : KeySlot → KeySlot) (x : Nat) : (s.modKey i f).reg x = s.reg x := rfl
@[simp] theorem State.modKey_regN (s : State) (i : Nat) (f : KeySlot → KeySlot) (x : Nat) : (s.modKey i f).regN x = s.regN x := rfl
@[simp] theorem State.modKey_regBit (s : State) (i : Nat) (f : KeySlot → KeySlot) (x y : Nat) : (s.modKey i f).regBit x y = s.regBit x y := rfl
@[simp] theorem State.modKey_blob (s : State) (i : Nat) (f : KeySlot → KeySlot) (x : Nat) : (s.modKey i f).blob x = s.blob x := rfl
@[simp] theorem State.modKey_fb (s : State) (i : Nat) (f : KeySlot → KeySlot) (x : Nat) : (s.modKey i f).fb x = s.fb x := rfl
@[simp] theorem State.modKey_cm (s : State) (i : Nat) (f : KeySlot → KeySlot) (x : Nat) : (s.modKey i f).cm x = s.cm x := rfl
@[simp] theorem State.modKey_ev (s : State) (i : Nat) (f : KeySlot → KeySlot) (x : Nat) : (s.modKey i f).ev x = s.ev x := rfl
@[simp] theorem State.modKey_cmp (s : State) (i : Nat) (f : KeySlot → KeySlot) (x : Nat) : (s.modKey i f).cmp x = s.cmp x := rfl
@[simp] theorem State.modKey_cap (s : State) (i : Nat) (f : KeySlot → KeySlot) (x : Nat) : (s.modKey i f).cap x = s.cap x := rfl
@[simp] theorem State.modKey_engine (s : State) (i : Nat) (f : KeySlot → KeySlot) (x : Nat) : (s.modKey i f).engine x = s.engine x := rfl
@[simp] theorem State.modKey_group (s : State) (i : Nat) (f : KeySlot → KeySlot) (x : Nat) : (s.modKey i f).group x = s.group x := rfl
@[simp] theorem State.modKey_standIn (s : State) (i : Nat) (f : KeySlot → KeySlot) (x : Nat) : (s.modKey i f).standIn x = s.standIn x := rfl
@[simp] theorem State.modKey_path (s : State) (i : Nat) (f : KeySlot → KeySlot) (x : Path) : (s.modKey i f).path x = s.path x := rfl
@[simp] theorem State.modKey_bankSt (s : State) (i : Nat) (f : KeySlot → KeySlot) (x : Nat) : (s.modKey i f).bankSt x = s.bankSt x := rfl
@[simp] theorem State.modKey_region (s : State) (i : Nat) (f : KeySlot → KeySlot) (x : Nat) : (s.modKey i f).region x = s.region x := rfl
@[simp] theorem State.modKey_sector (s : State) (i : Nat) (f : KeySlot → KeySlot) (x : Nat) : (s.modKey i f).sector x = s.sector x := rfl
@[simp] theorem State.modKey_flBlock (s : State) (i : Nat) (f : KeySlot → KeySlot) (x : Nat) : (s.modKey i f).flBlock x = s.flBlock x := rfl
@[simp] theorem State.modKey_flBank (s : State) (i : Nat) (f : KeySlot → KeySlot) (x : Nat) : (s.modKey i f).flBank x = s.flBank x := rfl
@[simp] theorem State.modKey_flMaster (s : State) (i : Nat) (f : KeySlot → KeySlot) (x : FlashMaster) : (s.modKey i f).flMaster x = s.flMaster x := rfl
@[simp] theorem State.modKey_port (s : State) (i : Nat) (f : KeySlot → KeySlot) (x : Nat) : (s.modKey i f).port x = s.port x := rfl
@[simp] theorem State.modKey_rail (s : State) (i : Nat) (f : KeySlot → KeySlot) (x : Nat) : (s.modKey i f).rail x = s.rail x := rfl
@[simp] theorem State.modKey_member (s : State) (i : Nat) (f : KeySlot → KeySlot) (x : Nat) : (s.modKey i f).member x = s.member x := rfl

/-! ### modRegion -/

@[simp] theorem State.modRegion_regs (s : State) (r : Nat) (f : StRegion → StRegion) : (s.modRegion r f).regs = s.regs := rfl
@[simp] theorem State.modRegion_blobs (s : State) (r : Nat) (f : StRegion → StRegion) : (s.modRegion r f).blobs = s.blobs := rfl
@[simp] theorem State.modRegion_host (s : State) (r : Nat) (f : StRegion → StRegion) : (s.modRegion r f).host = s.host := rfl
@[simp] theorem State.modRegion_fe (s : State) (r : Nat) (f : StRegion → StRegion) : (s.modRegion r f).fe = s.fe := rfl
@[simp] theorem State.modRegion_eng (s : State) (r : Nat) (f : StRegion → StRegion) : (s.modRegion r f).eng = s.eng := rfl
@[simp] theorem State.modRegion_si (s : State) (r : Nat) (f : StRegion → StRegion) : (s.modRegion r f).si = s.si := rfl
@[simp] theorem State.modRegion_grp (s : State) (r : Nat) (f : StRegion → StRegion) : (s.modRegion r f).grp = s.grp := rfl
@[simp] theorem State.modRegion_flash (s : State) (r : Nat) (f : StRegion → StRegion) : (s.modRegion r f).flash = s.flash := rfl
@[simp] theorem State.modRegion_mem (s : State) (r : Nat) (f : StRegion → StRegion) : (s.modRegion r f).mem = s.mem := rfl
@[simp] theorem State.modRegion_reel (s : State) (r : Nat) (f : StRegion → StRegion) : (s.modRegion r f).reel = s.reel := rfl
@[simp] theorem State.modRegion_fab (s : State) (r : Nat) (f : StRegion → StRegion) : (s.modRegion r f).fab = s.fab := rfl
@[simp] theorem State.modRegion_fw (s : State) (r : Nat) (f : StRegion → StRegion) : (s.modRegion r f).fw = s.fw := rfl
@[simp] theorem State.modRegion_isl (s : State) (r : Nat) (f : StRegion → StRegion) : (s.modRegion r f).isl = s.isl := rfl
@[simp] theorem State.modRegion_life (s : State) (r : Nat) (f : StRegion → StRegion) : (s.modRegion r f).life = s.life := rfl
@[simp] theorem State.modRegion_test (s : State) (r : Nat) (f : StRegion → StRegion) : (s.modRegion r f).test = s.test := rfl
@[simp] theorem State.modRegion_power (s : State) (r : Nat) (f : StRegion → StRegion) : (s.modRegion r f).power = s.power := rfl
@[simp] theorem State.modRegion_clock (s : State) (r : Nat) (f : StRegion → StRegion) : (s.modRegion r f).clock = s.clock := rfl
@[simp] theorem State.modRegion_link (s : State) (r : Nat) (f : StRegion → StRegion) : (s.modRegion r f).link = s.link := rfl
@[simp] theorem State.modRegion_therm (s : State) (r : Nat) (f : StRegion → StRegion) : (s.modRegion r f).therm = s.therm := rfl
@[simp] theorem State.modRegion_mode (s : State) (r : Nat) (f : StRegion → StRegion) : (s.modRegion r f).mode = s.mode := rfl
@[simp] theorem State.modRegion_bad (s : State) (r : Nat) (f : StRegion → StRegion) : (s.modRegion r f).bad = s.bad := rfl
@[simp] theorem State.modRegion_events (s : State) (r : Nat) (f : StRegion → StRegion) : (s.modRegion r f).events = s.events := rfl
@[simp] theorem State.modRegion_memUse (s : State) (r : Nat) (f : StRegion → StRegion) : (s.modRegion r f).memUse = s.memUse := rfl
@[simp] theorem State.modRegion_released (s : State) (r : Nat) (f : StRegion → StRegion) : (s.modRegion r f).released = s.released := rfl
@[simp] theorem State.modRegion_freeCtr (s : State) (r : Nat) (f : StRegion → StRegion) : (s.modRegion r f).freeCtr = s.freeCtr := rfl
@[simp] theorem State.modRegion_pending (s : State) (r : Nat) (f : StRegion → StRegion) : (s.modRegion r f).pending = s.pending := rfl
@[simp] theorem State.modRegion_reg (s : State) (r : Nat) (f : StRegion → StRegion) (x : Nat) : (s.modRegion r f).reg x = s.reg x := rfl
@[simp] theorem State.modRegion_regN (s : State) (r : Nat) (f : StRegion → StRegion) (x : Nat) : (s.modRegion r f).regN x = s.regN x := rfl
@[simp] theorem State.modRegion_regBit (s : State) (r : Nat) (f : StRegion → StRegion) (x y : Nat) : (s.modRegion r f).regBit x y = s.regBit x y := rfl
@[simp] theorem State.modRegion_blob (s : State) (r : Nat) (f : StRegion → StRegion) (x : Nat) : (s.modRegion r f).blob x = s.blob x := rfl
@[simp] theorem State.modRegion_fb (s : State) (r : Nat) (f : StRegion → StRegion) (x : Nat) : (s.modRegion r f).fb x = s.fb x := rfl
@[simp] theorem State.modRegion_cm (s : State) (r : Nat) (f : StRegion → StRegion) (x : Nat) : (s.modRegion r f).cm x = s.cm x := rfl
@[simp] theorem State.modRegion_ev (s : State) (r : Nat) (f : StRegion → StRegion) (x : Nat) : (s.modRegion r f).ev x = s.ev x := rfl
@[simp] theorem State.modRegion_cmp (s : State) (r : Nat) (f : StRegion → StRegion) (x : Nat) : (s.modRegion r f).cmp x = s.cmp x := rfl
@[simp] theorem State.modRegion_cap (s : State) (r : Nat) (f : StRegion → StRegion) (x : Nat) : (s.modRegion r f).cap x = s.cap x := rfl
@[simp] theorem State.modRegion_engine (s : State) (r : Nat) (f : StRegion → StRegion) (x : Nat) : (s.modRegion r f).engine x = s.engine x := rfl
@[simp] theorem State.modRegion_group (s : State) (r : Nat) (f : StRegion → StRegion) (x : Nat) : (s.modRegion r f).group x = s.group x := rfl
@[simp] theorem State.modRegion_standIn (s : State) (r : Nat) (f : StRegion → StRegion) (x : Nat) : (s.modRegion r f).standIn x = s.standIn x := rfl
@[simp] theorem State.modRegion_path (s : State) (r : Nat) (f : StRegion → StRegion) (x : Path) : (s.modRegion r f).path x = s.path x := rfl
@[simp] theorem State.modRegion_bankSt (s : State) (r : Nat) (f : StRegion → StRegion) (x : Nat) : (s.modRegion r f).bankSt x = s.bankSt x := rfl
@[simp] theorem State.modRegion_keySlot (s : State) (r : Nat) (f : StRegion → StRegion) (x : Nat) : (s.modRegion r f).keySlot x = s.keySlot x := rfl
@[simp] theorem State.modRegion_sector (s : State) (r : Nat) (f : StRegion → StRegion) (x : Nat) : (s.modRegion r f).sector x = s.sector x := rfl
@[simp] theorem State.modRegion_flBlock (s : State) (r : Nat) (f : StRegion → StRegion) (x : Nat) : (s.modRegion r f).flBlock x = s.flBlock x := rfl
@[simp] theorem State.modRegion_flBank (s : State) (r : Nat) (f : StRegion → StRegion) (x : Nat) : (s.modRegion r f).flBank x = s.flBank x := rfl
@[simp] theorem State.modRegion_flMaster (s : State) (r : Nat) (f : StRegion → StRegion) (x : FlashMaster) : (s.modRegion r f).flMaster x = s.flMaster x := rfl
@[simp] theorem State.modRegion_port (s : State) (r : Nat) (f : StRegion → StRegion) (x : Nat) : (s.modRegion r f).port x = s.port x := rfl
@[simp] theorem State.modRegion_rail (s : State) (r : Nat) (f : StRegion → StRegion) (x : Nat) : (s.modRegion r f).rail x = s.rail x := rfl
@[simp] theorem State.modRegion_member (s : State) (r : Nat) (f : StRegion → StRegion) (x : Nat) : (s.modRegion r f).member x = s.member x := rfl

/-! ### setSector -/

@[simp] theorem State.setSector_regs (s : State) (l : Nat) (z : Sector) : (s.setSector l z).regs = s.regs := rfl
@[simp] theorem State.setSector_blobs (s : State) (l : Nat) (z : Sector) : (s.setSector l z).blobs = s.blobs := rfl
@[simp] theorem State.setSector_host (s : State) (l : Nat) (z : Sector) : (s.setSector l z).host = s.host := rfl
@[simp] theorem State.setSector_fe (s : State) (l : Nat) (z : Sector) : (s.setSector l z).fe = s.fe := rfl
@[simp] theorem State.setSector_eng (s : State) (l : Nat) (z : Sector) : (s.setSector l z).eng = s.eng := rfl
@[simp] theorem State.setSector_si (s : State) (l : Nat) (z : Sector) : (s.setSector l z).si = s.si := rfl
@[simp] theorem State.setSector_grp (s : State) (l : Nat) (z : Sector) : (s.setSector l z).grp = s.grp := rfl
@[simp] theorem State.setSector_flash (s : State) (l : Nat) (z : Sector) : (s.setSector l z).flash = s.flash := rfl
@[simp] theorem State.setSector_mem (s : State) (l : Nat) (z : Sector) : (s.setSector l z).mem = s.mem := rfl
@[simp] theorem State.setSector_reel (s : State) (l : Nat) (z : Sector) : (s.setSector l z).reel = s.reel := rfl
@[simp] theorem State.setSector_fab (s : State) (l : Nat) (z : Sector) : (s.setSector l z).fab = s.fab := rfl
@[simp] theorem State.setSector_fw (s : State) (l : Nat) (z : Sector) : (s.setSector l z).fw = s.fw := rfl
@[simp] theorem State.setSector_isl (s : State) (l : Nat) (z : Sector) : (s.setSector l z).isl = s.isl := rfl
@[simp] theorem State.setSector_life (s : State) (l : Nat) (z : Sector) : (s.setSector l z).life = s.life := rfl
@[simp] theorem State.setSector_test (s : State) (l : Nat) (z : Sector) : (s.setSector l z).test = s.test := rfl
@[simp] theorem State.setSector_power (s : State) (l : Nat) (z : Sector) : (s.setSector l z).power = s.power := rfl
@[simp] theorem State.setSector_clock (s : State) (l : Nat) (z : Sector) : (s.setSector l z).clock = s.clock := rfl
@[simp] theorem State.setSector_link (s : State) (l : Nat) (z : Sector) : (s.setSector l z).link = s.link := rfl
@[simp] theorem State.setSector_therm (s : State) (l : Nat) (z : Sector) : (s.setSector l z).therm = s.therm := rfl
@[simp] theorem State.setSector_mode (s : State) (l : Nat) (z : Sector) : (s.setSector l z).mode = s.mode := rfl
@[simp] theorem State.setSector_bad (s : State) (l : Nat) (z : Sector) : (s.setSector l z).bad = s.bad := rfl
@[simp] theorem State.setSector_events (s : State) (l : Nat) (z : Sector) : (s.setSector l z).events = s.events := rfl
@[simp] theorem State.setSector_memUse (s : State) (l : Nat) (z : Sector) : (s.setSector l z).memUse = s.memUse := rfl
@[simp] theorem State.setSector_released (s : State) (l : Nat) (z : Sector) : (s.setSector l z).released = s.released := rfl
@[simp] theorem State.setSector_freeCtr (s : State) (l : Nat) (z : Sector) : (s.setSector l z).freeCtr = s.freeCtr := rfl
@[simp] theorem State.setSector_pending (s : State) (l : Nat) (z : Sector) : (s.setSector l z).pending = s.pending := rfl
@[simp] theorem State.setSector_reg (s : State) (l : Nat) (z : Sector) (x : Nat) : (s.setSector l z).reg x = s.reg x := rfl
@[simp] theorem State.setSector_regN (s : State) (l : Nat) (z : Sector) (x : Nat) : (s.setSector l z).regN x = s.regN x := rfl
@[simp] theorem State.setSector_regBit (s : State) (l : Nat) (z : Sector) (x y : Nat) : (s.setSector l z).regBit x y = s.regBit x y := rfl
@[simp] theorem State.setSector_blob (s : State) (l : Nat) (z : Sector) (x : Nat) : (s.setSector l z).blob x = s.blob x := rfl
@[simp] theorem State.setSector_fb (s : State) (l : Nat) (z : Sector) (x : Nat) : (s.setSector l z).fb x = s.fb x := rfl
@[simp] theorem State.setSector_cm (s : State) (l : Nat) (z : Sector) (x : Nat) : (s.setSector l z).cm x = s.cm x := rfl
@[simp] theorem State.setSector_ev (s : State) (l : Nat) (z : Sector) (x : Nat) : (s.setSector l z).ev x = s.ev x := rfl
@[simp] theorem State.setSector_cmp (s : State) (l : Nat) (z : Sector) (x : Nat) : (s.setSector l z).cmp x = s.cmp x := rfl
@[simp] theorem State.setSector_cap (s : State) (l : Nat) (z : Sector) (x : Nat) : (s.setSector l z).cap x = s.cap x := rfl
@[simp] theorem State.setSector_engine (s : State) (l : Nat) (z : Sector) (x : Nat) : (s.setSector l z).engine x = s.engine x := rfl
@[simp] theorem State.setSector_group (s : State) (l : Nat) (z : Sector) (x : Nat) : (s.setSector l z).group x = s.group x := rfl
@[simp] theorem State.setSector_standIn (s : State) (l : Nat) (z : Sector) (x : Nat) : (s.setSector l z).standIn x = s.standIn x := rfl
@[simp] theorem State.setSector_path (s : State) (l : Nat) (z : Sector) (x : Path) : (s.setSector l z).path x = s.path x := rfl
@[simp] theorem State.setSector_bankSt (s : State) (l : Nat) (z : Sector) (x : Nat) : (s.setSector l z).bankSt x = s.bankSt x := rfl
@[simp] theorem State.setSector_keySlot (s : State) (l : Nat) (z : Sector) (x : Nat) : (s.setSector l z).keySlot x = s.keySlot x := rfl
@[simp] theorem State.setSector_region (s : State) (l : Nat) (z : Sector) (x : Nat) : (s.setSector l z).region x = s.region x := rfl
@[simp] theorem State.setSector_flBlock (s : State) (l : Nat) (z : Sector) (x : Nat) : (s.setSector l z).flBlock x = s.flBlock x := rfl
@[simp] theorem State.setSector_flBank (s : State) (l : Nat) (z : Sector) (x : Nat) : (s.setSector l z).flBank x = s.flBank x := rfl
@[simp] theorem State.setSector_flMaster (s : State) (l : Nat) (z : Sector) (x : FlashMaster) : (s.setSector l z).flMaster x = s.flMaster x := rfl
@[simp] theorem State.setSector_port (s : State) (l : Nat) (z : Sector) (x : Nat) : (s.setSector l z).port x = s.port x := rfl
@[simp] theorem State.setSector_rail (s : State) (l : Nat) (z : Sector) (x : Nat) : (s.setSector l z).rail x = s.rail x := rfl
@[simp] theorem State.setSector_member (s : State) (l : Nat) (z : Sector) (x : Nat) : (s.setSector l z).member x = s.member x := rfl

/-! ### modFlash -/

@[simp] theorem State.modFlash_regs (s : State) (f : FlashSt → FlashSt) : (s.modFlash f).regs = s.regs := rfl
@[simp] theorem State.modFlash_blobs (s : State) (f : FlashSt → FlashSt) : (s.modFlash f).blobs = s.blobs := rfl
@[simp] theorem State.modFlash_host (s : State) (f : FlashSt → FlashSt) : (s.modFlash f).host = s.host := rfl
@[simp] theorem State.modFlash_fe (s : State) (f : FlashSt → FlashSt) : (s.modFlash f).fe = s.fe := rfl
@[simp] theorem State.modFlash_eng (s : State) (f : FlashSt → FlashSt) : (s.modFlash f).eng = s.eng := rfl
@[simp] theorem State.modFlash_si (s : State) (f : FlashSt → FlashSt) : (s.modFlash f).si = s.si := rfl
@[simp] theorem State.modFlash_grp (s : State) (f : FlashSt → FlashSt) : (s.modFlash f).grp = s.grp := rfl
@[simp] theorem State.modFlash_mem (s : State) (f : FlashSt → FlashSt) : (s.modFlash f).mem = s.mem := rfl
@[simp] theorem State.modFlash_reel (s : State) (f : FlashSt → FlashSt) : (s.modFlash f).reel = s.reel := rfl
@[simp] theorem State.modFlash_cip (s : State) (f : FlashSt → FlashSt) : (s.modFlash f).cip = s.cip := rfl
@[simp] theorem State.modFlash_fab (s : State) (f : FlashSt → FlashSt) : (s.modFlash f).fab = s.fab := rfl
@[simp] theorem State.modFlash_fw (s : State) (f : FlashSt → FlashSt) : (s.modFlash f).fw = s.fw := rfl
@[simp] theorem State.modFlash_isl (s : State) (f : FlashSt → FlashSt) : (s.modFlash f).isl = s.isl := rfl
@[simp] theorem State.modFlash_life (s : State) (f : FlashSt → FlashSt) : (s.modFlash f).life = s.life := rfl
@[simp] theorem State.modFlash_test (s : State) (f : FlashSt → FlashSt) : (s.modFlash f).test = s.test := rfl
@[simp] theorem State.modFlash_power (s : State) (f : FlashSt → FlashSt) : (s.modFlash f).power = s.power := rfl
@[simp] theorem State.modFlash_clock (s : State) (f : FlashSt → FlashSt) : (s.modFlash f).clock = s.clock := rfl
@[simp] theorem State.modFlash_link (s : State) (f : FlashSt → FlashSt) : (s.modFlash f).link = s.link := rfl
@[simp] theorem State.modFlash_therm (s : State) (f : FlashSt → FlashSt) : (s.modFlash f).therm = s.therm := rfl
@[simp] theorem State.modFlash_mode (s : State) (f : FlashSt → FlashSt) : (s.modFlash f).mode = s.mode := rfl
@[simp] theorem State.modFlash_bad (s : State) (f : FlashSt → FlashSt) : (s.modFlash f).bad = s.bad := rfl
@[simp] theorem State.modFlash_events (s : State) (f : FlashSt → FlashSt) : (s.modFlash f).events = s.events := rfl
@[simp] theorem State.modFlash_memUse (s : State) (f : FlashSt → FlashSt) : (s.modFlash f).memUse = s.memUse := rfl
@[simp] theorem State.modFlash_released (s : State) (f : FlashSt → FlashSt) : (s.modFlash f).released = s.released := rfl
@[simp] theorem State.modFlash_freeCtr (s : State) (f : FlashSt → FlashSt) : (s.modFlash f).freeCtr = s.freeCtr := rfl
@[simp] theorem State.modFlash_pending (s : State) (f : FlashSt → FlashSt) : (s.modFlash f).pending = s.pending := rfl
@[simp] theorem State.modFlash_reg (s : State) (f : FlashSt → FlashSt) (x : Nat) : (s.modFlash f).reg x = s.reg x := rfl
@[simp] theorem State.modFlash_regN (s : State) (f : FlashSt → FlashSt) (x : Nat) : (s.modFlash f).regN x = s.regN x := rfl
@[simp] theorem State.modFlash_regBit (s : State) (f : FlashSt → FlashSt) (x y : Nat) : (s.modFlash f).regBit x y = s.regBit x y := rfl
@[simp] theorem State.modFlash_blob (s : State) (f : FlashSt → FlashSt) (x : Nat) : (s.modFlash f).blob x = s.blob x := rfl
@[simp] theorem State.modFlash_fb (s : State) (f : FlashSt → FlashSt) (x : Nat) : (s.modFlash f).fb x = s.fb x := rfl
@[simp] theorem State.modFlash_cm (s : State) (f : FlashSt → FlashSt) (x : Nat) : (s.modFlash f).cm x = s.cm x := rfl
@[simp] theorem State.modFlash_ev (s : State) (f : FlashSt → FlashSt) (x : Nat) : (s.modFlash f).ev x = s.ev x := rfl
@[simp] theorem State.modFlash_cmp (s : State) (f : FlashSt → FlashSt) (x : Nat) : (s.modFlash f).cmp x = s.cmp x := rfl
@[simp] theorem State.modFlash_cap (s : State) (f : FlashSt → FlashSt) (x : Nat) : (s.modFlash f).cap x = s.cap x := rfl
@[simp] theorem State.modFlash_engine (s : State) (f : FlashSt → FlashSt) (x : Nat) : (s.modFlash f).engine x = s.engine x := rfl
@[simp] theorem State.modFlash_group (s : State) (f : FlashSt → FlashSt) (x : Nat) : (s.modFlash f).group x = s.group x := rfl
@[simp] theorem State.modFlash_standIn (s : State) (f : FlashSt → FlashSt) (x : Nat) : (s.modFlash f).standIn x = s.standIn x := rfl
@[simp] theorem State.modFlash_path (s : State) (f : FlashSt → FlashSt) (x : Path) : (s.modFlash f).path x = s.path x := rfl
@[simp] theorem State.modFlash_bankSt (s : State) (f : FlashSt → FlashSt) (x : Nat) : (s.modFlash f).bankSt x = s.bankSt x := rfl
@[simp] theorem State.modFlash_keySlot (s : State) (f : FlashSt → FlashSt) (x : Nat) : (s.modFlash f).keySlot x = s.keySlot x := rfl
@[simp] theorem State.modFlash_region (s : State) (f : FlashSt → FlashSt) (x : Nat) : (s.modFlash f).region x = s.region x := rfl
@[simp] theorem State.modFlash_sector (s : State) (f : FlashSt → FlashSt) (x : Nat) : (s.modFlash f).sector x = s.sector x := rfl
@[simp] theorem State.modFlash_port (s : State) (f : FlashSt → FlashSt) (x : Nat) : (s.modFlash f).port x = s.port x := rfl
@[simp] theorem State.modFlash_rail (s : State) (f : FlashSt → FlashSt) (x : Nat) : (s.modFlash f).rail x = s.rail x := rfl
@[simp] theorem State.modFlash_member (s : State) (f : FlashSt → FlashSt) (x : Nat) : (s.modFlash f).member x = s.member x := rfl

/-! ### modFlBlock -/

@[simp] theorem State.modFlBlock_regs (s : State) (k : Nat) (f : FlBlock → FlBlock) : (s.modFlBlock k f).regs = s.regs := rfl
@[simp] theorem State.modFlBlock_blobs (s : State) (k : Nat) (f : FlBlock → FlBlock) : (s.modFlBlock k f).blobs = s.blobs := rfl
@[simp] theorem State.modFlBlock_host (s : State) (k : Nat) (f : FlBlock → FlBlock) : (s.modFlBlock k f).host = s.host := rfl
@[simp] theorem State.modFlBlock_fe (s : State) (k : Nat) (f : FlBlock → FlBlock) : (s.modFlBlock k f).fe = s.fe := rfl
@[simp] theorem State.modFlBlock_eng (s : State) (k : Nat) (f : FlBlock → FlBlock) : (s.modFlBlock k f).eng = s.eng := rfl
@[simp] theorem State.modFlBlock_si (s : State) (k : Nat) (f : FlBlock → FlBlock) : (s.modFlBlock k f).si = s.si := rfl
@[simp] theorem State.modFlBlock_grp (s : State) (k : Nat) (f : FlBlock → FlBlock) : (s.modFlBlock k f).grp = s.grp := rfl
@[simp] theorem State.modFlBlock_mem (s : State) (k : Nat) (f : FlBlock → FlBlock) : (s.modFlBlock k f).mem = s.mem := rfl
@[simp] theorem State.modFlBlock_reel (s : State) (k : Nat) (f : FlBlock → FlBlock) : (s.modFlBlock k f).reel = s.reel := rfl
@[simp] theorem State.modFlBlock_cip (s : State) (k : Nat) (f : FlBlock → FlBlock) : (s.modFlBlock k f).cip = s.cip := rfl
@[simp] theorem State.modFlBlock_fab (s : State) (k : Nat) (f : FlBlock → FlBlock) : (s.modFlBlock k f).fab = s.fab := rfl
@[simp] theorem State.modFlBlock_fw (s : State) (k : Nat) (f : FlBlock → FlBlock) : (s.modFlBlock k f).fw = s.fw := rfl
@[simp] theorem State.modFlBlock_isl (s : State) (k : Nat) (f : FlBlock → FlBlock) : (s.modFlBlock k f).isl = s.isl := rfl
@[simp] theorem State.modFlBlock_life (s : State) (k : Nat) (f : FlBlock → FlBlock) : (s.modFlBlock k f).life = s.life := rfl
@[simp] theorem State.modFlBlock_test (s : State) (k : Nat) (f : FlBlock → FlBlock) : (s.modFlBlock k f).test = s.test := rfl
@[simp] theorem State.modFlBlock_power (s : State) (k : Nat) (f : FlBlock → FlBlock) : (s.modFlBlock k f).power = s.power := rfl
@[simp] theorem State.modFlBlock_clock (s : State) (k : Nat) (f : FlBlock → FlBlock) : (s.modFlBlock k f).clock = s.clock := rfl
@[simp] theorem State.modFlBlock_link (s : State) (k : Nat) (f : FlBlock → FlBlock) : (s.modFlBlock k f).link = s.link := rfl
@[simp] theorem State.modFlBlock_therm (s : State) (k : Nat) (f : FlBlock → FlBlock) : (s.modFlBlock k f).therm = s.therm := rfl
@[simp] theorem State.modFlBlock_mode (s : State) (k : Nat) (f : FlBlock → FlBlock) : (s.modFlBlock k f).mode = s.mode := rfl
@[simp] theorem State.modFlBlock_bad (s : State) (k : Nat) (f : FlBlock → FlBlock) : (s.modFlBlock k f).bad = s.bad := rfl
@[simp] theorem State.modFlBlock_events (s : State) (k : Nat) (f : FlBlock → FlBlock) : (s.modFlBlock k f).events = s.events := rfl
@[simp] theorem State.modFlBlock_memUse (s : State) (k : Nat) (f : FlBlock → FlBlock) : (s.modFlBlock k f).memUse = s.memUse := rfl
@[simp] theorem State.modFlBlock_released (s : State) (k : Nat) (f : FlBlock → FlBlock) : (s.modFlBlock k f).released = s.released := rfl
@[simp] theorem State.modFlBlock_freeCtr (s : State) (k : Nat) (f : FlBlock → FlBlock) : (s.modFlBlock k f).freeCtr = s.freeCtr := rfl
@[simp] theorem State.modFlBlock_pending (s : State) (k : Nat) (f : FlBlock → FlBlock) : (s.modFlBlock k f).pending = s.pending := rfl
@[simp] theorem State.modFlBlock_reg (s : State) (k : Nat) (f : FlBlock → FlBlock) (x : Nat) : (s.modFlBlock k f).reg x = s.reg x := rfl
@[simp] theorem State.modFlBlock_regN (s : State) (k : Nat) (f : FlBlock → FlBlock) (x : Nat) : (s.modFlBlock k f).regN x = s.regN x := rfl
@[simp] theorem State.modFlBlock_regBit (s : State) (k : Nat) (f : FlBlock → FlBlock) (x y : Nat) : (s.modFlBlock k f).regBit x y = s.regBit x y := rfl
@[simp] theorem State.modFlBlock_blob (s : State) (k : Nat) (f : FlBlock → FlBlock) (x : Nat) : (s.modFlBlock k f).blob x = s.blob x := rfl
@[simp] theorem State.modFlBlock_fb (s : State) (k : Nat) (f : FlBlock → FlBlock) (x : Nat) : (s.modFlBlock k f).fb x = s.fb x := rfl
@[simp] theorem State.modFlBlock_cm (s : State) (k : Nat) (f : FlBlock → FlBlock) (x : Nat) : (s.modFlBlock k f).cm x = s.cm x := rfl
@[simp] theorem State.modFlBlock_ev (s : State) (k : Nat) (f : FlBlock → FlBlock) (x : Nat) : (s.modFlBlock k f).ev x = s.ev x := rfl
@[simp] theorem State.modFlBlock_cmp (s : State) (k : Nat) (f : FlBlock → FlBlock) (x : Nat) : (s.modFlBlock k f).cmp x = s.cmp x := rfl
@[simp] theorem State.modFlBlock_cap (s : State) (k : Nat) (f : FlBlock → FlBlock) (x : Nat) : (s.modFlBlock k f).cap x = s.cap x := rfl
@[simp] theorem State.modFlBlock_engine (s : State) (k : Nat) (f : FlBlock → FlBlock) (x : Nat) : (s.modFlBlock k f).engine x = s.engine x := rfl
@[simp] theorem State.modFlBlock_group (s : State) (k : Nat) (f : FlBlock → FlBlock) (x : Nat) : (s.modFlBlock k f).group x = s.group x := rfl
@[simp] theorem State.modFlBlock_standIn (s : State) (k : Nat) (f : FlBlock → FlBlock) (x : Nat) : (s.modFlBlock k f).standIn x = s.standIn x := rfl
@[simp] theorem State.modFlBlock_path (s : State) (k : Nat) (f : FlBlock → FlBlock) (x : Path) : (s.modFlBlock k f).path x = s.path x := rfl
@[simp] theorem State.modFlBlock_bankSt (s : State) (k : Nat) (f : FlBlock → FlBlock) (x : Nat) : (s.modFlBlock k f).bankSt x = s.bankSt x := rfl
@[simp] theorem State.modFlBlock_keySlot (s : State) (k : Nat) (f : FlBlock → FlBlock) (x : Nat) : (s.modFlBlock k f).keySlot x = s.keySlot x := rfl
@[simp] theorem State.modFlBlock_region (s : State) (k : Nat) (f : FlBlock → FlBlock) (x : Nat) : (s.modFlBlock k f).region x = s.region x := rfl
@[simp] theorem State.modFlBlock_sector (s : State) (k : Nat) (f : FlBlock → FlBlock) (x : Nat) : (s.modFlBlock k f).sector x = s.sector x := rfl
@[simp] theorem State.modFlBlock_flBank (s : State) (k : Nat) (f : FlBlock → FlBlock) (x : Nat) : (s.modFlBlock k f).flBank x = s.flBank x := rfl
@[simp] theorem State.modFlBlock_flMaster (s : State) (k : Nat) (f : FlBlock → FlBlock) (x : FlashMaster) : (s.modFlBlock k f).flMaster x = s.flMaster x := rfl
@[simp] theorem State.modFlBlock_port (s : State) (k : Nat) (f : FlBlock → FlBlock) (x : Nat) : (s.modFlBlock k f).port x = s.port x := rfl
@[simp] theorem State.modFlBlock_rail (s : State) (k : Nat) (f : FlBlock → FlBlock) (x : Nat) : (s.modFlBlock k f).rail x = s.rail x := rfl
@[simp] theorem State.modFlBlock_member (s : State) (k : Nat) (f : FlBlock → FlBlock) (x : Nat) : (s.modFlBlock k f).member x = s.member x := rfl

/-! ### modFlBank -/

@[simp] theorem State.modFlBank_regs (s : State) (b : Nat) (f : FlBank → FlBank) : (s.modFlBank b f).regs = s.regs := rfl
@[simp] theorem State.modFlBank_blobs (s : State) (b : Nat) (f : FlBank → FlBank) : (s.modFlBank b f).blobs = s.blobs := rfl
@[simp] theorem State.modFlBank_host (s : State) (b : Nat) (f : FlBank → FlBank) : (s.modFlBank b f).host = s.host := rfl
@[simp] theorem State.modFlBank_fe (s : State) (b : Nat) (f : FlBank → FlBank) : (s.modFlBank b f).fe = s.fe := rfl
@[simp] theorem State.modFlBank_eng (s : State) (b : Nat) (f : FlBank → FlBank) : (s.modFlBank b f).eng = s.eng := rfl
@[simp] theorem State.modFlBank_si (s : State) (b : Nat) (f : FlBank → FlBank) : (s.modFlBank b f).si = s.si := rfl
@[simp] theorem State.modFlBank_grp (s : State) (b : Nat) (f : FlBank → FlBank) : (s.modFlBank b f).grp = s.grp := rfl
@[simp] theorem State.modFlBank_mem (s : State) (b : Nat) (f : FlBank → FlBank) : (s.modFlBank b f).mem = s.mem := rfl
@[simp] theorem State.modFlBank_reel (s : State) (b : Nat) (f : FlBank → FlBank) : (s.modFlBank b f).reel = s.reel := rfl
@[simp] theorem State.modFlBank_cip (s : State) (b : Nat) (f : FlBank → FlBank) : (s.modFlBank b f).cip = s.cip := rfl
@[simp] theorem State.modFlBank_fab (s : State) (b : Nat) (f : FlBank → FlBank) : (s.modFlBank b f).fab = s.fab := rfl
@[simp] theorem State.modFlBank_fw (s : State) (b : Nat) (f : FlBank → FlBank) : (s.modFlBank b f).fw = s.fw := rfl
@[simp] theorem State.modFlBank_isl (s : State) (b : Nat) (f : FlBank → FlBank) : (s.modFlBank b f).isl = s.isl := rfl
@[simp] theorem State.modFlBank_life (s : State) (b : Nat) (f : FlBank → FlBank) : (s.modFlBank b f).life = s.life := rfl
@[simp] theorem State.modFlBank_test (s : State) (b : Nat) (f : FlBank → FlBank) : (s.modFlBank b f).test = s.test := rfl
@[simp] theorem State.modFlBank_power (s : State) (b : Nat) (f : FlBank → FlBank) : (s.modFlBank b f).power = s.power := rfl
@[simp] theorem State.modFlBank_clock (s : State) (b : Nat) (f : FlBank → FlBank) : (s.modFlBank b f).clock = s.clock := rfl
@[simp] theorem State.modFlBank_link (s : State) (b : Nat) (f : FlBank → FlBank) : (s.modFlBank b f).link = s.link := rfl
@[simp] theorem State.modFlBank_therm (s : State) (b : Nat) (f : FlBank → FlBank) : (s.modFlBank b f).therm = s.therm := rfl
@[simp] theorem State.modFlBank_mode (s : State) (b : Nat) (f : FlBank → FlBank) : (s.modFlBank b f).mode = s.mode := rfl
@[simp] theorem State.modFlBank_bad (s : State) (b : Nat) (f : FlBank → FlBank) : (s.modFlBank b f).bad = s.bad := rfl
@[simp] theorem State.modFlBank_events (s : State) (b : Nat) (f : FlBank → FlBank) : (s.modFlBank b f).events = s.events := rfl
@[simp] theorem State.modFlBank_memUse (s : State) (b : Nat) (f : FlBank → FlBank) : (s.modFlBank b f).memUse = s.memUse := rfl
@[simp] theorem State.modFlBank_released (s : State) (b : Nat) (f : FlBank → FlBank) : (s.modFlBank b f).released = s.released := rfl
@[simp] theorem State.modFlBank_freeCtr (s : State) (b : Nat) (f : FlBank → FlBank) : (s.modFlBank b f).freeCtr = s.freeCtr := rfl
@[simp] theorem State.modFlBank_pending (s : State) (b : Nat) (f : FlBank → FlBank) : (s.modFlBank b f).pending = s.pending := rfl
@[simp] theorem State.modFlBank_reg (s : State) (b : Nat) (f : FlBank → FlBank) (x : Nat) : (s.modFlBank b f).reg x = s.reg x := rfl
@[simp] theorem State.modFlBank_regN (s : State) (b : Nat) (f : FlBank → FlBank) (x : Nat) : (s.modFlBank b f).regN x = s.regN x := rfl
@[simp] theorem State.modFlBank_regBit (s : State) (b : Nat) (f : FlBank → FlBank) (x y : Nat) : (s.modFlBank b f).regBit x y = s.regBit x y := rfl
@[simp] theorem State.modFlBank_blob (s : State) (b : Nat) (f : FlBank → FlBank) (x : Nat) : (s.modFlBank b f).blob x = s.blob x := rfl
@[simp] theorem State.modFlBank_fb (s : State) (b : Nat) (f : FlBank → FlBank) (x : Nat) : (s.modFlBank b f).fb x = s.fb x := rfl
@[simp] theorem State.modFlBank_cm (s : State) (b : Nat) (f : FlBank → FlBank) (x : Nat) : (s.modFlBank b f).cm x = s.cm x := rfl
@[simp] theorem State.modFlBank_ev (s : State) (b : Nat) (f : FlBank → FlBank) (x : Nat) : (s.modFlBank b f).ev x = s.ev x := rfl
@[simp] theorem State.modFlBank_cmp (s : State) (b : Nat) (f : FlBank → FlBank) (x : Nat) : (s.modFlBank b f).cmp x = s.cmp x := rfl
@[simp] theorem State.modFlBank_cap (s : State) (b : Nat) (f : FlBank → FlBank) (x : Nat) : (s.modFlBank b f).cap x = s.cap x := rfl
@[simp] theorem State.modFlBank_engine (s : State) (b : Nat) (f : FlBank → FlBank) (x : Nat) : (s.modFlBank b f).engine x = s.engine x := rfl
@[simp] theorem State.modFlBank_group (s : State) (b : Nat) (f : FlBank → FlBank) (x : Nat) : (s.modFlBank b f).group x = s.group x := rfl
@[simp] theorem State.modFlBank_standIn (s : State) (b : Nat) (f : FlBank → FlBank) (x : Nat) : (s.modFlBank b f).standIn x = s.standIn x := rfl
@[simp] theorem State.modFlBank_path (s : State) (b : Nat) (f : FlBank → FlBank) (x : Path) : (s.modFlBank b f).path x = s.path x := rfl
@[simp] theorem State.modFlBank_bankSt (s : State) (b : Nat) (f : FlBank → FlBank) (x : Nat) : (s.modFlBank b f).bankSt x = s.bankSt x := rfl
@[simp] theorem State.modFlBank_keySlot (s : State) (b : Nat) (f : FlBank → FlBank) (x : Nat) : (s.modFlBank b f).keySlot x = s.keySlot x := rfl
@[simp] theorem State.modFlBank_region (s : State) (b : Nat) (f : FlBank → FlBank) (x : Nat) : (s.modFlBank b f).region x = s.region x := rfl
@[simp] theorem State.modFlBank_sector (s : State) (b : Nat) (f : FlBank → FlBank) (x : Nat) : (s.modFlBank b f).sector x = s.sector x := rfl
@[simp] theorem State.modFlBank_flBlock (s : State) (b : Nat) (f : FlBank → FlBank) (x : Nat) : (s.modFlBank b f).flBlock x = s.flBlock x := rfl
@[simp] theorem State.modFlBank_flMaster (s : State) (b : Nat) (f : FlBank → FlBank) (x : FlashMaster) : (s.modFlBank b f).flMaster x = s.flMaster x := rfl
@[simp] theorem State.modFlBank_port (s : State) (b : Nat) (f : FlBank → FlBank) (x : Nat) : (s.modFlBank b f).port x = s.port x := rfl
@[simp] theorem State.modFlBank_rail (s : State) (b : Nat) (f : FlBank → FlBank) (x : Nat) : (s.modFlBank b f).rail x = s.rail x := rfl
@[simp] theorem State.modFlBank_member (s : State) (b : Nat) (f : FlBank → FlBank) (x : Nat) : (s.modFlBank b f).member x = s.member x := rfl

/-! ### modFlMaster -/

@[simp] theorem State.modFlMaster_regs (s : State) (m : FlashMaster) (f : FlMaster → FlMaster) : (s.modFlMaster m f).regs = s.regs := rfl
@[simp] theorem State.modFlMaster_blobs (s : State) (m : FlashMaster) (f : FlMaster → FlMaster) : (s.modFlMaster m f).blobs = s.blobs := rfl
@[simp] theorem State.modFlMaster_host (s : State) (m : FlashMaster) (f : FlMaster → FlMaster) : (s.modFlMaster m f).host = s.host := rfl
@[simp] theorem State.modFlMaster_fe (s : State) (m : FlashMaster) (f : FlMaster → FlMaster) : (s.modFlMaster m f).fe = s.fe := rfl
@[simp] theorem State.modFlMaster_eng (s : State) (m : FlashMaster) (f : FlMaster → FlMaster) : (s.modFlMaster m f).eng = s.eng := rfl
@[simp] theorem State.modFlMaster_si (s : State) (m : FlashMaster) (f : FlMaster → FlMaster) : (s.modFlMaster m f).si = s.si := rfl
@[simp] theorem State.modFlMaster_grp (s : State) (m : FlashMaster) (f : FlMaster → FlMaster) : (s.modFlMaster m f).grp = s.grp := rfl
@[simp] theorem State.modFlMaster_mem (s : State) (m : FlashMaster) (f : FlMaster → FlMaster) : (s.modFlMaster m f).mem = s.mem := rfl
@[simp] theorem State.modFlMaster_reel (s : State) (m : FlashMaster) (f : FlMaster → FlMaster) : (s.modFlMaster m f).reel = s.reel := rfl
@[simp] theorem State.modFlMaster_cip (s : State) (m : FlashMaster) (f : FlMaster → FlMaster) : (s.modFlMaster m f).cip = s.cip := rfl
@[simp] theorem State.modFlMaster_fab (s : State) (m : FlashMaster) (f : FlMaster → FlMaster) : (s.modFlMaster m f).fab = s.fab := rfl
@[simp] theorem State.modFlMaster_fw (s : State) (m : FlashMaster) (f : FlMaster → FlMaster) : (s.modFlMaster m f).fw = s.fw := rfl
@[simp] theorem State.modFlMaster_isl (s : State) (m : FlashMaster) (f : FlMaster → FlMaster) : (s.modFlMaster m f).isl = s.isl := rfl
@[simp] theorem State.modFlMaster_life (s : State) (m : FlashMaster) (f : FlMaster → FlMaster) : (s.modFlMaster m f).life = s.life := rfl
@[simp] theorem State.modFlMaster_test (s : State) (m : FlashMaster) (f : FlMaster → FlMaster) : (s.modFlMaster m f).test = s.test := rfl
@[simp] theorem State.modFlMaster_power (s : State) (m : FlashMaster) (f : FlMaster → FlMaster) : (s.modFlMaster m f).power = s.power := rfl
@[simp] theorem State.modFlMaster_clock (s : State) (m : FlashMaster) (f : FlMaster → FlMaster) : (s.modFlMaster m f).clock = s.clock := rfl
@[simp] theorem State.modFlMaster_link (s : State) (m : FlashMaster) (f : FlMaster → FlMaster) : (s.modFlMaster m f).link = s.link := rfl
@[simp] theorem State.modFlMaster_therm (s : State) (m : FlashMaster) (f : FlMaster → FlMaster) : (s.modFlMaster m f).therm = s.therm := rfl
@[simp] theorem State.modFlMaster_mode (s : State) (m : FlashMaster) (f : FlMaster → FlMaster) : (s.modFlMaster m f).mode = s.mode := rfl
@[simp] theorem State.modFlMaster_bad (s : State) (m : FlashMaster) (f : FlMaster → FlMaster) : (s.modFlMaster m f).bad = s.bad := rfl
@[simp] theorem State.modFlMaster_events (s : State) (m : FlashMaster) (f : FlMaster → FlMaster) : (s.modFlMaster m f).events = s.events := rfl
@[simp] theorem State.modFlMaster_memUse (s : State) (m : FlashMaster) (f : FlMaster → FlMaster) : (s.modFlMaster m f).memUse = s.memUse := rfl
@[simp] theorem State.modFlMaster_released (s : State) (m : FlashMaster) (f : FlMaster → FlMaster) : (s.modFlMaster m f).released = s.released := rfl
@[simp] theorem State.modFlMaster_freeCtr (s : State) (m : FlashMaster) (f : FlMaster → FlMaster) : (s.modFlMaster m f).freeCtr = s.freeCtr := rfl
@[simp] theorem State.modFlMaster_pending (s : State) (m : FlashMaster) (f : FlMaster → FlMaster) : (s.modFlMaster m f).pending = s.pending := rfl
@[simp] theorem State.modFlMaster_reg (s : State) (m : FlashMaster) (f : FlMaster → FlMaster) (x : Nat) : (s.modFlMaster m f).reg x = s.reg x := rfl
@[simp] theorem State.modFlMaster_regN (s : State) (m : FlashMaster) (f : FlMaster → FlMaster) (x : Nat) : (s.modFlMaster m f).regN x = s.regN x := rfl
@[simp] theorem State.modFlMaster_regBit (s : State) (m : FlashMaster) (f : FlMaster → FlMaster) (x y : Nat) : (s.modFlMaster m f).regBit x y = s.regBit x y := rfl
@[simp] theorem State.modFlMaster_blob (s : State) (m : FlashMaster) (f : FlMaster → FlMaster) (x : Nat) : (s.modFlMaster m f).blob x = s.blob x := rfl
@[simp] theorem State.modFlMaster_fb (s : State) (m : FlashMaster) (f : FlMaster → FlMaster) (x : Nat) : (s.modFlMaster m f).fb x = s.fb x := rfl
@[simp] theorem State.modFlMaster_cm (s : State) (m : FlashMaster) (f : FlMaster → FlMaster) (x : Nat) : (s.modFlMaster m f).cm x = s.cm x := rfl
@[simp] theorem State.modFlMaster_ev (s : State) (m : FlashMaster) (f : FlMaster → FlMaster) (x : Nat) : (s.modFlMaster m f).ev x = s.ev x := rfl
@[simp] theorem State.modFlMaster_cmp (s : State) (m : FlashMaster) (f : FlMaster → FlMaster) (x : Nat) : (s.modFlMaster m f).cmp x = s.cmp x := rfl
@[simp] theorem State.modFlMaster_cap (s : State) (m : FlashMaster) (f : FlMaster → FlMaster) (x : Nat) : (s.modFlMaster m f).cap x = s.cap x := rfl
@[simp] theorem State.modFlMaster_engine (s : State) (m : FlashMaster) (f : FlMaster → FlMaster) (x : Nat) : (s.modFlMaster m f).engine x = s.engine x := rfl
@[simp] theorem State.modFlMaster_group (s : State) (m : FlashMaster) (f : FlMaster → FlMaster) (x : Nat) : (s.modFlMaster m f).group x = s.group x := rfl
@[simp] theorem State.modFlMaster_standIn (s : State) (m : FlashMaster) (f : FlMaster → FlMaster) (x : Nat) : (s.modFlMaster m f).standIn x = s.standIn x := rfl
@[simp] theorem State.modFlMaster_path (s : State) (m : FlashMaster) (f : FlMaster → FlMaster) (x : Path) : (s.modFlMaster m f).path x = s.path x := rfl
@[simp] theorem State.modFlMaster_bankSt (s : State) (m : FlashMaster) (f : FlMaster → FlMaster) (x : Nat) : (s.modFlMaster m f).bankSt x = s.bankSt x := rfl
@[simp] theorem State.modFlMaster_keySlot (s : State) (m : FlashMaster) (f : FlMaster → FlMaster) (x : Nat) : (s.modFlMaster m f).keySlot x = s.keySlot x := rfl
@[simp] theorem State.modFlMaster_region (s : State) (m : FlashMaster) (f : FlMaster → FlMaster) (x : Nat) : (s.modFlMaster m f).region x = s.region x := rfl
@[simp] theorem State.modFlMaster_sector (s : State) (m : FlashMaster) (f : FlMaster → FlMaster) (x : Nat) : (s.modFlMaster m f).sector x = s.sector x := rfl
@[simp] theorem State.modFlMaster_flBlock (s : State) (m : FlashMaster) (f : FlMaster → FlMaster) (x : Nat) : (s.modFlMaster m f).flBlock x = s.flBlock x := rfl
@[simp] theorem State.modFlMaster_flBank (s : State) (m : FlashMaster) (f : FlMaster → FlMaster) (x : Nat) : (s.modFlMaster m f).flBank x = s.flBank x := rfl
@[simp] theorem State.modFlMaster_port (s : State) (m : FlashMaster) (f : FlMaster → FlMaster) (x : Nat) : (s.modFlMaster m f).port x = s.port x := rfl
@[simp] theorem State.modFlMaster_rail (s : State) (m : FlashMaster) (f : FlMaster → FlMaster) (x : Nat) : (s.modFlMaster m f).rail x = s.rail x := rfl
@[simp] theorem State.modFlMaster_member (s : State) (m : FlashMaster) (f : FlMaster → FlMaster) (x : Nat) : (s.modFlMaster m f).member x = s.member x := rfl

/-! ### modFab -/

@[simp] theorem State.modFab_regs (s : State) (f : FabSt → FabSt) : (s.modFab f).regs = s.regs := rfl
@[simp] theorem State.modFab_blobs (s : State) (f : FabSt → FabSt) : (s.modFab f).blobs = s.blobs := rfl
@[simp] theorem State.modFab_host (s : State) (f : FabSt → FabSt) : (s.modFab f).host = s.host := rfl
@[simp] theorem State.modFab_fe (s : State) (f : FabSt → FabSt) : (s.modFab f).fe = s.fe := rfl
@[simp] theorem State.modFab_eng (s : State) (f : FabSt → FabSt) : (s.modFab f).eng = s.eng := rfl
@[simp] theorem State.modFab_si (s : State) (f : FabSt → FabSt) : (s.modFab f).si = s.si := rfl
@[simp] theorem State.modFab_grp (s : State) (f : FabSt → FabSt) : (s.modFab f).grp = s.grp := rfl
@[simp] theorem State.modFab_flash (s : State) (f : FabSt → FabSt) : (s.modFab f).flash = s.flash := rfl
@[simp] theorem State.modFab_mem (s : State) (f : FabSt → FabSt) : (s.modFab f).mem = s.mem := rfl
@[simp] theorem State.modFab_reel (s : State) (f : FabSt → FabSt) : (s.modFab f).reel = s.reel := rfl
@[simp] theorem State.modFab_cip (s : State) (f : FabSt → FabSt) : (s.modFab f).cip = s.cip := rfl
@[simp] theorem State.modFab_fw (s : State) (f : FabSt → FabSt) : (s.modFab f).fw = s.fw := rfl
@[simp] theorem State.modFab_isl (s : State) (f : FabSt → FabSt) : (s.modFab f).isl = s.isl := rfl
@[simp] theorem State.modFab_life (s : State) (f : FabSt → FabSt) : (s.modFab f).life = s.life := rfl
@[simp] theorem State.modFab_test (s : State) (f : FabSt → FabSt) : (s.modFab f).test = s.test := rfl
@[simp] theorem State.modFab_power (s : State) (f : FabSt → FabSt) : (s.modFab f).power = s.power := rfl
@[simp] theorem State.modFab_clock (s : State) (f : FabSt → FabSt) : (s.modFab f).clock = s.clock := rfl
@[simp] theorem State.modFab_link (s : State) (f : FabSt → FabSt) : (s.modFab f).link = s.link := rfl
@[simp] theorem State.modFab_therm (s : State) (f : FabSt → FabSt) : (s.modFab f).therm = s.therm := rfl
@[simp] theorem State.modFab_mode (s : State) (f : FabSt → FabSt) : (s.modFab f).mode = s.mode := rfl
@[simp] theorem State.modFab_bad (s : State) (f : FabSt → FabSt) : (s.modFab f).bad = s.bad := rfl
@[simp] theorem State.modFab_events (s : State) (f : FabSt → FabSt) : (s.modFab f).events = s.events := rfl
@[simp] theorem State.modFab_memUse (s : State) (f : FabSt → FabSt) : (s.modFab f).memUse = s.memUse := rfl
@[simp] theorem State.modFab_released (s : State) (f : FabSt → FabSt) : (s.modFab f).released = s.released := rfl
@[simp] theorem State.modFab_freeCtr (s : State) (f : FabSt → FabSt) : (s.modFab f).freeCtr = s.freeCtr := rfl
@[simp] theorem State.modFab_pending (s : State) (f : FabSt → FabSt) : (s.modFab f).pending = s.pending := rfl
@[simp] theorem State.modFab_reg (s : State) (f : FabSt → FabSt) (x : Nat) : (s.modFab f).reg x = s.reg x := rfl
@[simp] theorem State.modFab_regN (s : State) (f : FabSt → FabSt) (x : Nat) : (s.modFab f).regN x = s.regN x := rfl
@[simp] theorem State.modFab_regBit (s : State) (f : FabSt → FabSt) (x y : Nat) : (s.modFab f).regBit x y = s.regBit x y := rfl
@[simp] theorem State.modFab_blob (s : State) (f : FabSt → FabSt) (x : Nat) : (s.modFab f).blob x = s.blob x := rfl
@[simp] theorem State.modFab_fb (s : State) (f : FabSt → FabSt) (x : Nat) : (s.modFab f).fb x = s.fb x := rfl
@[simp] theorem State.modFab_cm (s : State) (f : FabSt → FabSt) (x : Nat) : (s.modFab f).cm x = s.cm x := rfl
@[simp] theorem State.modFab_ev (s : State) (f : FabSt → FabSt) (x : Nat) : (s.modFab f).ev x = s.ev x := rfl
@[simp] theorem State.modFab_cmp (s : State) (f : FabSt → FabSt) (x : Nat) : (s.modFab f).cmp x = s.cmp x := rfl
@[simp] theorem State.modFab_cap (s : State) (f : FabSt → FabSt) (x : Nat) : (s.modFab f).cap x = s.cap x := rfl
@[simp] theorem State.modFab_engine (s : State) (f : FabSt → FabSt) (x : Nat) : (s.modFab f).engine x = s.engine x := rfl
@[simp] theorem State.modFab_group (s : State) (f : FabSt → FabSt) (x : Nat) : (s.modFab f).group x = s.group x := rfl
@[simp] theorem State.modFab_standIn (s : State) (f : FabSt → FabSt) (x : Nat) : (s.modFab f).standIn x = s.standIn x := rfl
@[simp] theorem State.modFab_path (s : State) (f : FabSt → FabSt) (x : Path) : (s.modFab f).path x = s.path x := rfl
@[simp] theorem State.modFab_bankSt (s : State) (f : FabSt → FabSt) (x : Nat) : (s.modFab f).bankSt x = s.bankSt x := rfl
@[simp] theorem State.modFab_keySlot (s : State) (f : FabSt → FabSt) (x : Nat) : (s.modFab f).keySlot x = s.keySlot x := rfl
@[simp] theorem State.modFab_region (s : State) (f : FabSt → FabSt) (x : Nat) : (s.modFab f).region x = s.region x := rfl
@[simp] theorem State.modFab_sector (s : State) (f : FabSt → FabSt) (x : Nat) : (s.modFab f).sector x = s.sector x := rfl
@[simp] theorem State.modFab_flBlock (s : State) (f : FabSt → FabSt) (x : Nat) : (s.modFab f).flBlock x = s.flBlock x := rfl
@[simp] theorem State.modFab_flBank (s : State) (f : FabSt → FabSt) (x : Nat) : (s.modFab f).flBank x = s.flBank x := rfl
@[simp] theorem State.modFab_flMaster (s : State) (f : FabSt → FabSt) (x : FlashMaster) : (s.modFab f).flMaster x = s.flMaster x := rfl
@[simp] theorem State.modFab_member (s : State) (f : FabSt → FabSt) (x : Nat) : (s.modFab f).member x = s.member x := rfl

/-! ### modPort -/

@[simp] theorem State.modPort_regs (s : State) (p : Nat) (f : FabPort → FabPort) : (s.modPort p f).regs = s.regs := rfl
@[simp] theorem State.modPort_blobs (s : State) (p : Nat) (f : FabPort → FabPort) : (s.modPort p f).blobs = s.blobs := rfl
@[simp] theorem State.modPort_host (s : State) (p : Nat) (f : FabPort → FabPort) : (s.modPort p f).host = s.host := rfl
@[simp] theorem State.modPort_fe (s : State) (p : Nat) (f : FabPort → FabPort) : (s.modPort p f).fe = s.fe := rfl
@[simp] theorem State.modPort_eng (s : State) (p : Nat) (f : FabPort → FabPort) : (s.modPort p f).eng = s.eng := rfl
@[simp] theorem State.modPort_si (s : State) (p : Nat) (f : FabPort → FabPort) : (s.modPort p f).si = s.si := rfl
@[simp] theorem State.modPort_grp (s : State) (p : Nat) (f : FabPort → FabPort) : (s.modPort p f).grp = s.grp := rfl
@[simp] theorem State.modPort_flash (s : State) (p : Nat) (f : FabPort → FabPort) : (s.modPort p f).flash = s.flash := rfl
@[simp] theorem State.modPort_mem (s : State) (p : Nat) (f : FabPort → FabPort) : (s.modPort p f).mem = s.mem := rfl
@[simp] theorem State.modPort_reel (s : State) (p : Nat) (f : FabPort → FabPort) : (s.modPort p f).reel = s.reel := rfl
@[simp] theorem State.modPort_cip (s : State) (p : Nat) (f : FabPort → FabPort) : (s.modPort p f).cip = s.cip := rfl
@[simp] theorem State.modPort_fw (s : State) (p : Nat) (f : FabPort → FabPort) : (s.modPort p f).fw = s.fw := rfl
@[simp] theorem State.modPort_isl (s : State) (p : Nat) (f : FabPort → FabPort) : (s.modPort p f).isl = s.isl := rfl
@[simp] theorem State.modPort_life (s : State) (p : Nat) (f : FabPort → FabPort) : (s.modPort p f).life = s.life := rfl
@[simp] theorem State.modPort_test (s : State) (p : Nat) (f : FabPort → FabPort) : (s.modPort p f).test = s.test := rfl
@[simp] theorem State.modPort_power (s : State) (p : Nat) (f : FabPort → FabPort) : (s.modPort p f).power = s.power := rfl
@[simp] theorem State.modPort_clock (s : State) (p : Nat) (f : FabPort → FabPort) : (s.modPort p f).clock = s.clock := rfl
@[simp] theorem State.modPort_link (s : State) (p : Nat) (f : FabPort → FabPort) : (s.modPort p f).link = s.link := rfl
@[simp] theorem State.modPort_therm (s : State) (p : Nat) (f : FabPort → FabPort) : (s.modPort p f).therm = s.therm := rfl
@[simp] theorem State.modPort_mode (s : State) (p : Nat) (f : FabPort → FabPort) : (s.modPort p f).mode = s.mode := rfl
@[simp] theorem State.modPort_bad (s : State) (p : Nat) (f : FabPort → FabPort) : (s.modPort p f).bad = s.bad := rfl
@[simp] theorem State.modPort_events (s : State) (p : Nat) (f : FabPort → FabPort) : (s.modPort p f).events = s.events := rfl
@[simp] theorem State.modPort_memUse (s : State) (p : Nat) (f : FabPort → FabPort) : (s.modPort p f).memUse = s.memUse := rfl
@[simp] theorem State.modPort_released (s : State) (p : Nat) (f : FabPort → FabPort) : (s.modPort p f).released = s.released := rfl
@[simp] theorem State.modPort_freeCtr (s : State) (p : Nat) (f : FabPort → FabPort) : (s.modPort p f).freeCtr = s.freeCtr := rfl
@[simp] theorem State.modPort_pending (s : State) (p : Nat) (f : FabPort → FabPort) : (s.modPort p f).pending = s.pending := rfl
@[simp] theorem State.modPort_reg (s : State) (p : Nat) (f : FabPort → FabPort) (x : Nat) : (s.modPort p f).reg x = s.reg x := rfl
@[simp] theorem State.modPort_regN (s : State) (p : Nat) (f : FabPort → FabPort) (x : Nat) : (s.modPort p f).regN x = s.regN x := rfl
@[simp] theorem State.modPort_regBit (s : State) (p : Nat) (f : FabPort → FabPort) (x y : Nat) : (s.modPort p f).regBit x y = s.regBit x y := rfl
@[simp] theorem State.modPort_blob (s : State) (p : Nat) (f : FabPort → FabPort) (x : Nat) : (s.modPort p f).blob x = s.blob x := rfl
@[simp] theorem State.modPort_fb (s : State) (p : Nat) (f : FabPort → FabPort) (x : Nat) : (s.modPort p f).fb x = s.fb x := rfl
@[simp] theorem State.modPort_cm (s : State) (p : Nat) (f : FabPort → FabPort) (x : Nat) : (s.modPort p f).cm x = s.cm x := rfl
@[simp] theorem State.modPort_ev (s : State) (p : Nat) (f : FabPort → FabPort) (x : Nat) : (s.modPort p f).ev x = s.ev x := rfl
@[simp] theorem State.modPort_cmp (s : State) (p : Nat) (f : FabPort → FabPort) (x : Nat) : (s.modPort p f).cmp x = s.cmp x := rfl
@[simp] theorem State.modPort_cap (s : State) (p : Nat) (f : FabPort → FabPort) (x : Nat) : (s.modPort p f).cap x = s.cap x := rfl
@[simp] theorem State.modPort_engine (s : State) (p : Nat) (f : FabPort → FabPort) (x : Nat) : (s.modPort p f).engine x = s.engine x := rfl
@[simp] theorem State.modPort_group (s : State) (p : Nat) (f : FabPort → FabPort) (x : Nat) : (s.modPort p f).group x = s.group x := rfl
@[simp] theorem State.modPort_standIn (s : State) (p : Nat) (f : FabPort → FabPort) (x : Nat) : (s.modPort p f).standIn x = s.standIn x := rfl
@[simp] theorem State.modPort_path (s : State) (p : Nat) (f : FabPort → FabPort) (x : Path) : (s.modPort p f).path x = s.path x := rfl
@[simp] theorem State.modPort_bankSt (s : State) (p : Nat) (f : FabPort → FabPort) (x : Nat) : (s.modPort p f).bankSt x = s.bankSt x := rfl
@[simp] theorem State.modPort_keySlot (s : State) (p : Nat) (f : FabPort → FabPort) (x : Nat) : (s.modPort p f).keySlot x = s.keySlot x := rfl
@[simp] theorem State.modPort_region (s : State) (p : Nat) (f : FabPort → FabPort) (x : Nat) : (s.modPort p f).region x = s.region x := rfl
@[simp] theorem State.modPort_sector (s : State) (p : Nat) (f : FabPort → FabPort) (x : Nat) : (s.modPort p f).sector x = s.sector x := rfl
@[simp] theorem State.modPort_flBlock (s : State) (p : Nat) (f : FabPort → FabPort) (x : Nat) : (s.modPort p f).flBlock x = s.flBlock x := rfl
@[simp] theorem State.modPort_flBank (s : State) (p : Nat) (f : FabPort → FabPort) (x : Nat) : (s.modPort p f).flBank x = s.flBank x := rfl
@[simp] theorem State.modPort_flMaster (s : State) (p : Nat) (f : FabPort → FabPort) (x : FlashMaster) : (s.modPort p f).flMaster x = s.flMaster x := rfl
@[simp] theorem State.modPort_rail (s : State) (p : Nat) (f : FabPort → FabPort) (x : Nat) : (s.modPort p f).rail x = s.rail x := rfl
@[simp] theorem State.modPort_member (s : State) (p : Nat) (f : FabPort → FabPort) (x : Nat) : (s.modPort p f).member x = s.member x := rfl

/-! ### modRail -/

@[simp] theorem State.modRail_regs (s : State) (q : Nat) (f : RailSt → RailSt) : (s.modRail q f).regs = s.regs := rfl
@[simp] theorem State.modRail_blobs (s : State) (q : Nat) (f : RailSt → RailSt) : (s.modRail q f).blobs = s.blobs := rfl
@[simp] theorem State.modRail_host (s : State) (q : Nat) (f : RailSt → RailSt) : (s.modRail q f).host = s.host := rfl
@[simp] theorem State.modRail_fe (s : State) (q : Nat) (f : RailSt → RailSt) : (s.modRail q f).fe = s.fe := rfl
@[simp] theorem State.modRail_eng (s : State) (q : Nat) (f : RailSt → RailSt) : (s.modRail q f).eng = s.eng := rfl
@[simp] theorem State.modRail_si (s : State) (q : Nat) (f : RailSt → RailSt) : (s.modRail q f).si = s.si := rfl
@[simp] theorem State.modRail_grp (s : State) (q : Nat) (f : RailSt → RailSt) : (s.modRail q f).grp = s.grp := rfl
@[simp] theorem State.modRail_flash (s : State) (q : Nat) (f : RailSt → RailSt) : (s.modRail q f).flash = s.flash := rfl
@[simp] theorem State.modRail_mem (s : State) (q : Nat) (f : RailSt → RailSt) : (s.modRail q f).mem = s.mem := rfl
@[simp] theorem State.modRail_reel (s : State) (q : Nat) (f : RailSt → RailSt) : (s.modRail q f).reel = s.reel := rfl
@[simp] theorem State.modRail_cip (s : State) (q : Nat) (f : RailSt → RailSt) : (s.modRail q f).cip = s.cip := rfl
@[simp] theorem State.modRail_fw (s : State) (q : Nat) (f : RailSt → RailSt) : (s.modRail q f).fw = s.fw := rfl
@[simp] theorem State.modRail_isl (s : State) (q : Nat) (f : RailSt → RailSt) : (s.modRail q f).isl = s.isl := rfl
@[simp] theorem State.modRail_life (s : State) (q : Nat) (f : RailSt → RailSt) : (s.modRail q f).life = s.life := rfl
@[simp] theorem State.modRail_test (s : State) (q : Nat) (f : RailSt → RailSt) : (s.modRail q f).test = s.test := rfl
@[simp] theorem State.modRail_power (s : State) (q : Nat) (f : RailSt → RailSt) : (s.modRail q f).power = s.power := rfl
@[simp] theorem State.modRail_clock (s : State) (q : Nat) (f : RailSt → RailSt) : (s.modRail q f).clock = s.clock := rfl
@[simp] theorem State.modRail_link (s : State) (q : Nat) (f : RailSt → RailSt) : (s.modRail q f).link = s.link := rfl
@[simp] theorem State.modRail_therm (s : State) (q : Nat) (f : RailSt → RailSt) : (s.modRail q f).therm = s.therm := rfl
@[simp] theorem State.modRail_mode (s : State) (q : Nat) (f : RailSt → RailSt) : (s.modRail q f).mode = s.mode := rfl
@[simp] theorem State.modRail_bad (s : State) (q : Nat) (f : RailSt → RailSt) : (s.modRail q f).bad = s.bad := rfl
@[simp] theorem State.modRail_events (s : State) (q : Nat) (f : RailSt → RailSt) : (s.modRail q f).events = s.events := rfl
@[simp] theorem State.modRail_memUse (s : State) (q : Nat) (f : RailSt → RailSt) : (s.modRail q f).memUse = s.memUse := rfl
@[simp] theorem State.modRail_released (s : State) (q : Nat) (f : RailSt → RailSt) : (s.modRail q f).released = s.released := rfl
@[simp] theorem State.modRail_freeCtr (s : State) (q : Nat) (f : RailSt → RailSt) : (s.modRail q f).freeCtr = s.freeCtr := rfl
@[simp] theorem State.modRail_pending (s : State) (q : Nat) (f : RailSt → RailSt) : (s.modRail q f).pending = s.pending := rfl
@[simp] theorem State.modRail_reg (s : State) (q : Nat) (f : RailSt → RailSt) (x : Nat) : (s.modRail q f).reg x = s.reg x := rfl
@[simp] theorem State.modRail_regN (s : State) (q : Nat) (f : RailSt → RailSt) (x : Nat) : (s.modRail q f).regN x = s.regN x := rfl
@[simp] theorem State.modRail_regBit (s : State) (q : Nat) (f : RailSt → RailSt) (x y : Nat) : (s.modRail q f).regBit x y = s.regBit x y := rfl
@[simp] theorem State.modRail_blob (s : State) (q : Nat) (f : RailSt → RailSt) (x : Nat) : (s.modRail q f).blob x = s.blob x := rfl
@[simp] theorem State.modRail_fb (s : State) (q : Nat) (f : RailSt → RailSt) (x : Nat) : (s.modRail q f).fb x = s.fb x := rfl
@[simp] theorem State.modRail_cm (s : State) (q : Nat) (f : RailSt → RailSt) (x : Nat) : (s.modRail q f).cm x = s.cm x := rfl
@[simp] theorem State.modRail_ev (s : State) (q : Nat) (f : RailSt → RailSt) (x : Nat) : (s.modRail q f).ev x = s.ev x := rfl
@[simp] theorem State.modRail_cmp (s : State) (q : Nat) (f : RailSt → RailSt) (x : Nat) : (s.modRail q f).cmp x = s.cmp x := rfl
@[simp] theorem State.modRail_cap (s : State) (q : Nat) (f : RailSt → RailSt) (x : Nat) : (s.modRail q f).cap x = s.cap x := rfl
@[simp] theorem State.modRail_engine (s : State) (q : Nat) (f : RailSt → RailSt) (x : Nat) : (s.modRail q f).engine x = s.engine x := rfl
@[simp] theorem State.modRail_group (s : State) (q : Nat) (f : RailSt → RailSt) (x : Nat) : (s.modRail q f).group x = s.group x := rfl
@[simp] theorem State.modRail_standIn (s : State) (q : Nat) (f : RailSt → RailSt) (x : Nat) : (s.modRail q f).standIn x = s.standIn x := rfl
@[simp] theorem State.modRail_path (s : State) (q : Nat) (f : RailSt → RailSt) (x : Path) : (s.modRail q f).path x = s.path x := rfl
@[simp] theorem State.modRail_bankSt (s : State) (q : Nat) (f : RailSt → RailSt) (x : Nat) : (s.modRail q f).bankSt x = s.bankSt x := rfl
@[simp] theorem State.modRail_keySlot (s : State) (q : Nat) (f : RailSt → RailSt) (x : Nat) : (s.modRail q f).keySlot x = s.keySlot x := rfl
@[simp] theorem State.modRail_region (s : State) (q : Nat) (f : RailSt → RailSt) (x : Nat) : (s.modRail q f).region x = s.region x := rfl
@[simp] theorem State.modRail_sector (s : State) (q : Nat) (f : RailSt → RailSt) (x : Nat) : (s.modRail q f).sector x = s.sector x := rfl
@[simp] theorem State.modRail_flBlock (s : State) (q : Nat) (f : RailSt → RailSt) (x : Nat) : (s.modRail q f).flBlock x = s.flBlock x := rfl
@[simp] theorem State.modRail_flBank (s : State) (q : Nat) (f : RailSt → RailSt) (x : Nat) : (s.modRail q f).flBank x = s.flBank x := rfl
@[simp] theorem State.modRail_flMaster (s : State) (q : Nat) (f : RailSt → RailSt) (x : FlashMaster) : (s.modRail q f).flMaster x = s.flMaster x := rfl
@[simp] theorem State.modRail_port (s : State) (q : Nat) (f : RailSt → RailSt) (x : Nat) : (s.modRail q f).port x = s.port x := rfl
@[simp] theorem State.modRail_member (s : State) (q : Nat) (f : RailSt → RailSt) (x : Nat) : (s.modRail q f).member x = s.member x := rfl

/-! ### modLoad -/

@[simp] theorem State.modLoad_regs (s : State) (f : LoadSt → LoadSt) : (s.modLoad f).regs = s.regs := rfl
@[simp] theorem State.modLoad_blobs (s : State) (f : LoadSt → LoadSt) : (s.modLoad f).blobs = s.blobs := rfl
@[simp] theorem State.modLoad_host (s : State) (f : LoadSt → LoadSt) : (s.modLoad f).host = s.host := rfl
@[simp] theorem State.modLoad_fe (s : State) (f : LoadSt → LoadSt) : (s.modLoad f).fe = s.fe := rfl
@[simp] theorem State.modLoad_eng (s : State) (f : LoadSt → LoadSt) : (s.modLoad f).eng = s.eng := rfl
@[simp] theorem State.modLoad_si (s : State) (f : LoadSt → LoadSt) : (s.modLoad f).si = s.si := rfl
@[simp] theorem State.modLoad_grp (s : State) (f : LoadSt → LoadSt) : (s.modLoad f).grp = s.grp := rfl
@[simp] theorem State.modLoad_flash (s : State) (f : LoadSt → LoadSt) : (s.modLoad f).flash = s.flash := rfl
@[simp] theorem State.modLoad_mem (s : State) (f : LoadSt → LoadSt) : (s.modLoad f).mem = s.mem := rfl
@[simp] theorem State.modLoad_reel (s : State) (f : LoadSt → LoadSt) : (s.modLoad f).reel = s.reel := rfl
@[simp] theorem State.modLoad_cip (s : State) (f : LoadSt → LoadSt) : (s.modLoad f).cip = s.cip := rfl
@[simp] theorem State.modLoad_fw (s : State) (f : LoadSt → LoadSt) : (s.modLoad f).fw = s.fw := rfl
@[simp] theorem State.modLoad_isl (s : State) (f : LoadSt → LoadSt) : (s.modLoad f).isl = s.isl := rfl
@[simp] theorem State.modLoad_life (s : State) (f : LoadSt → LoadSt) : (s.modLoad f).life = s.life := rfl
@[simp] theorem State.modLoad_test (s : State) (f : LoadSt → LoadSt) : (s.modLoad f).test = s.test := rfl
@[simp] theorem State.modLoad_power (s : State) (f : LoadSt → LoadSt) : (s.modLoad f).power = s.power := rfl
@[simp] theorem State.modLoad_clock (s : State) (f : LoadSt → LoadSt) : (s.modLoad f).clock = s.clock := rfl
@[simp] theorem State.modLoad_link (s : State) (f : LoadSt → LoadSt) : (s.modLoad f).link = s.link := rfl
@[simp] theorem State.modLoad_therm (s : State) (f : LoadSt → LoadSt) : (s.modLoad f).therm = s.therm := rfl
@[simp] theorem State.modLoad_mode (s : State) (f : LoadSt → LoadSt) : (s.modLoad f).mode = s.mode := rfl
@[simp] theorem State.modLoad_bad (s : State) (f : LoadSt → LoadSt) : (s.modLoad f).bad = s.bad := rfl
@[simp] theorem State.modLoad_events (s : State) (f : LoadSt → LoadSt) : (s.modLoad f).events = s.events := rfl
@[simp] theorem State.modLoad_memUse (s : State) (f : LoadSt → LoadSt) : (s.modLoad f).memUse = s.memUse := rfl
@[simp] theorem State.modLoad_released (s : State) (f : LoadSt → LoadSt) : (s.modLoad f).released = s.released := rfl
@[simp] theorem State.modLoad_freeCtr (s : State) (f : LoadSt → LoadSt) : (s.modLoad f).freeCtr = s.freeCtr := rfl
@[simp] theorem State.modLoad_pending (s : State) (f : LoadSt → LoadSt) : (s.modLoad f).pending = s.pending := rfl
@[simp] theorem State.modLoad_reg (s : State) (f : LoadSt → LoadSt) (x : Nat) : (s.modLoad f).reg x = s.reg x := rfl
@[simp] theorem State.modLoad_regN (s : State) (f : LoadSt → LoadSt) (x : Nat) : (s.modLoad f).regN x = s.regN x := rfl
@[simp] theorem State.modLoad_regBit (s : State) (f : LoadSt → LoadSt) (x y : Nat) : (s.modLoad f).regBit x y = s.regBit x y := rfl
@[simp] theorem State.modLoad_blob (s : State) (f : LoadSt → LoadSt) (x : Nat) : (s.modLoad f).blob x = s.blob x := rfl
@[simp] theorem State.modLoad_fb (s : State) (f : LoadSt → LoadSt) (x : Nat) : (s.modLoad f).fb x = s.fb x := rfl
@[simp] theorem State.modLoad_cm (s : State) (f : LoadSt → LoadSt) (x : Nat) : (s.modLoad f).cm x = s.cm x := rfl
@[simp] theorem State.modLoad_ev (s : State) (f : LoadSt → LoadSt) (x : Nat) : (s.modLoad f).ev x = s.ev x := rfl
@[simp] theorem State.modLoad_cmp (s : State) (f : LoadSt → LoadSt) (x : Nat) : (s.modLoad f).cmp x = s.cmp x := rfl
@[simp] theorem State.modLoad_cap (s : State) (f : LoadSt → LoadSt) (x : Nat) : (s.modLoad f).cap x = s.cap x := rfl
@[simp] theorem State.modLoad_engine (s : State) (f : LoadSt → LoadSt) (x : Nat) : (s.modLoad f).engine x = s.engine x := rfl
@[simp] theorem State.modLoad_group (s : State) (f : LoadSt → LoadSt) (x : Nat) : (s.modLoad f).group x = s.group x := rfl
@[simp] theorem State.modLoad_standIn (s : State) (f : LoadSt → LoadSt) (x : Nat) : (s.modLoad f).standIn x = s.standIn x := rfl
@[simp] theorem State.modLoad_path (s : State) (f : LoadSt → LoadSt) (x : Path) : (s.modLoad f).path x = s.path x := rfl
@[simp] theorem State.modLoad_bankSt (s : State) (f : LoadSt → LoadSt) (x : Nat) : (s.modLoad f).bankSt x = s.bankSt x := rfl
@[simp] theorem State.modLoad_keySlot (s : State) (f : LoadSt → LoadSt) (x : Nat) : (s.modLoad f).keySlot x = s.keySlot x := rfl
@[simp] theorem State.modLoad_region (s : State) (f : LoadSt → LoadSt) (x : Nat) : (s.modLoad f).region x = s.region x := rfl
@[simp] theorem State.modLoad_sector (s : State) (f : LoadSt → LoadSt) (x : Nat) : (s.modLoad f).sector x = s.sector x := rfl
@[simp] theorem State.modLoad_flBlock (s : State) (f : LoadSt → LoadSt) (x : Nat) : (s.modLoad f).flBlock x = s.flBlock x := rfl
@[simp] theorem State.modLoad_flBank (s : State) (f : LoadSt → LoadSt) (x : Nat) : (s.modLoad f).flBank x = s.flBank x := rfl
@[simp] theorem State.modLoad_flMaster (s : State) (f : LoadSt → LoadSt) (x : FlashMaster) : (s.modLoad f).flMaster x = s.flMaster x := rfl
@[simp] theorem State.modLoad_port (s : State) (f : LoadSt → LoadSt) (x : Nat) : (s.modLoad f).port x = s.port x := rfl
@[simp] theorem State.modLoad_rail (s : State) (f : LoadSt → LoadSt) (x : Nat) : (s.modLoad f).rail x = s.rail x := rfl
@[simp] theorem State.modLoad_member (s : State) (f : LoadSt → LoadSt) (x : Nat) : (s.modLoad f).member x = s.member x := rfl

/-! ### modFw -/

@[simp] theorem State.modFw_regs (s : State) (f : FwSt → FwSt) : (s.modFw f).regs = s.regs := rfl
@[simp] theorem State.modFw_blobs (s : State) (f : FwSt → FwSt) : (s.modFw f).blobs = s.blobs := rfl
@[simp] theorem State.modFw_host (s : State) (f : FwSt → FwSt) : (s.modFw f).host = s.host := rfl
@[simp] theorem State.modFw_fe (s : State) (f : FwSt → FwSt) : (s.modFw f).fe = s.fe := rfl
@[simp] theorem State.modFw_eng (s : State) (f : FwSt → FwSt) : (s.modFw f).eng = s.eng := rfl
@[simp] theorem State.modFw_si (s : State) (f : FwSt → FwSt) : (s.modFw f).si = s.si := rfl
@[simp] theorem State.modFw_grp (s : State) (f : FwSt → FwSt) : (s.modFw f).grp = s.grp := rfl
@[simp] theorem State.modFw_flash (s : State) (f : FwSt → FwSt) : (s.modFw f).flash = s.flash := rfl
@[simp] theorem State.modFw_mem (s : State) (f : FwSt → FwSt) : (s.modFw f).mem = s.mem := rfl
@[simp] theorem State.modFw_reel (s : State) (f : FwSt → FwSt) : (s.modFw f).reel = s.reel := rfl
@[simp] theorem State.modFw_cip (s : State) (f : FwSt → FwSt) : (s.modFw f).cip = s.cip := rfl
@[simp] theorem State.modFw_fab (s : State) (f : FwSt → FwSt) : (s.modFw f).fab = s.fab := rfl
@[simp] theorem State.modFw_isl (s : State) (f : FwSt → FwSt) : (s.modFw f).isl = s.isl := rfl
@[simp] theorem State.modFw_life (s : State) (f : FwSt → FwSt) : (s.modFw f).life = s.life := rfl
@[simp] theorem State.modFw_test (s : State) (f : FwSt → FwSt) : (s.modFw f).test = s.test := rfl
@[simp] theorem State.modFw_power (s : State) (f : FwSt → FwSt) : (s.modFw f).power = s.power := rfl
@[simp] theorem State.modFw_clock (s : State) (f : FwSt → FwSt) : (s.modFw f).clock = s.clock := rfl
@[simp] theorem State.modFw_link (s : State) (f : FwSt → FwSt) : (s.modFw f).link = s.link := rfl
@[simp] theorem State.modFw_therm (s : State) (f : FwSt → FwSt) : (s.modFw f).therm = s.therm := rfl
@[simp] theorem State.modFw_mode (s : State) (f : FwSt → FwSt) : (s.modFw f).mode = s.mode := rfl
@[simp] theorem State.modFw_bad (s : State) (f : FwSt → FwSt) : (s.modFw f).bad = s.bad := rfl
@[simp] theorem State.modFw_events (s : State) (f : FwSt → FwSt) : (s.modFw f).events = s.events := rfl
@[simp] theorem State.modFw_memUse (s : State) (f : FwSt → FwSt) : (s.modFw f).memUse = s.memUse := rfl
@[simp] theorem State.modFw_released (s : State) (f : FwSt → FwSt) : (s.modFw f).released = s.released := rfl
@[simp] theorem State.modFw_freeCtr (s : State) (f : FwSt → FwSt) : (s.modFw f).freeCtr = s.freeCtr := rfl
@[simp] theorem State.modFw_pending (s : State) (f : FwSt → FwSt) : (s.modFw f).pending = s.pending := rfl
@[simp] theorem State.modFw_reg (s : State) (f : FwSt → FwSt) (x : Nat) : (s.modFw f).reg x = s.reg x := rfl
@[simp] theorem State.modFw_regN (s : State) (f : FwSt → FwSt) (x : Nat) : (s.modFw f).regN x = s.regN x := rfl
@[simp] theorem State.modFw_regBit (s : State) (f : FwSt → FwSt) (x y : Nat) : (s.modFw f).regBit x y = s.regBit x y := rfl
@[simp] theorem State.modFw_blob (s : State) (f : FwSt → FwSt) (x : Nat) : (s.modFw f).blob x = s.blob x := rfl
@[simp] theorem State.modFw_fb (s : State) (f : FwSt → FwSt) (x : Nat) : (s.modFw f).fb x = s.fb x := rfl
@[simp] theorem State.modFw_cm (s : State) (f : FwSt → FwSt) (x : Nat) : (s.modFw f).cm x = s.cm x := rfl
@[simp] theorem State.modFw_ev (s : State) (f : FwSt → FwSt) (x : Nat) : (s.modFw f).ev x = s.ev x := rfl
@[simp] theorem State.modFw_cmp (s : State) (f : FwSt → FwSt) (x : Nat) : (s.modFw f).cmp x = s.cmp x := rfl
@[simp] theorem State.modFw_cap (s : State) (f : FwSt → FwSt) (x : Nat) : (s.modFw f).cap x = s.cap x := rfl
@[simp] theorem State.modFw_engine (s : State) (f : FwSt → FwSt) (x : Nat) : (s.modFw f).engine x = s.engine x := rfl
@[simp] theorem State.modFw_group (s : State) (f : FwSt → FwSt) (x : Nat) : (s.modFw f).group x = s.group x := rfl
@[simp] theorem State.modFw_standIn (s : State) (f : FwSt → FwSt) (x : Nat) : (s.modFw f).standIn x = s.standIn x := rfl
@[simp] theorem State.modFw_path (s : State) (f : FwSt → FwSt) (x : Path) : (s.modFw f).path x = s.path x := rfl
@[simp] theorem State.modFw_bankSt (s : State) (f : FwSt → FwSt) (x : Nat) : (s.modFw f).bankSt x = s.bankSt x := rfl
@[simp] theorem State.modFw_keySlot (s : State) (f : FwSt → FwSt) (x : Nat) : (s.modFw f).keySlot x = s.keySlot x := rfl
@[simp] theorem State.modFw_region (s : State) (f : FwSt → FwSt) (x : Nat) : (s.modFw f).region x = s.region x := rfl
@[simp] theorem State.modFw_sector (s : State) (f : FwSt → FwSt) (x : Nat) : (s.modFw f).sector x = s.sector x := rfl
@[simp] theorem State.modFw_flBlock (s : State) (f : FwSt → FwSt) (x : Nat) : (s.modFw f).flBlock x = s.flBlock x := rfl
@[simp] theorem State.modFw_flBank (s : State) (f : FwSt → FwSt) (x : Nat) : (s.modFw f).flBank x = s.flBank x := rfl
@[simp] theorem State.modFw_flMaster (s : State) (f : FwSt → FwSt) (x : FlashMaster) : (s.modFw f).flMaster x = s.flMaster x := rfl
@[simp] theorem State.modFw_port (s : State) (f : FwSt → FwSt) (x : Nat) : (s.modFw f).port x = s.port x := rfl
@[simp] theorem State.modFw_rail (s : State) (f : FwSt → FwSt) (x : Nat) : (s.modFw f).rail x = s.rail x := rfl
@[simp] theorem State.modFw_member (s : State) (f : FwSt → FwSt) (x : Nat) : (s.modFw f).member x = s.member x := rfl

/-! ### modIsl -/

@[simp] theorem State.modIsl_regs (s : State) (f : IslandSt → IslandSt) : (s.modIsl f).regs = s.regs := rfl
@[simp] theorem State.modIsl_blobs (s : State) (f : IslandSt → IslandSt) : (s.modIsl f).blobs = s.blobs := rfl
@[simp] theorem State.modIsl_host (s : State) (f : IslandSt → IslandSt) : (s.modIsl f).host = s.host := rfl
@[simp] theorem State.modIsl_fe (s : State) (f : IslandSt → IslandSt) : (s.modIsl f).fe = s.fe := rfl
@[simp] theorem State.modIsl_eng (s : State) (f : IslandSt → IslandSt) : (s.modIsl f).eng = s.eng := rfl
@[simp] theorem State.modIsl_si (s : State) (f : IslandSt → IslandSt) : (s.modIsl f).si = s.si := rfl
@[simp] theorem State.modIsl_grp (s : State) (f : IslandSt → IslandSt) : (s.modIsl f).grp = s.grp := rfl
@[simp] theorem State.modIsl_flash (s : State) (f : IslandSt → IslandSt) : (s.modIsl f).flash = s.flash := rfl
@[simp] theorem State.modIsl_mem (s : State) (f : IslandSt → IslandSt) : (s.modIsl f).mem = s.mem := rfl
@[simp] theorem State.modIsl_reel (s : State) (f : IslandSt → IslandSt) : (s.modIsl f).reel = s.reel := rfl
@[simp] theorem State.modIsl_cip (s : State) (f : IslandSt → IslandSt) : (s.modIsl f).cip = s.cip := rfl
@[simp] theorem State.modIsl_fab (s : State) (f : IslandSt → IslandSt) : (s.modIsl f).fab = s.fab := rfl
@[simp] theorem State.modIsl_fw (s : State) (f : IslandSt → IslandSt) : (s.modIsl f).fw = s.fw := rfl
@[simp] theorem State.modIsl_life (s : State) (f : IslandSt → IslandSt) : (s.modIsl f).life = s.life := rfl
@[simp] theorem State.modIsl_test (s : State) (f : IslandSt → IslandSt) : (s.modIsl f).test = s.test := rfl
@[simp] theorem State.modIsl_power (s : State) (f : IslandSt → IslandSt) : (s.modIsl f).power = s.power := rfl
@[simp] theorem State.modIsl_clock (s : State) (f : IslandSt → IslandSt) : (s.modIsl f).clock = s.clock := rfl
@[simp] theorem State.modIsl_link (s : State) (f : IslandSt → IslandSt) : (s.modIsl f).link = s.link := rfl
@[simp] theorem State.modIsl_therm (s : State) (f : IslandSt → IslandSt) : (s.modIsl f).therm = s.therm := rfl
@[simp] theorem State.modIsl_mode (s : State) (f : IslandSt → IslandSt) : (s.modIsl f).mode = s.mode := rfl
@[simp] theorem State.modIsl_bad (s : State) (f : IslandSt → IslandSt) : (s.modIsl f).bad = s.bad := rfl
@[simp] theorem State.modIsl_events (s : State) (f : IslandSt → IslandSt) : (s.modIsl f).events = s.events := rfl
@[simp] theorem State.modIsl_memUse (s : State) (f : IslandSt → IslandSt) : (s.modIsl f).memUse = s.memUse := rfl
@[simp] theorem State.modIsl_released (s : State) (f : IslandSt → IslandSt) : (s.modIsl f).released = s.released := rfl
@[simp] theorem State.modIsl_freeCtr (s : State) (f : IslandSt → IslandSt) : (s.modIsl f).freeCtr = s.freeCtr := rfl
@[simp] theorem State.modIsl_pending (s : State) (f : IslandSt → IslandSt) : (s.modIsl f).pending = s.pending := rfl
@[simp] theorem State.modIsl_reg (s : State) (f : IslandSt → IslandSt) (x : Nat) : (s.modIsl f).reg x = s.reg x := rfl
@[simp] theorem State.modIsl_regN (s : State) (f : IslandSt → IslandSt) (x : Nat) : (s.modIsl f).regN x = s.regN x := rfl
@[simp] theorem State.modIsl_regBit (s : State) (f : IslandSt → IslandSt) (x y : Nat) : (s.modIsl f).regBit x y = s.regBit x y := rfl
@[simp] theorem State.modIsl_blob (s : State) (f : IslandSt → IslandSt) (x : Nat) : (s.modIsl f).blob x = s.blob x := rfl
@[simp] theorem State.modIsl_fb (s : State) (f : IslandSt → IslandSt) (x : Nat) : (s.modIsl f).fb x = s.fb x := rfl
@[simp] theorem State.modIsl_cm (s : State) (f : IslandSt → IslandSt) (x : Nat) : (s.modIsl f).cm x = s.cm x := rfl
@[simp] theorem State.modIsl_ev (s : State) (f : IslandSt → IslandSt) (x : Nat) : (s.modIsl f).ev x = s.ev x := rfl
@[simp] theorem State.modIsl_cmp (s : State) (f : IslandSt → IslandSt) (x : Nat) : (s.modIsl f).cmp x = s.cmp x := rfl
@[simp] theorem State.modIsl_cap (s : State) (f : IslandSt → IslandSt) (x : Nat) : (s.modIsl f).cap x = s.cap x := rfl
@[simp] theorem State.modIsl_engine (s : State) (f : IslandSt → IslandSt) (x : Nat) : (s.modIsl f).engine x = s.engine x := rfl
@[simp] theorem State.modIsl_group (s : State) (f : IslandSt → IslandSt) (x : Nat) : (s.modIsl f).group x = s.group x := rfl
@[simp] theorem State.modIsl_standIn (s : State) (f : IslandSt → IslandSt) (x : Nat) : (s.modIsl f).standIn x = s.standIn x := rfl
@[simp] theorem State.modIsl_path (s : State) (f : IslandSt → IslandSt) (x : Path) : (s.modIsl f).path x = s.path x := rfl
@[simp] theorem State.modIsl_bankSt (s : State) (f : IslandSt → IslandSt) (x : Nat) : (s.modIsl f).bankSt x = s.bankSt x := rfl
@[simp] theorem State.modIsl_keySlot (s : State) (f : IslandSt → IslandSt) (x : Nat) : (s.modIsl f).keySlot x = s.keySlot x := rfl
@[simp] theorem State.modIsl_region (s : State) (f : IslandSt → IslandSt) (x : Nat) : (s.modIsl f).region x = s.region x := rfl
@[simp] theorem State.modIsl_sector (s : State) (f : IslandSt → IslandSt) (x : Nat) : (s.modIsl f).sector x = s.sector x := rfl
@[simp] theorem State.modIsl_flBlock (s : State) (f : IslandSt → IslandSt) (x : Nat) : (s.modIsl f).flBlock x = s.flBlock x := rfl
@[simp] theorem State.modIsl_flBank (s : State) (f : IslandSt → IslandSt) (x : Nat) : (s.modIsl f).flBank x = s.flBank x := rfl
@[simp] theorem State.modIsl_flMaster (s : State) (f : IslandSt → IslandSt) (x : FlashMaster) : (s.modIsl f).flMaster x = s.flMaster x := rfl
@[simp] theorem State.modIsl_port (s : State) (f : IslandSt → IslandSt) (x : Nat) : (s.modIsl f).port x = s.port x := rfl
@[simp] theorem State.modIsl_rail (s : State) (f : IslandSt → IslandSt) (x : Nat) : (s.modIsl f).rail x = s.rail x := rfl
@[simp] theorem State.modIsl_member (s : State) (f : IslandSt → IslandSt) (x : Nat) : (s.modIsl f).member x = s.member x := rfl

/-! ### modReel -/

@[simp] theorem State.modReel_regs (s : State) (f : ReelSt → ReelSt) : (s.modReel f).regs = s.regs := rfl
@[simp] theorem State.modReel_blobs (s : State) (f : ReelSt → ReelSt) : (s.modReel f).blobs = s.blobs := rfl
@[simp] theorem State.modReel_host (s : State) (f : ReelSt → ReelSt) : (s.modReel f).host = s.host := rfl
@[simp] theorem State.modReel_fe (s : State) (f : ReelSt → ReelSt) : (s.modReel f).fe = s.fe := rfl
@[simp] theorem State.modReel_eng (s : State) (f : ReelSt → ReelSt) : (s.modReel f).eng = s.eng := rfl
@[simp] theorem State.modReel_si (s : State) (f : ReelSt → ReelSt) : (s.modReel f).si = s.si := rfl
@[simp] theorem State.modReel_grp (s : State) (f : ReelSt → ReelSt) : (s.modReel f).grp = s.grp := rfl
@[simp] theorem State.modReel_flash (s : State) (f : ReelSt → ReelSt) : (s.modReel f).flash = s.flash := rfl
@[simp] theorem State.modReel_mem (s : State) (f : ReelSt → ReelSt) : (s.modReel f).mem = s.mem := rfl
@[simp] theorem State.modReel_cip (s : State) (f : ReelSt → ReelSt) : (s.modReel f).cip = s.cip := rfl
@[simp] theorem State.modReel_fab (s : State) (f : ReelSt → ReelSt) : (s.modReel f).fab = s.fab := rfl
@[simp] theorem State.modReel_fw (s : State) (f : ReelSt → ReelSt) : (s.modReel f).fw = s.fw := rfl
@[simp] theorem State.modReel_isl (s : State) (f : ReelSt → ReelSt) : (s.modReel f).isl = s.isl := rfl
@[simp] theorem State.modReel_life (s : State) (f : ReelSt → ReelSt) : (s.modReel f).life = s.life := rfl
@[simp] theorem State.modReel_test (s : State) (f : ReelSt → ReelSt) : (s.modReel f).test = s.test := rfl
@[simp] theorem State.modReel_power (s : State) (f : ReelSt → ReelSt) : (s.modReel f).power = s.power := rfl
@[simp] theorem State.modReel_clock (s : State) (f : ReelSt → ReelSt) : (s.modReel f).clock = s.clock := rfl
@[simp] theorem State.modReel_link (s : State) (f : ReelSt → ReelSt) : (s.modReel f).link = s.link := rfl
@[simp] theorem State.modReel_therm (s : State) (f : ReelSt → ReelSt) : (s.modReel f).therm = s.therm := rfl
@[simp] theorem State.modReel_mode (s : State) (f : ReelSt → ReelSt) : (s.modReel f).mode = s.mode := rfl
@[simp] theorem State.modReel_bad (s : State) (f : ReelSt → ReelSt) : (s.modReel f).bad = s.bad := rfl
@[simp] theorem State.modReel_events (s : State) (f : ReelSt → ReelSt) : (s.modReel f).events = s.events := rfl
@[simp] theorem State.modReel_memUse (s : State) (f : ReelSt → ReelSt) : (s.modReel f).memUse = s.memUse := rfl
@[simp] theorem State.modReel_released (s : State) (f : ReelSt → ReelSt) : (s.modReel f).released = s.released := rfl
@[simp] theorem State.modReel_freeCtr (s : State) (f : ReelSt → ReelSt) : (s.modReel f).freeCtr = s.freeCtr := rfl
@[simp] theorem State.modReel_pending (s : State) (f : ReelSt → ReelSt) : (s.modReel f).pending = s.pending := rfl
@[simp] theorem State.modReel_reg (s : State) (f : ReelSt → ReelSt) (x : Nat) : (s.modReel f).reg x = s.reg x := rfl
@[simp] theorem State.modReel_regN (s : State) (f : ReelSt → ReelSt) (x : Nat) : (s.modReel f).regN x = s.regN x := rfl
@[simp] theorem State.modReel_regBit (s : State) (f : ReelSt → ReelSt) (x y : Nat) : (s.modReel f).regBit x y = s.regBit x y := rfl
@[simp] theorem State.modReel_blob (s : State) (f : ReelSt → ReelSt) (x : Nat) : (s.modReel f).blob x = s.blob x := rfl
@[simp] theorem State.modReel_fb (s : State) (f : ReelSt → ReelSt) (x : Nat) : (s.modReel f).fb x = s.fb x := rfl
@[simp] theorem State.modReel_cm (s : State) (f : ReelSt → ReelSt) (x : Nat) : (s.modReel f).cm x = s.cm x := rfl
@[simp] theorem State.modReel_ev (s : State) (f : ReelSt → ReelSt) (x : Nat) : (s.modReel f).ev x = s.ev x := rfl
@[simp] theorem State.modReel_cmp (s : State) (f : ReelSt → ReelSt) (x : Nat) : (s.modReel f).cmp x = s.cmp x := rfl
@[simp] theorem State.modReel_cap (s : State) (f : ReelSt → ReelSt) (x : Nat) : (s.modReel f).cap x = s.cap x := rfl
@[simp] theorem State.modReel_engine (s : State) (f : ReelSt → ReelSt) (x : Nat) : (s.modReel f).engine x = s.engine x := rfl
@[simp] theorem State.modReel_group (s : State) (f : ReelSt → ReelSt) (x : Nat) : (s.modReel f).group x = s.group x := rfl
@[simp] theorem State.modReel_standIn (s : State) (f : ReelSt → ReelSt) (x : Nat) : (s.modReel f).standIn x = s.standIn x := rfl
@[simp] theorem State.modReel_path (s : State) (f : ReelSt → ReelSt) (x : Path) : (s.modReel f).path x = s.path x := rfl
@[simp] theorem State.modReel_bankSt (s : State) (f : ReelSt → ReelSt) (x : Nat) : (s.modReel f).bankSt x = s.bankSt x := rfl
@[simp] theorem State.modReel_keySlot (s : State) (f : ReelSt → ReelSt) (x : Nat) : (s.modReel f).keySlot x = s.keySlot x := rfl
@[simp] theorem State.modReel_region (s : State) (f : ReelSt → ReelSt) (x : Nat) : (s.modReel f).region x = s.region x := rfl
@[simp] theorem State.modReel_sector (s : State) (f : ReelSt → ReelSt) (x : Nat) : (s.modReel f).sector x = s.sector x := rfl
@[simp] theorem State.modReel_flBlock (s : State) (f : ReelSt → ReelSt) (x : Nat) : (s.modReel f).flBlock x = s.flBlock x := rfl
@[simp] theorem State.modReel_flBank (s : State) (f : ReelSt → ReelSt) (x : Nat) : (s.modReel f).flBank x = s.flBank x := rfl
@[simp] theorem State.modReel_flMaster (s : State) (f : ReelSt → ReelSt) (x : FlashMaster) : (s.modReel f).flMaster x = s.flMaster x := rfl
@[simp] theorem State.modReel_port (s : State) (f : ReelSt → ReelSt) (x : Nat) : (s.modReel f).port x = s.port x := rfl
@[simp] theorem State.modReel_rail (s : State) (f : ReelSt → ReelSt) (x : Nat) : (s.modReel f).rail x = s.rail x := rfl
@[simp] theorem State.modReel_member (s : State) (f : ReelSt → ReelSt) (x : Nat) : (s.modReel f).member x = s.member x := rfl

/-! ### modLink -/

@[simp] theorem State.modLink_regs (s : State) (f : LinkSt → LinkSt) : (s.modLink f).regs = s.regs := rfl
@[simp] theorem State.modLink_blobs (s : State) (f : LinkSt → LinkSt) : (s.modLink f).blobs = s.blobs := rfl
@[simp] theorem State.modLink_host (s : State) (f : LinkSt → LinkSt) : (s.modLink f).host = s.host := rfl
@[simp] theorem State.modLink_fe (s : State) (f : LinkSt → LinkSt) : (s.modLink f).fe = s.fe := rfl
@[simp] theorem State.modLink_eng (s : State) (f : LinkSt → LinkSt) : (s.modLink f).eng = s.eng := rfl
@[simp] theorem State.modLink_si (s : State) (f : LinkSt → LinkSt) : (s.modLink f).si = s.si := rfl
@[simp] theorem State.modLink_grp (s : State) (f : LinkSt → LinkSt) : (s.modLink f).grp = s.grp := rfl
@[simp] theorem State.modLink_flash (s : State) (f : LinkSt → LinkSt) : (s.modLink f).flash = s.flash := rfl
@[simp] theorem State.modLink_mem (s : State) (f : LinkSt → LinkSt) : (s.modLink f).mem = s.mem := rfl
@[simp] theorem State.modLink_reel (s : State) (f : LinkSt → LinkSt) : (s.modLink f).reel = s.reel := rfl
@[simp] theorem State.modLink_cip (s : State) (f : LinkSt → LinkSt) : (s.modLink f).cip = s.cip := rfl
@[simp] theorem State.modLink_fab (s : State) (f : LinkSt → LinkSt) : (s.modLink f).fab = s.fab := rfl
@[simp] theorem State.modLink_fw (s : State) (f : LinkSt → LinkSt) : (s.modLink f).fw = s.fw := rfl
@[simp] theorem State.modLink_isl (s : State) (f : LinkSt → LinkSt) : (s.modLink f).isl = s.isl := rfl
@[simp] theorem State.modLink_life (s : State) (f : LinkSt → LinkSt) : (s.modLink f).life = s.life := rfl
@[simp] theorem State.modLink_test (s : State) (f : LinkSt → LinkSt) : (s.modLink f).test = s.test := rfl
@[simp] theorem State.modLink_power (s : State) (f : LinkSt → LinkSt) : (s.modLink f).power = s.power := rfl
@[simp] theorem State.modLink_clock (s : State) (f : LinkSt → LinkSt) : (s.modLink f).clock = s.clock := rfl
@[simp] theorem State.modLink_therm (s : State) (f : LinkSt → LinkSt) : (s.modLink f).therm = s.therm := rfl
@[simp] theorem State.modLink_mode (s : State) (f : LinkSt → LinkSt) : (s.modLink f).mode = s.mode := rfl
@[simp] theorem State.modLink_bad (s : State) (f : LinkSt → LinkSt) : (s.modLink f).bad = s.bad := rfl
@[simp] theorem State.modLink_events (s : State) (f : LinkSt → LinkSt) : (s.modLink f).events = s.events := rfl
@[simp] theorem State.modLink_memUse (s : State) (f : LinkSt → LinkSt) : (s.modLink f).memUse = s.memUse := rfl
@[simp] theorem State.modLink_released (s : State) (f : LinkSt → LinkSt) : (s.modLink f).released = s.released := rfl
@[simp] theorem State.modLink_freeCtr (s : State) (f : LinkSt → LinkSt) : (s.modLink f).freeCtr = s.freeCtr := rfl
@[simp] theorem State.modLink_pending (s : State) (f : LinkSt → LinkSt) : (s.modLink f).pending = s.pending := rfl
@[simp] theorem State.modLink_reg (s : State) (f : LinkSt → LinkSt) (x : Nat) : (s.modLink f).reg x = s.reg x := rfl
@[simp] theorem State.modLink_regN (s : State) (f : LinkSt → LinkSt) (x : Nat) : (s.modLink f).regN x = s.regN x := rfl
@[simp] theorem State.modLink_regBit (s : State) (f : LinkSt → LinkSt) (x y : Nat) : (s.modLink f).regBit x y = s.regBit x y := rfl
@[simp] theorem State.modLink_blob (s : State) (f : LinkSt → LinkSt) (x : Nat) : (s.modLink f).blob x = s.blob x := rfl
@[simp] theorem State.modLink_fb (s : State) (f : LinkSt → LinkSt) (x : Nat) : (s.modLink f).fb x = s.fb x := rfl
@[simp] theorem State.modLink_cm (s : State) (f : LinkSt → LinkSt) (x : Nat) : (s.modLink f).cm x = s.cm x := rfl
@[simp] theorem State.modLink_ev (s : State) (f : LinkSt → LinkSt) (x : Nat) : (s.modLink f).ev x = s.ev x := rfl
@[simp] theorem State.modLink_cmp (s : State) (f : LinkSt → LinkSt) (x : Nat) : (s.modLink f).cmp x = s.cmp x := rfl
@[simp] theorem State.modLink_cap (s : State) (f : LinkSt → LinkSt) (x : Nat) : (s.modLink f).cap x = s.cap x := rfl
@[simp] theorem State.modLink_engine (s : State) (f : LinkSt → LinkSt) (x : Nat) : (s.modLink f).engine x = s.engine x := rfl
@[simp] theorem State.modLink_group (s : State) (f : LinkSt → LinkSt) (x : Nat) : (s.modLink f).group x = s.group x := rfl
@[simp] theorem State.modLink_standIn (s : State) (f : LinkSt → LinkSt) (x : Nat) : (s.modLink f).standIn x = s.standIn x := rfl
@[simp] theorem State.modLink_path (s : State) (f : LinkSt → LinkSt) (x : Path) : (s.modLink f).path x = s.path x := rfl
@[simp] theorem State.modLink_bankSt (s : State) (f : LinkSt → LinkSt) (x : Nat) : (s.modLink f).bankSt x = s.bankSt x := rfl
@[simp] theorem State.modLink_keySlot (s : State) (f : LinkSt → LinkSt) (x : Nat) : (s.modLink f).keySlot x = s.keySlot x := rfl
@[simp] theorem State.modLink_region (s : State) (f : LinkSt → LinkSt) (x : Nat) : (s.modLink f).region x = s.region x := rfl
@[simp] theorem State.modLink_sector (s : State) (f : LinkSt → LinkSt) (x : Nat) : (s.modLink f).sector x = s.sector x := rfl
@[simp] theorem State.modLink_flBlock (s : State) (f : LinkSt → LinkSt) (x : Nat) : (s.modLink f).flBlock x = s.flBlock x := rfl
@[simp] theorem State.modLink_flBank (s : State) (f : LinkSt → LinkSt) (x : Nat) : (s.modLink f).flBank x = s.flBank x := rfl
@[simp] theorem State.modLink_flMaster (s : State) (f : LinkSt → LinkSt) (x : FlashMaster) : (s.modLink f).flMaster x = s.flMaster x := rfl
@[simp] theorem State.modLink_port (s : State) (f : LinkSt → LinkSt) (x : Nat) : (s.modLink f).port x = s.port x := rfl
@[simp] theorem State.modLink_rail (s : State) (f : LinkSt → LinkSt) (x : Nat) : (s.modLink f).rail x = s.rail x := rfl

/-! ### modMember -/

@[simp] theorem State.modMember_regs (s : State) (i : Nat) (f : Member → Member) : (s.modMember i f).regs = s.regs := rfl
@[simp] theorem State.modMember_blobs (s : State) (i : Nat) (f : Member → Member) : (s.modMember i f).blobs = s.blobs := rfl
@[simp] theorem State.modMember_host (s : State) (i : Nat) (f : Member → Member) : (s.modMember i f).host = s.host := rfl
@[simp] theorem State.modMember_fe (s : State) (i : Nat) (f : Member → Member) : (s.modMember i f).fe = s.fe := rfl
@[simp] theorem State.modMember_eng (s : State) (i : Nat) (f : Member → Member) : (s.modMember i f).eng = s.eng := rfl
@[simp] theorem State.modMember_si (s : State) (i : Nat) (f : Member → Member) : (s.modMember i f).si = s.si := rfl
@[simp] theorem State.modMember_grp (s : State) (i : Nat) (f : Member → Member) : (s.modMember i f).grp = s.grp := rfl
@[simp] theorem State.modMember_flash (s : State) (i : Nat) (f : Member → Member) : (s.modMember i f).flash = s.flash := rfl
@[simp] theorem State.modMember_mem (s : State) (i : Nat) (f : Member → Member) : (s.modMember i f).mem = s.mem := rfl
@[simp] theorem State.modMember_reel (s : State) (i : Nat) (f : Member → Member) : (s.modMember i f).reel = s.reel := rfl
@[simp] theorem State.modMember_cip (s : State) (i : Nat) (f : Member → Member) : (s.modMember i f).cip = s.cip := rfl
@[simp] theorem State.modMember_fab (s : State) (i : Nat) (f : Member → Member) : (s.modMember i f).fab = s.fab := rfl
@[simp] theorem State.modMember_fw (s : State) (i : Nat) (f : Member → Member) : (s.modMember i f).fw = s.fw := rfl
@[simp] theorem State.modMember_isl (s : State) (i : Nat) (f : Member → Member) : (s.modMember i f).isl = s.isl := rfl
@[simp] theorem State.modMember_life (s : State) (i : Nat) (f : Member → Member) : (s.modMember i f).life = s.life := rfl
@[simp] theorem State.modMember_test (s : State) (i : Nat) (f : Member → Member) : (s.modMember i f).test = s.test := rfl
@[simp] theorem State.modMember_power (s : State) (i : Nat) (f : Member → Member) : (s.modMember i f).power = s.power := rfl
@[simp] theorem State.modMember_clock (s : State) (i : Nat) (f : Member → Member) : (s.modMember i f).clock = s.clock := rfl
@[simp] theorem State.modMember_therm (s : State) (i : Nat) (f : Member → Member) : (s.modMember i f).therm = s.therm := rfl
@[simp] theorem State.modMember_mode (s : State) (i : Nat) (f : Member → Member) : (s.modMember i f).mode = s.mode := rfl
@[simp] theorem State.modMember_bad (s : State) (i : Nat) (f : Member → Member) : (s.modMember i f).bad = s.bad := rfl
@[simp] theorem State.modMember_events (s : State) (i : Nat) (f : Member → Member) : (s.modMember i f).events = s.events := rfl
@[simp] theorem State.modMember_memUse (s : State) (i : Nat) (f : Member → Member) : (s.modMember i f).memUse = s.memUse := rfl
@[simp] theorem State.modMember_released (s : State) (i : Nat) (f : Member → Member) : (s.modMember i f).released = s.released := rfl
@[simp] theorem State.modMember_freeCtr (s : State) (i : Nat) (f : Member → Member) : (s.modMember i f).freeCtr = s.freeCtr := rfl
@[simp] theorem State.modMember_pending (s : State) (i : Nat) (f : Member → Member) : (s.modMember i f).pending = s.pending := rfl
@[simp] theorem State.modMember_reg (s : State) (i : Nat) (f : Member → Member) (x : Nat) : (s.modMember i f).reg x = s.reg x := rfl
@[simp] theorem State.modMember_regN (s : State) (i : Nat) (f : Member → Member) (x : Nat) : (s.modMember i f).regN x = s.regN x := rfl
@[simp] theorem State.modMember_regBit (s : State) (i : Nat) (f : Member → Member) (x y : Nat) : (s.modMember i f).regBit x y = s.regBit x y := rfl
@[simp] theorem State.modMember_blob (s : State) (i : Nat) (f : Member → Member) (x : Nat) : (s.modMember i f).blob x = s.blob x := rfl
@[simp] theorem State.modMember_fb (s : State) (i : Nat) (f : Member → Member) (x : Nat) : (s.modMember i f).fb x = s.fb x := rfl
@[simp] theorem State.modMember_cm (s : State) (i : Nat) (f : Member → Member) (x : Nat) : (s.modMember i f).cm x = s.cm x := rfl
@[simp] theorem State.modMember_ev (s : State) (i : Nat) (f : Member → Member) (x : Nat) : (s.modMember i f).ev x = s.ev x := rfl
@[simp] theorem State.modMember_cmp (s : State) (i : Nat) (f : Member → Member) (x : Nat) : (s.modMember i f).cmp x = s.cmp x := rfl
@[simp] theorem State.modMember_cap (s : State) (i : Nat) (f : Member → Member) (x : Nat) : (s.modMember i f).cap x = s.cap x := rfl
@[simp] theorem State.modMember_engine (s : State) (i : Nat) (f : Member → Member) (x : Nat) : (s.modMember i f).engine x = s.engine x := rfl
@[simp] theorem State.modMember_group (s : State) (i : Nat) (f : Member → Member) (x : Nat) : (s.modMember i f).group x = s.group x := rfl
@[simp] theorem State.modMember_standIn (s : State) (i : Nat) (f : Member → Member) (x : Nat) : (s.modMember i f).standIn x = s.standIn x := rfl
@[simp] theorem State.modMember_path (s : State) (i : Nat) (f : Member → Member) (x : Path) : (s.modMember i f).path x = s.path x := rfl
@[simp] theorem State.modMember_bankSt (s : State) (i : Nat) (f : Member → Member) (x : Nat) : (s.modMember i f).bankSt x = s.bankSt x := rfl
@[simp] theorem State.modMember_keySlot (s : State) (i : Nat) (f : Member → Member) (x : Nat) : (s.modMember i f).keySlot x = s.keySlot x := rfl
@[simp] theorem State.modMember_region (s : State) (i : Nat) (f : Member → Member) (x : Nat) : (s.modMember i f).region x = s.region x := rfl
@[simp] theorem State.modMember_sector (s : State) (i : Nat) (f : Member → Member) (x : Nat) : (s.modMember i f).sector x = s.sector x := rfl
@[simp] theorem State.modMember_flBlock (s : State) (i : Nat) (f : Member → Member) (x : Nat) : (s.modMember i f).flBlock x = s.flBlock x := rfl
@[simp] theorem State.modMember_flBank (s : State) (i : Nat) (f : Member → Member) (x : Nat) : (s.modMember i f).flBank x = s.flBank x := rfl
@[simp] theorem State.modMember_flMaster (s : State) (i : Nat) (f : Member → Member) (x : FlashMaster) : (s.modMember i f).flMaster x = s.flMaster x := rfl
@[simp] theorem State.modMember_port (s : State) (i : Nat) (f : Member → Member) (x : Nat) : (s.modMember i f).port x = s.port x := rfl
@[simp] theorem State.modMember_rail (s : State) (i : Nat) (f : Member → Member) (x : Nat) : (s.modMember i f).rail x = s.rail x := rfl

/-! ### What was written is read back, and other numbers keep their values -/

@[simp] theorem State.setReg_reg_self (s : State) (k : Nat) (v : Int) : (s.setReg k v).reg k = v := tabGet_set_self _ _ _ _
theorem State.setReg_reg_ne (s : State) (k j : Nat) (v : Int) (h : j ≠ k) : (s.setReg k v).reg j = s.reg j := tabGet_set_ne _ _ _ _ _ h
@[simp] theorem State.setBlob_blob_self (s : State) (k : Nat) (v : List Byte) : (s.setBlob k v).blob k = v := tabGet_set_self _ _ _ _
theorem State.setBlob_blob_ne (s : State) (k j : Nat) (v : List Byte) (h : j ≠ k) : (s.setBlob k v).blob j = s.blob j := tabGet_set_ne _ _ _ _ _ h
@[simp] theorem State.setSector_sector_self (s : State) (k : Nat) (v : Sector) : (s.setSector k v).sector k = v := tabGet_set_self _ _ _ _
theorem State.setSector_sector_ne (s : State) (k j : Nat) (v : Sector) (h : j ≠ k) : (s.setSector k v).sector j = s.sector j := tabGet_set_ne _ _ _ _ _ h
@[simp] theorem State.modFb_fb_self (s : State) (k : Nat) (f : FbPort → FbPort) : (s.modFb k f).fb k = f (s.fb k) := tabGet_set_self _ _ _ _
theorem State.modFb_fb_ne (s : State) (k j : Nat) (f : FbPort → FbPort) (h : j ≠ k) : (s.modFb k f).fb j = s.fb j := tabGet_set_ne _ _ _ _ _ h
@[simp] theorem State.modCm_cm_self (s : State) (k : Nat) (f : CmPort → CmPort) : (s.modCm k f).cm k = f (s.cm k) := tabGet_set_self _ _ _ _
theorem State.modCm_cm_ne (s : State) (k j : Nat) (f : CmPort → CmPort) (h : j ≠ k) : (s.modCm k f).cm j = s.cm j := tabGet_set_ne _ _ _ _ _ h
@[simp] theorem State.modEv_ev_self (s : State) (k : Nat) (f : EvChan → EvChan) : (s.modEv k f).ev k = f (s.ev k) := tabGet_set_self _ _ _ _
theorem State.modEv_ev_ne (s : State) (k j : Nat) (f : EvChan → EvChan) (h : j ≠ k) : (s.modEv k f).ev j = s.ev j := tabGet_set_ne _ _ _ _ _ h
@[simp] theorem State.modCmp_cmp_self (s : State) (k : Nat) (f : CmpUnit → CmpUnit) : (s.modCmp k f).cmp k = f (s.cmp k) := tabGet_set_self _ _ _ _
theorem State.modCmp_cmp_ne (s : State) (k j : Nat) (f : CmpUnit → CmpUnit) (h : j ≠ k) : (s.modCmp k f).cmp j = s.cmp j := tabGet_set_ne _ _ _ _ _ h
@[simp] theorem State.modCap_cap_self (s : State) (k : Nat) (f : CapUnit → CapUnit) : (s.modCap k f).cap k = f (s.cap k) := tabGet_set_self _ _ _ _
theorem State.modCap_cap_ne (s : State) (k j : Nat) (f : CapUnit → CapUnit) (h : j ≠ k) : (s.modCap k f).cap j = s.cap j := tabGet_set_ne _ _ _ _ _ h
@[simp] theorem State.modEng_engine_self (s : State) (k : Nat) (f : Eng → Eng) : (s.modEng k f).engine k = f (s.engine k) := tabGet_set_self _ _ _ _
theorem State.modEng_engine_ne (s : State) (k j : Nat) (f : Eng → Eng) (h : j ≠ k) : (s.modEng k f).engine j = s.engine j := tabGet_set_ne _ _ _ _ _ h
@[simp] theorem State.modGrp_group_self (s : State) (k : Nat) (f : Grp → Grp) : (s.modGrp k f).group k = f (s.group k) := tabGet_set_self _ _ _ _
theorem State.modGrp_group_ne (s : State) (k j : Nat) (f : Grp → Grp) (h : j ≠ k) : (s.modGrp k f).group j = s.group j := tabGet_set_ne _ _ _ _ _ h
@[simp] theorem State.modSi_standIn_self (s : State) (k : Nat) (f : Si → Si) : (s.modSi k f).standIn k = f (s.standIn k) := tabGet_set_self _ _ _ _
theorem State.modSi_standIn_ne (s : State) (k j : Nat) (f : Si → Si) (h : j ≠ k) : (s.modSi k f).standIn j = s.standIn j := tabGet_set_ne _ _ _ _ _ h
@[simp] theorem State.modBank_bankSt_self (s : State) (k : Nat) (f : BankSt → BankSt) : (s.modBank k f).bankSt k = f (s.bankSt k) := tabGet_set_self _ _ _ _
theorem State.modBank_bankSt_ne (s : State) (k j : Nat) (f : BankSt → BankSt) (h : j ≠ k) : (s.modBank k f).bankSt j = s.bankSt j := tabGet_set_ne _ _ _ _ _ h
@[simp] theorem State.modKey_keySlot_self (s : State) (k : Nat) (f : KeySlot → KeySlot) : (s.modKey k f).keySlot k = f (s.keySlot k) := tabGet_set_self _ _ _ _
theorem State.modKey_keySlot_ne (s : State) (k j : Nat) (f : KeySlot → KeySlot) (h : j ≠ k) : (s.modKey k f).keySlot j = s.keySlot j := tabGet_set_ne _ _ _ _ _ h
@[simp] theorem State.modRegion_region_self (s : State) (k : Nat) (f : StRegion → StRegion) : (s.modRegion k f).region k = f (s.region k) := tabGet_set_self _ _ _ _
theorem State.modRegion_region_ne (s : State) (k j : Nat) (f : StRegion → StRegion) (h : j ≠ k) : (s.modRegion k f).region j = s.region j := tabGet_set_ne _ _ _ _ _ h
@[simp] theorem State.modFlBlock_flBlock_self (s : State) (k : Nat) (f : FlBlock → FlBlock) : (s.modFlBlock k f).flBlock k = f (s.flBlock k) := tabGet_set_self _ _ _ _
theorem State.modFlBlock_flBlock_ne (s : State) (k j : Nat) (f : FlBlock → FlBlock) (h : j ≠ k) : (s.modFlBlock k f).flBlock j = s.flBlock j := tabGet_set_ne _ _ _ _ _ h
@[simp] theorem State.modFlBank_flBank_self (s : State) (k : Nat) (f : FlBank → FlBank) : (s.modFlBank k f).flBank k = f (s.flBank k) := tabGet_set_self _ _ _ _
theorem State.modFlBank_flBank_ne (s : State) (k j : Nat) (f : FlBank → FlBank) (h : j ≠ k) : (s.modFlBank k f).flBank j = s.flBank j := tabGet_set_ne _ _ _ _ _ h
@[simp] theorem State.modPort_port_self (s : State) (k : Nat) (f : FabPort → FabPort) : (s.modPort k f).port k = f (s.port k) := tabGet_set_self _ _ _ _
theorem State.modPort_port_ne (s : State) (k j : Nat) (f : FabPort → FabPort) (h : j ≠ k) : (s.modPort k f).port j = s.port j := tabGet_set_ne _ _ _ _ _ h
@[simp] theorem State.modRail_rail_self (s : State) (k : Nat) (f : RailSt → RailSt) : (s.modRail k f).rail k = f (s.rail k) := tabGet_set_self _ _ _ _
theorem State.modRail_rail_ne (s : State) (k j : Nat) (f : RailSt → RailSt) (h : j ≠ k) : (s.modRail k f).rail j = s.rail j := tabGet_set_ne _ _ _ _ _ h
@[simp] theorem State.modMember_member_self (s : State) (k : Nat) (f : Member → Member) : (s.modMember k f).member k = f (s.member k) := tabGet_set_self _ _ _ _
theorem State.modMember_member_ne (s : State) (k j : Nat) (f : Member → Member) (h : j ≠ k) : (s.modMember k f).member j = s.member j := tabGet_set_ne _ _ _ _ _ h
@[simp] theorem State.modPath_path_self (s : State) (p : Path) (f : PathSt → PathSt) : (s.modPath p f).path p = f (s.path p) :=
  tabGet_set_self _ _ _ _
theorem State.modPath_path_ne (s : State) (p q : Path) (f : PathSt → PathSt) (h : q ≠ p) : (s.modPath p f).path q = s.path q := by
  refine tabGet_set_ne _ _ _ _ _ ?_
  cases p <;> cases q <;> simp_all [pathNo]
@[simp] theorem State.modHpi_host_hpi (s : State) (f : HpiSt → HpiSt) : (s.modHpi f).host.hpi = f s.host.hpi := rfl
@[simp] theorem State.modFn_host_fn (s : State) (f : FnSt → FnSt) : (s.modFn f).host.fn = f s.host.fn := rfl
@[simp] theorem State.modStore_host_store (s : State) (f : StoreSt → StoreSt) : (s.modStore f).host.store = f s.host.store := rfl
@[simp] theorem State.modSafe_fe_safe (s : State) (f : SafeSt → SafeSt) : (s.modSafe f).fe.safe = f s.fe.safe := rfl
@[simp] theorem State.modMem_mem (s : State) (f : MemSt → MemSt) : (s.modMem f).mem = f s.mem := rfl
@[simp] theorem State.modCip_cip (s : State) (f : CipherSt → CipherSt) : (s.modCip f).cip = f s.cip := rfl
@[simp] theorem State.modFlash_flash (s : State) (f : FlashSt → FlashSt) : (s.modFlash f).flash = f s.flash := rfl
@[simp] theorem State.modFab_fab (s : State) (f : FabSt → FabSt) : (s.modFab f).fab = f s.fab := rfl
@[simp] theorem State.modFw_fw (s : State) (f : FwSt → FwSt) : (s.modFw f).fw = f s.fw := rfl
@[simp] theorem State.modIsl_isl (s : State) (f : IslandSt → IslandSt) : (s.modIsl f).isl = f s.isl := rfl
@[simp] theorem State.modReel_reel (s : State) (f : ReelSt → ReelSt) : (s.modReel f).reel = f s.reel := rfl
@[simp] theorem State.modLink_link (s : State) (f : LinkSt → LinkSt) : (s.modLink f).link = f s.link := rfl

end Sys2Proof.Machine
end

