-- ==== Sys2Proof/Laws/Ops.lean ====
section
/-! SUPPORT. What each shared operation does, said once: the acceptance, checking and completion of requests, emergencies,
and repeated operations. -/

namespace Sys2Proof.Machine

/-! ## Repetition -/

/-- What holds at first and is kept by each repetition holds at the end. -/
theorem forN_keeps (P : State → Prop) (n : Nat) (f : State → Nat → State) (s : State) (h : P s)
    (hf : ∀ s i, i < n → P s → P (f s i)) : P (forN n f s) := by
  have key : ∀ (l : List Nat) (s : State), (∀ i ∈ l, i < n) → P s → P (l.foldl f s) := by
    intro l
    induction l with
    | nil => intro s _ h; exact h
    | cons i l ih =>
      intro s hl h
      exact ih _ (fun j hj => hl j (by simp [hj])) (hf s i (hl i (by simp)) h)
  exact key _ s (by simp) h

/-- The same for a list. -/
theorem foldl_keeps {α : Type} (P : State → Prop) (f : State → α → State) (l : List α) (s : State) (h : P s)
    (hf : ∀ s x, x ∈ l → P s → P (f s x)) : P (l.foldl f s) := by
  induction l generalizing s with
  | nil => exact h
  | cons x l ih => exact ih _ (hf s x (by simp) h) (fun s y hy => hf s y (by simp [hy]))

/-- A step that depends on its own number only sets unit `n` as it finds it: the other steps leave that unit alone. -/
theorem forN_succ (n : Nat) (f : State → Nat → State) (s : State) : forN (n + 1) f s = f (forN n f s) n := by
  simp [forN, List.range_succ]

@[simp] theorem forN_zero (f : State → Nat → State) (s : State) : forN 0 f s = s := rfl

/-! ## Output queues -/

@[simp] theorem pushRec_blobs (s : State) (p : Path) (r : OutRec) : (pushRec s p r).blobs = s.blobs := by
  unfold pushRec; dsimp only; split <;> split <;> rfl
@[simp] theorem pushRec_fe (s : State) (p : Path) (r : OutRec) : (pushRec s p r).fe = s.fe := by
  unfold pushRec; dsimp only; split <;> split <;> rfl
@[simp] theorem pushRec_eng (s : State) (p : Path) (r : OutRec) : (pushRec s p r).eng = s.eng := by
  unfold pushRec; dsimp only; split <;> split <;> rfl
@[simp] theorem pushRec_si (s : State) (p : Path) (r : OutRec) : (pushRec s p r).si = s.si := by
  unfold pushRec; dsimp only; split <;> split <;> rfl
@[simp] theorem pushRec_grp (s : State) (p : Path) (r : OutRec) : (pushRec s p r).grp = s.grp := by
  unfold pushRec; dsimp only; split <;> split <;> rfl
@[simp] theorem pushRec_flash (s : State) (p : Path) (r : OutRec) : (pushRec s p r).flash = s.flash := by
  unfold pushRec; dsimp only; split <;> split <;> rfl
@[simp] theorem pushRec_mem (s : State) (p : Path) (r : OutRec) : (pushRec s p r).mem = s.mem := by
  unfold pushRec; dsimp only; split <;> split <;> rfl
@[simp] theorem pushRec_reel (s : State) (p : Path) (r : OutRec) : (pushRec s p r).reel = s.reel := by
  unfold pushRec; dsimp only; split <;> split <;> rfl
@[simp] theorem pushRec_cip (s : State) (p : Path) (r : OutRec) : (pushRec s p r).cip = s.cip := by
  unfold pushRec; dsimp only; split <;> split <;> rfl
@[simp] theorem pushRec_fab (s : State) (p : Path) (r : OutRec) : (pushRec s p r).fab = s.fab := by
  unfold pushRec; dsimp only; split <;> split <;> rfl
@[simp] theorem pushRec_fw (s : State) (p : Path) (r : OutRec) : (pushRec s p r).fw = s.fw := by
  unfold pushRec; dsimp only; split <;> split <;> rfl
@[simp] theorem pushRec_isl (s : State) (p : Path) (r : OutRec) : (pushRec s p r).isl = s.isl := by
  unfold pushRec; dsimp only; split <;> split <;> rfl
@[simp] theorem pushRec_life (s : State) (p : Path) (r : OutRec) : (pushRec s p r).life = s.life := by
  unfold pushRec; dsimp only; split <;> split <;> rfl
@[simp] theorem pushRec_test (s : State) (p : Path) (r : OutRec) : (pushRec s p r).test = s.test := by
  unfold pushRec; dsimp only; split <;> split <;> rfl
@[simp] theorem pushRec_power (s : State) (p : Path) (r : OutRec) : (pushRec s p r).power = s.power := by
  unfold pushRec; dsimp only; split <;> split <;> rfl
@[simp] theorem pushRec_clock (s : State) (p : Path) (r : OutRec) : (pushRec s p r).clock = s.clock := by
  unfold pushRec; dsimp only; split <;> split <;> rfl
@[simp] theorem pushRec_link (s : State) (p : Path) (r : OutRec) : (pushRec s p r).link = s.link := by
  unfold pushRec; dsimp only; split <;> split <;> rfl
@[simp] theorem pushRec_therm (s : State) (p : Path) (r : OutRec) : (pushRec s p r).therm = s.therm := by
  unfold pushRec; dsimp only; split <;> split <;> rfl
@[simp] theorem pushRec_mode (s : State) (p : Path) (r : OutRec) : (pushRec s p r).mode = s.mode := by
  unfold pushRec; dsimp only; split <;> split <;> rfl
@[simp] theorem pushRec_bad (s : State) (p : Path) (r : OutRec) : (pushRec s p r).bad = s.bad := by
  unfold pushRec; dsimp only; split <;> split <;> rfl
@[simp] theorem pushRec_events (s : State) (p : Path) (r : OutRec) : (pushRec s p r).events = s.events := by
  unfold pushRec; dsimp only; split <;> split <;> rfl
@[simp] theorem pushRec_memUse (s : State) (p : Path) (r : OutRec) : (pushRec s p r).memUse = s.memUse := by
  unfold pushRec; dsimp only; split <;> split <;> rfl
@[simp] theorem pushRec_released (s : State) (p : Path) (r : OutRec) : (pushRec s p r).released = s.released := by
  unfold pushRec; dsimp only; split <;> split <;> rfl
@[simp] theorem pushRec_freeCtr (s : State) (p : Path) (r : OutRec) : (pushRec s p r).freeCtr = s.freeCtr := by
  unfold pushRec; dsimp only; split <;> split <;> rfl
@[simp] theorem pushRec_pending (s : State) (p : Path) (r : OutRec) : (pushRec s p r).pending = s.pending := by
  unfold pushRec; dsimp only; split <;> split <;> rfl
@[simp] theorem pushRec_host_attCounter (s : State) (p : Path) (r : OutRec) : (pushRec s p r).host.attCounter = s.host.attCounter := by
  unfold pushRec; dsimp only; split <;> split <;> rfl
@[simp] theorem pushRec_host_fn (s : State) (p : Path) (r : OutRec) : (pushRec s p r).host.fn = s.host.fn := by
  unfold pushRec; dsimp only; split <;> split <;> rfl
@[simp] theorem pushRec_host_can0 (s : State) (p : Path) (r : OutRec) : (pushRec s p r).host.can0 = s.host.can0 := by
  unfold pushRec; dsimp only; split <;> split <;> rfl
@[simp] theorem pushRec_host_can1 (s : State) (p : Path) (r : OutRec) : (pushRec s p r).host.can1 = s.host.can1 := by
  unfold pushRec; dsimp only; split <;> split <;> rfl
@[simp] theorem pushRec_host_store (s : State) (p : Path) (r : OutRec) : (pushRec s p r).host.store = s.host.store := by
  unfold pushRec; dsimp only; split <;> split <;> rfl
@[simp] theorem pushRec_served (s : State) (p : Path) (r : OutRec) : (pushRec s p r).host.hpi.served = s.host.hpi.served := by
  unfold pushRec; dsimp only; split <;> split <;> rfl
@[simp] theorem pushRec_waits (s : State) (p : Path) (r : OutRec) : (pushRec s p r).host.waits = s.host.waits := by
  unfold pushRec; dsimp only; split <;> split <;> rfl
/-- A completion record changes no entry. -/
@[simp] theorem pushRec_cpl_regs (s : State) (p : Path) (a b c d e f : Nat) (g : List Byte) :
    (pushRec s p (.cpl a b c d e f g)).regs = s.regs := by
  unfold pushRec; simp only [isEmcy, Bool.false_and, Bool.false_eq_true, if_false]; split <;> simp
/-- A record touches no entry but EMCY_OVERFLOW. -/
theorem pushRec_reg (s : State) (p : Path) (r : OutRec) (k : Nat) (h : k ≠ K.tagEmcyOverflow) :
    (pushRec s p r).reg k = s.reg k := by
  unfold pushRec; dsimp only
  split <;> split <;> simp [State.bump, State.setReg_reg_ne _ _ _ _ h]
theorem pushRec_path_ne (s : State) (p q : Path) (r : OutRec) (h : q ≠ p) : (pushRec s p r).path q = s.path q := by
  unfold pushRec; dsimp only
  split <;> split <;> simp [State.modPath_path_ne _ _ _ _ h]
/-- A record enters its path's queue at the end; an emergency record may push out the oldest one of its kind. -/
theorem pushRec_outq (s : State) (p : Path) (r : OutRec) : ∃ q, ((pushRec s p r).path p).outq = q ++ [r] ∧
    (q = (s.path p).outq ∨ q = dropFirstEmcy (s.path p).outq) := by
  unfold pushRec; dsimp only
  split <;> split <;> simp
/-- Nothing of a path but its queue changes. -/
@[simp] theorem pushRec_flights (s : State) (p q : Path) (r : OutRec) : ((pushRec s p r).path q).flights = (s.path q).flights := by
  by_cases h : q = p
  · subst h; unfold pushRec; dsimp only; split <;> split <;> simp
  · rw [pushRec_path_ne s p q r h]
@[simp] theorem pushRec_resp (s : State) (p q : Path) (r : OutRec) : ((pushRec s p r).path q).resp = (s.path q).resp := by
  by_cases h : q = p
  · subst h; unfold pushRec; dsimp only; split <;> split <;> simp
  · rw [pushRec_path_ne s p q r h]

/-! ## Registering, answering and waiting -/

@[simp] theorem register_blobs (s : State) (r : Req) (key op : Nat) : (register s r key op).blobs = s.blobs := by
  unfold register; split <;> rfl
@[simp] theorem register_fe (s : State) (r : Req) (key op : Nat) : (register s r key op).fe = s.fe := by
  unfold register; split <;> rfl
@[simp] theorem register_eng (s : State) (r : Req) (key op : Nat) : (register s r key op).eng = s.eng := by
  unfold register; split <;> rfl
@[simp] theorem register_si (s : State) (r : Req) (key op : Nat) : (register s r key op).si = s.si := by
  unfold register; split <;> rfl
@[simp] theorem register_grp (s : State) (r : Req) (key op : Nat) : (register s r key op).grp = s.grp := by
  unfold register; split <;> rfl
@[simp] theorem register_flash (s : State) (r : Req) (key op : Nat) : (register s r key op).flash = s.flash := by
  unfold register; split <;> rfl
@[simp] theorem register_mem (s : State) (r : Req) (key op : Nat) : (register s r key op).mem = s.mem := by
  unfold register; split <;> rfl
@[simp] theorem register_reel (s : State) (r : Req) (key op : Nat) : (register s r key op).reel = s.reel := by
  unfold register; split <;> rfl
@[simp] theorem register_cip (s : State) (r : Req) (key op : Nat) : (register s r key op).cip = s.cip := by
  unfold register; split <;> rfl
@[simp] theorem register_fab (s : State) (r : Req) (key op : Nat) : (register s r key op).fab = s.fab := by
  unfold register; split <;> rfl
@[simp] theorem register_fw (s : State) (r : Req) (key op : Nat) : (register s r key op).fw = s.fw := by
  unfold register; split <;> rfl
@[simp] theorem register_isl (s : State) (r : Req) (key op : Nat) : (register s r key op).isl = s.isl := by
  unfold register; split <;> rfl
@[simp] theorem register_life (s : State) (r : Req) (key op : Nat) : (register s r key op).life = s.life := by
  unfold register; split <;> rfl
@[simp] theorem register_test (s : State) (r : Req) (key op : Nat) : (register s r key op).test = s.test := by
  unfold register; split <;> rfl
@[simp] theorem register_power (s : State) (r : Req) (key op : Nat) : (register s r key op).power = s.power := by
  unfold register; split <;> rfl
@[simp] theorem register_clock (s : State) (r : Req) (key op : Nat) : (register s r key op).clock = s.clock := by
  unfold register; split <;> rfl
@[simp] theorem register_link (s : State) (r : Req) (key op : Nat) : (register s r key op).link = s.link := by
  unfold register; split <;> rfl
@[simp] theorem register_therm (s : State) (r : Req) (key op : Nat) : (register s r key op).therm = s.therm := by
  unfold register; split <;> rfl
@[simp] theorem register_mode (s : State) (r : Req) (key op : Nat) : (register s r key op).mode = s.mode := by
  unfold register; split <;> rfl
@[simp] theorem register_bad (s : State) (r : Req) (key op : Nat) : (register s r key op).bad = s.bad := by
  unfold register; split <;> rfl
@[simp] theorem register_events (s : State) (r : Req) (key op : Nat) : (register s r key op).events = s.events := by
  unfold register; split <;> rfl
@[simp] theorem register_memUse (s : State) (r : Req) (key op : Nat) : (register s r key op).memUse = s.memUse := by
  unfold register; split <;> rfl
@[simp] theorem register_released (s : State) (r : Req) (key op : Nat) : (register s r key op).released = s.released := by
  unfold register; split <;> rfl
@[simp] theorem register_freeCtr (s : State) (r : Req) (key op : Nat) : (register s r key op).freeCtr = s.freeCtr := by
  unfold register; split <;> rfl
@[simp] theorem register_pending (s : State) (r : Req) (key op : Nat) : (register s r key op).pending = s.pending := by
  unfold register; split <;> rfl
@[simp] theorem register_regs (s : State) (r : Req) (key op : Nat) : (register s r key op).regs = s.regs := by
  unfold register; split <;> rfl
@[simp] theorem register_host_attCounter (s : State) (r : Req) (key op : Nat) : (register s r key op).host.attCounter = s.host.attCounter := by
  unfold register; split <;> rfl
@[simp] theorem register_host_fn (s : State) (r : Req) (key op : Nat) : (register s r key op).host.fn = s.host.fn := by
  unfold register; split <;> rfl
@[simp] theorem register_host_can0 (s : State) (r : Req) (key op : Nat) : (register s r key op).host.can0 = s.host.can0 := by
  unfold register; split <;> rfl
@[simp] theorem register_host_can1 (s : State) (r : Req) (key op : Nat) : (register s r key op).host.can1 = s.host.can1 := by
  unfold register; split <;> rfl
@[simp] theorem register_host_store (s : State) (r : Req) (key op : Nat) : (register s r key op).host.store = s.host.store := by
  unfold register; split <;> rfl
@[simp] theorem register_host_hpi (s : State) (r : Req) (key op : Nat) : (register s r key op).host.hpi = s.host.hpi := by
  unfold register; split <;> rfl
@[simp] theorem register_host_waits (s : State) (r : Req) (key op : Nat) : (register s r key op).host.waits = s.host.waits := by
  unfold register; split <;> rfl
@[simp] theorem reply_blobs (s : State) (r : Req) (a : Nat) (d : List Byte) : (reply s r a d).blobs = s.blobs := by
  unfold reply; split <;> (try split) <;> simp
@[simp] theorem ok_blobs (s : State) (r : Req) : (ok s r).blobs = s.blobs := by
  simp [ok]
@[simp] theorem refuse_blobs (s : State) (r : Req) (a : Nat) : (refuse s r a).blobs = s.blobs := by
  simp [refuse]
@[simp] theorem reply_fe (s : State) (r : Req) (a : Nat) (d : List Byte) : (reply s r a d).fe = s.fe := by
  unfold reply; split <;> (try split) <;> simp
@[simp] theorem ok_fe (s : State) (r : Req) : (ok s r).fe = s.fe := by
  simp [ok]
@[simp] theorem refuse_fe (s : State) (r : Req) (a : Nat) : (refuse s r a).fe = s.fe := by
  simp [refuse]
@[simp] theorem reply_eng (s : State) (r : Req) (a : Nat) (d : List Byte) : (reply s r a d).eng = s.eng := by
  unfold reply; split <;> (try split) <;> simp
@[simp] theorem ok_eng (s : State) (r : Req) : (ok s r).eng = s.eng := by
  simp [ok]
@[simp] theorem refuse_eng (s : State) (r : Req) (a : Nat) : (refuse s r a).eng = s.eng := by
  simp [refuse]
@[simp] theorem reply_si (s : State) (r : Req) (a : Nat) (d : List Byte) : (reply s r a d).si = s.si := by
  unfold reply; split <;> (try split) <;> simp
@[simp] theorem ok_si (s : State) (r : Req) : (ok s r).si = s.si := by
  simp [ok]
@[simp] theorem refuse_si (s : State) (r : Req) (a : Nat) : (refuse s r a).si = s.si := by
  simp [refuse]
@[simp] theorem reply_grp (s : State) (r : Req) (a : Nat) (d : List Byte) : (reply s r a d).grp = s.grp := by
  unfold reply; split <;> (try split) <;> simp
@[simp] theorem ok_grp (s : State) (r : Req) : (ok s r).grp = s.grp := by
  simp [ok]
@[simp] theorem refuse_grp (s : State) (r : Req) (a : Nat) : (refuse s r a).grp = s.grp := by
  simp [refuse]
@[simp] theorem reply_flash (s : State) (r : Req) (a : Nat) (d : List Byte) : (reply s r a d).flash = s.flash := by
  unfold reply; split <;> (try split) <;> simp
@[simp] theorem ok_flash (s : State) (r : Req) : (ok s r).flash = s.flash := by
  simp [ok]
@[simp] theorem refuse_flash (s : State) (r : Req) (a : Nat) : (refuse s r a).flash = s.flash := by
  simp [refuse]
@[simp] theorem reply_mem (s : State) (r : Req) (a : Nat) (d : List Byte) : (reply s r a d).mem = s.mem := by
  unfold reply; split <;> (try split) <;> simp
@[simp] theorem ok_mem (s : State) (r : Req) : (ok s r).mem = s.mem := by
  simp [ok]
@[simp] theorem refuse_mem (s : State) (r : Req) (a : Nat) : (refuse s r a).mem = s.mem := by
  simp [refuse]
@[simp] theorem reply_reel (s : State) (r : Req) (a : Nat) (d : List Byte) : (reply s r a d).reel = s.reel := by
  unfold reply; split <;> (try split) <;> simp
@[simp] theorem ok_reel (s : State) (r : Req) : (ok s r).reel = s.reel := by
  simp [ok]
@[simp] theorem refuse_reel (s : State) (r : Req) (a : Nat) : (refuse s r a).reel = s.reel := by
  simp [refuse]
@[simp] theorem reply_cip (s : State) (r : Req) (a : Nat) (d : List Byte) : (reply s r a d).cip = s.cip := by
  unfold reply; split <;> (try split) <;> simp
@[simp] theorem ok_cip (s : State) (r : Req) : (ok s r).cip = s.cip := by
  simp [ok]
@[simp] theorem refuse_cip (s : State) (r : Req) (a : Nat) : (refuse s r a).cip = s.cip := by
  simp [refuse]
@[simp] theorem reply_fab (s : State) (r : Req) (a : Nat) (d : List Byte) : (reply s r a d).fab = s.fab := by
  unfold reply; split <;> (try split) <;> simp
@[simp] theorem ok_fab (s : State) (r : Req) : (ok s r).fab = s.fab := by
  simp [ok]
@[simp] theorem refuse_fab (s : State) (r : Req) (a : Nat) : (refuse s r a).fab = s.fab := by
  simp [refuse]
@[simp] theorem reply_fw (s : State) (r : Req) (a : Nat) (d : List Byte) : (reply s r a d).fw = s.fw := by
  unfold reply; split <;> (try split) <;> simp
@[simp] theorem ok_fw (s : State) (r : Req) : (ok s r).fw = s.fw := by
  simp [ok]
@[simp] theorem refuse_fw (s : State) (r : Req) (a : Nat) : (refuse s r a).fw = s.fw := by
  simp [refuse]
@[simp] theorem reply_isl (s : State) (r : Req) (a : Nat) (d : List Byte) : (reply s r a d).isl = s.isl := by
  unfold reply; split <;> (try split) <;> simp
@[simp] theorem ok_isl (s : State) (r : Req) : (ok s r).isl = s.isl := by
  simp [ok]
@[simp] theorem refuse_isl (s : State) (r : Req) (a : Nat) : (refuse s r a).isl = s.isl := by
  simp [refuse]
@[simp] theorem reply_life (s : State) (r : Req) (a : Nat) (d : List Byte) : (reply s r a d).life = s.life := by
  unfold reply; split <;> (try split) <;> simp
@[simp] theorem ok_life (s : State) (r : Req) : (ok s r).life = s.life := by
  simp [ok]
@[simp] theorem refuse_life (s : State) (r : Req) (a : Nat) : (refuse s r a).life = s.life := by
  simp [refuse]
@[simp] theorem reply_test (s : State) (r : Req) (a : Nat) (d : List Byte) : (reply s r a d).test = s.test := by
  unfold reply; split <;> (try split) <;> simp
@[simp] theorem ok_test (s : State) (r : Req) : (ok s r).test = s.test := by
  simp [ok]
@[simp] theorem refuse_test (s : State) (r : Req) (a : Nat) : (refuse s r a).test = s.test := by
  simp [refuse]
@[simp] theorem reply_power (s : State) (r : Req) (a : Nat) (d : List Byte) : (reply s r a d).power = s.power := by
  unfold reply; split <;> (try split) <;> simp
@[simp] theorem ok_power (s : State) (r : Req) : (ok s r).power = s.power := by
  simp [ok]
@[simp] theorem refuse_power (s : State) (r : Req) (a : Nat) : (refuse s r a).power = s.power := by
  simp [refuse]
@[simp] theorem reply_clock (s : State) (r : Req) (a : Nat) (d : List Byte) : (reply s r a d).clock = s.clock := by
  unfold reply; split <;> (try split) <;> simp
@[simp] theorem ok_clock (s : State) (r : Req) : (ok s r).clock = s.clock := by
  simp [ok]
@[simp] theorem refuse_clock (s : State) (r : Req) (a : Nat) : (refuse s r a).clock = s.clock := by
  simp [refuse]
@[simp] theorem reply_link (s : State) (r : Req) (a : Nat) (d : List Byte) : (reply s r a d).link = s.link := by
  unfold reply; split <;> (try split) <;> simp
@[simp] theorem ok_link (s : State) (r : Req) : (ok s r).link = s.link := by
  simp [ok]
@[simp] theorem refuse_link (s : State) (r : Req) (a : Nat) : (refuse s r a).link = s.link := by
  simp [refuse]
@[simp] theorem reply_therm (s : State) (r : Req) (a : Nat) (d : List Byte) : (reply s r a d).therm = s.therm := by
  unfold reply; split <;> (try split) <;> simp
@[simp] theorem ok_therm (s : State) (r : Req) : (ok s r).therm = s.therm := by
  simp [ok]
@[simp] theorem refuse_therm (s : State) (r : Req) (a : Nat) : (refuse s r a).therm = s.therm := by
  simp [refuse]
@[simp] theorem reply_mode (s : State) (r : Req) (a : Nat) (d : List Byte) : (reply s r a d).mode = s.mode := by
  unfold reply; split <;> (try split) <;> simp
@[simp] theorem ok_mode (s : State) (r : Req) : (ok s r).mode = s.mode := by
  simp [ok]
@[simp] theorem refuse_mode (s : State) (r : Req) (a : Nat) : (refuse s r a).mode = s.mode := by
  simp [refuse]
@[simp] theorem reply_bad (s : State) (r : Req) (a : Nat) (d : List Byte) : (reply s r a d).bad = s.bad := by
  unfold reply; split <;> (try split) <;> simp
@[simp] theorem ok_bad (s : State) (r : Req) : (ok s r).bad = s.bad := by
  simp [ok]
@[simp] theorem refuse_bad (s : State) (r : Req) (a : Nat) : (refuse s r a).bad = s.bad := by
  simp [refuse]
@[simp] theorem reply_events (s : State) (r : Req) (a : Nat) (d : List Byte) : (reply s r a d).events = s.events := by
  unfold reply; split <;> (try split) <;> simp
@[simp] theorem ok_events (s : State) (r : Req) : (ok s r).events = s.events := by
  simp [ok]
@[simp] theorem refuse_events (s : State) (r : Req) (a : Nat) : (refuse s r a).events = s.events := by
  simp [refuse]
@[simp] theorem reply_memUse (s : State) (r : Req) (a : Nat) (d : List Byte) : (reply s r a d).memUse = s.memUse := by
  unfold reply; split <;> (try split) <;> simp
@[simp] theorem ok_memUse (s : State) (r : Req) : (ok s r).memUse = s.memUse := by
  simp [ok]
@[simp] theorem refuse_memUse (s : State) (r : Req) (a : Nat) : (refuse s r a).memUse = s.memUse := by
  simp [refuse]
@[simp] theorem reply_released (s : State) (r : Req) (a : Nat) (d : List Byte) : (reply s r a d).released = s.released := by
  unfold reply; split <;> (try split) <;> simp
@[simp] theorem ok_released (s : State) (r : Req) : (ok s r).released = s.released := by
  simp [ok]
@[simp] theorem refuse_released (s : State) (r : Req) (a : Nat) : (refuse s r a).released = s.released := by
  simp [refuse]
@[simp] theorem reply_freeCtr (s : State) (r : Req) (a : Nat) (d : List Byte) : (reply s r a d).freeCtr = s.freeCtr := by
  unfold reply; split <;> (try split) <;> simp
@[simp] theorem ok_freeCtr (s : State) (r : Req) : (ok s r).freeCtr = s.freeCtr := by
  simp [ok]
@[simp] theorem refuse_freeCtr (s : State) (r : Req) (a : Nat) : (refuse s r a).freeCtr = s.freeCtr := by
  simp [refuse]
@[simp] theorem reply_pending (s : State) (r : Req) (a : Nat) (d : List Byte) : (reply s r a d).pending = s.pending := by
  unfold reply; split <;> (try split) <;> simp
@[simp] theorem ok_pending (s : State) (r : Req) : (ok s r).pending = s.pending := by
  simp [ok]
@[simp] theorem refuse_pending (s : State) (r : Req) (a : Nat) : (refuse s r a).pending = s.pending := by
  simp [refuse]
@[simp] theorem reply_regs (s : State) (r : Req) (a : Nat) (d : List Byte) : (reply s r a d).regs = s.regs := by
  unfold reply; split <;> (try split) <;> simp
@[simp] theorem ok_regs (s : State) (r : Req) : (ok s r).regs = s.regs := by
  simp [ok]
@[simp] theorem refuse_regs (s : State) (r : Req) (a : Nat) : (refuse s r a).regs = s.regs := by
  simp [refuse]
@[simp] theorem reply_host_attCounter (s : State) (r : Req) (a : Nat) (d : List Byte) : (reply s r a d).host.attCounter = s.host.attCounter := by
  unfold reply; split <;> (try split) <;> simp
@[simp] theorem ok_host_attCounter (s : State) (r : Req) : (ok s r).host.attCounter = s.host.attCounter := by
  simp [ok]
@[simp] theorem refuse_host_attCounter (s : State) (r : Req) (a : Nat) : (refuse s r a).host.attCounter = s.host.attCounter := by
  simp [refuse]
@[simp] theorem reply_host_fn (s : State) (r : Req) (a : Nat) (d : List Byte) : (reply s r a d).host.fn = s.host.fn := by
  unfold reply; split <;> (try split) <;> simp
@[simp] theorem ok_host_fn (s : State) (r : Req) : (ok s r).host.fn = s.host.fn := by
  simp [ok]
@[simp] theorem refuse_host_fn (s : State) (r : Req) (a : Nat) : (refuse s r a).host.fn = s.host.fn := by
  simp [refuse]
@[simp] theorem reply_host_can0 (s : State) (r : Req) (a : Nat) (d : List Byte) : (reply s r a d).host.can0 = s.host.can0 := by
  unfold reply; split <;> (try split) <;> simp
@[simp] theorem ok_host_can0 (s : State) (r : Req) : (ok s r).host.can0 = s.host.can0 := by
  simp [ok]
@[simp] theorem refuse_host_can0 (s : State) (r : Req) (a : Nat) : (refuse s r a).host.can0 = s.host.can0 := by
  simp [refuse]
@[simp] theorem reply_host_can1 (s : State) (r : Req) (a : Nat) (d : List Byte) : (reply s r a d).host.can1 = s.host.can1 := by
  unfold reply; split <;> (try split) <;> simp
@[simp] theorem ok_host_can1 (s : State) (r : Req) : (ok s r).host.can1 = s.host.can1 := by
  simp [ok]
@[simp] theorem refuse_host_can1 (s : State) (r : Req) (a : Nat) : (refuse s r a).host.can1 = s.host.can1 := by
  simp [refuse]
@[simp] theorem reply_host_store (s : State) (r : Req) (a : Nat) (d : List Byte) : (reply s r a d).host.store = s.host.store := by
  unfold reply; split <;> (try split) <;> simp
@[simp] theorem ok_host_store (s : State) (r : Req) : (ok s r).host.store = s.host.store := by
  simp [ok]
@[simp] theorem refuse_host_store (s : State) (r : Req) (a : Nat) : (refuse s r a).host.store = s.host.store := by
  simp [refuse]
@[simp] theorem reply_host_waits (s : State) (r : Req) (a : Nat) (d : List Byte) : (reply s r a d).host.waits = s.host.waits := by
  unfold reply; split <;> (try split) <;> simp
@[simp] theorem ok_host_waits (s : State) (r : Req) : (ok s r).host.waits = s.host.waits := by
  simp [ok]
@[simp] theorem refuse_host_waits (s : State) (r : Req) (a : Nat) : (refuse s r a).host.waits = s.host.waits := by
  simp [refuse]

/-! ### The same for what is read of the state -/

@[simp] theorem register_reg (s : State) (r : Req) (key op : Nat) (x : Nat) : (register s r key op).reg x = s.reg x := by
  simp [State.reg]
@[simp] theorem reply_reg (s : State) (r : Req) (u : Nat) (d : List Byte) (x : Nat) : (reply s r u d).reg x = s.reg x := by
  simp [State.reg]
@[simp] theorem ok_reg (s : State) (r : Req) (x : Nat) : (ok s r).reg x = s.reg x := by
  simp [State.reg]
@[simp] theorem refuse_reg (s : State) (r : Req) (u : Nat) (x : Nat) : (refuse s r u).reg x = s.reg x := by
  simp [State.reg]
@[simp] theorem register_regN (s : State) (r : Req) (key op : Nat) (x : Nat) : (register s r key op).regN x = s.regN x := by
  simp [State.regN, State.reg]
@[simp] theorem reply_regN (s : State) (r : Req) (u : Nat) (d : List Byte) (x : Nat) : (reply s r u d).regN x = s.regN x := by
  simp [State.regN, State.reg]
@[simp] theorem ok_regN (s : State) (r : Req) (x : Nat) : (ok s r).regN x = s.regN x := by
  simp [State.regN, State.reg]
@[simp] theorem refuse_regN (s : State) (r : Req) (u : Nat) (x : Nat) : (refuse s r u).regN x = s.regN x := by
  simp [State.regN, State.reg]
@[simp] theorem register_regBit (s : State) (r : Req) (key op : Nat) (x y : Nat) : (register s r key op).regBit x y = s.regBit x y := by
  simp [State.regBit, State.regN, State.reg]
@[simp] theorem reply_regBit (s : State) (r : Req) (u : Nat) (d : List Byte) (x y : Nat) : (reply s r u d).regBit x y = s.regBit x y := by
  simp [State.regBit, State.regN, State.reg]
@[simp] theorem ok_regBit (s : State) (r : Req) (x y : Nat) : (ok s r).regBit x y = s.regBit x y := by
  simp [State.regBit, State.regN, State.reg]
@[simp] theorem refuse_regBit (s : State) (r : Req) (u : Nat) (x y : Nat) : (refuse s r u).regBit x y = s.regBit x y := by
  simp [State.regBit, State.regN, State.reg]
@[simp] theorem register_blob (s : State) (r : Req) (key op : Nat) (x : Nat) : (register s r key op).blob x = s.blob x := by
  simp [State.blob]
@[simp] theorem reply_blob (s : State) (r : Req) (u : Nat) (d : List Byte) (x : Nat) : (reply s r u d).blob x = s.blob x := by
  simp [State.blob]
@[simp] theorem ok_blob (s : State) (r : Req) (x : Nat) : (ok s r).blob x = s.blob x := by
  simp [State.blob]
@[simp] theorem refuse_blob (s : State) (r : Req) (u : Nat) (x : Nat) : (refuse s r u).blob x = s.blob x := by
  simp [State.blob]
@[simp] theorem register_fb (s : State) (r : Req) (key op : Nat) (x : Nat) : (register s r key op).fb x = s.fb x := by
  simp [State.fb]
@[simp] theorem reply_fb (s : State) (r : Req) (u : Nat) (d : List Byte) (x : Nat) : (reply s r u d).fb x = s.fb x := by
  simp [State.fb]
@[simp] theorem ok_fb (s : State) (r : Req) (x : Nat) : (ok s r).fb x = s.fb x := by
  simp [State.fb]
@[simp] theorem refuse_fb (s : State) (r : Req) (u : Nat) (x : Nat) : (refuse s r u).fb x = s.fb x := by
  simp [State.fb]
@[simp] theorem register_cm (s : State) (r : Req) (key op : Nat) (x : Nat) : (register s r key op).cm x = s.cm x := by
  simp [State.cm]
@[simp] theorem reply_cm (s : State) (r : Req) (u : Nat) (d : List Byte) (x : Nat) : (reply s r u d).cm x = s.cm x := by
  simp [State.cm]
@[simp] theorem ok_cm (s : State) (r : Req) (x : Nat) : (ok s r).cm x = s.cm x := by
  simp [State.cm]
@[simp] theorem refuse_cm (s : State) (r : Req) (u : Nat) (x : Nat) : (refuse s r u).cm x = s.cm x := by
  simp [State.cm]
@[simp] theorem register_ev (s : State) (r : Req) (key op : Nat) (x : Nat) : (register s r key op).ev x = s.ev x := by
  simp [State.ev]
@[simp] theorem reply_ev (s : State) (r : Req) (u : Nat) (d : List Byte) (x : Nat) : (reply s r u d).ev x = s.ev x := by
  simp [State.ev]
@[simp] theorem ok_ev (s : State) (r : Req) (x : Nat) : (ok s r).ev x = s.ev x := by
  simp [State.ev]
@[simp] theorem refuse_ev (s : State) (r : Req) (u : Nat) (x : Nat) : (refuse s r u).ev x = s.ev x := by
  simp [State.ev]
@[simp] theorem register_cmp (s : State) (r : Req) (key op : Nat) (x : Nat) : (register s r key op).cmp x = s.cmp x := by
  simp [State.cmp]
@[simp] theorem reply_cmp (s : State) (r : Req) (u : Nat) (d : List Byte) (x : Nat) : (reply s r u d).cmp x = s.cmp x := by
  simp [State.cmp]
@[simp] theorem ok_cmp (s : State) (r : Req) (x : Nat) : (ok s r).cmp x = s.cmp x := by
  simp [State.cmp]
@[simp] theorem refuse_cmp (s : State) (r : Req) (u : Nat) (x : Nat) : (refuse s r u).cmp x = s.cmp x := by
  simp [State.cmp]
@[simp] theorem register_cap (s : State) (r : Req) (key op : Nat) (x : Nat) : (register s r key op).cap x = s.cap x := by
  simp [State.cap]
@[simp] theorem reply_cap (s : State) (r : Req) (u : Nat) (d : List Byte) (x : Nat) : (reply s r u d).cap x = s.cap x := by
  simp [State.cap]
@[simp] theorem ok_cap (s : State) (r : Req) (x : Nat) : (ok s r).cap x = s.cap x := by
  simp [State.cap]
@[simp] theorem refuse_cap (s : State) (r : Req) (u : Nat) (x : Nat) : (refuse s r u).cap x = s.cap x := by
  simp [State.cap]
@[simp] theorem register_engine (s : State) (r : Req) (key op : Nat) (x : Nat) : (register s r key op).engine x = s.engine x := by
  simp [State.engine]
@[simp] theorem reply_engine (s : State) (r : Req) (u : Nat) (d : List Byte) (x : Nat) : (reply s r u d).engine x = s.engine x := by
  simp [State.engine]
@[simp] theorem ok_engine (s : State) (r : Req) (x : Nat) : (ok s r).engine x = s.engine x := by
  simp [State.engine]
@[simp] theorem refuse_engine (s : State) (r : Req) (u : Nat) (x : Nat) : (refuse s r u).engine x = s.engine x := by
  simp [State.engine]
@[simp] theorem register_group (s : State) (r : Req) (key op : Nat) (x : Nat) : (register s r key op).group x = s.group x := by
  simp [State.group]
@[simp] theorem reply_group (s : State) (r : Req) (u : Nat) (d : List Byte) (x : Nat) : (reply s r u d).group x = s.group x := by
  simp [State.group]
@[simp] theorem ok_group (s : State) (r : Req) (x : Nat) : (ok s r).group x = s.group x := by
  simp [State.group]
@[simp] theorem refuse_group (s : State) (r : Req) (u : Nat) (x : Nat) : (refuse s r u).group x = s.group x := by
  simp [State.group]
@[simp] theorem register_standIn (s : State) (r : Req) (key op : Nat) (x : Nat) : (register s r key op).standIn x = s.standIn x := by
  simp [State.standIn]
@[simp] theorem reply_standIn (s : State) (r : Req) (u : Nat) (d : List Byte) (x : Nat) : (reply s r u d).standIn x = s.standIn x := by
  simp [State.standIn]
@[simp] theorem ok_standIn (s : State) (r : Req) (x : Nat) : (ok s r).standIn x = s.standIn x := by
  simp [State.standIn]
@[simp] theorem refuse_standIn (s : State) (r : Req) (u : Nat) (x : Nat) : (refuse s r u).standIn x = s.standIn x := by
  simp [State.standIn]
@[simp] theorem register_bankSt (s : State) (r : Req) (key op : Nat) (x : Nat) : (register s r key op).bankSt x = s.bankSt x := by
  simp [State.bankSt]
@[simp] theorem reply_bankSt (s : State) (r : Req) (u : Nat) (d : List Byte) (x : Nat) : (reply s r u d).bankSt x = s.bankSt x := by
  simp [State.bankSt]
@[simp] theorem ok_bankSt (s : State) (r : Req) (x : Nat) : (ok s r).bankSt x = s.bankSt x := by
  simp [State.bankSt]
@[simp] theorem refuse_bankSt (s : State) (r : Req) (u : Nat) (x : Nat) : (refuse s r u).bankSt x = s.bankSt x := by
  simp [State.bankSt]
@[simp] theorem register_keySlot (s : State) (r : Req) (key op : Nat) (x : Nat) : (register s r key op).keySlot x = s.keySlot x := by
  simp [State.keySlot]
@[simp] theorem reply_keySlot (s : State) (r : Req) (u : Nat) (d : List Byte) (x : Nat) : (reply s r u d).keySlot x = s.keySlot x := by
  simp [State.keySlot]
@[simp] theorem ok_keySlot (s : State) (r : Req) (x : Nat) : (ok s r).keySlot x = s.keySlot x := by
  simp [State.keySlot]
@[simp] theorem refuse_keySlot (s : State) (r : Req) (u : Nat) (x : Nat) : (refuse s r u).keySlot x = s.keySlot x := by
  simp [State.keySlot]
@[simp] theorem register_region (s : State) (r : Req) (key op : Nat) (x : Nat) : (register s r key op).region x = s.region x := by
  simp [State.region]
@[simp] theorem reply_region (s : State) (r : Req) (u : Nat) (d : List Byte) (x : Nat) : (reply s r u d).region x = s.region x := by
  simp [State.region]
@[simp] theorem ok_region (s : State) (r : Req) (x : Nat) : (ok s r).region x = s.region x := by
  simp [State.region]
@[simp] theorem refuse_region (s : State) (r : Req) (u : Nat) (x : Nat) : (refuse s r u).region x = s.region x := by
  simp [State.region]
@[simp] theorem register_sector (s : State) (r : Req) (key op : Nat) (x : Nat) : (register s r key op).sector x = s.sector x := by
  simp [State.sector]
@[simp] theorem reply_sector (s : State) (r : Req) (u : Nat) (d : List Byte) (x : Nat) : (reply s r u d).sector x = s.sector x := by
  simp [State.sector]
@[simp] theorem ok_sector (s : State) (r : Req) (x : Nat) : (ok s r).sector x = s.sector x := by
  simp [State.sector]
@[simp] theorem refuse_sector (s : State) (r : Req) (u : Nat) (x : Nat) : (refuse s r u).sector x = s.sector x := by
  simp [State.sector]
@[simp] theorem register_flBlock (s : State) (r : Req) (key op : Nat) (x : Nat) : (register s r key op).flBlock x = s.flBlock x := by
  simp [State.flBlock]
@[simp] theorem reply_flBlock (s : State) (r : Req) (u : Nat) (d : List Byte) (x : Nat) : (reply s r u d).flBlock x = s.flBlock x := by
  simp [State.flBlock]
@[simp] theorem ok_flBlock (s : State) (r : Req) (x : Nat) : (ok s r).flBlock x = s.flBlock x := by
  simp [State.flBlock]
@[simp] theorem refuse_flBlock (s : State) (r : Req) (u : Nat) (x : Nat) : (refuse s r u).flBlock x = s.flBlock x := by
  simp [State.flBlock]
@[simp] theorem register_flBank (s : State) (r : Req) (key op : Nat) (x : Nat) : (register s r key op).flBank x = s.flBank x := by
  simp [State.flBank]
@[simp] theorem reply_flBank (s : State) (r : Req) (u : Nat) (d : List Byte) (x : Nat) : (reply s r u d).flBank x = s.flBank x := by
  simp [State.flBank]
@[simp] theorem ok_flBank (s : State) (r : Req) (x : Nat) : (ok s r).flBank x = s.flBank x := by
  simp [State.flBank]
@[simp] theorem refuse_flBank (s : State) (r : Req) (u : Nat) (x : Nat) : (refuse s r u).flBank x = s.flBank x := by
  simp [State.flBank]
@[simp] theorem register_flMaster (s : State) (r : Req) (key op : Nat) (x : FlashMaster) : (register s r key op).flMaster x = s.flMaster x := by
  simp [State.flMaster]
@[simp] theorem reply_flMaster (s : State) (r : Req) (u : Nat) (d : List Byte) (x : FlashMaster) : (reply s r u d).flMaster x = s.flMaster x := by
  simp [State.flMaster]
@[simp] theorem ok_flMaster (s : State) (r : Req) (x : FlashMaster) : (ok s r).flMaster x = s.flMaster x := by
  simp [State.flMaster]
@[simp] theorem refuse_flMaster (s : State) (r : Req) (u : Nat) (x : FlashMaster) : (refuse s r u).flMaster x = s.flMaster x := by
  simp [State.flMaster]
@[simp] theorem register_port (s : State) (r : Req) (key op : Nat) (x : Nat) : (register s r key op).port x = s.port x := by
  simp [State.port]
@[simp] theorem reply_port (s : State) (r : Req) (u : Nat) (d : List Byte) (x : Nat) : (reply s r u d).port x = s.port x := by
  simp [State.port]
@[simp] theorem ok_port (s : State) (r : Req) (x : Nat) : (ok s r).port x = s.port x := by
  simp [State.port]
@[simp] theorem refuse_port (s : State) (r : Req) (u : Nat) (x : Nat) : (refuse s r u).port x = s.port x := by
  simp [State.port]
@[simp] theorem register_rail (s : State) (r : Req) (key op : Nat) (x : Nat) : (register s r key op).rail x = s.rail x := by
  simp [State.rail]
@[simp] theorem reply_rail (s : State) (r : Req) (u : Nat) (d : List Byte) (x : Nat) : (reply s r u d).rail x = s.rail x := by
  simp [State.rail]
@[simp] theorem ok_rail (s : State) (r : Req) (x : Nat) : (ok s r).rail x = s.rail x := by
  simp [State.rail]
@[simp] theorem refuse_rail (s : State) (r : Req) (u : Nat) (x : Nat) : (refuse s r u).rail x = s.rail x := by
  simp [State.rail]
@[simp] theorem register_member (s : State) (r : Req) (key op : Nat) (x : Nat) : (register s r key op).member x = s.member x := by
  simp [State.member]
@[simp] theorem reply_member (s : State) (r : Req) (u : Nat) (d : List Byte) (x : Nat) : (reply s r u d).member x = s.member x := by
  simp [State.member]
@[simp] theorem ok_member (s : State) (r : Req) (x : Nat) : (ok s r).member x = s.member x := by
  simp [State.member]
@[simp] theorem refuse_member (s : State) (r : Req) (u : Nat) (x : Nat) : (refuse s r u).member x = s.member x := by
  simp [State.member]

@[simp] theorem register_tagBusy_served (s : State) (r : Req) (key op : Nat) :
    (register s r key op).host.hpi.served = s.host.hpi.served := by simp

@[simp] theorem reply_served (s : State) (r : Req) (a : Nat) (d : List Byte) : (reply s r a d).host.hpi.served = s.host.hpi.served := by
  unfold reply; split <;> (try split) <;> simp
@[simp] theorem ok_served (s : State) (r : Req) : (ok s r).host.hpi.served = s.host.hpi.served := by simp [ok]
@[simp] theorem refuse_served (s : State) (r : Req) (a : Nat) : (refuse s r a).host.hpi.served = s.host.hpi.served := by simp [refuse]

/-- A request that SC0 takes is served. -/
theorem request_of_takes (s : State) (r : Req) (key op : Nat) (k : State → State) (h : Takes s r) :
    request s r key op k = k (register s r key op) := by
  obtain ⟨h1, h2, h3⟩ := h
  simp [request, h1 key op, h2, h3]

/-- On a host path SC0 answers while it serves. -/
theorem answers_of_host (s : State) (p : Path) (key op : Nat) (h : p ≠ .test) : answers s p key op = s.host.hpi.served := by
  cases p <;> simp_all [answers]

/-- A path that is not answered leaves a request without effect. -/
theorem request_of_not_answered (s : State) (r : Req) (key op : Nat) (k : State → State) (h : answers s r.path key op = false) :
    request s r key op k = s := by simp [request, h]

/-- The flight that a tagged request adds is the one that its tag names. -/
theorem register_find (s : State) (r : Req) (key op : Nat) (n : Fin 256) (hr : r.org = .tag n) (hb : tagBusy s r = false) :
    ((register s r key op).path r.path).flights.find? (isTag n)
      = some ⟨n, op, keyIndex key, keySub key, false, true, 0, 0, []⟩ := by
  simp only [tagBusy, hr] at hb
  simp only [register, hr, State.modPath_path_self, List.find?_append]
  have : (s.path r.path).flights.find? (isTag n) = none := by
    rw [List.find?_eq_none]
    intro x hx
    have := List.any_eq_false.mp hb x hx
    simpa using this
  simp [this, isTag]

theorem pushRec_cpl_outq (s : State) (p : Path) (a b c d e f : Nat) (g : List Byte) :
    ((pushRec s p (.cpl a b c d e f g)).path p).outq = (s.path p).outq ++ [.cpl a b c d e f g] := by
  unfold pushRec; simp only [isEmcy, Bool.false_and, Bool.false_eq_true, if_false]; split <;> simp

/-- The answer to a request: what `x` finds of the flights of the request's path is what registering put there. -/
theorem reply_answers (s t : State) (r : Req) (op key abort : Nat) (data : List Byte) (hb : tagBusy s r = false)
    (ht : (t.path r.path).flights = ((register s r key op).path r.path).flights) :
    Answered r op key abort data (reply t r abort data) := by
  unfold Answered reply
  cases hr : r.org with
  | pdo => trivial
  | sdo => simp
  | tag n =>
    have hf := register_find s r key op n hr hb
    simp only [ht, hf, pushRec_cpl_outq]
    simp

/-- An answer touches neither the entries nor anything else behind the host paths. -/
theorem reply_frame (s : State) (r : Req) (a : Nat) (d : List Byte) : { reply s r a d with host := s.host } = s := by
  unfold reply
  cases r.org with
  | pdo => rfl
  | sdo => rfl
  | tag n =>
    dsimp only
    split
    · rfl
    · unfold pushRec; simp only [isEmcy, Bool.false_and, Bool.false_eq_true, if_false]; split <;> rfl

/-! ## Checks of a write -/

@[simp] theorem register_moving (s : State) (r : Req) (key op : Nat) : moving (register s r key op) = moving s := by
  have : groupMoves (register s r key op) = groupMoves s := by funext g; simp [groupMoves, groupState]
  simp [moving, anyGroupMoves, anyEnable, this]
@[simp] theorem register_pdOwned (s : State) (r : Req) (key op k : Nat) : pdOwned (register s r key op) k = pdOwned s k := by
  simp [pdOwned, rxKeys, mapWords]
@[simp] theorem register_gateCode (s : State) (r r' : Req) (key op k : Nat) (v : Int) :
    gateCode (register s r key op) r' k v = gateCode s r' k v := by simp [gateCode]
@[simp] theorem register_writeCode (s : State) (r r' : Req) (key op k : Nat) (v : Int) (o : Own) :
    writeCode (register s r key op) r' k v o = writeCode s r' k v o := by simp [writeCode, stillCode]
@[simp] theorem register_bytesCode (s : State) (r r' : Req) (key op k : Nat) (o : Own) :
    bytesCode (register s r key op) r' k o = bytesCode s r' k o := by simp [bytesCode, stillCode]

/-- A write that passes every check has its effect. -/
theorem writeEntry_passes (s : State) (r : Req) (key : Nat) (v : Int) (o : Own) (eff : State → State)
    (h : writeCode s r key v o = none) : writeEntry s r key v o eff = eff s := by simp [writeEntry, h]

/-- A write that fails a check completes with that check's code and changes nothing else. -/
theorem writeEntry_refused (s : State) (r : Req) (key : Nat) (v : Int) (o : Own) (eff : State → State) (c : Nat)
    (h : writeCode s r key v o = some c) : writeEntry s r key v o eff = refuse s r c := by simp [writeEntry, h]

/-! ## Waits -/

@[simp] theorem await_blobs (s : State) (w : WaitFor) (r : Req) : (await s w r).blobs = s.blobs := by
  rfl
@[simp] theorem await_fe (s : State) (w : WaitFor) (r : Req) : (await s w r).fe = s.fe := by
  rfl
@[simp] theorem await_eng (s : State) (w : WaitFor) (r : Req) : (await s w r).eng = s.eng := by
  rfl
@[simp] theorem await_si (s : State) (w : WaitFor) (r : Req) : (await s w r).si = s.si := by
  rfl
@[simp] theorem await_grp (s : State) (w : WaitFor) (r : Req) : (await s w r).grp = s.grp := by
  rfl
@[simp] theorem await_flash (s : State) (w : WaitFor) (r : Req) : (await s w r).flash = s.flash := by
  rfl
@[simp] theorem await_mem (s : State) (w : WaitFor) (r : Req) : (await s w r).mem = s.mem := by
  rfl
@[simp] theorem await_reel (s : State) (w : WaitFor) (r : Req) : (await s w r).reel = s.reel := by
  rfl
@[simp] theorem await_cip (s : State) (w : WaitFor) (r : Req) : (await s w r).cip = s.cip := by
  rfl
@[simp] theorem await_fab (s : State) (w : WaitFor) (r : Req) : (await s w r).fab = s.fab := by
  rfl
@[simp] theorem await_fw (s : State) (w : WaitFor) (r : Req) : (await s w r).fw = s.fw := by
  rfl
@[simp] theorem await_isl (s : State) (w : WaitFor) (r : Req) : (await s w r).isl = s.isl := by
  rfl
@[simp] theorem await_life (s : State) (w : WaitFor) (r : Req) : (await s w r).life = s.life := by
  rfl
@[simp] theorem await_test (s : State) (w : WaitFor) (r : Req) : (await s w r).test = s.test := by
  rfl
@[simp] theorem await_power (s : State) (w : WaitFor) (r : Req) : (await s w r).power = s.power := by
  rfl
@[simp] theorem await_clock (s : State) (w : WaitFor) (r : Req) : (await s w r).clock = s.clock := by
  rfl
@[simp] theorem await_link (s : State) (w : WaitFor) (r : Req) : (await s w r).link = s.link := by
  rfl
@[simp] theorem await_therm (s : State) (w : WaitFor) (r : Req) : (await s w r).therm = s.therm := by
  rfl
@[simp] theorem await_mode (s : State) (w : WaitFor) (r : Req) : (await s w r).mode = s.mode := by
  rfl
@[simp] theorem await_bad (s : State) (w : WaitFor) (r : Req) : (await s w r).bad = s.bad := by
  rfl
@[simp] theorem await_events (s : State) (w : WaitFor) (r : Req) : (await s w r).events = s.events := by
  rfl
@[simp] theorem await_memUse (s : State) (w : WaitFor) (r : Req) : (await s w r).memUse = s.memUse := by
  rfl
@[simp] theorem await_released (s : State) (w : WaitFor) (r : Req) : (await s w r).released = s.released := by
  rfl
@[simp] theorem await_freeCtr (s : State) (w : WaitFor) (r : Req) : (await s w r).freeCtr = s.freeCtr := by
  rfl
@[simp] theorem await_pending (s : State) (w : WaitFor) (r : Req) : (await s w r).pending = s.pending := by
  rfl
@[simp] theorem await_regs (s : State) (w : WaitFor) (r : Req) : (await s w r).regs = s.regs := by
  rfl
@[simp] theorem await_host_attCounter (s : State) (w : WaitFor) (r : Req) : (await s w r).host.attCounter = s.host.attCounter := by
  rfl
@[simp] theorem await_host_fn (s : State) (w : WaitFor) (r : Req) : (await s w r).host.fn = s.host.fn := by
  rfl
@[simp] theorem await_host_can0 (s : State) (w : WaitFor) (r : Req) : (await s w r).host.can0 = s.host.can0 := by
  rfl
@[simp] theorem await_host_can1 (s : State) (w : WaitFor) (r : Req) : (await s w r).host.can1 = s.host.can1 := by
  rfl
@[simp] theorem await_host_store (s : State) (w : WaitFor) (r : Req) : (await s w r).host.store = s.host.store := by
  rfl
@[simp] theorem await_host_hpi (s : State) (w : WaitFor) (r : Req) : (await s w r).host.hpi = s.host.hpi := by
  rfl
@[simp] theorem await_host_paths (s : State) (w : WaitFor) (r : Req) : (await s w r).host.paths = s.host.paths := by
  rfl
@[simp] theorem completeAll_blobs (s : State) (w : WaitFor) (a : Nat) (d : List Byte) : (completeAll s w a d).blobs = s.blobs := by
  unfold completeAll; dsimp only
  refine foldl_keeps (fun t => t.blobs = s.blobs) _ _ _ ?_ ?_
  · rfl
  · intro t x _ h; simp [h]
@[simp] theorem completeAll_fe (s : State) (w : WaitFor) (a : Nat) (d : List Byte) : (completeAll s w a d).fe = s.fe := by
  unfold completeAll; dsimp only
  refine foldl_keeps (fun t => t.fe = s.fe) _ _ _ ?_ ?_
  · rfl
  · intro t x _ h; simp [h]
@[simp] theorem completeAll_eng (s : State) (w : WaitFor) (a : Nat) (d : List Byte) : (completeAll s w a d).eng = s.eng := by
  unfold completeAll; dsimp only
  refine foldl_keeps (fun t => t.eng = s.eng) _ _ _ ?_ ?_
  · rfl
  · intro t x _ h; simp [h]
@[simp] theorem completeAll_si (s : State) (w : WaitFor) (a : Nat) (d : List Byte) : (completeAll s w a d).si = s.si := by
  unfold completeAll; dsimp only
  refine foldl_keeps (fun t => t.si = s.si) _ _ _ ?_ ?_
  · rfl
  · intro t x _ h; simp [h]
@[simp] theorem completeAll_grp (s : State) (w : WaitFor) (a : Nat) (d : List Byte) : (completeAll s w a d).grp = s.grp := by
  unfold completeAll; dsimp only
  refine foldl_keeps (fun t => t.grp = s.grp) _ _ _ ?_ ?_
  · rfl
  · intro t x _ h; simp [h]
@[simp] theorem completeAll_flash (s : State) (w : WaitFor) (a : Nat) (d : List Byte) : (completeAll s w a d).flash = s.flash := by
  unfold completeAll; dsimp only
  refine foldl_keeps (fun t => t.flash = s.flash) _ _ _ ?_ ?_
  · rfl
  · intro t x _ h; simp [h]
@[simp] theorem completeAll_mem (s : State) (w : WaitFor) (a : Nat) (d : List Byte) : (completeAll s w a d).mem = s.mem := by
  unfold completeAll; dsimp only
  refine foldl_keeps (fun t => t.mem = s.mem) _ _ _ ?_ ?_
  · rfl
  · intro t x _ h; simp [h]
@[simp] theorem completeAll_reel (s : State) (w : WaitFor) (a : Nat) (d : List Byte) : (completeAll s w a d).reel = s.reel := by
  unfold completeAll; dsimp only
  refine foldl_keeps (fun t => t.reel = s.reel) _ _ _ ?_ ?_
  · rfl
  · intro t x _ h; simp [h]
@[simp] theorem completeAll_cip (s : State) (w : WaitFor) (a : Nat) (d : List Byte) : (completeAll s w a d).cip = s.cip := by
  unfold completeAll; dsimp only
  refine foldl_keeps (fun t => t.cip = s.cip) _ _ _ ?_ ?_
  · rfl
  · intro t x _ h; simp [h]
@[simp] theorem completeAll_fab (s : State) (w : WaitFor) (a : Nat) (d : List Byte) : (completeAll s w a d).fab = s.fab := by
  unfold completeAll; dsimp only
  refine foldl_keeps (fun t => t.fab = s.fab) _ _ _ ?_ ?_
  · rfl
  · intro t x _ h; simp [h]
@[simp] theorem completeAll_fw (s : State) (w : WaitFor) (a : Nat) (d : List Byte) : (completeAll s w a d).fw = s.fw := by
  unfold completeAll; dsimp only
  refine foldl_keeps (fun t => t.fw = s.fw) _ _ _ ?_ ?_
  · rfl
  · intro t x _ h; simp [h]
@[simp] theorem completeAll_isl (s : State) (w : WaitFor) (a : Nat) (d : List Byte) : (completeAll s w a d).isl = s.isl := by
  unfold completeAll; dsimp only
  refine foldl_keeps (fun t => t.isl = s.isl) _ _ _ ?_ ?_
  · rfl
  · intro t x _ h; simp [h]
@[simp] theorem completeAll_life (s : State) (w : WaitFor) (a : Nat) (d : List Byte) : (completeAll s w a d).life = s.life := by
  unfold completeAll; dsimp only
  refine foldl_keeps (fun t => t.life = s.life) _ _ _ ?_ ?_
  · rfl
  · intro t x _ h; simp [h]
@[simp] theorem completeAll_test (s : State) (w : WaitFor) (a : Nat) (d : List Byte) : (completeAll s w a d).test = s.test := by
  unfold completeAll; dsimp only
  refine foldl_keeps (fun t => t.test = s.test) _ _ _ ?_ ?_
  · rfl
  · intro t x _ h; simp [h]
@[simp] theorem completeAll_power (s : State) (w : WaitFor) (a : Nat) (d : List Byte) : (completeAll s w a d).power = s.power := by
  unfold completeAll; dsimp only
  refine foldl_keeps (fun t => t.power = s.power) _ _ _ ?_ ?_
  · rfl
  · intro t x _ h; simp [h]
@[simp] theorem completeAll_clock (s : State) (w : WaitFor) (a : Nat) (d : List Byte) : (completeAll s w a d).clock = s.clock := by
  unfold completeAll; dsimp only
  refine foldl_keeps (fun t => t.clock = s.clock) _ _ _ ?_ ?_
  · rfl
  · intro t x _ h; simp [h]
@[simp] theorem completeAll_link (s : State) (w : WaitFor) (a : Nat) (d : List Byte) : (completeAll s w a d).link = s.link := by
  unfold completeAll; dsimp only
  refine foldl_keeps (fun t => t.link = s.link) _ _ _ ?_ ?_
  · rfl
  · intro t x _ h; simp [h]
@[simp] theorem completeAll_therm (s : State) (w : WaitFor) (a : Nat) (d : List Byte) : (completeAll s w a d).therm = s.therm := by
  unfold completeAll; dsimp only
  refine foldl_keeps (fun t => t.therm = s.therm) _ _ _ ?_ ?_
  · rfl
  · intro t x _ h; simp [h]
@[simp] theorem completeAll_mode (s : State) (w : WaitFor) (a : Nat) (d : List Byte) : (completeAll s w a d).mode = s.mode := by
  unfold completeAll; dsimp only
  refine foldl_keeps (fun t => t.mode = s.mode) _ _ _ ?_ ?_
  · rfl
  · intro t x _ h; simp [h]
@[simp] theorem completeAll_bad (s : State) (w : WaitFor) (a : Nat) (d : List Byte) : (completeAll s w a d).bad = s.bad := by
  unfold completeAll; dsimp only
  refine foldl_keeps (fun t => t.bad = s.bad) _ _ _ ?_ ?_
  · rfl
  · intro t x _ h; simp [h]
@[simp] theorem completeAll_events (s : State) (w : WaitFor) (a : Nat) (d : List Byte) : (completeAll s w a d).events = s.events := by
  unfold completeAll; dsimp only
  refine foldl_keeps (fun t => t.events = s.events) _ _ _ ?_ ?_
  · rfl
  · intro t x _ h; simp [h]
@[simp] theorem completeAll_memUse (s : State) (w : WaitFor) (a : Nat) (d : List Byte) : (completeAll s w a d).memUse = s.memUse := by
  unfold completeAll; dsimp only
  refine foldl_keeps (fun t => t.memUse = s.memUse) _ _ _ ?_ ?_
  · rfl
  · intro t x _ h; simp [h]
@[simp] theorem completeAll_released (s : State) (w : WaitFor) (a : Nat) (d : List Byte) : (completeAll s w a d).released = s.released := by
  unfold completeAll; dsimp only
  refine foldl_keeps (fun t => t.released = s.released) _ _ _ ?_ ?_
  · rfl
  · intro t x _ h; simp [h]
@[simp] theorem completeAll_freeCtr (s : State) (w : WaitFor) (a : Nat) (d : List Byte) : (completeAll s w a d).freeCtr = s.freeCtr := by
  unfold completeAll; dsimp only
  refine foldl_keeps (fun t => t.freeCtr = s.freeCtr) _ _ _ ?_ ?_
  · rfl
  · intro t x _ h; simp [h]
@[simp] theorem completeAll_pending (s : State) (w : WaitFor) (a : Nat) (d : List Byte) : (completeAll s w a d).pending = s.pending := by
  unfold completeAll; dsimp only
  refine foldl_keeps (fun t => t.pending = s.pending) _ _ _ ?_ ?_
  · rfl
  · intro t x _ h; simp [h]
@[simp] theorem completeAll_regs (s : State) (w : WaitFor) (a : Nat) (d : List Byte) : (completeAll s w a d).regs = s.regs := by
  unfold completeAll; dsimp only
  refine foldl_keeps (fun t => t.regs = s.regs) _ _ _ ?_ ?_
  · rfl
  · intro t x _ h; simp [h]
@[simp] theorem completeAll_host_waits (s : State) (w : WaitFor) (a : Nat) (d : List Byte) : (completeAll s w a d).host.waits = s.host.waits.filter fun x => !decide (x.1 = w) := by
  unfold completeAll; dsimp only
  refine foldl_keeps (fun t => t.host.waits = s.host.waits.filter fun x => !decide (x.1 = w)) _ _ _ ?_ ?_
  · rfl
  · intro t x _ h; simp [h]
@[simp] theorem completeAll_host_attCounter (s : State) (w : WaitFor) (a : Nat) (d : List Byte) : (completeAll s w a d).host.attCounter = s.host.attCounter := by
  unfold completeAll; dsimp only
  refine foldl_keeps (fun t => t.host.attCounter = s.host.attCounter) _ _ _ ?_ ?_
  · rfl
  · intro t x _ h; simp [h]
@[simp] theorem completeAll_host_fn (s : State) (w : WaitFor) (a : Nat) (d : List Byte) : (completeAll s w a d).host.fn = s.host.fn := by
  unfold completeAll; dsimp only
  refine foldl_keeps (fun t => t.host.fn = s.host.fn) _ _ _ ?_ ?_
  · rfl
  · intro t x _ h; simp [h]
@[simp] theorem completeAll_host_can0 (s : State) (w : WaitFor) (a : Nat) (d : List Byte) : (completeAll s w a d).host.can0 = s.host.can0 := by
  unfold completeAll; dsimp only
  refine foldl_keeps (fun t => t.host.can0 = s.host.can0) _ _ _ ?_ ?_
  · rfl
  · intro t x _ h; simp [h]
@[simp] theorem completeAll_host_can1 (s : State) (w : WaitFor) (a : Nat) (d : List Byte) : (completeAll s w a d).host.can1 = s.host.can1 := by
  unfold completeAll; dsimp only
  refine foldl_keeps (fun t => t.host.can1 = s.host.can1) _ _ _ ?_ ?_
  · rfl
  · intro t x _ h; simp [h]
@[simp] theorem completeAll_host_store (s : State) (w : WaitFor) (a : Nat) (d : List Byte) : (completeAll s w a d).host.store = s.host.store := by
  unfold completeAll; dsimp only
  refine foldl_keeps (fun t => t.host.store = s.host.store) _ _ _ ?_ ?_
  · rfl
  · intro t x _ h; simp [h]
@[simp] theorem await_reg (s : State) (w : WaitFor) (r : Req) (x : Nat) : (await s w r).reg x = s.reg x := by
  rfl
@[simp] theorem completeAll_reg (s : State) (w : WaitFor) (u : Nat) (d : List Byte) (x : Nat) : (completeAll s w u d).reg x = s.reg x := by
  simp [State.reg]
@[simp] theorem await_regN (s : State) (w : WaitFor) (r : Req) (x : Nat) : (await s w r).regN x = s.regN x := by
  rfl
@[simp] theorem completeAll_regN (s : State) (w : WaitFor) (u : Nat) (d : List Byte) (x : Nat) : (completeAll s w u d).regN x = s.regN x := by
  simp [State.regN, State.reg]
@[simp] theorem await_regBit (s : State) (w : WaitFor) (r : Req) (x y : Nat) : (await s w r).regBit x y = s.regBit x y := by
  rfl
@[simp] theorem completeAll_regBit (s : State) (w : WaitFor) (u : Nat) (d : List Byte) (x y : Nat) : (completeAll s w u d).regBit x y = s.regBit x y := by
  simp [State.regBit, State.regN, State.reg]
@[simp] theorem await_blob (s : State) (w : WaitFor) (r : Req) (x : Nat) : (await s w r).blob x = s.blob x := by
  rfl
@[simp] theorem completeAll_blob (s : State) (w : WaitFor) (u : Nat) (d : List Byte) (x : Nat) : (completeAll s w u d).blob x = s.blob x := by
  simp [State.blob]
@[simp] theorem await_fb (s : State) (w : WaitFor) (r : Req) (x : Nat) : (await s w r).fb x = s.fb x := by
  rfl
@[simp] theorem completeAll_fb (s : State) (w : WaitFor) (u : Nat) (d : List Byte) (x : Nat) : (completeAll s w u d).fb x = s.fb x := by
  simp [State.fb]
@[simp] theorem await_cm (s : State) (w : WaitFor) (r : Req) (x : Nat) : (await s w r).cm x = s.cm x := by
  rfl
@[simp] theorem completeAll_cm (s : State) (w : WaitFor) (u : Nat) (d : List Byte) (x : Nat) : (completeAll s w u d).cm x = s.cm x := by
  simp [State.cm]
@[simp] theorem await_ev (s : State) (w : WaitFor) (r : Req) (x : Nat) : (await s w r).ev x = s.ev x := by
  rfl
@[simp] theorem completeAll_ev (s : State) (w : WaitFor) (u : Nat) (d : List Byte) (x : Nat) : (completeAll s w u d).ev x = s.ev x := by
  simp [State.ev]
@[simp] theorem await_cmp (s : State) (w : WaitFor) (r : Req) (x : Nat) : (await s w r).cmp x = s.cmp x := by
  rfl
@[simp] theorem completeAll_cmp (s : State) (w : WaitFor) (u : Nat) (d : List Byte) (x : Nat) : (completeAll s w u d).cmp x = s.cmp x := by
  simp [State.cmp]
@[simp] theorem await_cap (s : State) (w : WaitFor) (r : Req) (x : Nat) : (await s w r).cap x = s.cap x := by
  rfl
@[simp] theorem completeAll_cap (s : State) (w : WaitFor) (u : Nat) (d : List Byte) (x : Nat) : (completeAll s w u d).cap x = s.cap x := by
  simp [State.cap]
@[simp] theorem await_engine (s : State) (w : WaitFor) (r : Req) (x : Nat) : (await s w r).engine x = s.engine x := by
  rfl
@[simp] theorem completeAll_engine (s : State) (w : WaitFor) (u : Nat) (d : List Byte) (x : Nat) : (completeAll s w u d).engine x = s.engine x := by
  simp [State.engine]
@[simp] theorem await_group (s : State) (w : WaitFor) (r : Req) (x : Nat) : (await s w r).group x = s.group x := by
  rfl
@[simp] theorem completeAll_group (s : State) (w : WaitFor) (u : Nat) (d : List Byte) (x : Nat) : (completeAll s w u d).group x = s.group x := by
  simp [State.group]
@[simp] theorem await_standIn (s : State) (w : WaitFor) (r : Req) (x : Nat) : (await s w r).standIn x = s.standIn x := by
  rfl
@[simp] theorem completeAll_standIn (s : State) (w : WaitFor) (u : Nat) (d : List Byte) (x : Nat) : (completeAll s w u d).standIn x = s.standIn x := by
  simp [State.standIn]
@[simp] theorem await_bankSt (s : State) (w : WaitFor) (r : Req) (x : Nat) : (await s w r).bankSt x = s.bankSt x := by
  rfl
@[simp] theorem completeAll_bankSt (s : State) (w : WaitFor) (u : Nat) (d : List Byte) (x : Nat) : (completeAll s w u d).bankSt x = s.bankSt x := by
  simp [State.bankSt]
@[simp] theorem await_keySlot (s : State) (w : WaitFor) (r : Req) (x : Nat) : (await s w r).keySlot x = s.keySlot x := by
  rfl
@[simp] theorem completeAll_keySlot (s : State) (w : WaitFor) (u : Nat) (d : List Byte) (x : Nat) : (completeAll s w u d).keySlot x = s.keySlot x := by
  simp [State.keySlot]
@[simp] theorem await_region (s : State) (w : WaitFor) (r : Req) (x : Nat) : (await s w r).region x = s.region x := by
  rfl
@[simp] theorem completeAll_region (s : State) (w : WaitFor) (u : Nat) (d : List Byte) (x : Nat) : (completeAll s w u d).region x = s.region x := by
  simp [State.region]
@[simp] theorem await_sector (s : State) (w : WaitFor) (r : Req) (x : Nat) : (await s w r).sector x = s.sector x := by
  rfl
@[simp] theorem completeAll_sector (s : State) (w : WaitFor) (u : Nat) (d : List Byte) (x : Nat) : (completeAll s w u d).sector x = s.sector x := by
  simp [State.sector]
@[simp] theorem await_flBlock (s : State) (w : WaitFor) (r : Req) (x : Nat) : (await s w r).flBlock x = s.flBlock x := by
  rfl
@[simp] theorem completeAll_flBlock (s : State) (w : WaitFor) (u : Nat) (d : List Byte) (x : Nat) : (completeAll s w u d).flBlock x = s.flBlock x := by
  simp [State.flBlock]
@[simp] theorem await_flBank (s : State) (w : WaitFor) (r : Req) (x : Nat) : (await s w r).flBank x = s.flBank x := by
  rfl
@[simp] theorem completeAll_flBank (s : State) (w : WaitFor) (u : Nat) (d : List Byte) (x : Nat) : (completeAll s w u d).flBank x = s.flBank x := by
  simp [State.flBank]
@[simp] theorem await_flMaster (s : State) (w : WaitFor) (r : Req) (x : FlashMaster) : (await s w r).flMaster x = s.flMaster x := by
  rfl
@[simp] theorem completeAll_flMaster (s : State) (w : WaitFor) (u : Nat) (d : List Byte) (x : FlashMaster) : (completeAll s w u d).flMaster x = s.flMaster x := by
  simp [State.flMaster]
@[simp] theorem await_port (s : State) (w : WaitFor) (r : Req) (x : Nat) : (await s w r).port x = s.port x := by
  rfl
@[simp] theorem completeAll_port (s : State) (w : WaitFor) (u : Nat) (d : List Byte) (x : Nat) : (completeAll s w u d).port x = s.port x := by
  simp [State.port]
@[simp] theorem await_rail (s : State) (w : WaitFor) (r : Req) (x : Nat) : (await s w r).rail x = s.rail x := by
  rfl
@[simp] theorem completeAll_rail (s : State) (w : WaitFor) (u : Nat) (d : List Byte) (x : Nat) : (completeAll s w u d).rail x = s.rail x := by
  simp [State.rail]
@[simp] theorem await_member (s : State) (w : WaitFor) (r : Req) (x : Nat) : (await s w r).member x = s.member x := by
  rfl
@[simp] theorem completeAll_member (s : State) (w : WaitFor) (u : Nat) (d : List Byte) (x : Nat) : (completeAll s w u d).member x = s.member x := by
  simp [State.member]

/-- A request that waits for an event is among those the event completes. -/
theorem await_waits (s : State) (w : WaitFor) (r : Req) : Waits (await s w r) w r := by simp [Waits, await]

/-- After an event nobody waits for it. -/
theorem completeAll_not_awaited (s : State) (w : WaitFor) (a : Nat) (d : List Byte) : awaited (completeAll s w a d) w = false := by
  simp [awaited]

/-! ## Emergencies (02 R75, R697) -/

@[simp] theorem tell_blobs (s : State) (p : Path) (code reg unit detail : Nat) : (tell s p code reg unit detail).blobs = s.blobs := by
  unfold tell; dsimp only; split <;> simp
@[simp] theorem tellAll_blobs (s : State) (code reg unit detail : Nat) : (tellAll s code reg unit detail).blobs = s.blobs := by
  simp [tellAll]
@[simp] theorem tell_fe (s : State) (p : Path) (code reg unit detail : Nat) : (tell s p code reg unit detail).fe = s.fe := by
  unfold tell; dsimp only; split <;> simp
@[simp] theorem tellAll_fe (s : State) (code reg unit detail : Nat) : (tellAll s code reg unit detail).fe = s.fe := by
  simp [tellAll]
@[simp] theorem tell_eng (s : State) (p : Path) (code reg unit detail : Nat) : (tell s p code reg unit detail).eng = s.eng := by
  unfold tell; dsimp only; split <;> simp
@[simp] theorem tellAll_eng (s : State) (code reg unit detail : Nat) : (tellAll s code reg unit detail).eng = s.eng := by
  simp [tellAll]
@[simp] theorem tell_si (s : State) (p : Path) (code reg unit detail : Nat) : (tell s p code reg unit detail).si = s.si := by
  unfold tell; dsimp only; split <;> simp
@[simp] theorem tellAll_si (s : State) (code reg unit detail : Nat) : (tellAll s code reg unit detail).si = s.si := by
  simp [tellAll]
@[simp] theorem tell_grp (s : State) (p : Path) (code reg unit detail : Nat) : (tell s p code reg unit detail).grp = s.grp := by
  unfold tell; dsimp only; split <;> simp
@[simp] theorem tellAll_grp (s : State) (code reg unit detail : Nat) : (tellAll s code reg unit detail).grp = s.grp := by
  simp [tellAll]
@[simp] theorem tell_flash (s : State) (p : Path) (code reg unit detail : Nat) : (tell s p code reg unit detail).flash = s.flash := by
  unfold tell; dsimp only; split <;> simp
@[simp] theorem tellAll_flash (s : State) (code reg unit detail : Nat) : (tellAll s code reg unit detail).flash = s.flash := by
  simp [tellAll]
@[simp] theorem tell_mem (s : State) (p : Path) (code reg unit detail : Nat) : (tell s p code reg unit detail).mem = s.mem := by
  unfold tell; dsimp only; split <;> simp
@[simp] theorem tellAll_mem (s : State) (code reg unit detail : Nat) : (tellAll s code reg unit detail).mem = s.mem := by
  simp [tellAll]
@[simp] theorem tell_reel (s : State) (p : Path) (code reg unit detail : Nat) : (tell s p code reg unit detail).reel = s.reel := by
  unfold tell; dsimp only; split <;> simp
@[simp] theorem tellAll_reel (s : State) (code reg unit detail : Nat) : (tellAll s code reg unit detail).reel = s.reel := by
  simp [tellAll]
@[simp] theorem tell_cip (s : State) (p : Path) (code reg unit detail : Nat) : (tell s p code reg unit detail).cip = s.cip := by
  unfold tell; dsimp only; split <;> simp
@[simp] theorem tellAll_cip (s : State) (code reg unit detail : Nat) : (tellAll s code reg unit detail).cip = s.cip := by
  simp [tellAll]
@[simp] theorem tell_fab (s : State) (p : Path) (code reg unit detail : Nat) : (tell s p code reg unit detail).fab = s.fab := by
  unfold tell; dsimp only; split <;> simp
@[simp] theorem tellAll_fab (s : State) (code reg unit detail : Nat) : (tellAll s code reg unit detail).fab = s.fab := by
  simp [tellAll]
@[simp] theorem tell_fw (s : State) (p : Path) (code reg unit detail : Nat) : (tell s p code reg unit detail).fw = s.fw := by
  unfold tell; dsimp only; split <;> simp
@[simp] theorem tellAll_fw (s : State) (code reg unit detail : Nat) : (tellAll s code reg unit detail).fw = s.fw := by
  simp [tellAll]
@[simp] theorem tell_isl (s : State) (p : Path) (code reg unit detail : Nat) : (tell s p code reg unit detail).isl = s.isl := by
  unfold tell; dsimp only; split <;> simp
@[simp] theorem tellAll_isl (s : State) (code reg unit detail : Nat) : (tellAll s code reg unit detail).isl = s.isl := by
  simp [tellAll]
@[simp] theorem tell_life (s : State) (p : Path) (code reg unit detail : Nat) : (tell s p code reg unit detail).life = s.life := by
  unfold tell; dsimp only; split <;> simp
@[simp] theorem tellAll_life (s : State) (code reg unit detail : Nat) : (tellAll s code reg unit detail).life = s.life := by
  simp [tellAll]
@[simp] theorem tell_test (s : State) (p : Path) (code reg unit detail : Nat) : (tell s p code reg unit detail).test = s.test := by
  unfold tell; dsimp only; split <;> simp
@[simp] theorem tellAll_test (s : State) (code reg unit detail : Nat) : (tellAll s code reg unit detail).test = s.test := by
  simp [tellAll]
@[simp] theorem tell_power (s : State) (p : Path) (code reg unit detail : Nat) : (tell s p code reg unit detail).power = s.power := by
  unfold tell; dsimp only; split <;> simp
@[simp] theorem tellAll_power (s : State) (code reg unit detail : Nat) : (tellAll s code reg unit detail).power = s.power := by
  simp [tellAll]
@[simp] theorem tell_clock (s : State) (p : Path) (code reg unit detail : Nat) : (tell s p code reg unit detail).clock = s.clock := by
  unfold tell; dsimp only; split <;> simp
@[simp] theorem tellAll_clock (s : State) (code reg unit detail : Nat) : (tellAll s code reg unit detail).clock = s.clock := by
  simp [tellAll]
@[simp] theorem tell_link (s : State) (p : Path) (code reg unit detail : Nat) : (tell s p code reg unit detail).link = s.link := by
  unfold tell; dsimp only; split <;> simp
@[simp] theorem tellAll_link (s : State) (code reg unit detail : Nat) : (tellAll s code reg unit detail).link = s.link := by
  simp [tellAll]
@[simp] theorem tell_therm (s : State) (p : Path) (code reg unit detail : Nat) : (tell s p code reg unit detail).therm = s.therm := by
  unfold tell; dsimp only; split <;> simp
@[simp] theorem tellAll_therm (s : State) (code reg unit detail : Nat) : (tellAll s code reg unit detail).therm = s.therm := by
  simp [tellAll]
@[simp] theorem tell_mode (s : State) (p : Path) (code reg unit detail : Nat) : (tell s p code reg unit detail).mode = s.mode := by
  unfold tell; dsimp only; split <;> simp
@[simp] theorem tellAll_mode (s : State) (code reg unit detail : Nat) : (tellAll s code reg unit detail).mode = s.mode := by
  simp [tellAll]
@[simp] theorem tell_bad (s : State) (p : Path) (code reg unit detail : Nat) : (tell s p code reg unit detail).bad = s.bad := by
  unfold tell; dsimp only; split <;> simp
@[simp] theorem tellAll_bad (s : State) (code reg unit detail : Nat) : (tellAll s code reg unit detail).bad = s.bad := by
  simp [tellAll]
@[simp] theorem tell_events (s : State) (p : Path) (code reg unit detail : Nat) : (tell s p code reg unit detail).events = s.events := by
  unfold tell; dsimp only; split <;> simp
@[simp] theorem tellAll_events (s : State) (code reg unit detail : Nat) : (tellAll s code reg unit detail).events = s.events := by
  simp [tellAll]
@[simp] theorem tell_memUse (s : State) (p : Path) (code reg unit detail : Nat) : (tell s p code reg unit detail).memUse = s.memUse := by
  unfold tell; dsimp only; split <;> simp
@[simp] theorem tellAll_memUse (s : State) (code reg unit detail : Nat) : (tellAll s code reg unit detail).memUse = s.memUse := by
  simp [tellAll]
@[simp] theorem tell_released (s : State) (p : Path) (code reg unit detail : Nat) : (tell s p code reg unit detail).released = s.released := by
  unfold tell; dsimp only; split <;> simp
@[simp] theorem tellAll_released (s : State) (code reg unit detail : Nat) : (tellAll s code reg unit detail).released = s.released := by
  simp [tellAll]
@[simp] theorem tell_freeCtr (s : State) (p : Path) (code reg unit detail : Nat) : (tell s p code reg unit detail).freeCtr = s.freeCtr := by
  unfold tell; dsimp only; split <;> simp
@[simp] theorem tellAll_freeCtr (s : State) (code reg unit detail : Nat) : (tellAll s code reg unit detail).freeCtr = s.freeCtr := by
  simp [tellAll]
@[simp] theorem tell_pending (s : State) (p : Path) (code reg unit detail : Nat) : (tell s p code reg unit detail).pending = s.pending := by
  unfold tell; dsimp only; split <;> simp
@[simp] theorem tellAll_pending (s : State) (code reg unit detail : Nat) : (tellAll s code reg unit detail).pending = s.pending := by
  simp [tellAll]
@[simp] theorem tell_host_attCounter (s : State) (p : Path) (code reg unit detail : Nat) : (tell s p code reg unit detail).host.attCounter = s.host.attCounter := by
  unfold tell; dsimp only; split <;> simp
@[simp] theorem tellAll_host_attCounter (s : State) (code reg unit detail : Nat) : (tellAll s code reg unit detail).host.attCounter = s.host.attCounter := by
  simp [tellAll]
@[simp] theorem tell_host_fn (s : State) (p : Path) (code reg unit detail : Nat) : (tell s p code reg unit detail).host.fn = s.host.fn := by
  unfold tell; dsimp only; split <;> simp
@[simp] theorem tellAll_host_fn (s : State) (code reg unit detail : Nat) : (tellAll s code reg unit detail).host.fn = s.host.fn := by
  simp [tellAll]
@[simp] theorem tell_host_can0 (s : State) (p : Path) (code reg unit detail : Nat) : (tell s p code reg unit detail).host.can0 = s.host.can0 := by
  unfold tell; dsimp only; split <;> simp
@[simp] theorem tellAll_host_can0 (s : State) (code reg unit detail : Nat) : (tellAll s code reg unit detail).host.can0 = s.host.can0 := by
  simp [tellAll]
@[simp] theorem tell_host_can1 (s : State) (p : Path) (code reg unit detail : Nat) : (tell s p code reg unit detail).host.can1 = s.host.can1 := by
  unfold tell; dsimp only; split <;> simp
@[simp] theorem tellAll_host_can1 (s : State) (code reg unit detail : Nat) : (tellAll s code reg unit detail).host.can1 = s.host.can1 := by
  simp [tellAll]
@[simp] theorem tell_host_store (s : State) (p : Path) (code reg unit detail : Nat) : (tell s p code reg unit detail).host.store = s.host.store := by
  unfold tell; dsimp only; split <;> simp
@[simp] theorem tellAll_host_store (s : State) (code reg unit detail : Nat) : (tellAll s code reg unit detail).host.store = s.host.store := by
  simp [tellAll]
@[simp] theorem tell_host_waits (s : State) (p : Path) (code reg unit detail : Nat) : (tell s p code reg unit detail).host.waits = s.host.waits := by
  unfold tell; dsimp only; split <;> simp
@[simp] theorem tellAll_host_waits (s : State) (code reg unit detail : Nat) : (tellAll s code reg unit detail).host.waits = s.host.waits := by
  simp [tellAll]
@[simp] theorem tell_served (s : State) (p : Path) (code reg unit detail : Nat) : (tell s p code reg unit detail).host.hpi.served = s.host.hpi.served := by
  unfold tell; dsimp only; split <;> simp
@[simp] theorem tellAll_served (s : State) (code reg unit detail : Nat) : (tellAll s code reg unit detail).host.hpi.served = s.host.hpi.served := by
  simp [tellAll]

/-- Telling an emergency touches no entry but EMCY_OVERFLOW. -/
theorem tell_reg (s : State) (p : Path) (code reg unit detail k : Nat) (h : k ≠ K.tagEmcyOverflow) :
    (tell s p code reg unit detail).reg k = s.reg k := by
  unfold tell; dsimp only; rw [pushRec_reg _ _ _ _ h]; split <;> rfl
theorem tellAll_reg (s : State) (code reg unit detail k : Nat) (h : k ≠ K.tagEmcyOverflow) :
    (tellAll s code reg unit detail).reg k = s.reg k := by
  simp [tellAll, tell_reg _ _ _ _ _ _ _ h]

/-- The path's queue then ends with the record. -/
theorem tell_last (s : State) (p : Path) (code reg unit detail : Nat) :
    ((tell s p code reg unit detail).path p).outq.getLast? = some (.emcy code reg unit detail) := by
  unfold tell; dsimp only
  generalize (if nodeSends s p then _ else s) = x; obtain ⟨l, h, _⟩ := pushRec_outq x p (.emcy code reg unit detail); simp [h]

/-- Other paths are left alone. -/
theorem tell_path_ne (s : State) (p q : Path) (code reg unit detail : Nat) (h : q ≠ p) :
    (tell s p code reg unit detail).path q = s.path q := by
  unfold tell; dsimp only
  split <;> simp [pushRec_path_ne _ _ _ _ h, State.modPath_path_ne _ _ _ _ h]

@[simp] theorem emcy_blobs (s : State) (code bit unit detail : Nat) : (emcy s code bit unit detail).blobs = s.blobs := by
  simp [emcy]
@[simp] theorem emcy_fe (s : State) (code bit unit detail : Nat) : (emcy s code bit unit detail).fe = s.fe := by
  simp [emcy]
@[simp] theorem emcy_eng (s : State) (code bit unit detail : Nat) : (emcy s code bit unit detail).eng = s.eng := by
  simp [emcy]
@[simp] theorem emcy_si (s : State) (code bit unit detail : Nat) : (emcy s code bit unit detail).si = s.si := by
  simp [emcy]
@[simp] theorem emcy_grp (s : State) (code bit unit detail : Nat) : (emcy s code bit unit detail).grp = s.grp := by
  simp [emcy]
@[simp] theorem emcy_flash (s : State) (code bit unit detail : Nat) : (emcy s code bit unit detail).flash = s.flash := by
  simp [emcy]
@[simp] theorem emcy_mem (s : State) (code bit unit detail : Nat) : (emcy s code bit unit detail).mem = s.mem := by
  simp [emcy]
@[simp] theorem emcy_reel (s : State) (code bit unit detail : Nat) : (emcy s code bit unit detail).reel = s.reel := by
  simp [emcy]
@[simp] theorem emcy_cip (s : State) (code bit unit detail : Nat) : (emcy s code bit unit detail).cip = s.cip := by
  simp [emcy]
@[simp] theorem emcy_fab (s : State) (code bit unit detail : Nat) : (emcy s code bit unit detail).fab = s.fab := by
  simp [emcy]
@[simp] theorem emcy_fw (s : State) (code bit unit detail : Nat) : (emcy s code bit unit detail).fw = s.fw := by
  simp [emcy]
@[simp] theorem emcy_isl (s : State) (code bit unit detail : Nat) : (emcy s code bit unit detail).isl = s.isl := by
  simp [emcy]
@[simp] theorem emcy_life (s : State) (code bit unit detail : Nat) : (emcy s code bit unit detail).life = s.life := by
  simp [emcy]
@[simp] theorem emcy_test (s : State) (code bit unit detail : Nat) : (emcy s code bit unit detail).test = s.test := by
  simp [emcy]
@[simp] theorem emcy_power (s : State) (code bit unit detail : Nat) : (emcy s code bit unit detail).power = s.power := by
  simp [emcy]
@[simp] theorem emcy_clock (s : State) (code bit unit detail : Nat) : (emcy s code bit unit detail).clock = s.clock := by
  simp [emcy]
@[simp] theorem emcy_link (s : State) (code bit unit detail : Nat) : (emcy s code bit unit detail).link = s.link := by
  simp [emcy]
@[simp] theorem emcy_therm (s : State) (code bit unit detail : Nat) : (emcy s code bit unit detail).therm = s.therm := by
  simp [emcy]
@[simp] theorem emcy_mode (s : State) (code bit unit detail : Nat) : (emcy s code bit unit detail).mode = s.mode := by
  simp [emcy]
@[simp] theorem emcy_bad (s : State) (code bit unit detail : Nat) : (emcy s code bit unit detail).bad = s.bad := by
  simp [emcy]
@[simp] theorem emcy_events (s : State) (code bit unit detail : Nat) : (emcy s code bit unit detail).events = s.events := by
  simp [emcy]
@[simp] theorem emcy_memUse (s : State) (code bit unit detail : Nat) : (emcy s code bit unit detail).memUse = s.memUse := by
  simp [emcy]
@[simp] theorem emcy_released (s : State) (code bit unit detail : Nat) : (emcy s code bit unit detail).released = s.released := by
  simp [emcy]
@[simp] theorem emcy_freeCtr (s : State) (code bit unit detail : Nat) : (emcy s code bit unit detail).freeCtr = s.freeCtr := by
  simp [emcy]
@[simp] theorem emcy_pending (s : State) (code bit unit detail : Nat) : (emcy s code bit unit detail).pending = s.pending := by
  simp [emcy]
@[simp] theorem emcy_host_attCounter (s : State) (code bit unit detail : Nat) : (emcy s code bit unit detail).host.attCounter = s.host.attCounter := by
  simp [emcy]
@[simp] theorem emcy_host_fn (s : State) (code bit unit detail : Nat) : (emcy s code bit unit detail).host.fn = s.host.fn := by
  simp [emcy]
@[simp] theorem emcy_host_can0 (s : State) (code bit unit detail : Nat) : (emcy s code bit unit detail).host.can0 = s.host.can0 := by
  simp [emcy]
@[simp] theorem emcy_host_can1 (s : State) (code bit unit detail : Nat) : (emcy s code bit unit detail).host.can1 = s.host.can1 := by
  simp [emcy]
@[simp] theorem emcy_host_store (s : State) (code bit unit detail : Nat) : (emcy s code bit unit detail).host.store = s.host.store := by
  simp [emcy]
@[simp] theorem emcy_host_waits (s : State) (code bit unit detail : Nat) : (emcy s code bit unit detail).host.waits = s.host.waits := by
  simp [emcy]
@[simp] theorem emcy_served (s : State) (code bit unit detail : Nat) : (emcy s code bit unit detail).host.hpi.served = s.host.hpi.served := by
  simp [emcy]
@[simp] theorem emcy_blob (s : State) (code bit unit detail : Nat) (x : Nat) : (emcy s code bit unit detail).blob x = s.blob x := by
  simp [State.blob]
@[simp] theorem emcy_fb (s : State) (code bit unit detail : Nat) (x : Nat) : (emcy s code bit unit detail).fb x = s.fb x := by
  simp [State.fb]
@[simp] theorem emcy_cm (s : State) (code bit unit detail : Nat) (x : Nat) : (emcy s code bit unit detail).cm x = s.cm x := by
  simp [State.cm]
@[simp] theorem emcy_ev (s : State) (code bit unit detail : Nat) (x : Nat) : (emcy s code bit unit detail).ev x = s.ev x := by
  simp [State.ev]
@[simp] theorem emcy_cmp (s : State) (code bit unit detail : Nat) (x : Nat) : (emcy s code bit unit detail).cmp x = s.cmp x := by
  simp [State.cmp]
@[simp] theorem emcy_cap (s : State) (code bit unit detail : Nat) (x : Nat) : (emcy s code bit unit detail).cap x = s.cap x := by
  simp [State.cap]
@[simp] theorem emcy_engine (s : State) (code bit unit detail : Nat) (x : Nat) : (emcy s code bit unit detail).engine x = s.engine x := by
  simp [State.engine]
@[simp] theorem emcy_group (s : State) (code bit unit detail : Nat) (x : Nat) : (emcy s code bit unit detail).group x = s.group x := by
  simp [State.group]
@[simp] theorem emcy_standIn (s : State) (code bit unit detail : Nat) (x : Nat) : (emcy s code bit unit detail).standIn x = s.standIn x := by
  simp [State.standIn]
@[simp] theorem emcy_bankSt (s : State) (code bit unit detail : Nat) (x : Nat) : (emcy s code bit unit detail).bankSt x = s.bankSt x := by
  simp [State.bankSt]
@[simp] theorem emcy_keySlot (s : State) (code bit unit detail : Nat) (x : Nat) : (emcy s code bit unit detail).keySlot x = s.keySlot x := by
  simp [State.keySlot]
@[simp] theorem emcy_region (s : State) (code bit unit detail : Nat) (x : Nat) : (emcy s code bit unit detail).region x = s.region x := by
  simp [State.region]
@[simp] theorem emcy_sector (s : State) (code bit unit detail : Nat) (x : Nat) : (emcy s code bit unit detail).sector x = s.sector x := by
  simp [State.sector]
@[simp] theorem emcy_flBlock (s : State) (code bit unit detail : Nat) (x : Nat) : (emcy s code bit unit detail).flBlock x = s.flBlock x := by
  simp [State.flBlock]
@[simp] theorem emcy_flBank (s : State) (code bit unit detail : Nat) (x : Nat) : (emcy s code bit unit detail).flBank x = s.flBank x := by
  simp [State.flBank]
@[simp] theorem emcy_flMaster (s : State) (code bit unit detail : Nat) (x : FlashMaster) : (emcy s code bit unit detail).flMaster x = s.flMaster x := by
  simp [State.flMaster]
@[simp] theorem emcy_port (s : State) (code bit unit detail : Nat) (x : Nat) : (emcy s code bit unit detail).port x = s.port x := by
  simp [State.port]
@[simp] theorem emcy_rail (s : State) (code bit unit detail : Nat) (x : Nat) : (emcy s code bit unit detail).rail x = s.rail x := by
  simp [State.rail]
@[simp] theorem emcy_member (s : State) (code bit unit detail : Nat) (x : Nat) : (emcy s code bit unit detail).member x = s.member x := by
  simp [State.member]

/-- An emergency touches no entry but the error register and EMCY_OVERFLOW. -/
theorem emcy_reg (s : State) (code bit unit detail k : Nat) (h1 : k ≠ K.errRegErrorRegister) (h2 : k ≠ K.tagEmcyOverflow) :
    (emcy s code bit unit detail).reg k = s.reg k := by
  simp [emcy, tellAll_reg _ _ _ _ _ _ h2, State.setReg_reg_ne _ _ _ _ h1]

/-- The error register after an emergency: bit 0 and the code's own bit set, the others as they were. -/
theorem emcy_errorRegister (s : State) (code bit unit detail : Nat) :
    (emcy s code bit unit detail).reg K.errRegErrorRegister
      = ((setBitTo (setBitTo (s.regN K.errRegErrorRegister) 0 true) bit true : Nat) : Int) := by
  have h : K.errRegErrorRegister ≠ K.tagEmcyOverflow := by decide
  simp [emcy, tellAll_reg _ _ _ _ _ _ h]

/-- Every host path's queue ends with the emergency's record, which shows the error register as it then stands. -/
theorem emcy_record (s : State) (code bit unit detail : Nat) (p : Path) (hp : p ≠ .test) :
    ((emcy s code bit unit detail).path p).outq.getLast? = some (.emcy code
      (setBitTo (setBitTo (s.regN K.errRegErrorRegister) 0 true) bit true) unit (detail % 2 ^ 32)) := by
  unfold emcy tellAll; dsimp only
  cases p
  · rw [tell_path_ne _ _ _ _ _ _ _ (by decide), tell_path_ne _ _ _ _ _ _ _ (by decide), tell_path_ne _ _ _ _ _ _ _ (by decide)]
    exact tell_last _ _ _ _ _ _
  · rw [tell_path_ne _ _ _ _ _ _ _ (by decide), tell_path_ne _ _ _ _ _ _ _ (by decide)]; exact tell_last _ _ _ _ _ _
  · rw [tell_path_ne _ _ _ _ _ _ _ (by decide)]; exact tell_last _ _ _ _ _ _
  · exact tell_last _ _ _ _ _ _
  · exact absurd rfl hp

end Sys2Proof.Machine
end

