-- ==== Sys2Proof/Laws/Keep.lean ====
section
/-! SUPPORT. What each function of the model may change, said once per function: `KeepsBut m s t` says that only the parts of the
state that the mask `m` names differ, and that the tables stay canonical. -/

namespace Sys2Proof.Machine

/-- Only the parts of the state whose bit is set in `m` may differ; the bits follow the order of the fields of State. -/
structure Same (m : Nat) (s t : State) : Prop where
  regs : m.testBit 0 = false → t.regs = s.regs
  blobs : m.testBit 1 = false → t.blobs = s.blobs
  host : m.testBit 2 = false → t.host = s.host
  fe : m.testBit 3 = false → t.fe = s.fe
  eng : m.testBit 4 = false → t.eng = s.eng
  si : m.testBit 5 = false → t.si = s.si
  grp : m.testBit 6 = false → t.grp = s.grp
  flash : m.testBit 7 = false → t.flash = s.flash
  mem : m.testBit 8 = false → t.mem = s.mem
  reel : m.testBit 9 = false → t.reel = s.reel
  cip : m.testBit 10 = false → t.cip = s.cip
  fab : m.testBit 11 = false → t.fab = s.fab
  fw : m.testBit 12 = false → t.fw = s.fw
  isl : m.testBit 13 = false → t.isl = s.isl
  life : m.testBit 14 = false → t.life = s.life
  test : m.testBit 15 = false → t.test = s.test
  power : m.testBit 16 = false → t.power = s.power
  clock : m.testBit 17 = false → t.clock = s.clock
  link : m.testBit 18 = false → t.link = s.link
  therm : m.testBit 19 = false → t.therm = s.therm
  mode : m.testBit 20 = false → t.mode = s.mode
  bad : m.testBit 21 = false → t.bad = s.bad
  events : m.testBit 22 = false → t.events = s.events
  memUse : m.testBit 23 = false → t.memUse = s.memUse
  released : m.testBit 24 = false → t.released = s.released
  freeCtr : m.testBit 25 = false → t.freeCtr = s.freeCtr
  pending : m.testBit 26 = false → t.pending = s.pending

/-- A change that touches only the parts in `m` and keeps every table canonical. -/
structure KeepsBut (m : Nat) (s t : State) : Prop where
  same : Same m s t
  canon : Canonical s → Canonical t

theorem Same.refl (m : Nat) (s : State) : Same m s s := by constructor <;> intro _ <;> rfl

theorem Same.trans {m m' : Nat} {s t u : State} (h1 : Same m s t) (h2 : Same m' t u) (h : m' ||| m = m) : Same m s u := by
  have key : ∀ i, m.testBit i = false → m'.testBit i = false := by
    intro i hi
    rw [← h, Nat.testBit_or, Bool.or_eq_false_iff] at hi
    exact hi.1
  constructor
  · intro h; exact (h2.regs (key _ h)).trans (h1.regs h)
  · intro h; exact (h2.blobs (key _ h)).trans (h1.blobs h)
  · intro h; exact (h2.host (key _ h)).trans (h1.host h)
  · intro h; exact (h2.fe (key _ h)).trans (h1.fe h)
  · intro h; exact (h2.eng (key _ h)).trans (h1.eng h)
  · intro h; exact (h2.si (key _ h)).trans (h1.si h)
  · intro h; exact (h2.grp (key _ h)).trans (h1.grp h)
  · intro h; exact (h2.flash (key _ h)).trans (h1.flash h)
  · intro h; exact (h2.mem (key _ h)).trans (h1.mem h)
  · intro h; exact (h2.reel (key _ h)).trans (h1.reel h)
  · intro h; exact (h2.cip (key _ h)).trans (h1.cip h)
  · intro h; exact (h2.fab (key _ h)).trans (h1.fab h)
  · intro h; exact (h2.fw (key _ h)).trans (h1.fw h)
  · intro h; exact (h2.isl (key _ h)).trans (h1.isl h)
  · intro h; exact (h2.life (key _ h)).trans (h1.life h)
  · intro h; exact (h2.test (key _ h)).trans (h1.test h)
  · intro h; exact (h2.power (key _ h)).trans (h1.power h)
  · intro h; exact (h2.clock (key _ h)).trans (h1.clock h)
  · intro h; exact (h2.link (key _ h)).trans (h1.link h)
  · intro h; exact (h2.therm (key _ h)).trans (h1.therm h)
  · intro h; exact (h2.mode (key _ h)).trans (h1.mode h)
  · intro h; exact (h2.bad (key _ h)).trans (h1.bad h)
  · intro h; exact (h2.events (key _ h)).trans (h1.events h)
  · intro h; exact (h2.memUse (key _ h)).trans (h1.memUse h)
  · intro h; exact (h2.released (key _ h)).trans (h1.released h)
  · intro h; exact (h2.freeCtr (key _ h)).trans (h1.freeCtr h)
  · intro h; exact (h2.pending (key _ h)).trans (h1.pending h)

theorem KeepsBut.refl (m : Nat) (s : State) : KeepsBut m s s := ⟨Same.refl m s, id⟩

theorem KeepsBut.trans {m m' : Nat} {s t u : State} (h1 : KeepsBut m s t) (h2 : KeepsBut m' t u) (h : m' ||| m = m) : KeepsBut m s u :=
  ⟨h1.same.trans h2.same h, fun hc => h2.canon (h1.canon hc)⟩

theorem KeepsBut.mono {m m' : Nat} {s t : State} (h1 : KeepsBut m' s t) (h : m' ||| m = m) : KeepsBut m s t := (KeepsBut.refl m s).trans h1 h

theorem KeepsBut.foldl {α : Type} {m : Nat} {s0 s : State} (f : State → α → State) (l : List α) (h : KeepsBut m s0 s)
    (hf : ∀ x y, KeepsBut m x (f x y)) : KeepsBut m s0 (l.foldl f s) :=
  foldl_keeps (fun t => KeepsBut m s0 t) f l s h fun t x _ ht => ht.trans (hf t x) (Nat.or_self m)

theorem KeepsBut.forN {m : Nat} {s0 s : State} (n : Nat) (f : State → Nat → State) (h : KeepsBut m s0 s)
    (hf : ∀ x y, KeepsBut m x (f x y)) : KeepsBut m s0 (forN n f s) := KeepsBut.foldl f _ h hf

/-- A fold that carries more than the state. -/
theorem KeepsBut.foldlFst {α β : Type} {m : Nat} {s0 : State} (f : State × β → α → State × β) (l : List α) (a : State × β)
    (h : KeepsBut m s0 a.1) (hf : ∀ x y, KeepsBut m x.1 (f x y).1) : KeepsBut m s0 (l.foldl f a).1 := by
  induction l generalizing a with
  | nil => exact h
  | cons y l ih => exact ih _ (h.trans (hf a y) (Nat.or_self m))

theorem KeepsBut.foldlSnd {α β : Type} {m : Nat} {s0 : State} (f : β × State → α → β × State) (l : List α) (a : β × State)
    (h : KeepsBut m s0 a.2) (hf : ∀ x y, KeepsBut m x.2 (f x y).2) : KeepsBut m s0 (l.foldl f a).2 := by
  induction l generalizing a with
  | nil => exact h
  | cons y l ih => exact ih _ (h.trans (hf a y) (Nat.or_self m))

theorem tabWf_erase {α : Type} [DecidableEq α] (d : Nat → α) (t : Tab α) (k : Nat) (h : tabWf d t = true) :
    tabWf d (tabErase t k) = true := tabWfFrom_erase d t k none h

theorem tabWf_foldl {α β : Type} [DecidableEq α] (d : Nat → α) (f : Tab α → β → Tab α) (l : List β) (t : Tab α)
    (h : tabWf d t = true) (hf : ∀ t x, tabWf d t = true → tabWf d (f t x) = true) : tabWf d (l.foldl f t) = true := by
  induction l generalizing t with
  | nil => exact h
  | cons x l ih => exact ih _ (hf _ _ h)

end Sys2Proof.Machine
end

