-- ==== Sys2Proof/Laws/Memory.lean ====
section
/-! SUPPORT. The memories: every operation that stores keeps their canonical form, and a byte reads as it was last written. -/

namespace Sys2Proof.Machine

/-- Bytes put into a table of bytes one after the other. -/
theorem tabWf_putBytes (d : Nat → Byte) (a : Nat) (bs : List Byte) (t : Tab Byte) (h : tabWf d t = true) :
    tabWf d (((List.range bs.length).zip bs).foldl (fun t ib => tabSet d t (a + ib.1) ib.2) t) = true :=
  tabWf_foldl d _ _ t h fun t _ ht => tabWf_set d t _ _ ht

/-- A byte that no pair of the list names is left alone. -/
theorem tabGet_foldl_ne (d : Nat → Byte) (a k : Nat) (l : List (Nat × Byte)) (t : Tab Byte) (h : ∀ ib ∈ l, a + ib.1 ≠ k) :
    tabGet d (l.foldl (fun t ib => tabSet d t (a + ib.1) ib.2) t) k = tabGet d t k := by
  induction l generalizing t with
  | nil => rfl
  | cons x l ih =>
    rw [List.foldl_cons, ih _ fun ib hi => h ib (List.mem_cons_of_mem _ hi)]
    exact tabGet_set_ne d t _ k _ (Ne.symm (h x (List.mem_cons_self ..)))

/-- Bytes stored from `a` on leave every byte outside alone. -/
theorem tabGet_putBytes_out (d : Nat → Byte) (a k : Nat) (bs : List Byte) (t : Tab Byte) (h : k < a ∨ a + bs.length ≤ k) :
    tabGet d (((List.range bs.length).zip bs).foldl (fun t ib => tabSet d t (a + ib.1) ib.2) t) k = tabGet d t k := by
  refine tabGet_foldl_ne d a k _ t fun ib hi => ?_
  have := List.mem_range.mp (List.of_mem_zip (a := ib.1) (b := ib.2) hi).1
  omega

/-- Bytes stored from `a` on read back. -/
theorem tabGet_putBytes_in (d : Nat → Byte) (a k : Nat) (bs : List Byte) (t : Tab Byte) (h : a ≤ k ∧ k < a + bs.length) :
    tabGet d (((List.range bs.length).zip bs).foldl (fun t ib => tabSet d t (a + ib.1) ib.2) t) k = bs.getD (k - a) 0 := by
  suffices H : ∀ (n : Nat) (bs : List Byte) (t : Tab Byte) (l : List Nat), l = List.range' n bs.length →
      a + n ≤ k → k < a + n + bs.length →
      tabGet d ((l.zip bs).foldl (fun t ib => tabSet d t (a + ib.1) ib.2) t) k = bs.getD (k - a - n) 0 from by
    have := H 0 bs t _ rfl (by omega) (by omega)
    rwa [← List.range_eq_range'] at this
  intro n bs
  induction bs generalizing n with
  | nil => intro t l _ h1 h2; simp at h2; omega
  | cons b bs ih =>
    intro t l hl h1 h2
    subst hl
    rw [List.length_cons, List.range'_succ, List.zip_cons_cons, List.foldl_cons]
    rcases Nat.eq_or_lt_of_le h1 with e | lt
    · rw [tabGet_foldl_ne]
      · rw [← e, tabGet_set_self]; simp
      · intro ib hi
        have := (List.mem_range'_1.mp (List.of_mem_zip (a := ib.1) (b := ib.2) hi).1).1
        omega
    · rw [ih (n + 1) _ _ rfl (by omega) (by simp at h2; omega)]
      rw [show k - a - n = (k - a - (n + 1)) + 1 by omega]
      rfl

/-- A byte of the array after a store of bytes (10 R400). -/
theorem arrayByte_putArray (s : State) (a k : Nat) (bs : List Byte) :
    arrayByte (putArray s a bs) k = if a ≤ k ∧ k < a + bs.length then bs.getD (k - a) 0 else arrayByte s k := by
  split
  · rename_i h; exact tabGet_putBytes_in _ a k bs _ h
  · rename_i h; exact tabGet_putBytes_out _ a k bs _ (by omega)

/-- A byte of the scratchpad after a store of bytes (11 R424). -/
theorem spByte_putSp (s : State) (a k : Nat) (bs : List Byte) :
    tabGet (fun _ => 0#8) (putSp s a bs).mem.sp k
      = if a ≤ k ∧ k < a + bs.length then bs.getD (k - a) 0 else tabGet (fun _ => 0#8) s.mem.sp k := by
  split
  · rename_i h; exact tabGet_putBytes_in _ a k bs _ h
  · rename_i h; exact tabGet_putBytes_out _ a k bs _ (by omega)

/-- The canonical form of the memories, part by part. -/
theorem memoryWf_iff (s : State) : memoryWf s = true ↔ tabWf (fun _ => 0xFF#8) s.flash.array = true
    ∧ tabWf (fun _ => 0#8) s.mem.sp = true ∧ tabWf (fun _ => ({} : DramLine)) s.mem.dram = true := by
  simp [memoryWf, and_assoc]

theorem memoryWf_reset : memoryWf State.reset = true := rfl

theorem memoryWf_putArray (s : State) (a : Nat) (bs : List Byte) (h : memoryWf s = true) : memoryWf (putArray s a bs) = true := by
  rw [memoryWf_iff] at h ⊢
  exact ⟨tabWf_putBytes _ a bs _ h.1, h.2⟩

theorem memoryWf_wipeBlock (s : State) (k : Nat) (h : memoryWf s = true) : memoryWf (wipeBlock s k) = true := by
  rw [memoryWf_iff] at h ⊢
  exact ⟨tabWf_keep _ _ _ h.1, h.2⟩

theorem memoryWf_putSp (s : State) (a : Nat) (bs : List Byte) (h : memoryWf s = true) : memoryWf (putSp s a bs) = true := by
  rw [memoryWf_iff] at h ⊢
  exact ⟨h.1, tabWf_putBytes _ a bs _ h.2.1, h.2.2⟩

theorem memoryWf_resetMem (kept : Nat) (s : State) (h : memoryWf s = true) : memoryWf (resetMem kept s) = true := by
  rw [memoryWf_iff] at h ⊢
  exact ⟨h.1, tabWf_keep _ _ _ h.2.1, rfl⟩

/-- The canonical form speaks of three tables only. -/
theorem memoryWf_of_eq (s t : State) (ha : t.flash.array = s.flash.array) (hs : t.mem.sp = s.mem.sp) (hd : t.mem.dram = s.mem.dram)
    (h : memoryWf s = true) : memoryWf t = true := by
  rw [memoryWf_iff] at h ⊢
  rw [ha, hs, hd]; exact h

theorem setRegs_mem (s : State) (l : List (Nat × Int)) : (s.setRegs l).mem = s.mem ∧ (s.setRegs l).flash = s.flash := by
  induction l generalizing s with
  | nil => exact ⟨rfl, rfl⟩
  | cons x l ih => exact ih _

theorem memoryWf_finishHandover (s : State) (b : Nat) (h : memoryWf s = true) : memoryWf (finishHandover s b) = true := by
  unfold finishHandover
  split
  · exact h
  · rw [memoryWf_iff] at h ⊢
    rw [(setRegs_mem _ _).1, (setRegs_mem _ _).2]
    split
    · exact ⟨h.1, tabWf_keep _ _ _ h.2.1, h.2.2⟩
    · exact h

/-- Counting a write changes no contents (12 R458, R459). -/
theorem countWrite_contents (s : State) (line : Nat) :
    (countWrite s line).1.flash = s.flash ∧ (countWrite s line).1.mem.sp = s.mem.sp ∧ (countWrite s line).1.mem.dram = s.mem.dram := by
  unfold countWrite
  dsimp only
  split
  · exact ⟨rfl, rfl, rfl⟩
  · split
    · exact ⟨rfl, rfl, rfl⟩
    · split
      · refine ⟨?_, ?_, ?_⟩ <;> simp [remeltDram, State.modMem, State.bump, State.setReg]
      · split
        · exact ⟨rfl, rfl, rfl⟩
        · simp [State.modMem]

theorem memoryWf_writeLine (s : State) (line key : Nat) (data : List Byte) (h : memoryWf s = true) :
    memoryWf (writeLine s line key data).1 = true := by
  obtain ⟨c1, c2, c3⟩ := countWrite_contents s line
  have hc : memoryWf (countWrite s line).1 = true := memoryWf_of_eq s _ (by rw [c1]) c2 c3 h
  unfold writeLine
  dsimp only
  split
  · exact h
  split
  · exact h
  split
  · exact h
  split
  · exact h
  split
  · rw [memoryWf_iff] at hc ⊢
    exact ⟨hc.1, hc.2.1, tabWf_set _ _ _ _ hc.2.2⟩
  · exact hc

end Sys2Proof.Machine
end

