-- ==== Sys2Proof/Tests/Slice0.lean ====
section
/-! SUPPORT. Tests: for every check of WellFormed a command that it refuses, the worked examples of the specification,
one step of commands of each chapter, and for every claim with hypotheses states and operands that meet them. -/
open Sys2Proof Sys2Proof.Machine Claims

set_option linter.unusedVariables false
set_option Elab.async false

/-! ## Small states -/

/-- SC0 serves and HPI_RB is ready. -/
def up : State := State.reset.modHpi fun h => { h with served := true, busy := false }
/-- A request over SDO on the field network. -/
def rq : Req := ⟨.fn, .sdo⟩
/-- The block that serves, with these entries set. -/
def st (l : List (Nat × Int)) : State := up.setRegs l
def rec1 (op i sub off : Nat) (d : List Byte) : Rec :=
  let x : Rec := ⟨1, i, sub, 0, d.length, off, 0, d⟩
  { x with check := BitVec.ofNat 32 (crc32c (headOf op x ++ x.payload)) }
def dfltRow : Row := (rowOf 0x1001 0).get (by decide)
def out0 : OutRec := .emcy 0 0 0 0
def fj0 : FlJob := ⟨.erase 0, .sc2, 3, 1, true, .none, false⟩
def sc0 : StCmd := { id := 0, q := 0, req := none, op := .read, key := 0, gen := 0, lba := 0, count := 1 }
def or0 : ObjReq := ⟨rq, 0x5800, 1, 1, 0, 0, [], false⟩
def st0 : StopSt := ⟨false, 0, false, false, 0, 0⟩
def xf0 : SdoXfer := ⟨true, 0x4010, 7, false, [], false⟩
def ld0 : LoadSt := { purpose := .powerUp, slot := 1, slate := [], unload := 0, order := [] }
def seg0 : Seg := { typ := 0, units := 0, mask := 0, flags := 0, id := 0, feed := 0 }
def dfltStatus : StatusFrame := ⟨1, 0, 0, false, false, false, 0, 0, 0⟩
def job0 : IslJob := { id := 0, mode := 1, start := 0, piece := none }

/-- A request that SC0 takes, on a path of the hosts. -/
theorem takesNow {s : State} {r : Req} (h : r.path ≠ .test ∧ s.host.hpi.served = true ∧ tagBusy s r = false ∧ s.reg K.powerState ≠ 1) :
    Takes s r := by
  refine ⟨fun key op => ?_, h.2.2⟩
  obtain ⟨p, o⟩ := r
  cases p <;> simp_all [answers]
theorem passesNow {s : State} {r : Req} {key : Nat} {v : Int} {o : Own} (h : (r.path ≠ .test ∧ s.host.hpi.served = true
    ∧ tagBusy s r = false ∧ s.reg K.powerState ≠ 1) ∧ writeCode s r key v o = none) : Passes s r key v o := ⟨takesNow h.1, h.2⟩
theorem bytesNow {s : State} {r : Req} {key : Nat} {data : List Byte} {o : Own} (h : (r.path ≠ .test ∧ s.host.hpi.served = true
    ∧ tagBusy s r = false ∧ s.reg K.powerState ≠ 1) ∧ (rowOf (keyIndex key) (keySub key)).map (fun w => lengthOk w data.length) = some true
    ∧ bytesCode s r key o = none) : BytesPass s r key data o := ⟨takesNow h.1, h.2⟩
def wds : List (BitVec 16) := wordsOf (padRecord .hpi (encodeOut out0))
def wordOf0 : BitVec 16 := wds.headD 0
def wordsOf0 := wds.tail

def cfgSec (op n : Nat) : List Byte :=
  let h := leBytes 4 0x21474643 ++ leBytes 1 op ++ zeros 3 ++ zeros 16 ++ leBytes 4 0 ++ leBytes 4 n ++ zeros n
  h ++ leBytes 4 (crc32c h)
def cfgGold (op n : Nat) : List Byte :=
  let h := leBytes 4 0x21474643 ++ leBytes 1 op ++ zeros 2 ++ [1] ++ zeros 16 ++ leBytes 4 0 ++ leBytes 4 n ++ zeros n
  h ++ leBytes 4 (crc32c h)
def awake (s : State) : State := { s with power := { s.power with stage := 0 } }
def lineUp (key : Nat) (bad : Bool) (d : List Byte) : State :=
  { st [(K.dramState, 3), (K.dramUserBytes, 4096)] with mem := { up.mem with dram := [(0, { data := d, key := key, bad := bad })] } }

def chainState : State :=
  (lineUp 0 false (leBytes 8 32 ++ zeros 8 ++ leBytes 4 9 ++ [0, 7, 0, 0] ++ zeros 8
    ++ [0x31, 0x32, 0x33, 0x34, 0x35, 0x36, 0x37, 0x38, 0x39] ++ zeros 23)).setRegs [(K.ckState 2, 1), (K.ckChainKey 2, 0)]
def chainHead : State × Nat × List Byte := ckRead chainState (chainState.regN (K.ckChainNext 2)) 32 0
def chainData : State × Nat × List Byte := ckRead chainHead.1 32 9 0
/-- One 1 GiB region bound to slot 1, generation 0, with its key ready, and a storage that is up. -/
def sto (c : List StCmd) : State :=
  ((st [(K.storageState, 2), (K.stoProtectedSectors, 8), (K.queueEnable 0, 1), (K.dramUserBytes, 8192), (K.dramState, 3)]).modKey 1 fun x => { x with st := 1 }).modCip
    fun x => { x with cmds := c, region := [(0, { bound := some (1, 0), epoch := 1 })],
                      sector := [(0, { data := zeros 8, counter := 3, epoch := 1, key := 1 })] }
def stc : StCmd := { sc0 with key := 1 }
def isl0 (f : IslandSt → IslandSt) : State := awake (up.modIsl f)

def segs4096 : List Byte := List.flatten (List.replicate 65 (([5, 1] ++ zeros 62)))
def parseDemo : List Seg × Bool := parsePrefix (up.regN (K.slotsSlotCount 0)) (up.regN (K.slotsPathMask 0)) 0 (segs4096.length / 64 + 1) segs4096

/-! ## What cannot come is refused (one ill-formed command for each check of WellFormed) -/

theorem test_wf_good : (Instr.errorReset rq).wf = true ∧ (Instr.taggedRead .hpi (rec1 1 0x2210 3 0 [])).wf = true := by decide +kernel
theorem test_wf_hpi_has_no_sdo : (Instr.errorReset ⟨.hpi, .sdo⟩).wf = false ∧ (Instr.errorReset ⟨.hpi, .pdo⟩).wf = false := by decide
theorem test_wf_read_has_no_payload : (Instr.taggedRead .hpi ⟨1, 0x2210, 3, 0, 0, 0, 0, [0]⟩).wf = false := by decide
theorem test_wf_write_has_its_length : (Instr.taggedWrite .hpi ⟨1, 0x2210, 1, 0, 2, 0, 0, [0]⟩).wf = false := by decide
theorem test_wf_hpi_has_no_sdo_server : (Instr.sdoDownload .hpi .unknown).wf = false ∧ (Instr.sdoUpload .hpi .unknown).wf = false
    ∧ (Instr.sdoTimeout .hpi).wf = false := by decide
theorem test_wf_can_segment_has_seven_bytes : (Instr.sdoDownload .can0 (.segment false true (zeros 8))).wf = false := by decide
theorem test_wf_rpdo_has_64_bytes : (Instr.canRpdo 0 0 (zeros 65)).wf = false := by decide
theorem test_wf_faults_name_axes : (Instr.setpointSampleInstant [(52, {})]).wf = false := by decide
theorem test_wf_codes_have_16_bits : (Instr.scSample 0 32768 0 0 0 0).wf = false ∧ (Instr.scSample 0 0 (-32769) 0 0 0).wf = false := by
  decide
theorem test_wf_tracker_widths : (Instr.resTrackerUpdate 0 0 (2 ^ 24) 0 false 0 false).wf = false
    ∧ (Instr.resTrackerUpdate 0 0 0 65536 false 0 false).wf = false := by decide
theorem test_wf_ssi_frame_has_48_bits : (Instr.ssiFrameEnd 0 (2 ^ 48) 0 false).wf = false := by decide
theorem test_wf_sensors : (Instr.railMonitorSample [850, 850, 850] 900).wf = false ∧ (Instr.temperatureSample [25]).wf = false := by decide
theorem test_wf_fabric_write_has_its_data : (Instr.fabricMemoryRequest 0 ⟨0, true, false, 0, 1, 0, zeros 32, 0⟩).wf = false := by decide
theorem test_wf_answers_and_pages : (Instr.pageProgram .sc2 0 0 (List.replicate 129 0)).wf = false
    ∧ (Instr.userDataRead rq 0 4097).wf = false ∧ (Instr.storageDataRead rq 0 0 4097).wf = false
    ∧ (Instr.dramLineWrite 0 0 (zeros 63)).wf = false := by decide +kernel
theorem test_wf_fabric_answer_has_4096_bytes (d : List Byte) (h : 4096 < d.length) : (Instr.fabricObjectAnswer 0 0 d).wf = false := by
  simp only [Instr.wf, decide_eq_false_iff_not]
  omega
theorem test_wf_axis_frame_has_12_entries : (Instr.clapperAxisFrame true 0 (List.replicate 13 ⟨0, false, 0⟩) [] false).wf = false := by
  decide
theorem test_wf_fcp_host_is_checked : (Instr.fcpStreamData (.host ⟨.hpi, .sdo⟩) 0 []).wf = false := by decide

/-! ## The specification's worked examples and tables -/

/-- 13 R489: the check column, over the nine bytes "123456789". -/
def nine : List Byte := [0x31, 0x32, 0x33, 0x34, 0x35, 0x36, 0x37, 0x38, 0x39]
/-- The check of a preset over some bytes. -/
def presetCheck (v : Nat) (b : List Byte) : Nat :=
  let p := presets v
  checkOf p.1 (p.2.2.2.1.testBit 1) p.2.2.2.2 (crcBytes p.1 p.2.1 (p.2.2.2.1.testBit 0) p.2.2.1 b)
theorem test_preset_checks : presetCheck 1 nine = 0xF4 ∧ presetCheck 2 nine = 0x29B1 ∧ presetCheck 3 nine = 0xCBF43926 := by decide +kernel
theorem test_preset_check_crc32c : presetCheck 4 nine = 0xE3069283 ∧ crc32c nine = 0xE3069283 := by decide +kernel
theorem test_preset_check_crc64 : presetCheck 5 nine = 0x6C40DF5F0B497347 := by decide +kernel

/-- Chapter 13's example: RUNNING after the label is the register before its output. -/
theorem test_running_register : (after (.ckDescriptorDone 2) chainState).reg (K.ckRunning 2) = 0x3EB69F38
    ∧ (after (.ckDescriptorDone 2) chainState).reg (K.ckState 2) = 0 := by decide +kernel

/-- Chapter 2's example: the words of a read of TICK_COUNT with tag 0x11, but for its CHECK. -/
theorem test_hpi_read_words : (wordsOf (encodeRequest 1 { rec1 1 0x2210 3 0 [] with tag := 0x11 })).take 6
    = [0x1101, 0x2210, 0x0003, 0x0000, 0x0000, 0x0000] := by decide +kernel
/-- Its completion begins with these words and has twelve. -/
theorem test_hpi_completion_words : (wordsOf (encodeOut (.cpl 0x11 0 0x2210 3 1 0 (zeros 8)))).take 4 = [0x0011, 0x2210, 0x0103, 0x0008]
    ∧ (wordsOf (encodeOut (.cpl 0x11 0 0x2210 3 1 0 (zeros 8)))).length = 12
    ∧ (wordsOf (encodeOut (.cpl 0x12 0 0x1018 2 1 0 (zeros 4)))).length = 10
    ∧ (wordsOf (encodeOut (.cpl 0x10 0 0x1010 1 2 0 []))).length = 8 := by decide +kernel

/-- 02 R698's example: a write of the wrong length to an ro entry ends with the code of access, not of length. -/
theorem test_order_of_checks : (((after (.objectWrite rq 0x1001 0 [0, 0, 0]) up).path .fn).resp.map (·.abort)) = some 0x06010002 := by
  decide +kernel
/-- 02 R698's example: out of range and still, while a group moves, ends with REFUSED_MOVING. -/
theorem test_moving_before_range :
    (((after (.objectWrite rq 0x4005 9 [200]) (st [(K.gstGroupState 3, 2)])).path .fn).resp.map (·.abort)) = some 0x0F000001 := by
  decide +kernel

/-- Chapter 15's table after R559. -/
def cal (y mo d h mi s : Nat) : List Byte :=
  leBytes 2 y ++ leBytes 1 mo ++ leBytes 1 d ++ leBytes 1 h ++ leBytes 1 mi ++ leBytes 1 s ++ leBytes 1 0
theorem test_calendar_counts : calendarSeconds (cal 2000 2 29 12 0 0) = some 5140800 ∧ calendarSeconds (cal 2000 3 1 0 0 0) = some 5184000
    ∧ calendarSeconds (cal 2100 2 28 23 59 59) = some 3160857599
    ∧ calendarSeconds (cal 2199 12 31 23 59 59) = some 6311433599 := by decide +kernel
theorem test_calendar_refuses : calendarSeconds (cal 2100 2 29 0 0 0) = none ∧ calendarSeconds (cal 2099 12 31 24 0 0) = none := by
  decide +kernel
theorem test_calendar_reads : calendarBytes 5140800 = (cal 2000 2 29 12 0 0).take 7 ++ [2]
    ∧ (calendarBytes 3160857600).take 7 = (cal 2100 3 1 0 0 0).take 7 := by decide +kernel
theorem test_calendar_write_is_taken : (after (.rtcCalendarWrite rq (cal 2000 2 29 12 0 0)) up).reg K.rtcSeconds = 5140800
    ∧ (after (.rtcCalendarWrite rq (cal 2100 2 29 0 0 0)) up).reg K.rtcSeconds = up.reg K.rtcSeconds := by decide +kernel

/-- Chapter 4's example: tick k sends 12 steps 5,207.5 ns apart and keeps 0.3 of a step. -/
theorem test_stepper_tick : (let p := stepPlan false 125000 400 400 800 500000 1 0 806093
    (p.sent, p.dir, p.space, p.start, p.rem, p.limited)) = (12, 1, 10415, 0, 19661, false) := by decide
/-- Tick k + 1 turns: 3 steps 20,165 ns apart, the first 2 us after DIR. -/
theorem test_stepper_turn : (let p := stepPlan false 125000 400 400 800 500000 1 19661 (-262144)
    (p.sent, p.dir, p.space, p.start, p.rem)) = (3, -1, 40330, 4000, -45875) := by decide

/-- Chapter 3's example: the resolver axis takes its origin once the jog has stopped. -/
theorem test_reference_origin : (after (.refOriginApply 0) (st [(K.fbsRefState 0, 2), (K.refAuto 0, 1), (K.fbsRefLatch 0, 620756992),
    (K.refValue 0, 0x4092D00000000000), (K.refUnitPerPeriod 0, 0x4018000000000000)])).reg (K.refPosOrigin 0) = -2745871019 := by
  decide +kernel

/-! ## One step of commands of each chapter -/

theorem test_error_reset : (after (.errorReset rq) (st [(K.errRegErrorRegister, 0x11)])).reg K.errRegErrorRegister = 0 := by decide +kernel
theorem test_idle : step State.reset = .next (idle State.reset) := rfl
theorem test_step_takes_the_front : (nextOf up (step { up with pending := [.attnEnWrite false, .clrResetSeen] })).pending = [.clrResetSeen] := by
  decide +kernel
theorem test_quadrature_counts : ((after (.incEdge (.port 0) true false false) (up.modFb 0 fun f => { f with modeUse := 1 })).fb 0).live.natAbs
    = 2 ^ 22 := by decide +kernel
theorem test_safe_stop_waits_to_qualify : (after .safeStopFall up).fe.safe.stop = false ∧ (after .safeStopFall up).fe.safe.qualPend = true := by
  decide +kernel
theorem test_erase_blanks_the_block : arrayByte (after (.eraseDone 0 true) ((putArray up 5 [7]).modFlBank 0 fun b =>
    { b with op := some fj0 })) 5 = 0xFF := by decide +kernel
theorem test_program_stores_the_page : arrayByte (after (.programDone 0 true) (up.modFlBank 0 fun b =>
    { b with op := some { fj0 with op := .program 1 2 [0x3C] } })) 0x40400 = 0x3C := by decide +kernel
theorem test_dram_line_comes_back : (let s := after (.dramLineWrite 0 0 (List.replicate 64 0xA5)) (lineUp 0 false [])
    (after (.dramLineRead 0 0 .good .good) s).mem.got) = some (0, List.replicate 64 0xA5) := by decide +kernel
theorem test_rtc_stops_at_its_end : (after .rtcSecond (st [(K.rtcSeconds, rtcLast), (K.rtcValid, 1)])).reg K.rtcValid = 0 := by decide +kernel
theorem test_hop_of_100_ns_is_taken : (after (.clapperDelayProbe true 0 100 0) ((awake up).setReg K.linkEnable 1)).regBit K.linkFlags 3 = false
    ∧ (after (.clapperDelayProbe true 0 101 0) ((awake up).setReg K.linkEnable 1)).regBit K.linkFlags 3 = true := by decide +kernel
theorem test_vbat_limit : (after (.vbatMeasure 2199) (st [(K.batSupplyInUse, 1)])).regBit K.batBackupStatus 0 = true
    ∧ (after (.vbatMeasure 2200) (st [(K.batSupplyInUse, 1)])).regBit K.batBackupStatus 0 = false := by decide +kernel

/-! ## Every hypothesis can be met -/

/-- States and operands that meet the hypotheses of StepRunsTheFrontCommand, clause by clause. -/
theorem witness_StepRunsTheFrontCommand :
    (∃ s : State, s.pending = []) :=
  ⟨up, by decide⟩

/-- States and operands that meet the hypotheses of EveryStepKeepsTablesCanonical, clause by clause. -/
theorem witness_EveryStepKeepsTablesCanonical :
    (∃ s t : State, Canonical s ∧ step s = .next t) :=
  ⟨State.reset, State.reset, ⟨by constructor <;> (try constructor), rfl⟩⟩

/-- States and operands that meet the hypotheses of EveryStepTakesExactlyOneCommand, clause by clause. -/
theorem witness_EveryStepTakesExactlyOneCommand :
    (∃ s t : State, step s = .next t) :=
  ⟨{ State.reset with pending := [.clrResetSeen] }, after .clrResetSeen State.reset, rfl⟩

/-- States and operands that meet the hypotheses of RequestRecordsDecode, clause by clause. -/
theorem witness_RequestRecordsDecode :
    (∃ (op : Nat) (x : Rec), 1 ≤ op ∧ op ≤ 5 ∧ x.wf op = true) ∧
    (∃ l : List (Nat × Rec), l ≠ [] ∧ ((∀ e ∈ l, 1 ≤ e.1 ∧ e.1 ≤ 5 ∧ e.2.wf e.1 = true))) :=
  ⟨⟨2, rec1 2 0x4010 7 0 [100, 0], by decide⟩,
   ⟨[(2, rec1 2 0x4010 7 0 [100, 0]), (5, rec1 5 0 0 7 [])], by decide⟩⟩

/-- States and operands that meet the hypotheses of RecordWordsMakeTheCommand, clause by clause. -/
theorem witness_RecordWordsMakeTheCommand :
    (∃ (op : Nat) (x : Rec) (c : Instr) (s : State), taggedCmd op .hpi x = some c ∧ x.wf op = true ∧ x.length.toNat ≤ 4096 ∧
      hpiBusy s = false ∧ s.host.hpi.part = []) :=
  ⟨2, rec1 2 0x4010 7 0 [100], .taggedWrite .hpi (rec1 2 0x4010 7 0 [100]), up, ⟨rfl, by decide, by decide, by decide,
    by decide⟩⟩

/-- States and operands that meet the hypotheses of RefusedWriteChangesNothing, clause by clause. -/
theorem witness_RefusedWriteChangesNothing :
    (∃ (s : State) (r : Req) (key : Nat) (v : Int) (o : Own) (c : Nat), Takes s r ∧ writeCode s r key v o = some c) :=
  ⟨up, rq, 0x100100, 0, {}, 0x06010002, takesNow (by decide), by decide⟩

/-- States and operands that meet the hypotheses of ChecksComeInOrder, clause by clause. -/
theorem witness_ChecksComeInOrder :
    (∃ (s : State) (r : Req) (key : Nat) (v : Int) (o : Own) (w : Row), rowOf (keyIndex key) (keySub key) = some w) ∧
    (∃ (s : State) (r : Req) (key : Nat) (v : Int) (o : Own) (w : Row), rowOf (keyIndex key) (keySub key) = some w ∧ w.acc =
      .ro) ∧
    (∃ (s : State) (r : Req) (key : Nat) (v : Int) (o : Own) (w : Row), rowOf (keyIndex key) (keySub key) = some w ∧ w.acc ≠
      .ro ∧ s.mode ≠ .run ∧ safeWritable key v = false) ∧
    (∃ (s : State) (r : Req) (key : Nat) (v : Int) (o : Own) (w : Row), rowOf (keyIndex key) (keySub key) = some w ∧ w.acc ≠
      .ro ∧ s.mode = .run ∧ isProcessData r = false ∧ pdOwned s key = true) ∧
    (∃ (s : State) (r : Req) (key : Nat) (v : Int) (o : Own) (w : Row), rowOf (keyIndex key) (keySub key) = some w ∧ w.acc ≠
      .ro ∧ s.mode = .run ∧ pdOwned s key = false ∧ o.state = none ∧ w.still = true ∧ moving s = true) ∧
    (∃ (s : State) (r : Req) (key : Nat) (v : Int) (o : Own) (w : Row), rowOf (keyIndex key) (keySub key) = some w ∧ w.acc ≠
      .ro ∧ s.mode = .run ∧ pdOwned s key = false ∧ o.state = none ∧ (w.still = false ∨ moving s = false) ∧ o.move = none ∧
      rangeCode w.rng v = some 0x06090030) :=
  ⟨⟨up, rq, 0x401007, 0, {}, (rowOf 0x4010 7).get (by decide), by decide⟩,
   ⟨up, rq, 0x100100, 0, {}, (rowOf 0x1001 0).get (by decide), by decide⟩,
   ⟨{ up with mode := .limp }, rq, 0x401007, 0, {}, (rowOf 0x4010 7).get (by decide), by decide⟩,
   ⟨((up.modFn fun f => { f with al := .op }).setRegs [(0x1C12 * 256, 1), (0x1C12 * 256 + 1, 0x1600), (0x1600 * 256, 1),
     (0x1600 * 256 + 1, 0x40100710)]), rq, 0x401007, 0, {}, (rowOf 0x4010 7).get (by decide), by decide⟩,
   ⟨st [(K.gstGroupState 7, 2)], rq, 0x400001, 0, {}, (rowOf 0x4000 1).get (by decide), by decide⟩,
   ⟨up, rq, 0x400001, 77, {}, (rowOf 0x4000 1).get (by decide), by decide⟩⟩

/-- States and operands that meet the hypotheses of ObjectWriteStoresTheValue, clause by clause. -/
theorem witness_ObjectWriteStoresTheValue :
    (∃ (s : State) (r : Req) (i : BitVec 16) (sub : BitVec 8) (data : List Byte) (w : Row) (key : Nat) (v : Int), key = i.toNat
      * 256 + sub.toNat ∧ rowOf i.toNat sub.toNat = some w ∧ v = valueOf w.ty data ∧ ¬(0x5800 ≤ i.toNat ∧ i.toNat < 0x6000) ∧
      ¬(0x2800 ≤ i.toNat ∧ i.toNat < 0x2802) ∧ w.acc ≠ .ro ∧ w.ty.numeric = true ∧ lengthOk w data.length = true ∧ numberRow r
      key v = none ∧ pathEntry {} key = none ∧ key ≠ K.cellExpected ∧ Passes s r key v (ownOf s key v)) :=
  ⟨up, rq, 0x4BD0, 7, [100, 0], (rowOf 0x4BD0 7).get (by decide), 0x4BD007, 100, by decide, by decide, by decide, by decide,
    by decide, by decide, by decide, by decide, by decide, by decide, by decide, passesNow (by decide)⟩

/-- States and operands that meet the hypotheses of ErrorResetClearsTheRegister, clause by clause. -/
theorem witness_ErrorResetClearsTheRegister :
    (∃ (s : State) (r : Req), Passes s r K.tagErrorReset 1 {}) :=
  ⟨up, rq, passesNow (by decide)⟩

/-- States and operands that meet the hypotheses of ReadRecordsReturnTheValue, clause by clause. -/
theorem witness_ReadRecordsReturnTheValue :
    (∃ (s : State) (p : Path) (x : Rec) (w : Row) (key : Nat), key = x.index.toNat * 256 + x.sub.toNat ∧ StartsAtOnce s p 1 x ∧ ¬(0x5800 ≤ x.index.toNat ∧ x.index.toNat < 0x6000) ∧ rowOf x.index.toNat x.sub.toNat = some w ∧ w.acc ≠ .wo ∧ w.ty ≠ .dom ∧ readRow ⟨p, .tag x.tag⟩ key 1 0 x.length.toNat = none ∧ readCode s p key = none ∧ let v := (readValue (register s ⟨p, .tag x.tag⟩ key 1) p key w).1;
      (x.length = 0 ∨ x.length.toNat = v.length)) ∧
    (∃ (s : State) (p : Path) (x : Rec) (w : Row) (key : Nat), key = x.index.toNat * 256 + x.sub.toNat ∧ StartsAtOnce s p 3 x ∧
      ¬(0x5800 ≤ x.index.toNat ∧ x.index.toNat < 0x6000) ∧ rowOf x.index.toNat x.sub.toNat = some w ∧ w.acc ≠ .wo ∧ w.ty = .dom
      ∧ readRow ⟨p, .tag x.tag⟩ key 3 x.offset.toNat x.length.toNat = none ∧ readCode s p key = none) :=
  ⟨⟨up, .hpi, rec1 1 0x4010 7 0 [], (rowOf 0x4010 7).get (by decide), 0x401007, by decide +kernel⟩,
   ⟨up, .hpi, rec1 3 (K.batUserBbram / 256) (K.batUserBbram % 256) 1020 [], (rowOf (K.batUserBbram / 256) (K.batUserBbram %
     256)).get (by decide), K.batUserBbram, by decide +kernel⟩⟩

/-- States and operands that meet the hypotheses of WriteRecordsStoreTheValue, clause by clause. -/
theorem witness_WriteRecordsStoreTheValue :
    (∃ (s : State) (p : Path) (x : Rec) (w : Row) (key : Nat) (v : Int), key = x.index.toNat * 256 + x.sub.toNat ∧ StartsAtOnce
      s p 2 x ∧ rowOf x.index.toNat x.sub.toNat = some w ∧ v = valueOf w.ty x.payload ∧ ¬(0x5800 ≤ x.index.toNat ∧
      x.index.toNat < 0x6000) ∧ ¬(0x2800 ≤ x.index.toNat ∧ x.index.toNat < 0x2802) ∧ w.acc ≠ .ro ∧ w.ty.numeric = true ∧
      lengthOk w x.payload.length = true ∧ numberRow ⟨p, .tag x.tag⟩ key v = none ∧ pathEntry {} key = none ∧ key ≠
      K.cellExpected ∧ writeCode s ⟨p, .tag x.tag⟩ key v (ownOf s key v) = none) ∧
    (∃ (s : State) (p : Path) (x : Rec), x.index.toNat * 256 + x.sub.toNat = K.batUserBbram ∧ StartsAtOnce s p 4 x ∧ 0 <
      x.payload.length ∧ x.offset.toNat + x.payload.length ≤ 1024 ∧ bytesCode s ⟨p, .tag x.tag⟩ K.batUserBbram {} = none) :=
  ⟨⟨up, .hpi, rec1 2 0x4010 7 0 [100, 0], (rowOf 0x4010 7).get (by decide), 0x401007, 100, by decide +kernel⟩,
   ⟨up, .hpi, rec1 4 (K.batUserBbram / 256) (K.batUserBbram % 256) 1022 [1, 2], by decide +kernel⟩⟩

/-- States and operands that meet the hypotheses of CancelAnswersWhatItFound, clause by clause. -/
theorem witness_CancelAnswersWhatItFound :
    (∃ (s : State) (p : Path) (x : Rec), StartsAtOnce s p 5 x) ∧
    (∃ (s : State) (p : Path) (x : Rec) (f : Flight), StartsAtOnce s p 5 x ∧ (s.path p).flights.find? (isTag (x.offset.toNat %
      256)) = some f ∧ f.started = true) ∧
    (∃ (s : State) (p : Path) (x : Rec) (f : Flight), StartsAtOnce s p 5 x ∧ (s.path p).flights.find? (isTag (x.offset.toNat %
      256)) = some f ∧ f.started = false) :=
  ⟨⟨up, .hpi, rec1 5 0 0 7 [], by decide +kernel⟩,
   ⟨up.modPath .hpi fun p => { p with flights := [⟨7, 1, 0, 0, true, true, 0, 0, []⟩] }, .hpi, rec1 5 0 0 7 [], ⟨7, 1, 0, 0,
     true, true, 0, 0, []⟩, by decide +kernel⟩,
   ⟨up.modPath .hpi fun p => { p with flights := [⟨7, 1, 0, 0, true, false, 0, 0, []⟩] }, .hpi, rec1 5 0 0 7 [], ⟨7, 1, 0, 0,
     true, false, 0, 0, []⟩, by decide +kernel⟩⟩

/-- States and operands that meet the hypotheses of HpiControlBitsAct, clause by clause. -/
theorem witness_HpiControlBitsAct :
    (∃ s : State, s.host.hpi.attnDue = true ∧ hpiBusy s = false) :=
  ⟨up.modHpi fun h => { h with attnDue := true }, by decide⟩

/-- States and operands that meet the hypotheses of IncompleteRecordsAreDiscarded, clause by clause. -/
theorem witness_IncompleteRecordsAreDiscarded :
    (∃ s : State, s.host.hpi.part ≠ []) :=
  ⟨up.modHpi fun h => { h with part := [1] }, by decide⟩

/-- States and operands that meet the hypotheses of HpiWordsComeAndGo, clause by clause. -/
theorem witness_HpiWordsComeAndGo :
    (∃ (s : State) (w : BitVec 16), hpiBusy s = true) ∧
    (∃ (s : State) (w : BitVec 16), hpiBusy s = false ∧ s.host.hpi.part.length < 6) ∧
    (∃ s : State, hpiBusy s = true) ∧
    (∃ (s : State) (w : BitVec 16) (ws : List (BitVec 16)), hpiBusy s = false ∧ s.host.hpi.cplWords = w :: ws) ∧
    (∃ (s : State) (x : OutRec) (q : List OutRec) (w : BitVec 16) (ws : List (BitVec 16)), hpiBusy s = false ∧
      s.host.hpi.cplWords = [] ∧ (s.path .hpi).outq = x :: q ∧ wordsOf (padRecord .hpi (encodeOut x)) = w :: ws) ∧
    (∃ s : State, hpiBusy s = false ∧ s.host.hpi.cplWords = [] ∧ (s.path .hpi).outq = []) :=
  ⟨⟨up.modHpi fun h => { h with busy := true }, 0, by decide⟩,
   ⟨up, 0, by decide⟩,
   ⟨up.modHpi fun h => { h with busy := true }, by decide⟩,
   ⟨up.modHpi fun h => { h with cplWords := [0] }, 0, [], by decide⟩,
   ⟨up.modPath .hpi fun p => { p with outq := [out0] }, out0, [], wordOf0, wordsOf0, by decide +kernel⟩,
   ⟨up, by decide⟩⟩

/-- States and operands that meet the hypotheses of CompletionPortGivesWholeRecords, clause by clause. -/
theorem witness_CompletionPortGivesWholeRecords :
    (∃ (s : State) (r : Req), Takes s r) :=
  ⟨up, rq, takesNow (by decide)⟩

/-- States and operands that meet the hypotheses of StoreTakesASnapshot, clause by clause. -/
theorem witness_StoreTakesASnapshot :
    (∃ (s : State) (r : Req) (which : Fin 4), Passes s r (K.storeAll + which) 0x65766173 {}) :=
  ⟨up, rq, 0, passesNow (by decide)⟩

/-- States and operands that meet the hypotheses of RestoreOnlyMarks, clause by clause. -/
theorem witness_RestoreOnlyMarks :
    (∃ (s : State) (r : Req) (which : Fin 4), Passes s r (K.restoreAll + which) 0x64616F6C {}) :=
  ⟨up, rq, 0, passesNow (by decide)⟩

/-- States and operands that meet the hypotheses of StoreReplacesTheOlderCopy, clause by clause. -/
theorem witness_StoreReplacesTheOlderCopy :
    (∃ (s : State) (j : StoreJob) (js : List StoreJob), s.host.store.jobs = j :: js ∧ s.power.down = false ∧ s.power.low = 0) ∧
    (∃ s : State, (s.host.store.jobs = [] ∨ s.power.down = true ∨ s.power.low ≠ 0)) :=
  ⟨⟨up.modStore fun x => { x with jobs := [⟨0, 1, [], []⟩] }, ⟨0, 1, [], []⟩, [], by decide⟩,
   ⟨up, by decide⟩⟩

/-- States and operands that meet the hypotheses of EnableEntriesFollowOneRule, clause by clause. -/
theorem witness_EnableEntriesFollowOneRule :
    (∃ (s : State) (r : Req) (f : Func), PlainFunc f ∧ Passes s r (enableKey f) 1 {} ∧ s.reg (enableKey f) = 0 ∧ MayEnable s f) ∧
    (∃ (s : State) (r : Req) (f : Func), PlainFunc f ∧ Passes s r (enableKey f) 1 {} ∧ s.reg (enableKey f) = 1 ∧ MayEnable s f) ∧
    (∃ (s : State) (r : Req) (f : Func), PlainFunc f ∧ f ≠ .link ∧ Takes s r ∧ writeCode s r (enableKey f) 1
      { state := some 0x08000022 } = some 0x08000022 ∧ 3 ≤ s.reg (enableKey f)) ∧
    (∃ (s : State) (r : Req) (f : Func), PlainFunc f ∧ s.reg (enableKey f) = 0) ∧
    (∃ (s : State) (r : Req) (f : Func), PlainFunc f ∧ (s.reg (enableKey f) = 1 ∨ s.reg (enableKey f) = 3 ∨ (s.reg (enableKey
      f) = 4 ∧ ∀ g, f ≠ .dma g))) ∧
    (∃ (s : State) (r : Req) (f : Func), PlainFunc f ∧ (s.reg (enableKey f) = 1 ∨ s.reg (enableKey f) = 3 ∨ (s.reg (enableKey
      f) = 4 ∧ ∀ g, f ≠ .dma g)) ∧ s.reg (enableKey f) = 4) ∧
    (∃ (s : State) (r : Req) (k : Fin 8), 2 ≤ k.val ∧ s.reg (K.ckEnable k) = 1 ∧ s.reg (K.ckState k) = 1) :=
  ⟨⟨up, rq, .queue 7, by decide, passesNow (by decide), by decide, trivial⟩,
   ⟨up, rq, .user, by decide, passesNow (by decide), by decide, by decide⟩,
   ⟨st [(K.userEnable, 3)], rq, .user, by decide, by decide, takesNow (by decide), by decide, by decide⟩,
   ⟨up, rq, .reel, by decide⟩,
   ⟨up, rq, .user, by decide⟩,
   ⟨st [(K.userEnable, 4)], rq, .user, by decide⟩,
   ⟨st [(K.ckEnable 7, 1), (K.ckState 7, 1)], rq, 7, by decide⟩⟩

/-- States and operands that meet the hypotheses of DisablesCompleteAtZero, clause by clause. -/
theorem witness_DisablesCompleteAtZero :
    (∃ (s : State) (f : Func), ((∃ g, f = .group g) ∨ (∃ n, f = .axis n) ∨ (∃ g, f = .dma g) ∨ f = .reel ∨ (∃ k, f = .check k)
      ∨ f = .link) ∧ s.reg (enableKey f) = 0) :=
  ⟨up, .axis 47, by decide⟩

/-- States and operands that meet the hypotheses of AttestationAnswersTheChallenge, clause by clause. -/
theorem witness_AttestationAnswersTheChallenge :
    (∃ (s : State) (r : Req) (data : List Byte), BytesPass s r K.attestChallenge data
      { state := whenCode (!attestKey s) 0x0F000008 }) ∧
    (∃ (s : State) (p : Path) (i : Nat), awaited s (.attest p) = true ∧ s.life.attest = some i) ∧
    (∃ (s : State) (p : Path), (awaited s (.attest p) = false ∨ s.life.attest = none)) :=
  ⟨⟨{ up with life := { up.life with log := [0x2D, 0x3C] } }, rq, zeros 32, bytesNow (by decide)⟩,
   ⟨{ await up (.attest .hpi) rq with life := { up.life with attest := some 0 } }, .hpi, 0, by decide⟩,
   ⟨up, .hpi, by decide⟩⟩

/-- States and operands that meet the hypotheses of FieldNetworkStatesFollowRequests, clause by clause. -/
theorem witness_FieldNetworkStatesFollowRequests :
    (∃ (s : State) (goal : AlState) (sync : FnSync), s.mode = .run ∧ s.host.hpi.served = true ∧ alRank goal ≤ alRank
      s.host.fn.al + 1 ∧ (goal = .safeOp → alRank s.host.fn.al ≠ 2 → cycleBad s sync = false)) ∧
    (∃ (s : State) (goal : AlState) (sync : FnSync), s.mode = .run ∧ s.host.hpi.served = true ∧ alRank s.host.fn.al + 1 <
      alRank goal) ∧
    (∃ (s : State) (goal : AlState) (sync : FnSync), s.mode = .run ∧ s.host.hpi.served = true ∧ goal = .safeOp ∧ 1 ≤ alRank
      s.host.fn.al ∧ alRank s.host.fn.al ≠ 2 ∧ cycleBad s sync = true) ∧
    (∃ (s : State) (goal : AlState) (sync : FnSync), (s.mode ≠ .run ∨ s.host.hpi.served = false)) :=
  ⟨⟨up.modFn fun f => { f with al := .preOp }, .safeOp, .freeRun, by decide⟩,
   ⟨up, .safeOp, .freeRun, by decide⟩,
   ⟨up.modFn fun f => { f with al := .preOp }, .safeOp, .dc 1, by decide⟩,
   ⟨State.reset, .preOp, .freeRun, by decide⟩⟩

/-- States and operands that meet the hypotheses of ProcessDataMovesWithTheTick, clause by clause. -/
theorem witness_ProcessDataMovesWithTheTick :
    (∃ (s : State) (image : List Byte), s.host.fn.al = .op ∧ 8 * image.length = ((mapWords s 0x1C12 0x1600).map (· % 256)).sum) ∧
    (∃ (s : State) (image : List Byte), (s.host.fn.al ≠ .op ∨ 8 * image.length ≠ ((mapWords s 0x1C12 0x1600).map (· %
      256)).sum)) ∧
    (∃ s : State, (s.host.fn.al = .safeOp ∨ s.host.fn.al = .op)) ∧
    (∃ s : State, s.host.fn.al = .op ∧ 2 ≤ s.host.fn.missed ∧ s.host.fn.lost = false ∧ (∀ n < 48, s.reg (K.axSource n) ≠ 2)) ∧
    (∃ s : State, s.host.fn.al = .op ∧ 2 ≤ s.host.fn.missed ∧ s.host.fn.lost = false) ∧
    (∃ s : State, (s.host.fn.al ≠ .op ∨ s.host.fn.missed < 2 ∨ s.host.fn.lost = true)) :=
  ⟨⟨up.modFn fun f => { f with al := .op }, zeros (((mapWords up 0x1C12 0x1600).map (· % 256)).sum / 8), by decide⟩,
   ⟨up, [], by decide⟩,
   ⟨up.modFn fun f => { f with al := .safeOp }, by decide⟩,
   ⟨up.modFn fun f => { f with al := .op, missed := 2 }, by decide⟩,
   ⟨up.modFn fun f => { f with al := .op, missed := 2 }, by decide⟩,
   ⟨up, by decide⟩⟩

/-- States and operands that meet the hypotheses of CanNodesFollowNmt, clause by clause. -/
theorem witness_CanNodesFollowNmt :
    (∃ (s : State) (c : Fin 2) (cmd : NmtCmd), (s.can c).nmt ≠ 0) ∧
    (∃ (s : State) (c : Fin 2), (s.can c).nmt = 5 ∧ s.host.hpi.served = true) ∧
    (∃ (s : State) (c : Fin 2) (k : Fin 8) (data : List Byte), (s.can c).nmt = 5 ∧ pdoWords s (0x1600 + k) ≠ [] ∧
      s.host.hpi.served = true ∧ data.length ≤ frameRoom s ∧ 8 * data.length = ((pdoWords s (0x1600 + k)).map (· % 256)).sum) ∧
    (∃ (s : State) (c : Fin 2) (k : Fin 8) (data : List Byte), (s.can c).nmt = 5 ∧ pdoWords s (0x1600 + k) ≠ [] ∧
      s.host.hpi.served = true ∧ data.length ≤ frameRoom s ∧ 8 * data.length ≠ ((pdoWords s (0x1600 + k)).map (· % 256)).sum) ∧
    (∃ (s : State) (c : Fin 2), (s.can c).nmt ≠ 0) ∧
    (∃ (s : State) (c : Fin 2) (e : CanEvent), (s.can c).nmt ≠ 0) ∧
    (∃ (s : State) (c : Fin 2), (s.can c).nmt ≠ 0) ∧
    (∃ (s : State) (c : Fin 2), (s.can c).nmt = 0) ∧
    (∃ (s : State) (c : Fin 2), ((s.can c).nmt ≠ 5 ∨ s.host.hpi.served = false)) :=
  ⟨⟨up.modCan 0 fun f => { f with nmt := 127 }, 0, .start, by decide⟩,
   ⟨up.modCan 0 fun f => { f with nmt := 5 }, 0, by decide⟩,
   ⟨(up.modCan 0 fun f => { f with nmt := 5 }).setRegs [(0x1600 * 256, 1), (0x1600 * 256 + 1, 0x40100710)], 0, 0, [1, 0],
     by decide⟩,
   ⟨(up.modCan 0 fun f => { f with nmt := 5 }).setRegs [(0x1600 * 256, 1), (0x1600 * 256 + 1, 0x40100710)], 0, 0, [1],
     by decide⟩,
   ⟨up.modCan 0 fun f => { f with nmt := 127 }, 0, by decide⟩,
   ⟨up.modCan 0 fun f => { f with nmt := 127 }, 0, .overrun, by decide⟩,
   ⟨up.modCan 0 fun f => { f with nmt := 127 }, 0, by decide⟩,
   ⟨up.modCan 0 fun f => { f with nmt := 0 }, 0, by decide⟩,
   ⟨up.modCan 0 fun f => { f with nmt := 127 }, 0, by decide⟩⟩

/-- States and operands that meet the hypotheses of SdoTransfersKeepTheirToggle, clause by clause. -/
theorem witness_SdoTransfersKeepTheirToggle :
    (∃ (s : State) (p : Path) (i : BitVec 16) (sub : BitVec 8) (d : List Byte), sdoServes s p = true ∧ (p = .can0 ∨ p = .can1 →
      d.length ≤ 4)) ∧
    (∃ (s : State) (p : Path) (i : BitVec 16) (sub : BitVec 8), sdoServes s p = true) ∧
    (∃ (s : State) (p : Path) (x : SdoXfer) (last : Bool) (d : List Byte), sdoServes s p = true ∧ (s.path p).xfer = some x ∧
      x.down = true ∧ (p = .can0 ∨ p = .can1 → d.length ≤ 7)) ∧
    (∃ (s : State) (p : Path) (x : SdoXfer) (last : Bool) (d : List Byte), sdoServes s p = true ∧ (s.path p).xfer = some x ∧
      x.down = true ∧ (p = .can0 ∨ p = .can1 → d.length ≤ 7) ∧ last = true ∧ x.long = true) ∧
    (∃ (s : State) (p : Path) (x : SdoXfer) (last : Bool) (d : List Byte), sdoServes s p = true ∧ (s.path p).xfer = some x ∧
      x.down = true ∧ (p = .can0 ∨ p = .can1 → d.length ≤ 7) ∧ last = false ∧ (¬(x.index / 8 = 0x3100 / 8 ∧ x.sub = 0 ∧ (x.long
      = true ∨ 4096 < (x.buf ++ d).length)))) ∧
    (∃ (s : State) (p : Path) (x : SdoXfer) (last : Bool) (d : List Byte), sdoServes s p = true ∧ (s.path p).xfer = some x ∧
      x.down = true ∧ (p = .can0 ∨ p = .can1 → d.length ≤ 7) ∧ last = false ∧ (x.index / 8 = 0x3100 / 8 ∧ x.sub = 0 ∧ (x.long =
      true ∨ 4096 < (x.buf ++ d).length))) ∧
    (∃ (s : State) (p : Path) (x : SdoXfer) (last : Bool) (d : List Byte), sdoServes s p = true ∧ (s.path p).xfer = some x ∧
      x.down = true ∧ (p = .can0 ∨ p = .can1 → d.length ≤ 7)) ∧
    (∃ (s : State) (p : Path) (x : SdoXfer) (d : List Byte), sdoServes s p = true ∧ (s.path p).xfer = some x ∧ x.down = false ∧
      uploadData (s.path p) x = some d) ∧
    (∃ (s : State) (i : BitVec 16) (sub : BitVec 8), sdoServes s .fn = true) ∧
    (∃ (s : State) (q : SdoInfo), sdoServes s .fn = true) ∧
    (∃ (s : State) (p : Path) (u : SdoUp), sdoServes s p = true ∧ ((u = .unknown ∨ (p ≠ .fn ∧ ((∃ q, u = .info q) ∨ ∃ i one, u
      = .complete i one)) ∨ ((∃ b, u = .segment b) ∧ (s.path p).xfer = none)))) ∧
    (∃ (s : State) (p : Path), (s.path p).xfer ≠ none) :=
  ⟨⟨up.modFn fun f => { f with al := .preOp }, .fn, 0, 0, [1], by decide⟩,
   ⟨up.modFn fun f => { f with al := .preOp }, .fn, 0, 0, by decide⟩,
   ⟨(up.modFn fun f => { f with al := .preOp }).modPath .fn fun f =>
     { f with xfer := some ⟨true, 0x4010, 7, false, [], false⟩ }, .fn, ⟨true, 0x4010, 7, false, [], false⟩, true, [1],
     by decide⟩,
   ⟨(up.modFn fun f => { f with al := .preOp }).modPath .fn fun f =>
     { f with xfer := some ⟨true, 0x3100, 0, false, [], true⟩ }, .fn, ⟨true, 0x3100, 0, false, [], true⟩, true, [1], by decide⟩,
   ⟨(up.modFn fun f => { f with al := .preOp }).modPath .fn fun f =>
     { f with xfer := some ⟨true, 0x4010, 7, false, [], false⟩ }, .fn, ⟨true, 0x4010, 7, false, [], false⟩, false, [1],
     by decide⟩,
   ⟨(up.modFn fun f => { f with al := .preOp }).modPath .fn fun f =>
     { f with xfer := some ⟨true, 0x3100, 0, false, [], true⟩ }, .fn, ⟨true, 0x3100, 0, false, [], true⟩, false, [1],
     by decide⟩,
   ⟨(up.modFn fun f => { f with al := .preOp }).modPath .fn fun f =>
     { f with xfer := some ⟨true, 0x4010, 7, false, [], false⟩ }, .fn, ⟨true, 0x4010, 7, false, [], false⟩, false, [1],
     by decide⟩,
   ⟨(up.modFn fun f => { f with al := .preOp }).modPath .fn fun f =>
     { f with xfer := some ⟨false, 0x4010, 7, false, [1], false⟩ }, .fn, ⟨false, 0x4010, 7, false, [1], false⟩, [1], by decide⟩,
   ⟨up.modFn fun f => { f with al := .preOp }, 0, 0, by decide⟩,
   ⟨up.modFn fun f => { f with al := .preOp }, .list, by decide⟩,
   ⟨up.modFn fun f => { f with al := .preOp }, .fn, .unknown, rfl, .inl rfl⟩,
   ⟨(up.modFn fun f => { f with al := .preOp }).modPath .fn fun f =>
     { f with xfer := some ⟨false, 0x4010, 7, false, [1], false⟩ }, .fn, by decide⟩⟩

/-- States and operands that meet the hypotheses of FeedbackRequestsAct, clause by clause. -/
theorem witness_FeedbackRequestsAct :
    (∃ (s : State) (r : Req) (n : Axis) (e : FbCfg) (v : BitVec 8), Passes s r (fbCfgKey n e) v.toNat {} ∧ (s.fb n).tapped =
      false ∧ ((e = .dirInvert ∨ v = 0 ∨ ((s.fb n).unusable = false ∧ fbSetOk (s.setReg (K.fbMode n) v.toNat) n = true)))) ∧
    (∃ (s : State) (r : Req) (n : Axis) (e : FbCfg) (v : BitVec 8), Passes s r (fbCfgKey n e) v.toNat {} ∧ (s.fb n).tapped =
      false ∧ ((e = .dirInvert ∨ v = 0 ∨ ((s.fb n).unusable = false ∧ fbSetOk (s.setReg (K.fbMode n) v.toNat) n = true))) ∧
      s.regN (fbCfgKey n e) ≠ v.toNat) ∧
    (∃ (s : State) (r : Req) (n : Axis), Passes s r (K.fbClear n) 1 { state := whenCode (s.fb n).tapped 0x08000022 }) ∧
    (∃ (s : State) (r : Req) (n : Axis), Passes s r (K.resPhaseLearn n) 1 {} ∧ (s.fb n).tapped = false ∧ (s.fb n).modeUse = 3 ∧
      10923 ≤ s.reg (K.resRadius n)) ∧
    (∃ (s : State) (n : Axis) (phase : BitVec 16) (good : Bool), (s.fb n).learnOk = some good) ∧
    (∃ (s : State) (n : Axis) (phase : BitVec 16), (s.fb n).learnOk = none) ∧
    (∃ (s : State) (r : Req) (n : Axis) (arm : Bool), Passes s r (K.refArm n) (b2i arm)
      { state := whenCode (arm && s.reg (K.refMode n) == 0) 0x08000022 }) ∧
    (∃ (s : State) (r : Req) (n : Axis) (v : BitVec 64), Passes s r (K.refPosOrigin n) v.toInt
      { move := whenCode (axisGroupMoves s n) 0x0F000001 }) :=
  ⟨⟨up, rq, 0, .mode, 0, passesNow (by decide), by decide, by decide⟩,
   ⟨up, rq, 0, .mode, 1, passesNow (by decide), by decide, by decide, by decide⟩,
   ⟨up, rq, 0, passesNow (by decide)⟩,
   ⟨(up.modFb 0 fun f => { f with modeUse := 3 }).setReg (K.resRadius 0) 10923, rq, 0, passesNow (by decide), by decide,
     by decide, by decide⟩,
   ⟨up.modFb 0 fun f => { f with learnOk := some true }, 0, 0, true, by decide⟩,
   ⟨up, 0, 0, by decide⟩,
   ⟨up, rq, 0, false, passesNow (by decide)⟩,
   ⟨up, rq, 0, 0, passesNow (by decide)⟩⟩

/-- States and operands that meet the hypotheses of IncrementalInputsCount, clause by clause. -/
theorem witness_IncrementalInputsCount :
    (∃ (s : State) (n : Axis) (a b : Bool), (s.fb n).modeUse = 1 ∧ wrap64 (s.fb n).live = (s.fb n).live ∧ let d := (quadPhase a b + 4 - quadPhase (s.fb n).a (s.fb n).b) % 4;
      d ≠ 2) ∧
    (∃ (s : State) (n : Axis) (a b fast : Bool), (s.fb n).modeUse = 1) ∧
    (∃ (s : State) (n : Axis) (a b fast : Bool), (s.fb n).modeUse = 1 ∧ (quadPhase a b + 4 - quadPhase (s.fb n).a (s.fb n).b) %
      4 = 2 ∧ fast = true ∧ s.regBit (K.fbsStatus n) 6 = false) ∧
    (∃ (s : State) (n : Axis) (a b fast : Bool), (s.fb n).modeUse ≠ 1) ∧
    (∃ (s : State) (n : Axis), (s.fb n).modeUse = 1 ∧ zGate (s.regN (K.incZGate n)) (s.fb n).a (s.fb n).b = true) ∧
    (∃ (s : State) (n : Axis), (s.fb n).modeUse = 1 ∧ zGate (s.regN (K.incZGate n)) (s.fb n).a (s.fb n).b = true ∧ s.reg
      (K.fbsRefState n) = 1 ∧ s.reg (K.refMode n) = 1) ∧
    (∃ (s : State) (n : Axis), ((s.fb n).modeUse ≠ 1 ∨ zGate (s.regN (K.incZGate n)) (s.fb n).a (s.fb n).b = false)) ∧
    (∃ (s : State) (n : Axis), (s.fb n).modeUse ≠ 0) ∧
    (∃ (s : State) (n : Axis), (s.fb n).modeUse ≠ 0) ∧
    (∃ (s : State) (n : Axis) (present : Bool), (s.fb n).modeUse = 0) :=
  ⟨⟨up.modFb 0 fun f => { f with modeUse := 1 }, 0, true, false, by decide⟩,
   ⟨up.modFb 0 fun f => { f with modeUse := 1 }, 0, false, false, false, by decide⟩,
   ⟨up.modFb 0 fun f => { f with modeUse := 1 }, 0, true, true, true, by decide⟩,
   ⟨up.modFb 0 fun f => { f with modeUse := 4 }, 0, false, false, false, by decide⟩,
   ⟨up.modFb 0 fun f => { f with modeUse := 1, a := true, b := true }, 0, by decide⟩,
   ⟨(up.modFb 0 fun f => { f with modeUse := 1, a := true, b := true }).setRegs [(K.fbsRefState 0, 1), (K.refMode 0, 1)], 0,
     by decide⟩,
   ⟨up.modFb 0 fun f => { f with modeUse := 4 }, 0, by decide⟩,
   ⟨up.modFb 0 fun f => { f with modeUse := 4 }, 0, by decide⟩,
   ⟨up.modFb 0 fun f => { f with modeUse := 4 }, 0, by decide⟩,
   ⟨up, 0, false, by decide⟩⟩

/-- States and operands that meet the hypotheses of AngleInputsMovePos64, clause by clause. -/
theorem witness_AngleInputsMovePos64 :
    (∃ (s : State) (n : Axis) (a b quarters : Int) (freq : Nat) (mark : Int), (s.fb n).modeUse = 2) ∧
    (∃ (s : State) (n : Axis) (a b quarters : Int) (freq : Nat) (mark : Int), (s.fb n).modeUse = 2 ∧ (a ≤ -32768 ∨ 32767 ≤ a ∨
      b ≤ -32768 ∨ 32767 ≤ b) ∧ 1000000 < freq) ∧
    (∃ (s : State) (n : Axis) (a b quarters : Int) (freq : Nat) (mark q' : Int), let f := s.fb n; let tr := scCorrect f.corr a b; let ang := if f.dirUse then (16384 - angleOf 12 tr.1 tr.2) % 16384 else angleOf 12 tr.1 tr.2; let q := f.quarter + (if f.dirUse then -quarters else quarters);
      f.modeUse = 2 ∧ f.started = true ∧ tr ≠ (0, 0) ∧ agreeQuarter q (ang / 4096) = some q') ∧
    (∃ (s : State) (n : Axis) (a b quarters : Int) (freq : Nat) (mark q' : Int), let f := s.fb n; let tr := scCorrect f.corr a b; let ang := if f.dirUse then (16384 - angleOf 12 tr.1 tr.2) % 16384 else angleOf 12 tr.1 tr.2; let q := f.quarter + (if f.dirUse then -quarters else quarters);
      f.modeUse = 2 ∧ f.started = true ∧ tr ≠ (0, 0) ∧ agreeQuarter q (ang / 4096) = some q' ∧ 500000 < freq) ∧
    (∃ (s : State) (n : Axis) (a b quarters : Int) (freq : Nat) (mark : Int), (s.fb n).modeUse ≠ 2) ∧
    (∃ (s : State) (n : Axis) (angle : BitVec 24) (err radius : Nat) (full : Bool) (speed : Nat) (lim : Bool), let ang := if (s.fb n).dirUse then (-angle).toNat else angle.toNat;
      (s.fb n).modeUse = 3) ∧
    (∃ (s : State) (n : Axis) (angle : BitVec 24) (err radius : Nat) (full : Bool) (speed : Nat) (lim : Bool), let ang := if (s.fb n).dirUse then (-angle).toNat else angle.toNat;
      (s.fb n).modeUse = 3 ∧ (s.fb n).started = true ∧ radius < 5461 ∧ full = true) ∧
    (∃ (s : State) (n : Axis), (s.fb n).modeUse = 3) ∧
    (∃ (s : State) (n : Axis), (s.fb n).modeUse = 3 ∧ (s.fb n).started = true) ∧
    (∃ (s : State) (n : Axis) (angle : BitVec 24) (err radius : Nat) (full : Bool) (speed : Nat) (lim : Bool), (s.fb n).modeUse
      ≠ 3) :=
  ⟨⟨up.modFb 0 fun f => { f with modeUse := 2 }, 0, -32768, 0, 0, 0, 0, by decide⟩,
   ⟨up.modFb 0 fun f => { f with modeUse := 2 }, 0, 32767, 0, 0, 1000001, 0, by decide⟩,
   ⟨up.modFb 0 fun f => { f with modeUse := 2, started := true, corr := [0, 0, 32768, 32768, 0], quarter := 0 }, 0, 100, 0, 0,
     0, 0, 1, by decide +kernel⟩,
   ⟨up.modFb 0 fun f => { f with modeUse := 2, started := true, corr := [0, 0, 32768, 32768, 0], quarter := 0 }, 0, 100, 0, 0,
     500001, 0, 1, by decide +kernel⟩,
   ⟨up.modFb 0 fun f => { f with modeUse := 3 }, 0, 0, 0, 0, 0, 0, by decide⟩,
   ⟨up.modFb 0 fun f => { f with modeUse := 3 }, 0, 0, 0, 0, false, 0, false, by decide⟩,
   ⟨up.modFb 0 fun f => { f with modeUse := 3, started := true }, 0, 0, 0, 5460, true, 0, false, by decide⟩,
   ⟨up.modFb 0 fun f => { f with modeUse := 3 }, 0, by decide⟩,
   ⟨up.modFb 0 fun f => { f with modeUse := 3, started := true }, 0, by decide⟩,
   ⟨up, 0, 0, 0, 0, false, 0, false, by decide⟩⟩

/-- States and operands that meet the hypotheses of SsiFramesGivePositions, clause by clause. -/
theorem witness_SsiFramesGivePositions :
    (∃ (s : State) (n : Axis) (at' : Nat) (high : Bool), (s.fb n).modeUse = 4 ∧ (s.fb n).ssiOpen = none ∧ ssiMayStart s n at' =
      true) ∧
    (∃ (s : State) (n : Axis) (at' : Nat) (high : Bool), ((s.fb n).modeUse ≠ 4 ∨ (s.fb n).ssiOpen ≠ none ∨ ssiMayStart s n at'
      = false)) ∧
    (∃ (s : State) (n : Axis) (bits delay : Nat) (returned : Bool), (s.fb n).ssiOpen = none) ∧
    (∃ (s : State) (n : Axis) (at' bits delay : Nat), (s.fb n).modeUse = 4 ∧ (s.fb n).ssiOpen = some at') ∧
    (∃ (s : State) (n : Axis) (at' bits delay : Nat), let f := s.fb n; let d := match f.ssiField with | none => 0 | some old => ssiChange s n old (ssiDecode s n bits);
      f.modeUse = 4 ∧ f.ssiOpen = some at' ∧ f.ssiBad = false ∧ delay * s.regN (K.ssiClock n) ≤ 2000 * s.regN (K.ssiClock n) +
      1000000 ∧ parityOk (s.regN (K.ssiParity n)) bits (s.regN (K.ssiFrameBits n)) = true ∧ (s.regN (K.ssiMaxStep n) = 0 ∨
      d.natAbs ≤ s.regN (K.ssiMaxStep n))) :=
  ⟨⟨(up.modFb 0 fun f => { f with modeUse := 4 }).setReg (K.ssiTrigger 0) 1, 0, 0, false, by decide⟩,
   ⟨up, 0, 0, false, by decide⟩,
   ⟨up, 0, 0, 0, false, by decide⟩,
   ⟨up.modFb 0 fun f => { f with modeUse := 4, ssiOpen := some 5 }, 0, 5, 0, 0, by decide⟩,
   ⟨up.modFb 0 fun f => { f with modeUse := 4, ssiOpen := some 5, ssiField := some 3 }, 0, 5, 0, 0, by decide⟩⟩

/-- States and operands that meet the hypotheses of ReferenceOriginApplies, clause by clause. -/
theorem witness_ReferenceOriginApplies :
    (∃ (s : State) (n : Axis), s.reg (K.fbsRefState n) = 2 ∧ s.reg (K.refAuto n) = 1 ∧ axisGroupMoves s n = false) ∧
    (∃ (s : State) (n : Axis), ¬(s.reg (K.fbsRefState n) = 2 ∧ s.reg (K.refAuto n) = 1 ∧ axisGroupMoves s n = false)) :=
  ⟨⟨st [(K.fbsRefState 0, 2), (K.refAuto 0, 1)], 0, by decide⟩,
   ⟨up, 0, by decide⟩⟩

/-- States and operands that meet the hypotheses of ServoTickLatchesThePorts, clause by clause. -/
theorem witness_ServoTickLatchesThePorts :
    (∃ (s : State) (at' : Nat), ticking s = false) ∧
    (∃ (s : State) (at' : Nat), ticking s = true) :=
  ⟨⟨up, 0, by decide⟩,
   ⟨{ up with power := { up.power with stage := 0 } }, 0, by decide⟩⟩

/-- States and operands that meet the hypotheses of CommandPortsClampAndOpen, clause by clause. -/
theorem witness_CommandPortsClampAndOpen :
    (∃ (s : State) (n : Axis), (s.cm n).en = true ∧ (s.cm n).causes = []) ∧
    (∃ (s : State) (n : Axis), ((s.cm n).en = false ∨ (s.cm n).causes ≠ [])) ∧
    (∃ (s : State) (r : Req) (n : Axis), Passes s r (K.cmClampRelease n) 1
      { state := whenCode (deviceClamp s || (s.cm n).unusable) 0x08000022 }) ∧
    (∃ (s : State) (r : Req) (n : Axis), Passes s r (K.clampClear n) 1 {}) ∧
    (∃ (s : State) (n : Axis) (dt : Nat), (s.cm n).fltPend = true) ∧
    (∃ (s : State) (n : Axis) (dt : Nat), (s.cm n).fltPend = false) ∧
    (∃ (s : State) (n : Axis), (s.cm n).en = true ∧ (s.cm n).settled = false ∧ faultLevel s n = false) ∧
    (∃ (s : State) (n : Axis), (s.cm n).en = true ∧ (s.cm n).settled = false ∧ faultLevel s n = true) ∧
    (∃ (s : State) (n : Axis), ((s.cm n).en = false ∨ (s.cm n).settled = true)) ∧
    (∃ (s : State) (n : Axis) (uv : Int), (s.cm n).causes = [] ∧ (s.cm n).driven = true ∧ s.regBit (K.clampCmStatus n) 28 =
      false ∧ s.regBit (K.clampCmStatus n) 9 = false ∧ 20000 * 2 ^ 20 < (uv * 2 ^ 20 - codeMicrovolts (s.cm n).rangeUse (s.regN
      (K.cmDacCode n))).natAbs) ∧
    (∃ (s : State) (n : Axis) (uv : Int), ((uv * 2 ^ 20 - codeMicrovolts (s.cm n).rangeUse (s.regN (K.cmDacCode n))).natAbs ≤
      20000 * 2 ^ 20 ∨ (s.cm n).causes ≠ [] ∨ (s.cm n).driven = false ∨ s.regBit (K.clampCmStatus n) 28 = true ∨ s.regBit
      (K.clampCmStatus n) 9 = true)) :=
  ⟨⟨up.modCm 0 fun f => { f with en := true }, 0, by decide⟩,
   ⟨up, 0, by decide⟩,
   ⟨up, rq, 0, passesNow (by decide)⟩,
   ⟨up, rq, 0, passesNow (by decide)⟩,
   ⟨up.modCm 0 fun f => { f with fltPend := true }, 0, 0, by decide⟩,
   ⟨up, 0, 0, by decide⟩,
   ⟨up.modCm 0 fun f => { f with en := true }, 0, by decide⟩,
   ⟨up.modCm 0 fun f => { f with en := true, fltFilt := true }, 0, by decide⟩,
   ⟨up, 0, by decide⟩,
   ⟨up.modCm 0 fun f => { f with driven := true }, 0, 20001, by decide⟩,
   ⟨up, 0, 0, by decide⟩⟩

/-- States and operands that meet the hypotheses of AnalogRailsStartThePorts, clause by clause. -/
theorem witness_AnalogRailsStartThePorts :
    (∃ (s : State) (dt : Nat), s.fe.ana18 = true) ∧
    (∃ (s : State) (dt : Nat), s.fe.ana18 = false) ∧
    (∃ s : State, s.fe.ana18 = true ∧ s.fe.ana50 = false) ∧
    (∃ s : State, (s.fe.ana18 = false ∨ s.fe.ana50 = true)) :=
  ⟨⟨{ up with fe := { up.fe with ana18 := true } }, 0, by decide⟩,
   ⟨up, 0, by decide⟩,
   ⟨{ up with fe := { up.fe with ana18 := true } }, by decide⟩,
   ⟨up, by decide⟩⟩

/-- States and operands that meet the hypotheses of RangeChangesInSteps, clause by clause. -/
theorem witness_RangeChangesInSteps :
    (∃ (s : State) (r : Req) (n : Axis) (v : BitVec 8), Passes s r (K.cmRange n) v.toNat
      { move := whenCode (rangeMoving s n) 0x0F000001 }) ∧
    (∃ (s : State) (r : Req) (n : Axis) (v : BitVec 8), Passes s r (K.cmRange n) v.toNat
      { move := whenCode (rangeMoving s n) 0x0F000001 } ∧ (s.cm n).rangePhase = 0 ∧ s.regN (K.cmRange n) ≠ v.toNat) ∧
    (∃ (s : State) (r : Req) (n : Axis) (v : BitVec 8), Passes s r (K.cmRange n) v.toNat
      { move := whenCode (rangeMoving s n) 0x0F000001 } ∧ (s.cm n).rangePhase ≠ 0) ∧
    (∃ (s : State) (n : Axis), (s.cm n).rangePhase = 1) ∧
    (∃ (s : State) (n : Axis), (s.cm n).rangePhase = 4 ∧ (s.cm n).causes = []) ∧
    (∃ (s : State) (n : Axis), (s.cm n).rangePhase = 4 ∧ (s.cm n).causes ≠ [] ∧ (s.cm n).rangeQ = []) ∧
    (∃ (s : State) (n : Axis) (r : Req) (v : Nat) (q : List (Req × Nat)), (s.cm n).rangePhase = 4 ∧ (s.cm n).causes ≠ [] ∧
      (s.cm n).rangeQ = (r, v) :: q) ∧
    (∃ (s : State) (n : Axis) (r : Req) (v : Nat) (q : List (Req × Nat)), (s.cm n).rangePhase = 4 ∧ (s.cm n).causes ≠ [] ∧
      (s.cm n).rangeQ = (r, v) :: q ∧ s.regN (K.cmRange n) = v) :=
  ⟨⟨up, rq, 0, 0, passesNow (by decide)⟩,
   ⟨up, rq, 0, 1, passesNow (by decide), by decide, by decide⟩,
   ⟨up.modCm 0 fun f => { f with rangePhase := 1 }, rq, 0, 1, passesNow (by decide), by decide⟩,
   ⟨up.modCm 0 fun f => { f with rangePhase := 1 }, 0, by decide⟩,
   ⟨up.modCm 0 fun f => { f with rangePhase := 4 }, 0, by decide⟩,
   ⟨up.modCm 0 fun f => { f with rangePhase := 4, causes := [2] }, 0, by decide⟩,
   ⟨up.modCm 0 fun f => { f with rangePhase := 4, causes := [2], rangeQ := [(rq, 1)] }, 0, rq, 1, [], by decide⟩,
   ⟨up.modCm 0 fun f => { f with rangePhase := 4, causes := [2], rangeQ := [(rq, 0)] }, 0, rq, 0, [], by decide⟩⟩

/-- States and operands that meet the hypotheses of SafeStopClampsEveryPort, clause by clause. -/
theorem witness_SafeStopClampsEveryPort :
    (∃ (s : State) (dt : Nat), s.fe.safe.pin = false ∧ s.fe.safe.qualPend = true ∧ s.fe.ana18 = true) ∧
    (∃ (s : State) (dt : Nat), (s.fe.safe.pin = true ∨ s.fe.safe.qualPend = false ∨ s.fe.ana18 = false)) ∧
    (∃ s : State, s.fe.safe.pin = true ∧ s.reg K.safeStopState = 1 ∧ s.life.halted.testBit 3 = false) ∧
    (∃ s : State, (s.fe.safe.pin = false ∨ s.reg K.safeStopState ≠ 1 ∨ s.life.halted.testBit 3 = true)) ∧
    (∃ (s : State) (r : Req), Passes s r K.safeStopRelease 1 { state := whenCode (s.reg K.safeStopState == 1) 0x08000022 }) :=
  ⟨⟨{ up with fe := { up.fe with ana18 := true, safe := { up.fe.safe with pin := false, qualPend := true } } }, 0, by decide⟩,
   ⟨up, 0, by decide⟩,
   ⟨(up.modSafe fun x => { x with pin := true }).setReg K.safeStopState 1, by decide⟩,
   ⟨up, by decide⟩,
   ⟨up, rq, passesNow (by decide)⟩⟩

/-- States and operands that meet the hypotheses of EventChannelsFollowTheirBalls, clause by clause. -/
theorem witness_EventChannelsFollowTheirBalls :
    (∃ (s : State) (k : Channel) (level : Bool), let lv := level != (s.reg (K.evPolarity k) == 1); evMode s k = 2) ∧
    (∃ (s : State) (k : Channel) (level : Bool), evMode s k ≠ 2) ∧
    (∃ (s : State) (k : Channel), (s.ev k).pulse = true) ∧
    (∃ (s : State) (k : Channel), (s.ev k).pulse = false) :=
  ⟨⟨{ st [(K.evMode 0, 2)] with released := true }, 0, true, by decide⟩,
   ⟨up, 0, false, by decide⟩,
   ⟨up.modEv 0 fun f => { f with pulse := true }, 0, by decide⟩,
   ⟨up, 0, by decide⟩⟩

/-- States and operands that meet the hypotheses of CompareAndCaptureAct, clause by clause. -/
theorem witness_CompareAndCaptureAct :
    (∃ (s : State) (r : Req) (n : Axis) (u : Unit16), isProcessData r = false ∧ (s.cmp (16 * n + u)).arms = [] ∧ Passes s r
      (K.cmpArm n u) 1 { set := whenCode (!cmpSetOk s n u) 0x06090030 }) ∧
    (∃ (s : State) (r : Req) (n : Axis) (u : Unit16), (isProcessData r = true ∨ (s.cmp (16 * n + u)).arms ≠ []) ∧ Passes s r
      (K.cmpArm n u) 1 { set := whenCode (!cmpSetOk s n u) 0x06090030 }) ∧
    (∃ (s : State) (r : Req) (n : Axis) (u : Unit16), (isProcessData r = true ∨ (s.cmp (16 * n + u)).arms ≠ []) ∧ Passes s r
      (K.cmpArm n u) 1 { set := whenCode (!cmpSetOk s n u) 0x06090030 } ∧ isProcessData r = false) ∧
    (∃ (s : State) (r : Req) (n : Axis) (u : Unit16), isProcessData r = false ∧ (s.cmp (16 * n + u)).arms = [] ∧ Passes s r
      (K.cmpArm n u) 0 {}) ∧
    (∃ (s : State) (r : Req) (n : Axis) (u : Unit16), (isProcessData r = true ∨ (s.cmp (16 * n + u)).arms ≠ []) ∧ Passes s r
      (K.cmpArm n u) 0 {}) ∧
    (∃ (s : State) (r : Req) (n : Axis) (u : Unit16), (isProcessData r = true ∨ (s.cmp (16 * n + u)).arms ≠ []) ∧ Passes s r
      (K.cmpArm n u) 0 {} ∧ isProcessData r = false) ∧
    (∃ (s : State) (n : Axis) (u : Unit16) (x xp : Int), (s.cmp (16 * n + u)).armed = true ∧ (s.cmp (16 * n + u)).mode = 1 ∧
      s.regBit (K.fbsStatus n) 31 = true ∧ (s.fb n).modeUse ≠ 0 ∧ (s.cmp (16 * n + u)).xPrev = some xp ∧ admits (s.cmp (16 * n
      + u)).dir (crossing (s.cmp (16 * n + u)).target xp (wrap64 x)) = true) ∧
    (∃ (s : State) (n : Axis) (u : Unit16) (x : Int), ((s.cmp (16 * n + u)).armed = false ∨ s.regBit (K.fbsStatus n) 31 = false
      ∨ (s.fb n).modeUse = 0)) ∧
    (∃ (s : State) (r : Req) (n : Axis) (u : Unit16), Passes s r (K.capArm n u) 1
      { set := whenCode (s.reg (K.capTrigger n u) == 3 && (s.fb n).modeUse == 4) 0x06090030 }) ∧
    (∃ (s : State) (r : Req) (n : Axis) (u : Unit16), Passes s r (K.capArm n u) 0 {}) ∧
    (∃ (s : State) (n : Axis) (u : Unit16) (e : CapEdge) (at' : Nat) (x : Int), ((s.cap (16 * n + u)).armed = false ∨ capTrigOk
      (s.regN (K.capTrigger n u)) e = false)) ∧
    (∃ (s : State) (n : Axis) (u : Unit16) (e : CapEdge) (at' : Nat) (x : Int), (s.cap (16 * n + u)).armed = true ∧ capTrigOk
      (s.regN (K.capTrigger n u)) e = true) ∧
    (∃ (s : State) (n : Axis) (u : Unit16) (e : CapEdge) (at' : Nat) (x : Int), (s.cap (16 * n + u)).armed = true ∧ capTrigOk
      (s.regN (K.capTrigger n u)) e = true ∧ s.regBit (K.fbsStatus n) 31 = true) :=
  ⟨⟨up, rq, 0, 0, by decide, by decide, passesNow (by decide)⟩,
   ⟨up, ⟨.fn, .pdo⟩, 0, 0, by decide, passesNow (by decide)⟩,
   ⟨up.modCmp 0 fun c => { c with arms := [(none, true)] }, rq, 0, 0, by decide, passesNow (by decide), by decide⟩,
   ⟨up, rq, 0, 0, by decide, by decide, passesNow (by decide)⟩,
   ⟨up, ⟨.fn, .pdo⟩, 0, 0, by decide, passesNow (by decide)⟩,
   ⟨up.modCmp 0 fun c => { c with arms := [(none, true)] }, rq, 0, 0, by decide, passesNow (by decide), by decide⟩,
   ⟨((up.modFb 0 fun f => { f with modeUse := 1 }).setRegs [(K.fbsStatus 0, 2 ^ 31)]).modCmp 0 fun c =>
     { c with armed := true, mode := 1, xPrev := some (-1), target := 0 }, 0, 0, 0, -1, by decide⟩,
   ⟨up, 0, 0, 0, by decide⟩,
   ⟨up, rq, 0, 0, passesNow (by decide)⟩,
   ⟨up, rq, 0, 0, passesNow (by decide)⟩,
   ⟨up, 0, 0, .rising, 0, 0, by decide⟩,
   ⟨up.modCap 0 fun c => { c with armed := true }, 0, 0, .rising, 0, 0, by decide⟩,
   ⟨(st [(K.fbsStatus 0, 2 ^ 31)]).modCap 0 fun c => { c with armed := true }, 0, 0, .rising, 0, 0, by decide⟩⟩

/-- States and operands that meet the hypotheses of AxisEnablesAndDisables, clause by clause. -/
theorem witness_AxisEnablesAndDisables :
    (∃ (s : State) (r : Req) (n : Axis), Passes s r (K.axisEnable n) 1 {} ∧ s.reg (K.axisEnable n) = 0 ∧ lifeState s ≠ 2 ∧
      s.therm.hot = false ∧ axisUnusable s n = false ∧ enableBad s n = false ∧ axisGroupMoves s n = false) ∧
    (∃ (s : State) (r : Req) (n : Axis), Passes s r (K.axisEnable n) 1 {} ∧ s.reg (K.axisEnable n) = 1 ∧ lifeState s ≠ 2 ∧
      s.therm.hot = false) ∧
    (∃ (s : State) (r : Req) (n : Axis) (w : Nat), Passes s r (K.axisEnable n) 1 {} ∧ s.reg (K.axisEnable n) = w ∧ lifeState s
      ≠ 2 ∧ (w = 3 ∨ w = 4)) ∧
    (∃ (s : State) (r : Req) (n : Axis) (abort : Bool), Passes s r (K.axisEnable n) (if abort then 2 else 0) {} ∧ s.reg
      (K.axisEnable n) = 0) ∧
    (∃ (s : State) (r : Req) (n : Axis), Passes s r (K.axisEnable n) 0 {} ∧ s.reg (K.axisEnable n) = 1 ∧ engState s n ≠ 1 ∧
      axisGroupMoves s n = false ∧ (s.engine n).leaving ≠ .group) ∧
    (∃ (s : State) (r : Req) (n : Axis), Passes s r (K.axisEnable n) 2 {} ∧ engState s n ≠ 1 ∧ ((s.reg (K.axisEnable n) = 1 ∨
      (s.reg (K.axisEnable n) = 3 ∧ (s.engine n).leaving ≠ .delay ∧ (s.engine n).leaving ≠ .off))) ∧ axisGroupMoves s n = false
      ∧ (s.engine n).leaving ≠ .group) ∧
    (∃ (s : State) (r : Req) (n : Axis) (g : Nat) (abort : Bool), Passes s r (K.axisEnable n) (if abort then 2 else 0) {} ∧
      s.reg (K.axisEnable n) = 1 ∧ engState s n ≠ 1 ∧ groupOf s n = some g ∧ groupMoves s g = true) ∧
    (∃ (s : State) (r : Req) (n : Axis) (abort : Bool), Passes s r (K.axisEnable n) (if abort then 2 else 0) {} ∧ s.reg
      (K.axisEnable n) = 1 ∧ engState s n = 1) ∧
    (∃ (s : State) (r : Req) (n : Axis) (abort : Bool), Passes s r (K.axisEnable n) (if abort then 2 else 0) {} ∧ ((s.reg
      (K.axisEnable n) = 4 ∨ (s.reg (K.axisEnable n) = 3 ∧ (abort = false ∨ (s.engine n).leaving = .delay ∨ (s.engine
      n).leaving = .off))))) ∧
    (∃ (s : State) (n : Axis), (s.engine n).leaving = .delay) ∧
    (∃ (s : State) (n : Axis), (s.engine n).leaving ≠ .delay) :=
  ⟨⟨st [(K.fbMode 0, 1), (K.cmOutputMode 0, 1), (K.fbsStatus 0, 2 ^ 31)], rq, 0, passesNow (by decide), by decide, by decide,
     by decide, by decide, by decide, by decide⟩,
   ⟨st [(K.axisEnable 0, 1), (K.engineState 0, 2)], rq, 0, passesNow (by decide), by decide, by decide, by decide⟩,
   ⟨st [(K.axisEnable 0, 3)], rq, 0, 3, passesNow (by decide), by decide, by decide, by decide⟩,
   ⟨up, rq, 0, false, passesNow (by decide), by decide⟩,
   ⟨st [(K.axisEnable 0, 1), (K.engineState 0, 2)], rq, 0, passesNow (by decide), by decide, by decide, by decide, by decide⟩,
   ⟨st [(K.axisEnable 0, 1), (K.engineState 0, 2)], rq, 0, passesNow (by decide), by decide, by decide, by decide, by decide⟩,
   ⟨st [(K.axisEnable 0, 1), (K.engineState 0, 2), (K.slotsSlotCount 3, 1), (K.slotsSlot0Axis 3, 0), (K.grpGroupEnable 3, 1),
     (K.gstGroupState 3, 2)], rq, 0, 3, false, passesNow (by decide), by decide, by decide, by decide, by decide⟩,
   ⟨st [(K.axisEnable 0, 1), (K.engineState 0, 1)], rq, 0, false, passesNow (by decide), by decide, by decide⟩,
   ⟨st [(K.axisEnable 0, 3), (K.engineState 0, 4)], rq, 0, false, passesNow (by decide), by decide⟩,
   ⟨up.modEng 0 fun e => { e with leaving := .delay }, 0, by decide⟩,
   ⟨up, 0, by decide⟩⟩

/-- States and operands that meet the hypotheses of EngineSettingsAct, clause by clause. -/
theorem witness_EngineSettingsAct :
    (∃ (s : State) (r : Req) (v : BitVec 8), Passes s r K.rateServoRate v.toNat {}) ∧
    (∃ (s : State) (r : Req) (n : Axis) (q : Bq), Passes s r (biquadKeys n q).1 1
      { set := whenCode (!biquadOk ((biquadKeys n q).2.map s.regN)) 0x06090030 }) ∧
    (∃ (s : State) (r : Req) (n : Axis) (q : Bq), Passes s r (biquadKeys n q).1 0 {}) ∧
    (∃ (s : State) (r : Req) (n : Axis), let p := [s.regN (K.notchCentre n), s.regN (K.notchWidth n), s.regN (K.notchDepth n)];
      Passes s r (K.notchEnable n) 1 { set := whenCode (!notchOk p (tickTs s)) 0x06090030 }) ∧
    (∃ (s : State) (r : Req) (n : Axis), Passes s r (K.notchEnable n) 0 {}) ∧
    (∃ (s : State) (r : Req) (n : Axis) (v : BitVec 8), Passes s r (K.axSource n) v.toNat
      { state := whenCode (groupOf s n).isSome 0x08000022, move := whenCode (s.engine n).ramp 0x0F000001 }) ∧
    (∃ (s : State) (r : Req) (n : Axis) (v : BitVec 8), Passes s r (K.axSource n) v.toNat
      { state := whenCode (groupOf s n).isSome 0x08000022, move := whenCode (s.engine n).ramp 0x0F000001 } ∧ 2 ≤ engState s n ∧
      (s.engine n).fallback = false) ∧
    (∃ (s : State) (r : Req) (n : Axis), Passes s r (K.engClear n) 1 { state := whenCode (engState s n != 0) 0x08000022 }) :=
  ⟨⟨up, rq, 0, passesNow (by decide)⟩,
   ⟨up, rq, 0, .one, passesNow (by decide +kernel)⟩,
   ⟨up, rq, 0, .one, passesNow (by decide)⟩,
   ⟨up, rq, 0, passesNow (by decide)⟩,
   ⟨up, rq, 0, passesNow (by decide)⟩,
   ⟨up, rq, 0, 0, passesNow (by decide)⟩,
   ⟨st [(K.engineState 0, 2)], rq, 0, 1, passesNow (by decide), by decide, by decide⟩,
   ⟨up, rq, 0, passesNow (by decide)⟩⟩

/-- States and operands that meet the hypotheses of EnginesAnswerFaults, clause by clause. -/
theorem witness_EnginesAnswerFaults :
    (∃ (s : State) (n : Axis), 2 ≤ engState s n ∧ (s.engine n).valid = true ∧ s.reg (K.feLimit n) < (wrap64 ((s.engine n).s -
      (s.engine n).x)).natAbs ∧ s.regN (K.feTime n) ≤ (s.engine n).feCount + 1 ∧ s.regBit (K.engStatus n) 15 = false) ∧
    (∃ (s : State) (n : Axis), 2 ≤ engState s n ∧ (s.engine n).valid = true ∧ s.reg (K.feLimit n) < (wrap64 ((s.engine n).s -
      (s.engine n).x)).natAbs ∧ s.regN (K.feTime n) ≤ (s.engine n).feCount + 1 ∧ s.regBit (K.engStatus n) 15 = false ∧ s.reg
      (K.feAction n) = 0) ∧
    (∃ (s : State) (n : Axis), 2 ≤ engState s n ∧ (s.engine n).valid = true ∧ s.reg (K.feLimit n) < (wrap64 ((s.engine n).s -
      (s.engine n).x)).natAbs ∧ s.regN (K.feTime n) ≤ (s.engine n).feCount + 1 ∧ s.regBit (K.engStatus n) 15 = false ∧ s.reg
      (K.feAction n) = 2 ∧ groupOf s n ≠ none) ∧
    (∃ (s : State) (n : Axis), (engState s n < 2 ∨ (s.engine n).valid = false ∨ ((wrap64 ((s.engine n).s - (s.engine
      n).x)).natAbs : Int) ≤ s.reg (K.feLimit n) ∨ (s.engine n).feCount + 1 < s.regN (K.feTime n) ∨ s.regBit (K.engStatus n) 15
      = true)) ∧
    (∃ (s : State) (n : Axis), 2 ≤ engState s n ∧ follows s n = true ∧ s.reg (K.axSource n) ≠ 1 ∧ candidate s n (s.regN
      (K.axSource n)) = none ∧ (s.engine n).missSrc = 1) ∧
    (∃ (s : State) (n : Axis), (engState s n < 2 ∨ follows s n = false ∨ s.reg (K.axSource n) = 1 ∨ (candidate s n (s.regN
      (K.axSource n))).isSome = true ∨ (s.engine n).missSrc ≠ 1)) ∧
    (∃ (s : State) (n : Axis) (c : Int), 2 ≤ engState s n ∧ (s.engine n).fallback = false ∧ s.regBit (K.engStatus n) 29 = true
      ∧ candidate s n (s.regN (K.axSource n)) = some c ∧ ((wrap64 (c - (s.engine n).sp)).natAbs : Int) ≤ s.reg (K.axJoinWindow
      n)) ∧
    (∃ (s : State) (n : Axis), (engState s n < 2 ∨ (s.engine n).fallback = true ∨ s.regBit (K.engStatus n) 29 = false ∨ ∀ c,
      candidate s n (s.regN (K.axSource n)) = some c → s.reg (K.axJoinWindow n) < ((wrap64 (c - (s.engine n).sp)).natAbs :
      Int))) ∧
    (∃ (s : State) (n : Axis), ((engState s n < 2 ∨ s.reg (K.axLoopMode n) ≠ 2 ∨ (s.engine n).fallback = true ∨ (s.engine
      n).missDem ≠ 1 ∨ (portServes s (s.regN (K.tapPort n)) = true ∧ (s.engine n).wDem ≠ none)))) ∧
    (∃ (s : State) (n : Axis), 2 ≤ engState s n ∧ s.reg (K.axLoopMode n) = 2 ∧ (s.engine n).fallback = false ∧ (s.engine
      n).missDem = 1 ∧ (portServes s (s.regN (K.tapPort n)) = false ∨ (s.engine n).wDem = none)) :=
  ⟨⟨(up.modEng 0 fun f => { f with valid := true, s := 100000000000, feCount := 10 }).setRegs [(K.engineState 0, 2), (K.feLimit
     0, 0)], 0, by decide⟩,
   ⟨((up.modEng 0 fun f => { f with valid := true, s := 100000000000, feCount := 10 }).setRegs [(K.engineState 0, 2),
     (K.feLimit 0, 0)]).setReg (K.feAction 0) 0, 0, by decide⟩,
   ⟨((up.modEng 0 fun f => { f with valid := true, s := 100000000000, feCount := 10 }).setRegs [(K.engineState 0, 2),
     (K.feLimit 0, 0)]).setRegs [(K.feAction 0, 2), (K.slotsSlotCount 3, 1), (K.slotsSlot0Axis 3, 0)], 0, by decide⟩,
   ⟨up, 0, by decide⟩,
   ⟨(up.modEng 0 fun f => { f with missSrc := 1 }).setRegs [(K.engineState 0, 2), (K.axSource 0, 2)], 0, by decide⟩,
   ⟨up, 0, by decide⟩,
   ⟨(up.modEng 0 fun f => { f with sp := 5, wSp := some 5, nSp := some 5, pathSp := some 5, alignSp := some 5 }).setRegs
     [(K.engineState 0, 2), (K.axSource 0, 1), (K.engStatus 0, 2 ^ 29)], 0, 5, by decide⟩,
   ⟨up, 0, by decide⟩,
   ⟨up, 0, by decide⟩,
   ⟨(up.modEng 0 fun f => { f with missDem := 1 }).setRegs [(K.engineState 0, 2), (K.axLoopMode 0, 2)], 0, by decide⟩⟩

/-- States and operands that meet the hypotheses of TickInstantsMoveTheData, clause by clause. -/
theorem witness_TickInstantsMoveTheData :
    (∃ (s : State) (faults : List (Nat × UnitErr)), (ticking s = false ∨ axisClocked s = false)) ∧
    (∃ (s : State) (faults : List (Nat × UnitErr)), ticking s = true ∧ axisClocked s = true) ∧
    (∃ (s : State) (faults : List (Nat × UnitErr)), ticking s = true ∧ axisClocked s = true ∧ s.host.fn.al = .op) ∧
    (∃ s : State, ticking s = false) ∧
    (∃ s : State, ticking s = true) :=
  ⟨⟨up, [], by decide⟩,
   ⟨awake up, [], by decide⟩,
   ⟨awake (up.modFn fun f => { f with al := .op }), [], by decide⟩,
   ⟨up, by decide⟩,
   ⟨{ up with power := { up.power with stage := 0 } }, by decide⟩⟩

/-- States and operands that meet the hypotheses of GroupsEnableAndDisable, clause by clause. -/
theorem witness_GroupsEnableAndDisable :
    (∃ (s : State) (r : Req) (g : Group), Passes s r (K.grpGroupEnable g) 1 {} ∧ s.reg (K.grpGroupEnable g) = 0 ∧ lifeState s ≠
      2 ∧ s.therm.hot = false ∧ ((∀ x ∈ s.bad, x.1 ≠ 0x1C ∧ x ≠ (0x18, s.regN (K.grpQueueBank g)))) ∧ bankFree s (s.regN
      (K.grpQueueBank g)) = true ∧ bankBusy s (s.regN (K.grpQueueBank g)) = false) ∧
    (∃ (s : State) (r : Req) (g : Group), Passes s r (K.grpGroupEnable g) 1 {} ∧ s.reg (K.grpGroupEnable g) = 0 ∧ lifeState s ≠
      2 ∧ s.therm.hot = false ∧ (∀ x ∈ s.bad, x.1 ≠ 0x1C) ∧ (bankFree s (s.regN (K.grpQueueBank g)) = false ∨ bankBusy s
      (s.regN (K.grpQueueBank g)) = true ∨ (0x18, s.regN (K.grpQueueBank g)) ∈ s.bad)) ∧
    (∃ (s : State) (r : Req) (g : Group), Passes s r (K.grpGroupEnable g) 1 {} ∧ s.reg (K.grpGroupEnable g) = 1 ∧ lifeState s ≠
      2 ∧ s.therm.hot = false) ∧
    (∃ (s : State) (r : Req) (g : Group), Passes s r (K.grpGroupEnable g) 1 {} ∧ lifeState s ≠ 2 ∧ (s.reg (K.grpGroupEnable g)
      = 3 ∨ s.reg (K.grpGroupEnable g) = 4)) ∧
    (∃ (s : State) (r : Req) (g : Group) (abort : Bool), Passes s r (K.grpGroupEnable g) (if abort then 2 else 0) {} ∧ s.reg
      (K.grpGroupEnable g) = 0) ∧
    (∃ (s : State) (r : Req) (g : Group), Passes s r (K.grpGroupEnable g) 0 {} ∧ s.reg (K.grpGroupEnable g) ≠ 0 ∧ groupState s
      g ≠ 0 ∧ groupMoves s g = false ∧ (s.group g).queue = [] ∧ (s.group g).disable ≠ 2) ∧
    (∃ (s : State) (r : Req) (g : Group), Passes s r (K.grpGroupEnable g) 0 {} ∧ s.reg (K.grpGroupEnable g) ≠ 0 ∧ groupState s
      g ≠ 0 ∧ groupState s g ≠ 6 ∧ (groupMoves s g = true ∨ (s.group g).queue ≠ []) ∧ (s.group g).disable ≠ 2) ∧
    (∃ (s : State) (r : Req) (g : Group), Passes s r (K.grpGroupEnable g) 2 {} ∧ s.reg (K.grpGroupEnable g) ≠ 0 ∧ groupState s
      g = 2) ∧
    (∃ (s : State) (r : Req) (g : Group), Passes s r (K.grpGroupEnable g) 2 {} ∧ s.reg (K.grpGroupEnable g) ≠ 0 ∧ (groupState s
      g = 1 ∨ groupState s g = 3 ∨ groupState s g = 4 ∨ groupState s g = 6)) ∧
    (∃ (s : State) (r : Req) (g : Group), Passes s r (K.grpGroupEnable g) 2 {} ∧ s.reg (K.grpGroupEnable g) ≠ 0 ∧ (groupState s
      g = 1 ∨ groupState s g = 3 ∨ groupState s g = 4 ∨ groupState s g = 6) ∧ groupState s g ≠ 6) ∧
    (∃ (s : State) (r : Req) (g : Group), Passes s r (K.grpGroupEnable g) 2 {} ∧ s.reg (K.grpGroupEnable g) ≠ 0 ∧ groupState s
      g = 5) ∧
    (∃ (s : State) (r : Req) (g : Group) (abort : Bool), Passes s r (K.grpGroupEnable g) (if abort then 2 else 0) {} ∧ s.reg
      (K.grpGroupEnable g) ≠ 0 ∧ groupState s g = 0) :=
  ⟨⟨up, rq, 0, passesNow (by decide), by decide, by decide, by decide, by decide, by decide, by decide⟩,
   ⟨st [(K.bankOwner 8, 0x20)], rq, 0, passesNow (by decide), by decide, by decide, by decide, by decide, by decide⟩,
   ⟨st [(K.grpGroupEnable 0, 1), (K.gstGroupState 0, 1)], rq, 0, passesNow (by decide), by decide, by decide, by decide⟩,
   ⟨st [(K.grpGroupEnable 0, 3), (K.gstGroupState 0, 2)], rq, 0, passesNow (by decide), by decide, by decide⟩,
   ⟨up, rq, 0, false, passesNow (by decide), by decide⟩,
   ⟨st [(K.grpGroupEnable 0, 1), (K.gstGroupState 0, 1)], rq, 0, passesNow (by decide), by decide, by decide, by decide,
     by decide, by decide⟩,
   ⟨st [(K.grpGroupEnable 0, 1), (K.gstGroupState 0, 2)], rq, 0, passesNow (by decide), by decide, by decide, by decide,
     by decide, by decide⟩,
   ⟨st [(K.grpGroupEnable 0, 1), (K.gstGroupState 0, 2)], rq, 0, passesNow (by decide), by decide, by decide⟩,
   ⟨st [(K.grpGroupEnable 0, 1), (K.gstGroupState 0, 6)], rq, 0, passesNow (by decide), by decide, by decide⟩,
   ⟨st [(K.grpGroupEnable 0, 1), (K.gstGroupState 0, 4)], rq, 0, passesNow (by decide), by decide, by decide, by decide⟩,
   ⟨st [(K.grpGroupEnable 0, 3), (K.gstGroupState 0, 5)], rq, 0, passesNow (by decide), by decide, by decide⟩,
   ⟨st [(K.grpGroupEnable 0, 1), (K.gstGroupState 0, 0)], rq, 0, false, passesNow (by decide), by decide, by decide⟩⟩

/-- States and operands that meet the hypotheses of GroupsStopAndFlush, clause by clause. -/
theorem witness_GroupsStopAndFlush :
    (∃ (s : State) (r : Req) (g : Group), Passes s r (K.grpStop g) 1 {} ∧ (∀ x ∈ s.host.waits, x.2 ≠ r)) ∧
    (∃ (s : State) (r : Req) (g : Group), Passes s r (K.grpStop g) 1 {} ∧ (∀ x ∈ s.host.waits, x.2 ≠ r) ∧ groupState s g = 2) ∧
    (∃ (s : State) (r : Req) (g : Group), Passes s r (K.grpStop g) 1 {} ∧ (∀ x ∈ s.host.waits, x.2 ≠ r) ∧ (groupState s g = 1 ∨
      groupState s g = 3 ∨ groupState s g = 4)) ∧
    (∃ (s : State) (r : Req) (g : Group) (st : StopSt), Passes s r (K.grpStop g) 1 {} ∧ (∀ x ∈ s.host.waits, x.2 ≠ r) ∧
      groupState s g = 5 ∧ (s.group g).stop = some st ∧ (st.quick = true ∨ st.new = false)) ∧
    (∃ (s : State) (r : Req) (g : Group) (st : StopSt), Passes s r (K.grpStop g) 1 {} ∧ (∀ x ∈ s.host.waits, x.2 ≠ r) ∧
      groupState s g = 5 ∧ (s.group g).stop = some st ∧ st.quick = false ∧ st.new = true) ∧
    (∃ (s : State) (r : Req) (g : Group), Passes s r (K.grpStop g) 2 {} ∧ (∀ x ∈ s.host.waits, x.2 ≠ r)) ∧
    (∃ (s : State) (r : Req) (g : Group), Passes s r (K.grpStop g) 2 {} ∧ (∀ x ∈ s.host.waits, x.2 ≠ r) ∧ groupState s g = 2) ∧
    (∃ (s : State) (r : Req) (g : Group), Passes s r (K.grpStop g) 2 {} ∧ (∀ x ∈ s.host.waits, x.2 ≠ r) ∧ (groupState s g = 1 ∨
      groupState s g = 3 ∨ groupState s g = 4)) ∧
    (∃ (s : State) (r : Req) (g : Group) (st : StopSt), Passes s r (K.grpStop g) 2 {} ∧ (∀ x ∈ s.host.waits, x.2 ≠ r) ∧
      groupState s g = 5 ∧ (s.group g).stop = some st ∧ st.quick = false) ∧
    (∃ (s : State) (r : Req) (g : Group) (st : StopSt), Passes s r (K.grpStop g) 2 {} ∧ (∀ x ∈ s.host.waits, x.2 ≠ r) ∧
      groupState s g = 5 ∧ (s.group g).stop = some st ∧ st.quick = true ∧ st.new = false) ∧
    (∃ (s : State) (r : Req) (g : Group) (st : StopSt), Passes s r (K.grpStop g) 2 {} ∧ (∀ x ∈ s.host.waits, x.2 ≠ r) ∧
      groupState s g = 5 ∧ (s.group g).stop = some st ∧ st.quick = true ∧ st.new = true) ∧
    (∃ (s : State) (g : Group) (st : StopSt), groupState s g = 5 ∧ fLe (s.group g).v 0 = true ∧ (s.group g).stop = some st) ∧
    (∃ (s : State) (g : Group), (groupState s g ≠ 5 ∨ fLe (s.group g).v 0 = false ∨ (s.group g).stop = none)) ∧
    (∃ (s : State) (r : Req) (g : Group), Passes s r (K.grpAckFault g) 1 {}) ∧
    (∃ (s : State) (r : Req) (g : Group), Passes s r (K.grpAckFault g) 1 {} ∧ groupState s g = 6) :=
  ⟨⟨up, rq, 0, passesNow (by decide), by decide⟩,
   ⟨st [(K.gstGroupState 0, 2)], rq, 0, passesNow (by decide), by decide, by decide⟩,
   ⟨st [(K.gstGroupState 0, 4)], rq, 0, passesNow (by decide), by decide, by decide⟩,
   ⟨(up.modGrp 0 fun f => { f with stop := some ⟨true, 1, false, true, 0, 0⟩ }).setRegs [(K.gstGroupState 0, 5)], rq, 0, ⟨true,
     1, false, true, 0, 0⟩, passesNow (by decide), by decide, by decide, by decide, by decide⟩,
   ⟨(up.modGrp 0 fun f => { f with stop := some ⟨false, 1, false, true, 0, 0⟩ }).setRegs [(K.gstGroupState 0, 5)], rq, 0,
     ⟨false, 1, false, true, 0, 0⟩, passesNow (by decide), by decide, by decide, by decide, by decide⟩,
   ⟨up, rq, 0, passesNow (by decide), by decide⟩,
   ⟨st [(K.gstGroupState 0, 2)], rq, 0, passesNow (by decide), by decide, by decide⟩,
   ⟨st [(K.gstGroupState 0, 4)], rq, 0, passesNow (by decide), by decide, by decide⟩,
   ⟨(up.modGrp 0 fun f => { f with stop := some ⟨false, 1, false, false, 0, 0⟩ }).setRegs [(K.gstGroupState 0, 5)], rq, 0,
     ⟨false, 1, false, false, 0, 0⟩, passesNow (by decide), by decide, by decide, by decide, by decide⟩,
   ⟨(up.modGrp 0 fun f => { f with stop := some ⟨true, 1, false, false, 0, 0⟩ }).setRegs [(K.gstGroupState 0, 5)], rq, 0,
     ⟨true, 1, false, false, 0, 0⟩, passesNow (by decide), by decide, by decide, by decide, by decide⟩,
   ⟨(up.modGrp 0 fun f => { f with stop := some ⟨true, 1, false, true, 0, 0⟩ }).setRegs [(K.gstGroupState 0, 5)], rq, 0, ⟨true,
     1, false, true, 0, 0⟩, passesNow (by decide), by decide, by decide, by decide, by decide⟩,
   ⟨(up.modGrp 0 fun f => { f with stop := some ⟨false, 0, false, false, 0, 0⟩ }).setRegs [(K.gstGroupState 0, 5)], 0, st0,
     by decide⟩,
   ⟨up, 0, by decide⟩,
   ⟨up, rq, 0, passesNow (by decide)⟩,
   ⟨st [(K.gstGroupState 0, 6)], rq, 0, passesNow (by decide), by decide⟩⟩

/-- States and operands that meet the hypotheses of SegmentsEnterTheQueueWhole, clause by clause. -/
theorem witness_SegmentsEnterTheQueueWhole :
    (∃ (s : State) (r : Req) (g : Group) (data : List Byte) (q : List Seg), BytesPass s r (K.segmentStream g) data
      { state := streamCode s g } ∧ data.length ≤ 4096 ∧ parseRecords (s.regN (K.slotsSlotCount g)) (s.regN (K.slotsPathMask
      g)) g (data.length / 64 + 1) data = some q ∧ (s.group g).full = [] ∧ unitsOf (s.group g).queue + unitsOf q ≤ 4096) ∧
    (∃ (s : State) (r : Req) (g : Group) (data : List Byte), BytesPass s r (K.segmentStream g) data { state := streamCode s g }
      ∧ data.length ≤ 4096 ∧ parseRecords (s.regN (K.slotsSlotCount g)) (s.regN (K.slotsPathMask g)) g (data.length / 64 + 1)
      data = none) ∧
    (∃ (s : State) (r : Req) (g : Group) (data : List Byte) (q : List Seg), BytesPass s r (K.segmentStream g) data
      { state := streamCode s g } ∧ data.length ≤ 4096 ∧ parseRecords (s.regN (K.slotsSlotCount g)) (s.regN (K.slotsPathMask
      g)) g (data.length / 64 + 1) data = some q ∧ ((s.group g).full ≠ [] ∨ 4096 < unitsOf (s.group g).queue + unitsOf q)) ∧
    (∃ (s : State) (r : Req) (g : Group) (data : List Byte) (q : List Seg), BytesPass s r (K.segmentStream g) data
      { state := streamCode s g } ∧ data.length ≤ 4096 ∧ parseRecords (s.regN (K.slotsSlotCount g)) (s.regN (K.slotsPathMask
      g)) g (data.length / 64 + 1) data = some q ∧ ((s.group g).full ≠ [] ∨ 4096 < unitsOf (s.group g).queue + unitsOf q) ∧
      s.reg (K.grpFullWait g) ≠ 0) ∧
    (∃ (s : State) (r : Req) (g : Group) (data : List Byte) (q : List Seg) (bad : Bool), BytesPass s r (K.segmentStream g) data
      { state := streamCode s g } ∧ 4096 < data.length ∧ parsePrefix (s.regN (K.slotsSlotCount g)) (s.regN (K.slotsPathMask g))
      g (data.length / 64 + 1) data = (q, bad) ∧ (s.group g).full = [] ∧ unitsOf (s.group g).queue + unitsOf q ≤ 4096) ∧
    (∃ (s : State) (g : Group) (r : Req) (q : List Seg) (rest : List (Req × List Seg)), (s.group g).full = (r, q) :: rest) ∧
    (∃ (s : State) (g : Group) (r : Req) (q : List Seg) (rest : List (Req × List Seg)), (s.group g).full = (r, q) :: rest ∧
      4096 < unitsOf (s.group g).queue + unitsOf q) ∧
    (∃ (s : State) (g : Group) (r : Req) (q : List Seg), (s.group g).full = [(r, q)] ∧ unitsOf (s.group g).queue + unitsOf q ≤
      4096) ∧
    (∃ (s : State) (g : Group) (r : Req) (q : List Seg) (rest : List (Req × List Seg)), (s.group g).full = (r, q) :: rest) ∧
    (∃ (s : State) (g : Group), (s.group g).full = []) :=
  ⟨⟨st [(K.grpGroupEnable 0, 1), (K.gstGroupState 0, 1)], rq, 0, ([5, 1] ++ zeros 62), [segOf ([5, 1] ++ zeros 62)], bytesNow
     (by decide), by decide, by decide, by decide, by decide⟩,
   ⟨st [(K.grpGroupEnable 0, 1), (K.gstGroupState 0, 1)], rq, 0, zeros 64, bytesNow (by decide), by decide, by decide⟩,
   ⟨(up.modGrp 0 fun f => { f with queue := [{ seg0 with units := 4096 }] }).setRegs [(K.grpGroupEnable 0, 1), (K.gstGroupState
     0, 1)], rq, 0, ([5, 1] ++ zeros 62), [segOf ([5, 1] ++ zeros 62)], bytesNow (by decide), by decide, by decide, by decide⟩,
   ⟨((up.modGrp 0 fun f => { f with queue := [{ seg0 with units := 4096 }] }).setRegs [(K.grpGroupEnable 0, 1),
     (K.gstGroupState 0, 1)]).setReg (K.grpFullWait 0) 1, rq, 0, ([5, 1] ++ zeros 62), [segOf ([5, 1] ++ zeros 62)], bytesNow
     (by decide), by decide, by decide, by decide, by decide⟩,
   ⟨st [(K.grpGroupEnable 0, 1), (K.gstGroupState 0, 1)], rq, 0, segs4096, parseDemo.1, parseDemo.2, bytesNow
     (by decide +kernel), by decide +kernel, by decide +kernel, by decide +kernel, by decide +kernel⟩,
   ⟨up.modGrp 0 fun f => { f with full := [(rq, [{ seg0 with units := 1 }])] }, 0, rq, [{ seg0 with units := 1 }], [],
     by decide⟩,
   ⟨up.modGrp 0 fun f => { f with full := [(rq, [{ seg0 with units := 4097 }])] }, 0, rq, [{ seg0 with units := 4097 }], [],
     by decide⟩,
   ⟨up.modGrp 0 fun f => { f with full := [(rq, [{ seg0 with units := 1 }])] }, 0, rq, [{ seg0 with units := 1 }], by decide⟩,
   ⟨up.modGrp 0 fun f => { f with full := [(rq, [{ seg0 with units := 1 }])] }, 0, rq, [{ seg0 with units := 1 }], [],
     by decide⟩,
   ⟨up, 0, by decide⟩⟩

/-- States and operands that meet the hypotheses of DwellsAndWaitsEnd, clause by clause. -/
theorem witness_DwellsAndWaitsEnd :
    (∃ (s : State) (g : Group) (x : Seg) (rest : List Seg), groupState s g = 3 ∧ (s.group g).active = true ∧ (s.group g).queue
      = x :: rest ∧ x.typ = 5 ∧ ticksOf s x.dur ≤ (s.group g).ticks + 1) ∧
    (∃ (s : State) (g : Group) (x : Seg) (rest : List Seg), groupState s g = 3 ∧ (s.group g).active = true ∧ (s.group g).queue
      = x :: rest ∧ x.typ = 6 ∧ waitMet s g x = true) ∧
    (∃ (s : State) (g : Group) (x : Seg) (rest : List Seg), groupState s g = 3 ∧ (s.group g).active = true ∧ (s.group g).queue
      = x :: rest ∧ x.typ = 6 ∧ x.tmo ≠ 0 ∧ ticksOf s x.tmo ≤ (s.group g).ticks + 1) ∧
    (∃ (s : State) (g : Group) (x : Seg) (rest : List Seg), groupState s g = 3 ∧ (s.group g).active = true ∧ (s.group g).queue
      = x :: rest ∧ x.typ = 6 ∧ x.tmo ≠ 0 ∧ ticksOf s x.tmo ≤ (s.group g).ticks + 1 ∧ waitMet s g x = false ∧ x.tact ≠ 0) ∧
    (∃ (s : State) (g : Group), ((waitingHead s g = none ∨ ∀ x, waitingHead s g = some x → x.typ ≠ 5 ∧ x.typ ≠ 6))) ∧
    (∃ (s : State) (g : Group) (x : Seg), waitingHead s g = some x) ∧
    (∃ (s : State) (r : Req) (g : Group) (v : BitVec 16), Passes s r (K.ovrOverride g) v.toNat {}) :=
  ⟨⟨(up.modGrp 0 fun f => { f with active := true, queue := [{ seg0 with typ := 5, dur := 1 }], ticks := 0 }).setRegs
     [(K.gstGroupState 0, 3)], 0, { seg0 with typ := 5, dur := 1 }, [], by decide⟩,
   ⟨(up.modGrp 0 fun f =>
     { f with active := true, queue := [{ seg0 with typ := 6, cond := 3, src := 2 }], ticks := 0 }).setRegs [(K.gstGroupState
     0, 3)], 0, { seg0 with typ := 6, cond := 3, src := 2 }, [], by decide⟩,
   ⟨(up.modGrp 0 fun f =>
     { f with active := true, queue := [{ seg0 with typ := 6, cond := 2, src := 2, tmo := 1 }], ticks := 16000 }).setRegs
     [(K.gstGroupState 0, 3)], 0, { seg0 with typ := 6, cond := 2, src := 2, tmo := 1 }, [], by decide⟩,
   ⟨(up.modGrp 0 fun f =>
     { f with active := true, queue := [{ seg0 with typ := 6, cond := 2, src := 2, tmo := 1, tact := 1 }], ticks := 16000 }).setRegs
     [(K.gstGroupState 0, 3)], 0, { seg0 with typ := 6, cond := 2, src := 2, tmo := 1, tact := 1 }, [], by decide⟩,
   ⟨up, 0, by decide⟩,
   ⟨(up.modGrp 0 fun f => { f with active := true, queue := [{ seg0 with typ := 6, cond := 2, src := 2, tmo := 1 }] }).setRegs
     [(K.gstGroupState 0, 3)], 0, { seg0 with typ := 6, cond := 2, src := 2, tmo := 1 }, by decide⟩,
   ⟨up, rq, 0, 0, passesNow (by decide)⟩⟩

/-- States and operands that meet the hypotheses of FabricMemoryReadsAndWrites, clause by clause. -/
theorem witness_FabricMemoryReadsAndWrites :
    (∃ (s : State) (p : Fin 8) (q : FabMem), regionLoaded s (hostRegion p) = true ∧ (s.port p).mem.any (fun m => m.tag ==
      q.tag.val) = false ∧ s.reg (K.portEnable p) ≠ 1) ∧
    (∃ (s : State) (p : Fin 8) (q : FabMem), regionLoaded s (hostRegion p) = true ∧ (s.port p).mem.any (fun m => m.tag ==
      q.tag.val) = false ∧ s.reg (K.portEnable p) = 1 ∧ q.dram = false ∧ spOwned s p (32 * q.word.toNat) (32 * (q.more.val +
      1)) = true ∧ q.write = true) ∧
    (∃ (s : State) (p : Fin 8) (q : FabMem), regionLoaded s (hostRegion p) = true ∧ (s.port p).mem.any (fun m => m.tag ==
      q.tag.val) = false ∧ s.reg (K.portEnable p) = 1 ∧ q.dram = false ∧ spOwned s p (32 * q.word.toNat) (32 * (q.more.val +
      1)) = true ∧ q.write = false ∧ q.fault ≠ 2) ∧
    (∃ (s : State) (p : Fin 8) (q : FabMem), regionLoaded s (hostRegion p) = true ∧ (s.port p).mem.any (fun m => m.tag ==
      q.tag.val) = false ∧ s.reg (K.portEnable p) = 1 ∧ q.dram = false ∧ spOwned s p (32 * q.word.toNat) (32 * (q.more.val +
      1)) = true ∧ q.write = false ∧ q.fault ≠ 2 ∧ q.fault = 1) ∧
    (∃ (s : State) (p : Fin 8) (q : FabMem), regionLoaded s (hostRegion p) = true ∧ (s.port p).mem.any (fun m => m.tag ==
      q.tag.val) = false ∧ s.reg (K.portEnable p) = 1 ∧ q.dram = false ∧ spOwned s p (32 * q.word.toNat) (32 * (q.more.val +
      1)) = true ∧ q.write = false ∧ q.fault = 2) ∧
    (∃ (s : State) (p : Fin 8) (q : FabMem), regionLoaded s (hostRegion p) = true ∧ (s.port p).mem.any (fun m => m.tag ==
      q.tag.val) = false ∧ s.reg (K.portEnable p) = 1 ∧ q.dram = true) ∧
    (∃ (s : State) (p : Fin 8) (q : FabMem), regionLoaded s (hostRegion p) = true ∧ (s.port p).mem.any (fun m => m.tag ==
      q.tag.val) = false ∧ s.reg (K.portEnable p) = 1 ∧ q.dram = true ∧ q.write = true) ∧
    (∃ (s : State) (p : Fin 8) (q : FabMem), regionLoaded s (hostRegion p) = true ∧ (s.port p).mem.any (fun m => m.tag ==
      q.tag.val) = false ∧ s.reg (K.portEnable p) = 1 ∧ q.dram = false ∧ spOwned s p (32 * q.word.toNat) (32 * (q.more.val +
      1)) = false) ∧
    (∃ (s : State) (p : Fin 8) (q : FabMem), (regionLoaded s (hostRegion p) = false ∨ (s.port p).mem.any (fun m => m.tag ==
      q.tag.val) = true)) ∧
    (∃ (s : State) (p : Fin 8) (tag : Fin 64), (s.port p).mem.find? (fun m => m.tag == tag.val) = none) ∧
    (∃ (s : State) (p : Fin 8) (tag : Fin 64) (m : FabReq), (s.port p).mem.find? (fun m => m.tag == tag.val) = some m ∧ NoLoad
      s ∧ s.reg (K.portEnable p) = 1) :=
  ⟨⟨{ up with fab := { up.fab with loaded := 0xFFFF } }, 0, ⟨0, false, false, 0, 0, 0, [], 0⟩, by decide⟩,
   ⟨({ up with fab := { up.fab with loaded := 0xFFFF } }).setRegs [(K.portEnable 0, 1), (K.bankOwner 4, 0x30)], 0, ⟨0, true,
     false, 0x8000, 0, 0, zeros 32, 0⟩, by decide⟩,
   ⟨({ up with fab := { up.fab with loaded := 0xFFFF } }).setRegs [(K.portEnable 0, 1), (K.bankOwner 4, 0x30)], 0, ⟨63, false,
     false, 0x8000, 63, 0, [], 0⟩, by decide⟩,
   ⟨({ up with fab := { up.fab with loaded := 0xFFFF } }).setRegs [(K.portEnable 0, 1), (K.bankOwner 4, 0x30)], 0, ⟨63, false,
     false, 0x8000, 63, 0, [], 1⟩, by decide⟩,
   ⟨({ up with fab := { up.fab with loaded := 0xFFFF } }).setRegs [(K.portEnable 0, 1), (K.bankOwner 4, 0x30)], 0, ⟨63, false,
     false, 0x8000, 63, 0, [], 2⟩, by decide⟩,
   ⟨({ up with fab := { up.fab with loaded := 0xFFFF } }).setRegs [(K.portEnable 0, 1), (K.bankOwner 4, 0x30)], 0, ⟨63, false,
     true, 0x8000, 63, 0, [], 0⟩, by decide⟩,
   ⟨({ up with fab := { up.fab with loaded := 0xFFFF } }).setRegs [(K.portEnable 0, 1), (K.bankOwner 4, 0x30)], 0, ⟨0, true,
     true, 0, 0, 0, zeros 32, 0⟩, by decide⟩,
   ⟨({ up with fab := { up.fab with loaded := 0xFFFF } }).setRegs [(K.portEnable 0, 1), (K.bankOwner 4, 0x30)], 0, ⟨0, false,
     false, 0x9FFF, 1, 0, [], 0⟩, by decide⟩,
   ⟨up, 0, ⟨0, false, false, 0, 0, 0, [], 0⟩, by decide⟩,
   ⟨up, 0, 0, by decide⟩,
   ⟨(({ up with fab := { up.fab with loaded := 0xFFFF } }).modPort 0 fun f => { f with mem := [⟨0, 0, []⟩] }).setRegs
     [(K.portEnable 0, 1), (K.bankOwner 4, 0x30)], 0, 0, ⟨0, 0, []⟩, by decide⟩⟩

/-- States and operands that meet the hypotheses of FabricWordsReachTheirAxis, clause by clause. -/
theorem witness_FabricWordsReachTheirAxis :
    (∃ (s : State) (p : Fin 8) (axis : BitVec 6) (w : BitVec 256) (late : Bool), axis.toNat < 48 ∧ s.regN (K.tapPort
      axis.toNat) = p.val ∧ portServes s p = true) ∧
    (∃ (s : State) (p : Fin 8) (axis : BitVec 6) (w : BitVec 256) (late : Bool), axis.toNat < 48 ∧ s.regN (K.tapPort
      axis.toNat) = p.val ∧ portServes s p = true ∧ late = true) ∧
    (∃ (s : State) (p : Fin 8) (axis : BitVec 6) (w : BitVec 256) (late : Bool), (48 ≤ axis.toNat ∨ s.regN (K.tapPort
      axis.toNat) ≠ p.val ∨ portServes s p = false)) ∧
    (∃ (s : State) (p f : Fin 8) (v : Bool), portServes s p = true) ∧
    (∃ (s : State) (p f : Fin 8) (v : Bool), portServes s p = false) :=
  ⟨⟨({ up with fab := { up.fab with loaded := 0xFFFF } }).setRegs [(K.portEnable 0, 1)], 0, 47, 0, false, by decide⟩,
   ⟨({ up with fab := { up.fab with loaded := 0xFFFF } }).setRegs [(K.portEnable 0, 1)], 0, 47, 0, true, by decide⟩,
   ⟨up, 0, 48, 0, false, by decide⟩,
   ⟨({ up with fab := { up.fab with loaded := 0xFFFF } }).setRegs [(K.portEnable 0, 1)], 0, 0, false, by decide⟩,
   ⟨up, 0, 0, false, by decide⟩⟩

/-- States and operands that meet the hypotheses of PublishedEntriesAnswer, clause by clause. -/
theorem witness_PublishedEntriesAnswer :
    (∃ (s : State) (p : Fin 8) (held rest : List ObjReq) (o : ObjReq), (s.port p).objs = held ++ o :: rest ∧ (∀ x ∈ held,
      x.passed = true) ∧ o.passed = false) ∧
    (∃ (s : State) (p : Fin 8), (∀ x ∈ (s.port p).objs, x.passed = true)) ∧
    (∃ (s : State) (p : Fin 8) (o : ObjReq) (rest : List ObjReq) (abort : BitVec 32) (data : List Byte), (s.port p).objs = o ::
      rest ∧ o.passed = true ∧ NoLoad s ∧ s.reg (K.portEnable p) = 1) ∧
    (∃ (s : State) (p : Fin 8) (o : ObjReq) (rest : List ObjReq), (s.port p).objs = o :: rest ∧ o.passed = true ∧ NoLoad s ∧
      s.reg (K.portEnable p) = 1) ∧
    (∃ (s : State) (p : Fin 8) (abort : BitVec 32) (data : List Byte), (∀ x ∈ (s.port p).objs, x.passed = false)) :=
  ⟨⟨({ up with fab := { up.fab with loaded := 0xFFFF } }).modPort 0 fun f => { f with objs := [or0] }, 0, [], [], or0,
     by decide⟩,
   ⟨up, 0, by decide⟩,
   ⟨(({ up with fab := { up.fab with loaded := 0xFFFF } }).modPort 0 fun f =>
     { f with objs := [{ or0 with passed := true }] }).setRegs [(K.portEnable 0, 1), (K.bankOwner 4, 0x30)], 0,
     { or0 with passed := true }, [], 0, [], by decide⟩,
   ⟨(({ up with fab := { up.fab with loaded := 0xFFFF } }).modPort 0 fun f =>
     { f with objs := [{ or0 with passed := true }] }).setRegs [(K.portEnable 0, 1), (K.bankOwner 4, 0x30)], 0,
     { or0 with passed := true }, [], by decide⟩,
   ⟨up, 0, 0, [], by decide⟩⟩

/-- States and operands that meet the hypotheses of FabricScrubsAndMonitors, clause by clause. -/
theorem witness_FabricScrubsAndMonitors :
    (∃ (s : State) (frame : Fin 22528) (how : FrameRead), regionLoaded s (frame.val / 1408) = false) ∧
    (∃ (s : State) (frame : Fin 22528) (how : FrameRead), regionLoaded s (frame.val / 1408) = true ∧ ((how = .good ∨ (how =
      .double ∧ frame.val ∈ s.fab.frozen)))) ∧
    (∃ (s : State) (frame : Fin 22528), regionLoaded s (frame.val / 1408) = true) ∧
    (∃ (s : State) (frame : Fin 22528), regionLoaded s (frame.val / 1408) = true ∧ frame.val ∉ s.fab.frozen ∧ NoLoad s) ∧
    (∃ (s : State) (frame : Fin 22528), frame.val ∈ s.fab.frozen) ∧
    (∃ (s : State) (frame : Fin 22528), frame.val ∉ s.fab.frozen) ∧
    (∃ (s : State) (k : Fin 24), (s.reg (K.seamMode k) ≠ 3 ∨ (s.seamDir (2 * k)).words ≠ [] ∨ (s.seamDir (2 * k + 1)).words ≠
      [])) ∧
    (∃ (s : State) (k : Fin 24), s.reg (K.seamMode k) = 3 ∧ (s.seamDir (2 * k)).words = [] ∧ (s.seamDir (2 * k + 1)).words =
      []) ∧
    (∃ (s : State) (vccq : List Nat) (sys : Nat), NoLoad s) :=
  ⟨⟨up, 0, .good, by decide⟩,
   ⟨{ up with fab := { up.fab with loaded := 0xFFFF } }, 22527, .good, by decide⟩,
   ⟨{ up with fab := { up.fab with loaded := 0xFFFF } }, 22527, by decide⟩,
   ⟨{ up with fab := { up.fab with loaded := 0xFFFF } }, 22527, by decide⟩,
   ⟨{ up with fab := { up.fab with frozen := [22527] } }, 22527, by decide⟩,
   ⟨{ up with fab := { up.fab with loaded := 0xFFFF } }, 22527, by decide⟩,
   ⟨up, 0, by decide⟩,
   ⟨st [(K.seamMode 23, 3)], 23, by decide⟩,
   ⟨up, [], 0, by decide⟩⟩

/-- States and operands that meet the hypotheses of DoneConditionReleasesTheDevice, clause by clause. -/
theorem witness_DoneConditionReleasesTheDevice :
    (∃ (s : State) (ball : Bool) (a b c : BitVec 32), s.reg K.ingotReleaseState = 1 ∧ s.mode ≠ .safe ∧ doneMet (s.setBit
      K.cfgDoneLine 0 ball) ball = true) ∧
    (∃ (s : State) (ball : Bool) (a b c : BitVec 32), s.reg K.ingotReleaseState = 1 ∧ s.mode ≠ .safe ∧ doneMet (s.setBit
      K.cfgDoneLine 0 ball) ball = false) ∧
    (∃ (s : State) (a c : BitVec 32), s.reg K.ingotReleaseState = 1 ∧ s.mode ≠ .safe ∧ slDoneTimeout s.fab.slate ≠ 0) ∧
    (∃ (s : State) (ball : Bool) (a b c : BitVec 32), (s.reg K.ingotReleaseState ≠ 1 ∨ s.mode = .safe)) :=
  ⟨⟨st [(K.ingotReleaseState, 1)], true, 0, 0, 0, by decide⟩,
   ⟨st [(K.ingotReleaseState, 1)], false, 0, 0, 0, by decide⟩,
   ⟨({ up with fab := { up.fab with slate := zeros 68 ++ [1, 0, 0, 0] } }).setRegs [(K.ingotReleaseState, 1)], 0, 0, by decide⟩,
   ⟨up, false, 0, 0, 0, by decide⟩⟩

/-- States and operands that meet the hypotheses of StagingFollowsItsClaim, clause by clause. -/
theorem witness_StagingFollowsItsClaim :
    (∃ (s : State) (r : Req), Passes s r K.stageCommand 1
      { state := whenCode ((s.regN K.stageOwner != 0 && s.regN K.stageOwner != pathNo r.path) || cutting s || s.fab.promote || s.regN (K.slotState (slotOf s 2)) == 1 || s.regN (K.slotState (slotOf s 2)) == 3) 0x08000022 }
      ∧ BankSteady s (slotOf s 2)) ∧
    (∃ (s : State) (r : Req) (off : BitVec 32) (data : List Byte), data ≠ [] ∧ (∀ n, r.org = .tag n → off.toNat = s.regN
      K.stageWritten) ∧ BytesPass s r K.stageData data
      { state := whenCode (s.regN K.stageOwner != pathNo r.path || s.reg (K.slotState (slotOf s 2)) != 2) 0x08000022 } ∧
      data.length % 512 = 0 ∧ s.regN K.stageWritten + data.length ≤ 0xC00000 ∧ stageIdle s (slotOf s 2) = true) ∧
    (∃ (s : State) (r : Req) (off : BitVec 32), (∀ n, r.org = .tag n → off.toNat = s.regN K.stageWritten) ∧ BytesPass s r
      K.stageData []
      { state := whenCode (s.regN K.stageOwner != pathNo r.path || s.reg (K.slotState (slotOf s 2)) != 2) 0x08000022 } ∧ s.regN
      K.stageWritten ≤ 0xC00000 ∧ stageIdle s (slotOf s 2) = true) ∧
    (∃ (s : State) (r : Req), Passes s r K.stageCommand 2
      { state := whenCode (s.regN K.stageOwner != pathNo r.path || s.reg (K.slotState (slotOf s 2)) == 1 || s.reg (K.slotState (slotOf s 2)) == 3 || !stageIdle s (slotOf s 2)) 0x08000022 }) ∧
    (∃ (s : State) (r : Req), (∀ x ∈ s.host.waits, x.2 ≠ r) ∧ (∀ j ∈ (s.flBank (slotOf s 2)).op.toList ++ (s.flBank (slotOf s
      2)).queue, ∀ a b, j.fin ≠ .stageData a b (some r)) ∧ Passes s r K.stageCommand 3
      { state := whenCode (s.regN K.stageOwner != pathNo r.path || cutting s) 0x08000022 }) ∧
    (∃ (s : State) (slot : Fin 3), s.reg (K.slotState slot) = 3 ∧ (slot ≠ 0 ∨ s.fab.promote = false)) ∧
    (∃ (s : State), s.reg (K.slotState 0) = 3 ∧ s.fab.promote = true) ∧
    (∃ (s : State) (slot : Fin 3), s.reg (K.slotState slot) ≠ 3) :=
  ⟨⟨up, rq, passesNow (by decide), by decide⟩,
   ⟨st [(K.stageOwner, 2), (K.slotState 1, 2), (K.slotState 2, 2)], rq, 0, zeros 512, by decide +kernel, by decide +kernel,
     bytesNow (by decide +kernel), by decide +kernel, by decide +kernel, by decide +kernel⟩,
   ⟨st [(K.stageOwner, 2), (K.slotState 1, 2), (K.slotState 2, 2)], rq, 0, by decide +kernel, bytesNow (by decide +kernel),
     by decide +kernel, by decide +kernel⟩,
   ⟨st [(K.stageOwner, 2), (K.slotState 1, 2), (K.slotState 2, 2)], rq, passesNow (by decide)⟩,
   ⟨st [(K.stageOwner, 2), (K.slotState 1, 2), (K.slotState 2, 2)], rq, by decide, fun j hj => absurd ((show (up.flBank (slotOf
     (st [(K.stageOwner, 2), (K.slotState 1, 2), (K.slotState 2, 2)]) 2)).op.toList ++ (up.flBank (slotOf (st [(K.stageOwner,
     2), (K.slotState 1, 2), (K.slotState 2, 2)]) 2)).queue = [] by decide) ▸ hj) List.not_mem_nil, passesNow (by decide)⟩,
   ⟨st [(K.slotState 2, 3)], 2, by decide⟩,
   ⟨({ up with fab := { up.fab with promote := true } }).setRegs [(K.slotState 0, 3)], by decide⟩,
   ⟨up, 0, by decide⟩⟩

/-- States and operands that meet the hypotheses of CutoversSwapTheSlots, clause by clause. -/
theorem witness_CutoversSwapTheSlots :
    (∃ (s : State) (r : Req), Passes s r K.cutover 1
      { state := whenCode (s.reg (K.slotState (slotOf s 2)) != 4 || s.fab.fcp.isSome || s.fab.promote || cutting s || loading s) 0x08000022 }) ∧
    (∃ (s : State) (r : Req), Passes s r K.cutover 2
      { state := whenCode (s.reg (K.slotState (slotOf s 2)) != 4 || s.fab.fcp.isSome || s.fab.promote || cutting s || loading s) 0x08000022 }) ∧
    (∃ (s : State) (r : Req), (∀ x ∈ s.host.waits, x.2 ≠ r) ∧ Passes s r K.cutover 0
      { state := whenCode (s.reg K.cutoverState == 2 || s.reg K.cutoverState == 3) 0x08000022 }) ∧
    (∃ (s : State) (r : Req), (∀ x ∈ s.host.waits, x.2 ≠ r) ∧ Passes s r K.cutover 0
      { state := whenCode (s.reg K.cutoverState == 2 || s.reg K.cutoverState == 3) 0x08000022 } ∧ s.reg K.cutoverState = 1) ∧
    (∃ s : State, s.reg K.cutoverState = 1 ∧ (s.fab.cut = 1 ∨ s.regN K.cutoverAt ≤ s.regN K.linkCellTime) ∧ s.fab.fcp = none) ∧
    (∃ s : State, ((s.reg K.cutoverState ≠ 1 ∨ (s.fab.cut ≠ 1 ∧ s.regN K.linkCellTime < s.regN K.cutoverAt)))) ∧
    (∃ (s : State) (l : LoadSt), s.fab.load = some l ∧ l.begun = true ∧ l.order = [] ∧ l.purpose = .cutover ∧ (l.slot = 1 ∨
      l.slot = 2) ∧ slotOf s 1 ≠ l.slot) ∧
    (∃ (s : State) (l : LoadSt), s.fab.load = some l ∧ l.begun = true ∧ l.order = [] ∧ l.purpose = .back) ∧
    (∃ (s : State) (l : LoadSt), s.fab.load = some l ∧ l.begun = true ∧ l.order = [] ∧ l.purpose = .backGolden) ∧
    (∃ s : State, ((∀ l, s.fab.load = some l → l.begun = false ∨ l.order ≠ [] ∨ (l.purpose ≠ .cutover ∧ l.purpose ≠ .back ∧
      l.purpose ≠ .backGolden)))) ∧
    (∃ (s : State) (r : Req), Passes s r K.cutPromoteGolden 1 {} ∧ s.reg (K.slotState (slotOf s 2)) = 4 ∧ (slFlags (slotSlate s
      (slotOf s 2))).testBit 1 = true ∧ slKey (slotSlate s (slotOf s 2)) = 0 ∧ s.reg (K.slotState (slotOf s 1)) = 4 ∧ cutting s
      = false ∧ s.fab.promote = false ∧ s.fab.cfgSlot ≠ some 0 ∧ BankSteady s 0) ∧
    (∃ (s : State) (r : Req) (v : BitVec 32), Passes s r K.cutRollbackCommit v.toNat {} ∧ v.toNat ≤ slRollback s.fab.slate ∧
      v.toNat ≤ (if s.reg (K.slotState 0) = 4 then s.regN (K.slotRollback 0) else 0)) :=
  ⟨⟨st [(K.slotState (slotOf up 2), 4)], rq, passesNow (by decide)⟩,
   ⟨st [(K.slotState (slotOf up 2), 4)], rq, passesNow (by decide)⟩,
   ⟨up, rq, by decide, passesNow (by decide)⟩,
   ⟨(up).setReg K.cutoverState 1, rq, by decide, passesNow (by decide), by decide⟩,
   ⟨({ up with fab := { up.fab with cut := 1 } }).setRegs [(K.cutoverState, 1)], by decide⟩,
   ⟨up, by decide⟩,
   ⟨{ up with fab := { up.fab with load := some { ld0 with purpose := .cutover, begun := true, slot := slotOf up 2 } } },
     { ld0 with purpose := .cutover, begun := true, slot := slotOf up 2 }, by decide⟩,
   ⟨{ up with fab := { up.fab with load := some { ld0 with purpose := .back, begun := true } } },
     { ld0 with purpose := .back, begun := true }, by decide⟩,
   ⟨{ up with fab := { up.fab with load := some { ld0 with purpose := .backGolden, begun := true } } },
     { ld0 with purpose := .backGolden, begun := true }, by decide⟩,
   ⟨up, by decide⟩,
   ⟨putArray (st [(K.slotState 1, 4), (K.slotState 2, 4)]) (slotBase (slotOf up 2) + 7) [0], rq, passesNow (by decide +kernel),
     by decide +kernel, by decide +kernel, by decide +kernel, by decide +kernel, by decide +kernel, by decide +kernel,
     by decide +kernel, by decide +kernel⟩,
   ⟨st [(K.slotState 0, 4)], rq, 0, passesNow (by decide), by decide, by decide⟩⟩

/-- States and operands that meet the hypotheses of LoadsTakeRegionsInOrder, clause by clause. -/
theorem witness_LoadsTakeRegionsInOrder :
    (∃ (s : State) (kHz : Nat) (bad : Option (Fin 22)) (uses : Bool), (∀ l, s.fab.load = some l → l.order = [] ∨ l.begun =
      false ∨ l.rail ≠ none)) ∧
    (∃ (s : State) (l : LoadSt) (r : Nat) (kHz : Nat) (bad : Option (Fin 22)) (uses : Bool), LoadAt s l r ∧ keyMissing s
      l.slate = true) ∧
    (∃ (s : State) (l : LoadSt) (r : Nat) (kHz : Nat) (bad : Option (Fin 22)) (uses : Bool), LoadAt s l r ∧ keyMissing s
      l.slate = false ∧ l.purpose ≠ .partialImage) ∧
    (∃ (s : State) (l : LoadSt) (r : Nat) (kHz : Nat) (bad : Option (Fin 22)) (uses : Bool), LoadAt s l r ∧ keyMissing s
      l.slate = false ∧ l.purpose = .partialImage ∧ (∀ f, s.fab.fcp = some f → f.bundles < 22 * (regionRank l.slate r + 1))) ∧
    (∃ (s : State) (l : LoadSt) (f : FcpSt) (r : Nat) (kHz : Nat) (bad : Option (Fin 22)) (uses : Bool), LoadAt s l r ∧
      keyMissing s l.slate = false ∧ l.purpose = .partialImage ∧ s.fab.fcp = some f ∧ 22 * (regionRank l.slate r + 1) ≤
      f.bundles) ∧
    (∃ (s : State) (r : Req) (off : BitVec 32) (data : List Byte), (∀ n, r.org = .tag n → off = 0) ∧ NoLoad s ∧ cutting s =
      false ∧ BytesPass s r K.fcpStream data {} ∧ 0 < data.length ∧ data.length < 4096 ∧ data.length % 512 = 0) ∧
    (∃ (s : State) (f : FcpSt) (r : Req) (off : BitVec 32) (data : List Byte), s.fab.fcp = some f ∧ f.src = pathNo r.path ∧
      f.checked = false ∧ (∀ n, r.org = .tag n → off.toNat = f.buf.length) ∧ s.fab.load = none ∧ s.fab.drop = 0 ∧ cutting s =
      false ∧ BytesPass s r K.fcpStream data {} ∧ 0 < data.length ∧ f.buf.length + data.length < 4096 ∧ data.length % 512 = 0) ∧
    (∃ (s : State) (region : Fin 16) (off : BitVec 32) (data : List Byte), NoLoad s ∧ cutting s = false ∧ slFcpMaster
      s.fab.slate = region.val ∧ regionLoaded s region = true ∧ data.length < 4096) ∧
    (∃ (s : State) (region : Fin 16) (off : BitVec 32) (data : List Byte), ((slFcpMaster s.fab.slate ≠ region.val ∨
      regionLoaded s region = false ∨ cutting s = true ∨ (s.fab.fcp = none ∧ s.fab.load ≠ none) ∨ ∃ f, s.fab.fcp = some f ∧
      f.src ≠ 0))) ∧
    (∃ (s : State) (f : FcpSt), s.fab.fcp = some f ∧ (s.fab.load = none ∨ f.checked = true)) ∧
    (∃ s : State, s.fab.fcp = none) ∧
    (∃ (s : State) (r : Req), Passes s r K.fcpReload 0 {} ∧ NoLoad s ∧ cutting s = false) ∧
    (∃ (s : State) (r : Req) (m : BitVec 16), Passes s r K.fcpReload m.toNat {} ∧ m ≠ 0 ∧ NoLoad s ∧ cutting s = false ∧
      (s.regN K.ingotRunningVersion = slVersion (slotSlate s (slotOf s 1)) ∨ s.fab.changed &&& m.toNat = 0) ∧ clearMask m.toNat
      (slMap (slotSlate s (slotOf s 1))) = 0) :=
  ⟨⟨up, 0, none, false, nofun⟩,
   ⟨{ up with fab := { up.fab with load := some { ld0 with begun := true, order := [15] } } },
     { ld0 with begun := true, order := [15] }, 15, 0, none, false, by decide⟩,
   ⟨({ up with fab := { up.fab with load := some { ld0 with purpose := .cutover, begun := true, order := [15], slate := zeros 7 ++ [1] ++ zeros 100 } } }).modCip
     fun c => { c with bk := some [1] },
     { ld0 with purpose := .cutover, begun := true, order := [15], slate := zeros 7 ++ [1] ++ zeros 100 }, 15, 0, none, false,
     by decide⟩,
   ⟨({ up with fab := { up.fab with load := some { ld0 with purpose := .partialImage, begun := true, order := [15], slate := zeros 7 ++ [1] ++ zeros 100 }, fcp := none } }).modCip
     fun c => { c with bk := some [1] },
     { ld0 with purpose := .partialImage, begun := true, order := [15], slate := zeros 7 ++ [1] ++ zeros 100 }, 15, 0, none,
     false, by decide, by decide, by decide, fun f hf => nomatch (show none = some f from hf)⟩,
   ⟨({ up with fab := { up.fab with load := some { ld0 with purpose := .partialImage, begun := true, order := [15], slate := zeros 7 ++ [1] ++ zeros 100 }, fcp := some { src := 2, buf := [], checked := true, bundles := 22 } } }).modCip
     fun c => { c with bk := some [1] },
     { ld0 with purpose := .partialImage, begun := true, order := [15], slate := zeros 7 ++ [1] ++ zeros 100 },
     { src := 2, buf := [], checked := true, bundles := 22 }, 15, 0, none, false, by decide⟩,
   ⟨up, rq, 0, zeros 512, by decide +kernel, by decide +kernel, by decide +kernel, bytesNow (by decide +kernel),
     by decide +kernel, by decide +kernel, by decide +kernel⟩,
   ⟨{ up with fab := { up.fab with fcp := some { src := 2, buf := [], checked := false, bundles := 0 } } },
     { src := 2, buf := [], checked := false, bundles := 0 }, rq, 0, zeros 512, by decide +kernel, by decide +kernel,
     by decide +kernel, by decide +kernel, by decide +kernel, by decide +kernel, by decide +kernel, bytesNow
     (by decide +kernel), by decide +kernel, by decide +kernel, by decide +kernel⟩,
   ⟨{ up with fab := { up.fab with loaded := 1 } }, 0, 0, [], by decide⟩,
   ⟨up, 0, 0, [], by decide⟩,
   ⟨{ up with fab := { up.fab with fcp := some ⟨0, [], false, 0⟩ } }, ⟨0, [], false, 0⟩, by decide⟩,
   ⟨up, by decide⟩,
   ⟨up, rq, passesNow (by decide), by decide, by decide⟩,
   ⟨st [(K.ingotRunningVersion, 0xFFFFFFFF)], rq, 1, passesNow (by decide +kernel), by decide +kernel, by decide +kernel,
     by decide +kernel, by decide +kernel, by decide +kernel⟩⟩

set_option maxRecDepth 100000 in
/-- States and operands that meet the hypotheses of CfgSectionsAct, clause by clause. -/
theorem witness_CfgSectionsAct :
    (∃ (s : State) (x : List Byte), s.mode ≠ .safe) ∧
    (∃ (s : State) (x : List Byte), (s.mode = .safe ∨ sectionFor s x = .other)) ∧
    (∃ (s : State) (x : List Byte), s.mode ≠ .safe ∧ sectionFor s x = .own ∧ byteOf x 4 = 1 ∧ leAt x 28 4 = 0 ∧ byteOf x 7 = 0
      ∧ cutting s = false ∧ s.fab.promote = false ∧ (s.regN K.stageOwner = 0 ∨ s.regN K.stageOwner = 5) ∧ s.regN (K.slotState
      (slotOf s 2)) ≠ 1 ∧ s.regN (K.slotState (slotOf s 2)) ≠ 3 ∧ BankSteady s (slotOf s 2)) ∧
    (∃ (s : State) (x : List Byte), s.mode ≠ .safe ∧ sectionFor s x = .own ∧ byteOf x 4 = 1 ∧ leAt x 28 4 = 0 ∧ byteOf x 7 = 1
      ∧ cutting s = false ∧ s.fab.promote = false ∧ (s.regN (K.slotState 0) = 0 ∨ s.regN (K.slotState 0) = 5) ∧ BankSteady s 0) ∧
    (∃ (s : State) (x : List Byte), s.mode ≠ .safe ∧ sectionFor s x = .own ∧ byteOf x 4 = 2 ∧ s.fab.cfgSlot = some (cfgTarget s
      x) ∧ s.reg (K.slotState (cfgTarget s x)) = 2 ∧ leAt x 24 4 = s.fab.cfgCount ∧ leAt x 28 4 % 512 = 0 ∧ leAt x 28 4 ≤ 65536
      ∧ s.fab.cfgCount + leAt x 28 4 ≤ 0xC00000 ∧ stageIdle s (cfgTarget s x) = true) ∧
    (∃ (s : State) (x : List Byte), s.mode ≠ .safe ∧ sectionFor s x = .own ∧ byteOf x 4 = 3 ∧ leAt x 28 4 = 0 ∧ s.fab.cfgSlot =
      some (cfgTarget s x) ∧ s.reg (K.slotState (cfgTarget s x)) ≠ 1 ∧ s.reg (K.slotState (cfgTarget s x)) ≠ 3 ∧ stageIdle s
      (cfgTarget s x) = true) :=
  ⟨⟨up, [], by decide⟩,
   ⟨{ up with mode := .safe }, [], by decide⟩,
   ⟨up.modFlBank (slotOf up 2) fun b => { b with op := some fj0 }, cfgSec 1 0, by decide +kernel⟩,
   ⟨up.modFlBank 0 fun b => { b with op := some fj0 }, cfgGold 1 0, by decide +kernel⟩,
   ⟨((st [(K.slotState (slotOf up 2), 2)]).modFab fun f => { f with cfgSlot := some (slotOf up 2) }), cfgSec 2 512,
     by decide +kernel⟩,
   ⟨((st [(K.slotState (slotOf up 2), 2)]).modFab fun f => { f with cfgSlot := some (slotOf up 2) }), cfgSec 3 0,
     by decide +kernel⟩⟩

/-- States and operands that meet the hypotheses of FlashSequencesStart, clause by clause. -/
theorem witness_FlashSequencesStart :
    (∃ (s : State) (m : FlashMaster) (k : BitVec 8) (page : BitVec 9) (words : List (BitVec 32)), NoPart s m (k.toNat / 64) ∧
      128 ≤ words.length) ∧
    (∃ (s : State) (m : FlashMaster) (k : BitVec 8) (page : BitVec 9) (words : List (BitVec 32)), NoPart s m (k.toNat / 64) ∧
      128 ≤ words.length ∧ mayCommand m k.toNat = false) ∧
    (∃ (s : State) (m : FlashMaster) (k : BitVec 8) (page : BitVec 9) (words : List (BitVec 32)), NoPart s m (k.toNat / 64) ∧
      128 ≤ words.length ∧ mayCommand m k.toNat = true ∧ m = .fabric ∧ (s.flBank (k.toNat / 64)).op.isSome = true) ∧
    (∃ (s : State) (m : FlashMaster) (k : BitVec 8) (page : BitVec 9) (words : List (BitVec 32)), NoPart s m (k.toNat / 64) ∧
      128 ≤ words.length ∧ mayCommand m k.toNat = true ∧ m ≠ .fabric ∧ (s.flBank (k.toNat / 64)).op.isSome = true ∧ (s.flBank
      (k.toNat / 64)).susp = none) ∧
    (∃ (s : State) (m : FlashMaster) (k : BitVec 8) (page : BitVec 9) (words : List (BitVec 32)), NoPart s m (k.toNat / 64) ∧
      128 ≤ words.length ∧ mayCommand m k.toNat = true ∧ BankIdle s (k.toNat / 64) ∧ FlashRuns s) ∧
    (∃ (s : State) (m : FlashMaster) (k : BitVec 8) (page : BitVec 9) (words : List (BitVec 32)), NoPart s m (k.toNat / 64) ∧
      words.length < 128) ∧
    (∃ (s : State) (m : FlashMaster) (k : BitVec 8), NoPart s m (k.toNat / 64)) ∧
    (∃ (s : State) (m : FlashMaster) (k : BitVec 8), NoPart s m (k.toNat / 64) ∧ mayCommand m k.toNat = false) ∧
    (∃ (s : State) (m : FlashMaster) (k : BitVec 8), NoPart s m (k.toNat / 64) ∧ mayCommand m k.toNat = true ∧ ((m = .fabric ∧
      (s.flBank (k.toNat / 64)).op.isSome = true ∨ (s.flBank (k.toNat / 64)).susp.isSome = true))) ∧
    (∃ (s : State) (m : FlashMaster) (k : BitVec 8), NoPart s m (k.toNat / 64) ∧ mayCommand m k.toNat = true ∧ m ≠ .fabric ∧
      (s.flBank (k.toNat / 64)).op.isSome = true ∧ (s.flBank (k.toNat / 64)).susp = none) ∧
    (∃ (s : State) (m : FlashMaster) (k : BitVec 8), NoPart s m (k.toNat / 64) ∧ 192 ≤ k.toNat ∧ (s.flBlock k.toNat).prot =
      true) ∧
    (∃ (s : State) (m : FlashMaster) (k : BitVec 8), NoPart s m (k.toNat / 64) ∧ mayCommand m k.toNat = true ∧ BankIdle s
      (k.toNat / 64) ∧ FlashRuns s) ∧
    (∃ (s : State) (m : FlashMaster) (k : BitVec 8) (named : BitVec 32), NoPart s m (k.toNat / 64) ∧ named.toNat ≠ k.toNat) ∧
    (∃ (s : State) (m : FlashMaster) (b : Fin 4) (j : FlJob) (k : Nat), NoPart s m b ∧ (s.flBank b).op = some j ∧ j.op = .erase
      k) ∧
    (∃ (s : State) (m : FlashMaster) (b : Fin 4) (j : FlJob) (k : Nat), NoPart s m b ∧ (s.flBank b).op = some j ∧ j.op = .erase
      k ∧ j.master ≠ m) ∧
    (∃ (s : State) (m : FlashMaster) (b : Fin 4) (j : FlJob) (k : Nat), NoPart s m b ∧ (s.flBank b).op = some j ∧ j.op = .erase
      k ∧ j.master = m ∧ (s.flBank b).asked = true) ∧
    (∃ (s : State) (m : FlashMaster) (b : Fin 4), NoPart s m b ∧ (s.flBank b).susp = none ∧ (∀ j, (s.flBank b).op = some j → ∀
      k, j.op ≠ .erase k)) ∧
    (∃ (s : State) (m : FlashMaster) (b : Fin 4) (e : FlJob), NoPart s m b ∧ (s.flBank b).susp = some e ∧ (s.flBank b).op =
      none) ∧
    (∃ (s : State) (m : FlashMaster) (b : Fin 4) (j e : FlJob), NoPart s m b ∧ (s.flBank b).susp = some e ∧ (s.flBank b).op =
      some j ∧ (∀ k, j.op ≠ .erase k)) ∧
    (∃ (s : State) (m : FlashMaster) (b : Fin 4) (e : FlJob), NoPart s m b ∧ (s.flBank b).susp = some e) ∧
    (∃ (s : State) (m : FlashMaster) (b : Fin 4) (e : FlJob), NoPart s m b ∧ (s.flBank b).susp = some e ∧ e.master ≠ m) ∧
    (∃ (s : State) (m : FlashMaster) (b : Fin 4) (e : FlJob), NoPart s m b ∧ (s.flBank b).susp = some e ∧ (s.flBank b).auto =
      false ∧ mayStart s e = true) ∧
    (∃ (s : State) (m : FlashMaster) (b : Fin 4), NoPart s m b ∧ (s.flBank b).susp = none) ∧
    (∃ (s : State) (m : FlashMaster) (k : BitVec 8), NoPart s m (k.toNat / 64)) ∧
    (∃ (s : State) (m : FlashMaster) (k : BitVec 8), NoPart s m (k.toNat / 64) ∧ mayCommand m k.toNat = false) ∧
    (∃ (s : State) (m : FlashMaster) (b : Fin 4), NoPart s m b) :=
  ⟨⟨up, .sc2, 0, 511, List.replicate 128 0, by decide +kernel⟩,
   ⟨up, .sc0, 0, 511, List.replicate 128 0, by decide +kernel⟩,
   ⟨(up).modFlBank 3 fun b => { b with op := some fj0 }, .fabric, 192, 511, List.replicate 128 0, by decide +kernel⟩,
   ⟨(up).modFlBank 0 fun b => { b with op := some fj0 }, .sc2, 0, 511, List.replicate 128 0, by decide +kernel⟩,
   ⟨awake up, .sc2, 0, 511, List.replicate 128 0, by decide +kernel⟩,
   ⟨up, .sc2, 0, 0, [], by decide⟩,
   ⟨up, .sc2, 0, by decide⟩,
   ⟨up, .sc0, 0, by decide⟩,
   ⟨(up).modFlBank 0 fun b => { b with susp := some fj0 }, .sc2, 0, by decide⟩,
   ⟨(up).modFlBank 0 fun b => { b with op := some fj0 }, .sc2, 0, by decide⟩,
   ⟨awake (up.modFlBlock 192 fun b => { b with prot := true }), .sc2, 192, by decide⟩,
   ⟨awake up, .sc2, 0, by decide⟩,
   ⟨up, .sc2, 0, 1, by decide⟩,
   ⟨(up).modFlBank 0 fun b => { b with op := some fj0 }, .sc2, 0, fj0, 0, by decide⟩,
   ⟨(up).modFlBank 0 fun b => { b with op := some fj0 }, .island, 0, fj0, 0, by decide⟩,
   ⟨(up).modFlBank 0 fun b => { b with op := some fj0, asked := true }, .sc2, 0, fj0, 0, by decide⟩,
   ⟨up, .sc2, 0, by decide, by decide, fun j hj => absurd ((show (up.flBank 0).op = none by decide).symm.trans hj) nofun⟩,
   ⟨(up).modFlBank 0 fun b => { b with susp := some fj0 }, .sc2, 0, fj0, by decide⟩,
   ⟨(up).modFlBank 0 fun b => { b with susp := some fj0, op := some { fj0 with op := .program 0 0 [] } }, .sc2, 0,
     { fj0 with op := .program 0 0 [] }, fj0, by decide, by decide, by decide, nofun⟩,
   ⟨(up).modFlBank 0 fun b => { b with susp := some fj0 }, .sc2, 0, fj0, by decide⟩,
   ⟨(up).modFlBank 0 fun b => { b with susp := some fj0 }, .island, 0, fj0, by decide⟩,
   ⟨(awake up).modFlBank 0 fun b => { b with susp := some fj0 }, .sc2, 0, fj0, by decide⟩,
   ⟨up, .sc2, 0, by decide⟩,
   ⟨up, .sc2, 0, by decide⟩,
   ⟨up, .sc0, 0, by decide⟩,
   ⟨up, .sc2, 0, by decide⟩⟩

/-- States and operands that meet the hypotheses of OtherCommandsBreakAPart, clause by clause. -/
theorem witness_OtherCommandsBreakAPart :
    (∃ (s : State) (m : FlashMaster) (b : Fin 4), ¬NoPart s m b) :=
  ⟨up.modFlMaster .sc2 fun x => { x with part := [(0, 1)] }, .sc2, 0, by decide⟩

/-- States and operands that meet the hypotheses of FlashOperationsEnd, clause by clause. -/
theorem witness_FlashOperationsEnd :
    (∃ (s : State) (b : Fin 4) (j : FlJob) (k page : Nat) (data : List Byte), (s.flBank b).op = some j ∧ j.op = .program k page
      data) ∧
    (∃ (s : State) (b : Fin 4) (j : FlJob) (k page : Nat) (data : List Byte), (s.flBank b).op = some j ∧ j.op = .program k page
      data) ∧
    (∃ (s : State) (b : Fin 4) (good : Bool), (∀ j, (s.flBank b).op = some j → ∀ k page data, j.op ≠ .program k page data)) ∧
    (∃ (s : State) (b : Fin 4) (good : Bool) (j : FlJob) (k : Nat), (s.flBank b).op = some j ∧ j.op = .erase k) ∧
    (∃ (s : State) (b : Fin 4) (good : Bool) (j : FlJob) (k : Nat), (s.flBank b).op = some j ∧ j.op = .erase k ∧ good = true) ∧
    (∃ (s : State) (b : Fin 4) (good : Bool), (∀ j, (s.flBank b).op = some j → ∀ k, j.op ≠ .erase k)) ∧
    (∃ (s : State) (b : Fin 4) (j : FlJob) (k : Nat) (p : Bool), (s.flBank b).op = some j ∧ j.op = .protect k p) ∧
    (∃ (s : State) (b : Fin 4) (j : FlJob) (v : Nat), (s.flBank b).op = some j ∧ j.op = .protectMap v) ∧
    (∃ (s : State) (b : Fin 4) (j : FlJob) (pw : Nat), (s.flBank b).op = some j ∧ j.op = .password pw) ∧
    (∃ (s : State) (b : Fin 4), (∀ j, (s.flBank b).op = some j → opCode j.op ≠ 3)) ∧
    (∃ (s : State) (b : Fin 4) (j : FlJob) (k : Nat), (s.flBank b).op = some j ∧ j.op = .erase k ∧ j.abort = false) ∧
    (∃ (s : State) (b : Fin 4) (j : FlJob) (k : Nat), (s.flBank b).op = some j ∧ j.op = .erase k ∧ j.abort = false ∧ ((s.flBank
      b).asked = true ∨ (s.flBank b).auto = true) ∧ (s.flBank b).queue = []) ∧
    (∃ (s : State) (b : Fin 4) (j : FlJob) (k : Nat), (s.flBank b).op = some j ∧ j.op = .erase k ∧ j.abort = true ∧ (s.flBank
      b).queue = [] ∧ (s.flBank b).susp = none ∧ (∀ f, j.fin ≠ .island f)) ∧
    (∃ (s : State) (b : Fin 4) (e : FlJob), (s.flBank b).op = none ∧ (s.flBank b).susp = some e ∧ (s.flBank b).queue = [] ∧
      (s.flBank b).auto = true) ∧
    (∃ (s : State) (b : Fin 4) (e : FlJob), (s.flBank b).op = none ∧ (s.flBank b).susp = some e ∧ (s.flBank b).queue = [] ∧
      (s.flBank b).auto = true ∧ (s.flBank b).asked = false ∧ mayStart s e = true) ∧
    (∃ (s : State) (b : Fin 4), (s.flBank b).auto = false) ∧
    (∃ (s : State) (k : BitVec 8), (s.flBlock k.toNat).due = true ∧ refreshable s k.toNat = true ∧ (s.flBank (k.toNat / 64)).op
      = none ∧ (s.flBank (k.toNat / 64)).susp = none) ∧
    (∃ (s : State) (k : BitVec 8), ((s.flBlock k.toNat).due = false ∨ refreshable s k.toNat = false ∨ (s.flBank (k.toNat /
      64)).op.isSome = true ∨ (s.flBank (k.toNat / 64)).susp.isSome = true)) ∧
    (∃ (s : State) (k : BitVec 8), s.released = true ∧ s.reg K.flcAutoFinish = 1 ∧ (s.flBlock k.toNat).incomplete = true ∧
      ((k.toNat < 176 ∨ (192 ≤ k.toNat ∧ (s.flBlock k.toNat).prot = false))) ∧ BankIdle s (k.toNat / 64) ∧ FlashRuns s) ∧
    (∃ (s : State) (k : BitVec 8), ((s.released = false ∨ s.reg K.flcAutoFinish ≠ 1 ∨ (s.flBlock k.toNat).incomplete = false ∨
      (176 ≤ k.toNat ∧ k.toNat < 192)))) :=
  ⟨⟨(up).modFlBank 0 fun b => { b with op := some { fj0 with op := .program 0 511 (zeros 512) } }, 0,
     { fj0 with op := .program 0 511 (zeros 512) }, 0, 511, zeros 512, by decide +kernel⟩,
   ⟨(up).modFlBank 0 fun b => { b with op := some { fj0 with op := .program 0 511 (zeros 512) } }, 0,
     { fj0 with op := .program 0 511 (zeros 512) }, 0, 511, zeros 512, by decide +kernel⟩,
   ⟨up, 0, false, fun j hj => absurd ((show (up.flBank 0).op = none by decide).symm.trans hj) nofun⟩,
   ⟨(up).modFlBank 0 fun b => { b with op := some { fj0 with op := .erase 63 } }, 0, false, { fj0 with op := .erase 63 }, 63,
     by decide⟩,
   ⟨(up).modFlBank 0 fun b => { b with op := some { fj0 with op := .erase 63 } }, 0, true, { fj0 with op := .erase 63 }, 63,
     by decide⟩,
   ⟨up, 0, false, fun j hj => absurd ((show (up.flBank 0).op = none by decide).symm.trans hj) nofun⟩,
   ⟨(up).modFlBank 0 fun b => { b with op := some { fj0 with op := .protect 192 true } }, 0,
     { fj0 with op := .protect 192 true }, 192, true, by decide⟩,
   ⟨(up).modFlBank 0 fun b => { b with op := some { fj0 with op := .protectMap 1 } }, 0, { fj0 with op := .protectMap 1 }, 1,
     by decide⟩,
   ⟨(up).modFlBank 0 fun b => { b with op := some { fj0 with op := .password 1 } }, 0, { fj0 with op := .password 1 }, 1,
     by decide⟩,
   ⟨up, 0, by decide⟩,
   ⟨(up).modFlBank 0 fun b => { b with op := some { fj0 with op := .erase 63 } }, 0, { fj0 with op := .erase 63 }, 63,
     by decide⟩,
   ⟨(up).modFlBank 0 fun b => { b with op := some { fj0 with op := .erase 63 }, asked := true }, 0,
     { fj0 with op := .erase 63 }, 63, by decide⟩,
   ⟨(up).modFlBank 0 fun b => { b with op := some { fj0 with op := .erase 63, abort := true } }, 0,
     { fj0 with op := .erase 63, abort := true }, 63, by decide, by decide, by decide, by decide, by decide, nofun⟩,
   ⟨(up).modFlBank 0 fun b => { b with susp := some fj0, auto := true }, 0, fj0, by decide⟩,
   ⟨awake ((up).modFlBank 0 fun b => { b with susp := some fj0, auto := true }), 0, fj0, by decide⟩,
   ⟨up, 0, by decide⟩,
   ⟨up.modFlBlock 0 fun b => { b with due := true }, 0, by decide⟩,
   ⟨up, 0, by decide⟩,
   ⟨{ awake ((st [(K.flcAutoFinish, 1)]).modFlBlock 175 fun b => { b with incomplete := true }) with released := true }, 175,
     by decide⟩,
   ⟨up, 0, by decide⟩⟩

/-- States and operands that meet the hypotheses of FlashReadsGiveTheirLine, clause by clause. -/
theorem witness_FlashReadsGiveTheirLine :
    (∃ (s : State) (m : FlashMaster) (a : BitVec 32) (bad : Nat), mayRead m a.toNat = false) ∧
    (∃ (s : State) (m : FlashMaster) (a : BitVec 32) (bad : Nat), mayRead m a.toNat = true ∧ a.toNat < 0x4000000 ∧ (s.flBank
      (a.toNat / 0x40000 / 64)).op = none ∧ (∀ e, (s.flBank (a.toNat / 0x40000 / 64)).susp = some e → opBlock e.op ≠ a.toNat /
      0x40000 ∨ autoSuspends m = true) ∧ a.toNat / 0x40000 ∉ (s.flMaster m).info) ∧
    (∃ (s : State) (m : FlashMaster) (a : BitVec 32) (bad : Nat), mayRead m a.toNat = true ∧ a.toNat < 0x4000000 ∧ (s.flBank
      (a.toNat / 0x40000 / 64)).op = none ∧ (∀ e, (s.flBank (a.toNat / 0x40000 / 64)).susp = some e → opBlock e.op ≠ a.toNat /
      0x40000 ∨ autoSuspends m = true) ∧ a.toNat / 0x40000 ∉ (s.flMaster m).info ∧ executes m a.toNat = true) ∧
    (∃ (s : State) (m : FlashMaster) (a : BitVec 32) (bad : Nat), mayRead m a.toNat = true ∧ a.toNat < 0x4000000 ∧ autoSuspends
      m = true ∧ (s.flBank (a.toNat / 0x40000 / 64)).op.isSome = true ∧ a.toNat / 0x40000 ∉ (s.flMaster m).info) ∧
    (∃ (s : State) (m : FlashMaster) (a : BitVec 32) (bad : Nat), mayRead m a.toNat = true ∧ a.toNat < 0x4000000 ∧ autoSuspends
      m = false ∧ (((s.flBank (a.toNat / 0x40000 / 64)).op.isSome = true ∨ ∃ e, (s.flBank (a.toNat / 0x40000 / 64)).susp = some
      e ∧ opBlock e.op = a.toNat / 0x40000))) ∧
    (∃ (s : State) (m : FlashMaster) (a : BitVec 32) (bad : Nat), mayRead m a.toNat = true ∧ a.toNat < 0x4000000 ∧ executes m
      a.toNat = false ∧ BankIdle s (a.toNat / 0x40000 / 64) ∧ a.toNat / 0x40000 ∈ (s.flMaster m).info) ∧
    (∃ (s : State) (m : FlashMaster) (a : BitVec 32) (bad : Nat), mayRead m a.toNat = true ∧ 0x4000000 ≤ a.toNat) :=
  ⟨⟨up, .sc2, 0x4002000, 0, by decide⟩,
   ⟨up, .sc2, 0, 0, by decide⟩,
   ⟨up, .sc0, 0xC00000, 0, by decide⟩,
   ⟨(up).modFlBank 0 fun b => { b with op := some fj0 }, .sc0, 0xC00000, 0, by decide⟩,
   ⟨(up).modFlBank 0 fun b => { b with op := some fj0 }, .sc2, 0, 0, by decide, by decide, by decide, .inl rfl⟩,
   ⟨up.modFlMaster .sc2 fun x => { x with info := [0] }, .sc2, 0, 0, by decide⟩,
   ⟨up, .sc2, 0x4000000, 0, by decide⟩⟩

/-- States and operands that meet the hypotheses of FlashProtectionNeedsAPassword, clause by clause. -/
theorem witness_FlashProtectionNeedsAPassword :
    (∃ (s : State) (m : FlashMaster) (pw : BitVec 64), NoPart s m 3 ∧ (m = .sc2 ∨ m = .fabric)) ∧
    (∃ (s : State) (m : FlashMaster) (pw : BitVec 64), NoPart s m 3 ∧ (m = .sc2 ∨ m = .fabric) ∧ protLocked s = false ∧
      pw.toNat ≠ s.flash.password) ∧
    (∃ (s : State) (m : FlashMaster) (pw : BitVec 64), NoPart s m 3 ∧ (m = .sc2 ∨ m = .fabric) ∧ protLocked s = true) ∧
    (∃ (s : State) (m : FlashMaster) (b : Fin 4) (pw : BitVec 64), NoPart s m b ∧ ((b ≠ 3 ∨ (m ≠ .sc2 ∧ m ≠ .fabric)))) ∧
    (∃ (s : State) (m : FlashMaster) (k : BitVec 8), NoPart s m (k.toNat / 64) ∧ 192 ≤ k.toNat ∧ mayCommand m k.toNat = true ∧
      sessionOpen s (.master m) = true ∧ BankIdle s (k.toNat / 64) ∧ FlashRuns s) ∧
    (∃ (s : State) (m : FlashMaster) (k : BitVec 8) (err : Nat), NoPart s m (k.toNat / 64) ∧ (((err = 2 ^ 11 ∧ (k.toNat < 192 ∨
      mayCommand m k.toNat = false)) ∨ (err = 2 ^ 12 ∧ 192 ≤ k.toNat ∧ mayCommand m k.toNat = true ∧ sessionOpen s (.master m)
      = false) ∨ (err = 2 ^ 10 ∧ 192 ≤ k.toNat ∧ mayCommand m k.toNat = true ∧ sessionOpen s (.master m) = true ∧ m = .fabric ∧
      (s.flBank (k.toNat / 64)).op.isSome = true)))) ∧
    (∃ (s : State) (m : FlashMaster) (pw : BitVec 64), NoPart s m 3 ∧ sessionOpen s (.master m) = true ∧ BankIdle s 3 ∧
      FlashRuns s) ∧
    (∃ (s : State) (m : FlashMaster) (b : Fin 4) (pw : BitVec 64), NoPart s m b ∧ (b ≠ 3 ∨ sessionOpen s (.master m) = false)) ∧
    (∃ (s : State) (r : Req) (pw : BitVec 64), Passes s r K.protPassword pw.toNat {}) ∧
    (∃ (s : State) (r : Req) (pw : BitVec 64), Passes s r K.protPassword pw.toNat {} ∧ protLocked s = false ∧ pw.toNat ≠
      s.flash.password) ∧
    (∃ (s : State) (r : Req) (pw : BitVec 64), Passes s r K.protPassword pw.toNat {} ∧ protLocked s = true) ∧
    (∃ (s : State) (r : Req) (pw : BitVec 64), Passes s r K.protNewPassword pw.toNat
      { state := whenCode (!sessionOpen s (.path r.path)) 0x0F00000B }) ∧
    (∃ (s : State) (r : Req) (v : BitVec 64), Passes s r K.protectMap v.toNat
      { state := whenCode (!sessionOpen s (.path r.path)) 0x0F00000B }) ∧
    (∃ (s : State) (r : Req), Passes s r K.protClose 1 {}) :=
  ⟨⟨up, .sc2, 0, by decide⟩,
   ⟨up, .sc2, 0x12345678, by decide⟩,
   ⟨up.modFlash fun f => { f with fails := 16 }, .sc2, 0, by decide⟩,
   ⟨up, .sc2, 0, 0, by decide⟩,
   ⟨(awake up).modFlash fun f => { f with sessions := [sessionNo (.master .sc2)] }, .sc2, 192, by decide⟩,
   ⟨up, .sc2, 191, 2048, by decide⟩,
   ⟨(awake up).modFlash fun f => { f with sessions := [sessionNo (.master .sc2)] }, .sc2, 0, by decide⟩,
   ⟨up, .sc2, 0, 0, by decide⟩,
   ⟨up, rq, 0, passesNow (by decide)⟩,
   ⟨up, rq, 0x12345678, passesNow (by decide), by decide, by decide⟩,
   ⟨up.modFlash fun f => { f with fails := 16 }, rq, 0, passesNow (by decide), by decide⟩,
   ⟨(awake up).modFlash fun f => { f with sessions := [sessionNo (.path .fn)] }, rq, 0, passesNow (by decide)⟩,
   ⟨(awake up).modFlash fun f => { f with sessions := [sessionNo (.path .fn)] }, rq, 0, passesNow (by decide)⟩,
   ⟨up, rq, passesNow (by decide)⟩⟩

/-- States and operands that meet the hypotheses of UserAreaReadsAndWrites, clause by clause. -/
theorem witness_UserAreaReadsAndWrites :
    (∃ (s : State) (r : Req) (off : BitVec 32) (data : List Byte), BytesPass s r K.userData data { state := userOffCode s } ∧
      userFrom s r off.toNat % 512 = 0 ∧ data.length % 512 = 0 ∧ userFrom s r off.toNat + data.length ≤ 0x1000000) ∧
    (∃ (s : State) (r : Req) (off : BitVec 32) (data : List Byte), BytesPass s r K.userData data { state := userOffCode s } ∧
      userFrom s r off.toNat % 512 = 0 ∧ data.length % 512 = 0 ∧ userFrom s r off.toNat + data.length ≤ 0x1000000 ∧ data = []) ∧
    (∃ (s : State) (r : Req) (off : BitVec 32) (len : Nat), Takes s r ∧ (s.mode ≠ .run ∨ s.reg K.userEnable = 1)) ∧
    (∃ (s : State) (r : Req) (off : BitVec 32) (len : Nat), Takes s r ∧ (s.mode ≠ .run ∨ s.reg K.userEnable = 1) ∧ 0x1000000 <
      userFrom s r off.toNat) ∧
    (∃ (s : State) (r : Req) (off : BitVec 32) (len : Nat), Takes s r ∧ s.mode = .run ∧ s.reg K.userEnable ≠ 1) ∧
    (∃ (s : State) (r : Req) (v : BitVec 8), Passes s r K.userErase v.toNat { state := userOffCode s }) ∧
    (∃ (s : State) (r : Req) (v : BitVec 8), Passes s r K.userErase v.toNat { state := userOffCode s } ∧ BankIdle s 3 ∧
      FlashRuns s ∧ (s.flBlock (192 + v.toNat)).prot = false) :=
  ⟨⟨(up).modFlBank 3 fun b => { b with op := some fj0 }, rq, 0, zeros 512, bytesNow (by decide +kernel), by decide +kernel,
     by decide +kernel, by decide +kernel⟩,
   ⟨(up).modFlBank 3 fun b => { b with op := some fj0 }, rq, 0, [], bytesNow (by decide +kernel), by decide +kernel,
     by decide +kernel, by decide +kernel, by decide +kernel⟩,
   ⟨up, rq, 0, 0, takesNow (by decide), by decide⟩,
   ⟨up, ⟨.hpi, .tag 0⟩, 0x1000001, 0, takesNow (by decide), by decide, by decide⟩,
   ⟨st [(K.userEnable, 0)], rq, 0, 0, takesNow (by decide), by decide, by decide⟩,
   ⟨up, rq, 0, passesNow (by decide)⟩,
   ⟨awake up, rq, 0, passesNow (by decide), by decide, by decide, by decide⟩⟩

/-- States and operands that meet the hypotheses of DramLinesKeepTheirData, clause by clause. -/
theorem witness_DramLinesKeepTheirData :
    (∃ (s : State) (line : Nat) (key : BitVec 8) (data : List Byte) (gen : Nat), s.cip.noEphemeral = false ∧ dramUp s = true ∧
      64 * line + 64 ≤ s.regN K.dramUserBytes ∧ liveGen s (dramIndex s key.toNat) = some gen ∧ minorOf s line < 127) ∧
    (∃ (s : State) (line : Nat) (key : BitVec 8) (gen : Nat), s.cip.noEphemeral = false ∧ dramUp s = true ∧ 64 * line + 64 ≤
      s.regN K.dramUserBytes ∧ liveGen s (dramIndex s key.toNat) = some gen ∧ (dramLine s line).bad = false ∧ (dramLine s
      line).data ≠ [] ∧ (dramLine s line).key = dramIndex s key.toNat ∧ (dramLine s line).gen = gen) ∧
    (∃ (s : State) (line : Nat) (key : BitVec 8) (gen : Nat), s.cip.noEphemeral = false ∧ dramUp s = true ∧ 64 * line + 64 ≤
      s.regN K.dramUserBytes ∧ liveGen s (dramIndex s key.toNat) = some gen ∧ (dramLine s line).data ≠ [] ∧ ((dramLine s
      line).key ≠ dramIndex s key.toNat ∨ (dramLine s line).bad = true)) ∧
    (∃ (s : State) (line : Nat) (key : BitVec 8) (a b : LineRead), s.cip.noEphemeral = false ∧ dramUp s = true ∧ 64 * line + 64
      ≤ s.regN K.dramUserBytes ∧ (liveGen s (dramIndex s key.toNat)).isSome = true ∧ a ≠ .good ∧ b ≠ .good) ∧
    (∃ (s : State) (line : Nat) (key : BitVec 8) (gen : Nat) (a b : LineRead), s.cip.noEphemeral = false ∧ dramUp s = true ∧ 64
      * line + 64 ≤ s.regN K.dramUserBytes ∧ liveGen s (dramIndex s key.toNat) = some gen ∧ (dramLine s line).bad = false ∧
      (dramLine s line).data ≠ [] ∧ (dramLine s line).key = dramIndex s key.toNat ∧ (dramLine s line).gen = gen ∧ (a = .good ∨
      b = .good)) ∧
    (∃ (s : State) (line : Nat) (key : BitVec 8) (data : List Byte) (a b : LineRead) (status : Nat), (a = .good ∨ b = .good) ∧
      (((status = 3 ∧ s.cip.noEphemeral = true) ∨ (status = 6 ∧ s.cip.noEphemeral = false ∧ dramUp s = false) ∨ (status = 2 ∧
      s.cip.noEphemeral = false ∧ dramUp s = true ∧ s.regN K.dramUserBytes < 64 * line + 64) ∨ (status = 3 ∧ s.cip.noEphemeral
      = false ∧ dramUp s = true ∧ 64 * line + 64 ≤ s.regN K.dramUserBytes ∧ liveGen s (dramIndex s key.toNat) = none)))) :=
  ⟨⟨lineUp 0 false [], 63, 0, [], 0, by decide⟩,
   ⟨lineUp 0 false (zeros 64), 0, 0, 0, by decide⟩,
   ⟨lineUp 0 true (zeros 64), 0, 0, 0, by decide⟩,
   ⟨lineUp 0 false (zeros 64), 0, 0, .altered, .altered, by decide⟩,
   ⟨lineUp 0 false (zeros 64), 0, 0, 0, .good, .good, by decide⟩,
   ⟨up, 0, 0, [], .good, .good, 6, by decide⟩⟩

/-- States and operands that meet the hypotheses of DramComesUpInSteps, clause by clause. -/
theorem witness_DramComesUpInSteps :
    (∃ (s : State) (step : Nat), s.reg K.dramState = 1) ∧
    (∃ (s : State) (step : Nat), s.reg K.dramState = 1) ∧
    (∃ s : State, s.reg K.dramState = 2) ∧
    (∃ (s : State) (region : Nat), region ∈ s.mem.remelts) ∧
    (∃ (s : State) (region : Nat), region ∉ s.mem.remelts) ∧
    (∃ (s : State) (good : Bool) (step : Nat), s.reg K.dramState ≠ 1) ∧
    (∃ s : State, s.reg K.dramState ≠ 2) ∧
    (∃ (s : State) (rows : List (Nat × Nat × Bool)), dramUp s = false) ∧
    (∃ s : State, dramUp s = true) ∧
    (∃ (s : State) (row n : Nat), dramUp s = true ∧ 8 ≤ n + tabGet (fun _ => 0) s.mem.rowHits row) ∧
    (∃ (s : State) (row n : Nat), dramUp s = true ∧ n + tabGet (fun _ => 0) s.mem.rowHits row < 8) :=
  ⟨⟨st [(K.dramState, 1)], 0, by decide⟩,
   ⟨st [(K.dramState, 1)], 0, by decide⟩,
   ⟨st [(K.dramState, 2)], by decide⟩,
   ⟨up.modMem fun m => { m with remelts := [0] }, 0, by decide⟩,
   ⟨up, 0, by decide⟩,
   ⟨up, false, 0, by decide⟩,
   ⟨up, by decide⟩,
   ⟨up, [], by decide⟩,
   ⟨st [(K.dramState, 3)], by decide⟩,
   ⟨st [(K.dramState, 3)], 0, 8, by decide⟩,
   ⟨st [(K.dramState, 3)], 0, 7, by decide⟩⟩

/-- States and operands that meet the hypotheses of BanksAndRangesChangeHands, clause by clause. -/
theorem witness_BanksAndRangesChangeHands :
    (∃ (s : State) (r : Req) (b : Fin 16) (owner : BitVec 8), 4 ≤ b.val ∧ Passes s r (K.bankOwner b) owner.toNat {} ∧
      owner.toNat ≠ 0x20 ∧ owner.toNat ≠ 0x40 ∧ bankBusy s b = false ∧ (0x18, b.val) ∉ s.bad ∧ bankFree s b = true ∧
      ((owner.toNat = 0 ∨ (0x10 ≤ owner.toNat ∧ owner.toNat ≤ 0x13) ∨ (0x30 ≤ owner.toNat ∧ owner.toNat ≤ 0x37)))) ∧
    (∃ (s : State) (r : Req) (b : Fin 16) (owner : BitVec 8), 4 ≤ b.val ∧ Passes s r (K.bankOwner b) owner.toNat {} ∧
      owner.toNat ≠ 0x20 ∧ owner.toNat ≠ 0x40 ∧ bankBusy s b = false ∧ (0x18, b.val) ∉ s.bad ∧ bankFree s b = true ∧
      ((owner.toNat = 0 ∨ (0x10 ≤ owner.toNat ∧ owner.toNat ≤ 0x13) ∨ (0x30 ≤ owner.toNat ∧ owner.toNat ≤ 0x37))) ∧ bankOwner s
      b = owner.toNat) ∧
    (∃ (s : State) (r : Req) (b : Fin 16) (owner : BitVec 8) (i : Fin 16) (f : RangeField) (v : BitVec 64), b.val < 4 ∧ i.val <
      4 ∧ Takes s r) ∧
    (∃ (s : State) (b : Fin 16), (s.bankSt b).target = none) ∧
    (∃ (s : State) (b : Fin 16) (owner : Nat), (s.bankSt b).target = some owner ∧ owner ≠ 0x20) ∧
    (∃ (s : State) (b : Fin 16) (g : Fin 8), (s.bankSt b).target = some 0x20 ∧ (s.group g).bank = b ∧ s.reg (K.grpGroupEnable
      g) = 1 ∧ groupState s g = 0 ∧ (∀ h, h < g.val → (s.group h).bank ≠ b) ∧ (s.group g).disable = 0) ∧
    (∃ (s : State) (r : Req) (i : Fin 16) (f : RangeField) (v : BitVec 64), 4 ≤ i.val ∧ Passes s r
      (match f with | .base => K.rangeBase i | .size => K.rangeSize i) v.toNat {} ∧ s.reg K.rangeLockRangeLock ≠ 1 ∧ s.reg
      K.reelEnable = 0 ∧ (f = .base → s.regN (K.rangeSize i) = 0 ∨ v.toNat + s.regN (K.rangeSize i) ≤ s.regN K.dramUserBytes) ∧
      (f = .size → v.toNat = 0 ∨ s.regN (K.rangeBase i) + v.toNat ≤ s.regN K.dramUserBytes)) ∧
    (∃ (s : State) (r : Req), Passes s r K.rangeLockRangeLock 1 {}) :=
  ⟨⟨st [(K.bankOwner 15, 0)], rq, 15, 0x37, by decide, passesNow (by decide), by decide, by decide, by decide, by decide,
     by decide, by decide⟩,
   ⟨st [(K.bankOwner 15, 0x37)], rq, 15, 0x37, by decide, passesNow (by decide), by decide, by decide, by decide, by decide,
     by decide, by decide, by decide⟩,
   ⟨up, rq, 0, 0, 0, .base, 0, by decide, by decide, takesNow (by decide)⟩,
   ⟨up, 0, by decide⟩,
   ⟨up.modBank 4 fun b => { b with target := some 0x10 }, 4, 0x10, by decide⟩,
   ⟨((st [(K.grpGroupEnable 0, 1)]).modBank 8 fun b => { b with target := some 0x20 }).modGrp 0 fun g => { g with bank := 8 },
     8, 0, by decide⟩,
   ⟨st [(K.dramUserBytes, 4096)], rq, 15, .base, 4096, by decide, passesNow (by decide), by decide, by decide, by decide,
     by decide⟩,
   ⟨up, rq, passesNow (by decide)⟩⟩

/-- States and operands that meet the hypotheses of DmaAndReelMoveTheirData, clause by clause. -/
theorem witness_DmaAndReelMoveTheirData :
    (∃ (s : State) (g : Group), (s.reg (K.dmaEnable g) = 0 ∨ s.reg (K.grpGroupEnable g) ≠ 1 ∨ groupState s g = 0 ∨ groupState s
      g = 5 ∨ groupState s g = 6 ∨ (s.group g).full ≠ [])) ∧
    (∃ (s : State) (g : Group), let h := readDram s (s.group g).dmaNext 64 0; let n := 64 * byteAt h.2.2 1; let b := readDram h.1 (s.group g).dmaNext n 0;
      s.reg (K.dmaEnable g) ≠ 0 ∧ s.reg (K.grpGroupEnable g) = 1 ∧ groupState s g ≠ 0 ∧ groupState s g ≠ 5 ∧ groupState s g ≠ 6
      ∧ (s.group g).full = [] ∧ (blocked s (s.group g).dmaNext 64 = true ∨ h.2.1 ≠ 0 ∨ n = 0 ∨ (s.group g).dmaLeft < n ∨
      blocked s (s.group g).dmaNext n = true ∨ b.2.1 ≠ 0 ∨ recordOk b.2.2 (s.regN (K.slotsSlotCount g)) (s.regN
      (K.slotsPathMask g)) g = false)) ∧
    (∃ (s : State) (g : Group), let h := readDram s (s.group g).dmaNext 64 0; let n := 64 * byteAt h.2.2 1; let b := readDram h.1 (s.group g).dmaNext n 0;
      s.reg (K.dmaEnable g) = 1 ∧ s.reg (K.grpGroupEnable g) = 1 ∧ groupState s g ≠ 0 ∧ groupState s g ≠ 5 ∧ groupState s g ≠ 6
      ∧ (s.group g).full = [] ∧ blocked s (s.group g).dmaNext 64 = false ∧ blocked s (s.group g).dmaNext n = false ∧ h.2.1 = 0
      ∧ 0 < n ∧ n < (s.group g).dmaLeft ∧ b.2.1 = 0 ∧ recordOk b.2.2 (s.regN (K.slotsSlotCount g)) (s.regN (K.slotsPathMask g))
      g = true ∧ unitsOf (s.group g).queue + n / 64 ≤ 4096) ∧
    (∃ (s : State) (c : StCmd) (a : Nat), (s.cip.cmds.find? fun c => c.q == 6) = some c ∧ c.op = .reelChunk a) ∧
    (∃ (s : State) (c : StCmd), (s.cip.cmds.find? fun c => c.q == 6) = some c ∧ c.again = false) ∧
    (∃ (s : State) (c : StCmd), (s.cip.cmds.find? fun c => c.q == 6) = some c ∧ c.again = true) ∧
    (∃ (s : State) (good : Bool), (s.cip.cmds.find? fun c => c.q == 6) = none) :=
  ⟨⟨up, 0, by decide⟩,
   ⟨((lineUp 0 false (zeros 64)).setRegs [(K.dmaEnable 0, 1), (K.grpGroupEnable 0, 1), (K.gstGroupState 0, 1)]).modGrp 0 fun g
     => { g with dmaLeft := 128 }, 0, by decide⟩,
   ⟨((lineUp 0 false ([5, 1] ++ zeros 62)).setRegs [(K.dmaEnable 0, 1), (K.grpGroupEnable 0, 1), (K.gstGroupState 0,
     1)]).modGrp 0 fun g => { g with dmaLeft := 128 }, 0, by decide⟩,
   ⟨up.modCip fun c => { c with cmds := [{ sc0 with q := 6, op := .reelChunk 0 }] }, { sc0 with q := 6, op := .reelChunk 0 },
     0, by decide⟩,
   ⟨up.modCip fun c => { c with cmds := [{ sc0 with q := 6, op := .reelChunk 0 }] }, { sc0 with q := 6, op := .reelChunk 0 },
     by decide⟩,
   ⟨up.modCip fun c => { c with cmds := [{ sc0 with q := 6, op := .reelChunk 0, again := true }] },
     { sc0 with q := 6, op := .reelChunk 0, again := true }, by decide⟩,
   ⟨up, false, by decide⟩⟩

/-- States and operands that meet the hypotheses of KeysEnterAndLeaveTheirSlots, clause by clause. -/
theorem witness_KeysEnterAndLeaveTheirSlots :
    (∃ (s : State) (r : Req) (data : List Byte), BytesPass s r K.keyRecord data {} ∧ keyWorkCode s = none ∧ slotCode s (leAt
      data 0 1) = none ∧ leAt data 0 1 ≠ 0 ∧ leAt data 1 1 ≤ 1 ∧ leAt data 2 2 = 0 ∧ (s.keySlot (leAt data 0 1)).gen ≠ 0xFFFF) ∧
    (∃ (s : State) (r : Req) (data : List Byte), BytesPass s r K.keyRecord data {} ∧ keyWorkCode s = none ∧ slotCode s (leAt
      data 0 1) = none ∧ leAt data 0 1 ≠ 0 ∧ leAt data 1 1 ≤ 1 ∧ leAt data 2 2 = 0 ∧ (s.keySlot (leAt data 0 1)).gen = 0xFFFF) ∧
    (∃ (s : State) (r : Req) (v : BitVec 16), Passes s r K.keyGenerate v.toNat {} ∧ keyWorkCode s = none ∧ slotCode s (v.toNat
      % 256) = none ∧ v.toNat % 256 ≠ 0 ∧ (s.keySlot (v.toNat % 256)).gen = 0xFFFF) ∧
    (∃ (s : State) (r : Req) (v : BitVec 16), Passes s r K.keyGenerate v.toNat {} ∧ keyWorkCode s = none ∧ slotCode s (v.toNat
      % 256) = none ∧ v.toNat % 256 ≠ 0 ∧ (s.keySlot (v.toNat % 256)).gen ≠ 0xFFFF) ∧
    (∃ (s : State) (r : Req) (v : BitVec 8), Passes s r K.retire v.toNat {} ∧ s.reg K.transitionState = 0 ∧ s.regN K.retiring =
      0 ∧ ((s.keySlot v.toNat).st = 1 ∨ (s.keySlot v.toNat).st = 2) ∧ s.reg K.rekeyState = 0 ∧ s.reg K.reelEnable = 0 ∧ (∀ c ∈
      s.cip.cmds, c.key ≠ v.toNat ∨ c.atDrive = true)) ∧
    (∃ (s : State) (r : Req) (v : BitVec 8), Passes s r K.retire v.toNat {} ∧ s.reg K.transitionState = 0 ∧ (s.regN K.retiring
      = 0 ∨ s.regN K.retiring = v.toNat)) ∧
    (∃ (s : State) (r : Req) (v : BitVec 8), Passes s r K.retire v.toNat {} ∧ s.reg K.transitionState = 0 ∧ (s.regN K.retiring
      = 0 ∨ s.regN K.retiring = v.toNat) ∧ (s.keySlot v.toNat).st = 3) ∧
    (∃ (s : State) (r : Req) (v : BitVec 8), Passes s r K.retire v.toNat {} ∧ s.reg K.transitionState = 0 ∧ (s.regN K.retiring
      = 0 ∨ s.regN K.retiring = v.toNat) ∧ (s.keySlot v.toNat).st ≠ 0 ∧ (s.keySlot v.toNat).st ≠ 4) ∧
    (∃ s : State, (s.regN K.retiring = 0 ∨ ∃ c ∈ s.cip.cmds, c.key = s.regN K.retiring)) ∧
    (∃ s : State, s.regN K.retiring ≠ 0 ∧ (∀ c ∈ s.cip.cmds, c.key ≠ s.regN K.retiring)) :=
  ⟨⟨up, rq, [1] ++ zeros 63, bytesNow (by decide), by decide, by decide, by decide, by decide, by decide, by decide⟩,
   ⟨up.modKey 1 fun x => { x with gen := 0xFFFF }, rq, [1] ++ zeros 63, bytesNow (by decide), by decide, by decide, by decide,
     by decide, by decide, by decide⟩,
   ⟨up.modKey 1 fun x => { x with gen := 0xFFFF }, rq, 1, passesNow (by decide), by decide, by decide, by decide, by decide⟩,
   ⟨up, rq, 1, passesNow (by decide), by decide, by decide, by decide, by decide⟩,
   ⟨up.modKey 1 fun x => { x with st := 1 }, rq, 1, passesNow (by decide), by decide, by decide, by decide, by decide,
     by decide, by decide⟩,
   ⟨up, rq, 1, passesNow (by decide), by decide, by decide⟩,
   ⟨(up.modKey 1 fun x => { x with st := 3 }).setReg K.retiring 1, rq, 1, passesNow (by decide), by decide, by decide,
     by decide⟩,
   ⟨up.modKey 1 fun x => { x with st := 1 }, rq, 1, passesNow (by decide), by decide, by decide, by decide, by decide⟩,
   ⟨up, by decide⟩,
   ⟨st [(K.retiring, 1)], by decide⟩⟩

/-- States and operands that meet the hypotheses of StorageRequestsBecomeCommands, clause by clause. -/
theorem witness_StorageRequestsBecomeCommands :
    (∃ (s : State) (r : Req) (q : Fin 8) (off : BitVec 32) (data : List Byte), BytesPass s r (K.qData q) data
      { state := queueCode s q } ∧ data.length % 4096 = 0 ∧ off.toNat % 4096 = 0 ∧ dataLba s r q off.toNat + data.length / 4096
      ≤ s.regN K.stoProtectedSectors) ∧
    (∃ (s : State) (r : Req) (q : Fin 8) (off : BitVec 32) (data : List Byte), BytesPass s r (K.qData q) data
      { state := queueCode s q } ∧ data.length % 4096 = 0 ∧ off.toNat % 4096 = 0 ∧ dataLba s r q off.toNat + data.length / 4096
      ≤ s.regN K.stoProtectedSectors ∧ data = []) ∧
    (∃ (s : State) (r : Req) (q : Fin 8) (off : BitVec 32) (len : Nat), Takes s r) ∧
    (∃ (s : State) (r : Req) (q : Fin 8) (off : BitVec 32) (len : Nat), Takes s r ∧ s.mode ≠ .run) ∧
    (∃ (s : State) (r : Req) (q : Fin 8) (off : BitVec 32) (len : Nat), Takes s r ∧ s.mode = .run ∧ queueCode s q = none ∧ (len
      % 4096 ≠ 0 ∨ off.toNat % 4096 ≠ 0 ∨ s.regN K.stoProtectedSectors < dataLba s r q off.toNat + (if len = 0 then 1 else len
      / 4096))) ∧
    (∃ (s : State) (r : Req) (q : Fin 8) (off : BitVec 32) (len : Nat), Takes s r ∧ s.mode = .run ∧ queueCode s q = none ∧ len
      % 4096 = 0 ∧ off.toNat % 4096 = 0 ∧ dataLba s r q off.toNat + (if len = 0 then 1 else len / 4096) ≤ s.regN
      K.stoProtectedSectors) ∧
    (∃ (s : State) (r : Req) (q : Fin 8) (data : List Byte), BytesPass s r (K.qTransfer q) data { state := queueCode s q } ∧
      data.length = 24 ∧ (leAt data 0 1 = 1 ∨ leAt data 0 1 = 2) ∧ leAt data 2 2 = 0 ∧ 0 < leAt data 4 4 ∧ leAt data 4 4 ≤
      65536 ∧ leAt data 16 8 % 4096 = 0 ∧ leAt data 8 8 + leAt data 4 4 ≤ s.regN K.stoProtectedSectors) ∧
    (∃ (s : State) (r : Req) (q : Fin 8) (data : List Byte), BytesPass s r (K.qTransfer q) data { state := queueCode s q } ∧
      data.length = 24 ∧ (leAt data 0 1 = 1 ∨ leAt data 0 1 = 2) ∧ leAt data 2 2 = 0 ∧ 0 < leAt data 4 4 ∧ leAt data 4 4 ≤
      65536 ∧ leAt data 16 8 % 4096 = 0 ∧ leAt data 8 8 + leAt data 4 4 ≤ s.regN K.stoProtectedSectors ∧ blocked s (leAt data
      16 8) (4096 * leAt data 4 4) = true) ∧
    (∃ (s : State) (r : Req) (q : Fin 8), Passes s r (K.qFlush q) 1 { state := queueCode s q }) ∧
    (∃ (s : State) (d : Fin 2) (q : Fin 9) (n : Nat) (c : StCmd) (r : Req), q.val < 7 ∧ (s.cip.cmds.find? fun c => c.q == q.val
      && c.atDrive && (c.code != 0 || decide (c.count ≤ c.done) || c.op == .flush)) = some c ∧ c.op = .read ∧ c.req = some r ∧
      r.org = .sdo ∧ s.mem.rangeQ = [] ∧ s.reg (K.queueEnable q) = 1) ∧
    (∃ (s : State) (d : Fin 2) (q : Fin 9) (n : Nat) (c : StCmd) (r : Req), q.val < 7 ∧ (s.cip.cmds.find? fun c => c.q == q.val
      && c.atDrive && (c.code != 0 || decide (c.count ≤ c.done) || c.op == .flush)) = some c ∧ c.op = .read ∧ c.req = some r ∧
      r.org = .sdo ∧ s.mem.rangeQ = [] ∧ s.reg (K.queueEnable q) = 1 ∧ c.code ≠ 0) ∧
    (∃ (s : State) (d : Fin 2) (q : Fin 9) (n : Nat) (c : StCmd) (r : Req), q.val < 7 ∧ (s.cip.cmds.find? fun c => c.q == q.val
      && c.atDrive && (c.code != 0 || decide (c.count ≤ c.done) || c.op == .flush)) = some c ∧ c.op = .read ∧ c.req = some r ∧
      r.org = .sdo ∧ s.mem.rangeQ = [] ∧ s.reg (K.queueEnable q) = 1 ∧ c.code = 0 ∧ payloadOk c c.data = false) ∧
    (∃ (s : State) (d : Fin 2) (q : Fin 9) (st : BitVec 16) (n : Nat) (c : StCmd), q.val < 7 ∧ st ≠ 0 ∧ (s.cip.cmds.find? fun c
      => c.q == q.val && c.atDrive && (c.code != 0 || decide (c.count ≤ c.done) || c.op == .flush)) = some c) ∧
    (∃ (s : State) (d : Fin 2) (q : Fin 9) (st : BitVec 16) (n : Nat) (c : StCmd), q.val < 7 ∧ st ≠ 0 ∧ (s.cip.cmds.find? fun c
      => c.q == q.val && c.atDrive && (c.code != 0 || decide (c.count ≤ c.done) || c.op == .flush)) = some c ∧ c.again = true) ∧
    (∃ (s : State) (d : Fin 2) (q : Fin 9) (st : BitVec 16) (n : Nat), q.val < 7 ∧ (s.cip.cmds.find? fun c => c.q == q.val &&
      c.atDrive && (c.code != 0 || decide (c.count ≤ c.done) || c.op == .flush)) = none) ∧
    (∃ (s : State) (d : Fin 2) (q : Fin 8) (c : StCmd), s.cip.cmds.find? (isAt q) = some c) ∧
    (∃ (s : State) (d : Fin 2) (q : Fin 8), s.cip.cmds.find? (isAt q) = none) :=
  ⟨⟨sto [], rq, 0, 0, zeros 4096, bytesNow (by decide +kernel), by decide +kernel, by decide +kernel, by decide +kernel⟩,
   ⟨sto [], rq, 0, 0, [], bytesNow (by decide +kernel), by decide +kernel, by decide +kernel, by decide +kernel,
     by decide +kernel⟩,
   ⟨up, rq, 0, 0, 0, takesNow (by decide)⟩,
   ⟨{ sto [] with mode := .limp }, rq, 0, 0, 0, takesNow (by decide), by decide⟩,
   ⟨sto [], rq, 0, 0, 4095, takesNow (by decide), by decide, by decide, by decide⟩,
   ⟨sto [], rq, 0, 0, 4096, takesNow (by decide), by decide, by decide, by decide, by decide, by decide⟩,
   ⟨sto [], rq, 0, [1, 0, 0, 0, 1, 0, 0, 0] ++ zeros 16, bytesNow (by decide +kernel), by decide +kernel, by decide +kernel,
     by decide +kernel, by decide +kernel, by decide +kernel, by decide +kernel, by decide +kernel⟩,
   ⟨(sto []).setReg K.dramUserBytes 4095, rq, 0, [1, 0, 0, 0, 1, 0, 0, 0] ++ zeros 16, bytesNow (by decide +kernel),
     by decide +kernel, by decide +kernel, by decide +kernel, by decide +kernel, by decide +kernel, by decide +kernel,
     by decide +kernel, by decide +kernel⟩,
   ⟨sto [], rq, 0, passesNow (by decide)⟩,
   ⟨sto [{ stc with req := some rq, done := 1, atDrive := true }], 0, 0, 0,
     { stc with req := some rq, done := 1, atDrive := true }, rq, by decide⟩,
   ⟨sto [{ stc with req := some rq, done := 1, atDrive := true, code := 0x06060000 }], 0, 0, 0,
     { stc with req := some rq, done := 1, atDrive := true, code := 0x06060000 }, rq, by decide⟩,
   ⟨sto [{ stc with req := some rq, done := 1, atDrive := true, crc := some 1 }], 0, 0, 0,
     { stc with req := some rq, done := 1, atDrive := true, crc := some 1 }, rq, by decide⟩,
   ⟨sto [{ stc with req := some rq, done := 1, atDrive := true }], 0, 0, 1, 0,
     { stc with req := some rq, done := 1, atDrive := true }, by decide⟩,
   ⟨sto [{ stc with req := some rq, done := 1, atDrive := true, again := true }], 0, 0, 1, 0,
     { stc with req := some rq, done := 1, atDrive := true, again := true }, by decide⟩,
   ⟨up, 0, 0, 0, 0, by decide⟩,
   ⟨sto [{ stc with req := some rq, done := 1, atDrive := true }], 0, 0,
     { stc with req := some rq, done := 1, atDrive := true }, by decide⟩,
   ⟨up, 0, 0, by decide⟩⟩

/-- States and operands that meet the hypotheses of SectorsKeepTheirData, clause by clause. -/
theorem witness_SectorsKeepTheirData :
    (∃ (s : State) (q : Fin 8) (c : StCmd) (d : List Byte), nextCmd s q true = some c ∧ storageRuns s = true ∧ dramUp s = true ∧ c.op = .write d ∧ payloadOk c d = true ∧ keyServes s c.key c.gen = true ∧ (s.region ((c.lba + c.done) / 2 ^ 18)).bound = some (c.key, c.gen) ∧ (s.region ((c.lba + c.done) / 2 ^ 18)).ro = false ∧ s.cip.active = none ∧ let i := issue (s.region ((c.lba + c.done) / 2 ^ 18)) (s.sector (c.lba + c.done)) false;
      i.1 < 2 ^ 32 - 1) ∧
    (∃ (s : State) (q : Fin 8) (c : StCmd) (d : List Byte), nextCmd s q true = some c ∧ storageRuns s = true ∧ dramUp s = true
      ∧ c.op = .write d ∧ payloadOk c d = false) ∧
    (∃ (s : State) (q : Fin 8) (c : StCmd) (how : SectorRead), nextCmd s q false = some c ∧ storageRuns s = true ∧ dramUp s =
      true ∧ c.op = .read ∧ ((how = .good ∨ (how = .oneCopy ∧ s.cip.layout = 3))) ∧ keyServes s c.key c.gen = true ∧ (s.region
      ((c.lba + c.done) / 2 ^ 18)).bound = some (c.key, c.gen) ∧ s.cip.active = none ∧ (s.sector (c.lba + c.done)).counter ≠ 0
      ∧ (s.sector (c.lba + c.done)).poisoned = false ∧ (s.sector (c.lba + c.done)).epoch = (s.region ((c.lba + c.done) / 2 ^
      18)).epoch ∧ (s.sector (c.lba + c.done)).key = c.key ∧ (s.sector (c.lba + c.done)).gen = c.gen) ∧
    (∃ (s : State) (q : Fin 8) (c : StCmd) (how : SectorRead), nextCmd s q false = some c ∧ storageRuns s = true ∧ dramUp s =
      true ∧ c.op = .read ∧ keyServes s c.key c.gen = true ∧ (s.region ((c.lba + c.done) / 2 ^ 18)).bound = some (c.key, c.gen)
      ∧ (s.sector (c.lba + c.done)).counter ≠ 0 ∧ (((s.sector (c.lba + c.done)).poisoned = true ∨ how = .altered ∨ (how =
      .oneCopy ∧ s.cip.layout ≠ 3))) ∧ how ≠ .zeroed) ∧
    (∃ (s : State) (q : Fin 8) (c : StCmd) (how : SectorRead), nextCmd s q false = some c ∧ storageRuns s = true ∧ dramUp s =
      true ∧ c.op = .read ∧ keyServes s c.key c.gen = true ∧ (s.region ((c.lba + c.done) / 2 ^ 18)).bound = none) ∧
    (∃ (s : State) (q : Fin 8) (c : StCmd) (how : SectorRead), storageRuns s = true ∧ dramUp s = false) ∧
    (∃ (s : State) (q : Fin 8) (c : StCmd) (how : SectorRead), storageRuns s = true ∧ dramUp s = false ∧ nextCmd s q true =
      some c) ∧
    (∃ (s : State) (q : Fin 8) (c : StCmd) (how : SectorRead), storageRuns s = true ∧ dramUp s = false ∧ nextCmd s q false =
      some c) :=
  ⟨⟨sto [{ stc with op := .write (zeros 4096) }], 0, { stc with op := .write (zeros 4096) }, zeros 4096, rfl, rfl, rfl, rfl,
     rfl, rfl, rfl, rfl, rfl, by decide⟩,
   ⟨sto [{ stc with op := .write [], crc := some 1 }], 0, { stc with op := .write [], crc := some 1 }, [], by decide⟩,
   ⟨sto [stc], 0, stc, .good, by decide⟩,
   ⟨sto [stc], 0, stc, .altered, by decide⟩,
   ⟨(sto [stc]).modRegion 0 fun _ => {}, 0, stc, .good, by decide⟩,
   ⟨(sto []).setReg K.dramState 4, 0, sc0, .good, by decide⟩,
   ⟨(sto [{ stc with op := .write (zeros 4096) }]).setReg K.dramState 4, 0, { stc with op := .write (zeros 4096) }, .good, rfl,
     rfl, rfl⟩,
   ⟨(sto [stc]).setReg K.dramState 4, 0, stc, .good, by decide⟩⟩

/-- States and operands that meet the hypotheses of StorageComesUpAndRemelts, clause by clause. -/
theorem witness_StorageComesUpAndRemelts :
    (∃ (s : State) (n : Nat), s.reg K.storageState = 1 ∧ s.cip.layout = 1 ∧ s.cip.active = none ∧ s.reg K.rekeyState ≠ 3) ∧
    (∃ s : State, s.reg K.storageState = 1 ∧ s.cip.layout ≠ 0) ∧
    (∃ (s : State) (d0 d1 : Option Nat), s.reg K.storageState = 1 ∧ s.cip.layout = 3 ∧ s.cip.active = none ∧ s.reg K.rekeyState
      ≠ 3 ∧ d0.isSome ≠ d1.isSome) ∧
    (∃ (s : State) (d0 d1 : Option Nat), s.reg K.storageState ≠ 1) ∧
    (∃ (s : State) (d : Fin 2) (st : BitVec 16) (n : Nat) (r : Req), s.cip.rebuild = some r ∧ driveState s d = 3) ∧
    (∃ (s : State) (d : Fin 2) (st : BitVec 16) (n : Nat) (r : Req), s.cip.rebuild = some r ∧ driveState s d = 3 ∧ st ≠ 0) ∧
    (∃ (s : State) (d : Fin 2) (st : BitVec 16) (n : Nat) (r : Req), s.cip.rebuild = some r ∧ driveState s d = 3 ∧ s.regN
      K.stoRebuildDone + n < s.regN K.stoProtectedSectors) ∧
    (∃ (s : State) (r : Req), Passes s r K.stoRebuild 1 {} ∧ s.cip.layout = 3 ∧ s.reg K.storageState = 3 ∧ s.cip.rebuild = none
      ∧ driveState s 0 = 1 ∧ driveState s 1 ≠ 1) ∧
    (∃ (s : State) (r : Nat) (rest : List Nat), s.cip.active = none ∧ storageRuns s = true ∧ s.cip.rebuild = none ∧
      s.power.step = 0 ∧ s.cip.remeltQ = r :: rest) ∧
    (∃ (s : State) (r : Nat) (rest : List Nat), s.cip.active = none ∧ storageRuns s = true ∧ s.cip.rebuild = none ∧
      s.power.step = 0 ∧ s.cip.remeltQ = [] ∧ s.cip.rekeyQ = r :: rest ∧ s.reg K.rekeyState = 1) ∧
    (∃ s : State, ((s.cip.active.isSome = true ∨ storageRuns s = false ∨ s.cip.rebuild.isSome = true ∨ s.power.step ≠ 0 ∨
      (s.cip.remeltQ = [] ∧ (s.cip.rekeyQ = [] ∨ s.reg K.rekeyState ≠ 1))))) ∧
    (∃ (s : State) (bad : List Nat), (s.cip.active = none ∨ storageRuns s = false)) ∧
    (∃ (s : State) (r : Nat) (cs bad : List Nat), s.cip.active = some (r, cs) ∧ storageRuns s = true ∧ cs.getD (cs.filter (· ==
      2)).length 0 = 1) ∧
    (∃ (s : State) (r : Nat) (cs bad : List Nat), s.cip.active = some (r, cs) ∧ storageRuns s = true ∧ cs.getD (cs.filter (· ==
      2)).length 0 = 1 ∧ (cs.filter (· == 2)).length ≠ 15 ∧ s.power.step ≠ 0) ∧
    (∃ (s : State) (r : Nat) (cs bad : List Nat), s.cip.active = some (r, cs) ∧ storageRuns s = true ∧ cs.getD (cs.filter (· ==
      2)).length 0 = 1 ∧ (cs.filter (· == 2)).length = 15) ∧
    (∃ (s : State) (r : Req), Passes s r K.rekeyControl 1 {} ∧ s.reg K.rekeyState = 0 ∧ (s.keySlot (s.regN K.rekeyIndex)).st ≠
      3) ∧
    (∃ (s : State) (r : Req), Passes s r K.rekeyControl 2 {}) ∧
    (∃ (s : State) (r : Req), Passes s r K.rekeyControl 3 {}) :=
  ⟨⟨((up).modCip fun f => { f with layout := 1 }).setRegs [(K.storageState, 1)], 0, by decide⟩,
   ⟨((up).modCip fun f => { f with layout := 1 }).setRegs [(K.storageState, 1)], by decide⟩,
   ⟨((up).modCip fun f => { f with layout := 3 }).setRegs [(K.storageState, 1)], some 0, none, by decide⟩,
   ⟨up, none, none, by decide⟩,
   ⟨((up).modCip fun f => { f with rebuild := some rq }).setRegs [(K.stoDriveState, 3)], 0, 0, 0, rq, by decide⟩,
   ⟨((up).modCip fun f => { f with rebuild := some rq }).setRegs [(K.stoDriveState, 3)], 0, 1, 0, rq, by decide⟩,
   ⟨((up).modCip fun f => { f with rebuild := some rq }).setRegs [(K.stoDriveState, 3), (K.stoProtectedSectors, 8)], 0, 0, 7,
     rq, by decide⟩,
   ⟨((up).modCip fun f => { f with layout := 3 }).setRegs [(K.storageState, 3), (K.stoDriveState, 1)], rq, passesNow
     (by decide), by decide, by decide, by decide, by decide, by decide⟩,
   ⟨((up).modCip fun f => { f with remeltQ := [0] }).setRegs [(K.storageState, 2)], 0, [], by decide⟩,
   ⟨((up).modCip fun f => { f with rekeyQ := [0] }).setRegs [(K.storageState, 2), (K.rekeyState, 1)], 0, [], by decide⟩,
   ⟨up, by decide⟩,
   ⟨up, [], by decide⟩,
   ⟨((up).modCip fun f => { f with active := some (0, [1]) }).setRegs [(K.storageState, 2)], 0, [1], [], by decide⟩,
   ⟨{ ((up).modCip fun f => { f with active := some (0, [1]) }).setRegs [(K.storageState, 2)] with power := { up.power with step := 1 } },
     0, [1], [], by decide⟩,
   ⟨((up).modCip fun f => { f with active := some (0, (List.replicate 15 2 ++ [1])) }).setRegs [(K.storageState, 2)], 0,
     (List.replicate 15 2 ++ [1]), [], by decide⟩,
   ⟨st [(K.storageState, 2)], rq, passesNow (by decide), by decide, by decide⟩,
   ⟨up, rq, passesNow (by decide)⟩,
   ⟨up, rq, passesNow (by decide)⟩⟩

/-- States and operands that meet the hypotheses of CheckUnitsRunTheirChains, clause by clause. -/
theorem witness_CheckUnitsRunTheirChains :
    (∃ (s : State) (r : Req) (k : Fin 8) (v : BitVec 8), 2 ≤ k.val ∧ Passes s r (K.ckPreset k) v.toNat {} ∧ s.reg (K.ckState k)
      ≠ 1) ∧
    (∃ (s : State) (r : Req) (k : Fin 8) (v : BitVec 8), 2 ≤ k.val ∧ Passes s r (K.ckStart k) v.toNat {} ∧ s.reg (K.ckEnable k)
      = 1 ∧ (0x1B, k.val) ∉ s.bad ∧ s.reg (K.ckState k) ≠ 1) ∧
    (∃ (s : State) (r : Req) (k : Fin 8) (v : BitVec 8), k.val < 2 ∧ Takes s r) ∧
    (∃ (s : State) (k : Fin 8), (s.reg (K.ckState k) ≠ 1 ∨ s.test.late = true)) ∧
    (∃ (s u : State) (k : Fin 8) (st : Nat) (d : List Byte), s.reg (K.ckState k) = 1 ∧ s.test.late = false ∧ st ≠ 0 ∧ ckRead s
      (s.regN (K.ckChainNext k)) 32 (s.regN (K.ckChainKey k)) = (u, st, d)) ∧
    (∃ (s u v : State) (k : Fin 8) (d data : List Byte), let a := s.regN (K.ckChainNext k); let w := s.regN (K.ckWidth k); let fl := byteAt d 21; let start := if fl.testBit 1 then s.regN (K.ckInit k) else s.regN (K.ckRunning k) % 2 ^ w; let reg := crcBytes w (s.regN (K.ckPoly k)) ((s.regN (K.ckReflect k)).testBit 0) start (data.take (leAt d 16 4)); let res := if fl.testBit 2 then checkOf w ((s.regN (K.ckReflect k)).testBit 1) (s.regN (K.ckXorout k)) reg else reg;
      s.reg (K.ckState k) = 1 ∧ s.test.late = false ∧ s.reg (K.ckEnable k) = 1 ∧ ckRead s a 32 (s.regN (K.ckChainKey k)) = (u,
      0, d) ∧ ckFormatOk d ((w + 7) / 8) = true ∧ byteAt d 20 = 0 ∧ fl.testBit 4 = false ∧ fl.testBit 3 = false ∧ ckRead u
      (leAt d 0 8) (leAt d 16 4) (byteAt d 22) = (v, 0, data) ∧ (ckWrite ((v.setReg (K.ckRunning k) reg).setReg (K.ckBytes k)
      ((s.regN (K.ckBytes k) + leAt d 16 4) % 2 ^ 64 : Nat)) (a + 23) (s.regN (K.ckChainKey k)) (leBytes 1 1 ++ leBytes 8
      res)).2 = 0) :=
  ⟨⟨up, rq, 2, 1, by decide, passesNow (by decide), by decide⟩,
   ⟨up, rq, 7, 1, by decide, passesNow (by decide), by decide, by decide, by decide⟩,
   ⟨up, rq, 0, 0, by decide, takesNow (by decide)⟩,
   ⟨up, 0, by decide⟩,
   ⟨st [(K.ckState 2, 1)], st [(K.ckState 2, 1)], 2, 6, zeros 32, by decide⟩,
   ⟨chainState, chainHead.1, chainData.1, 2, chainHead.2.2, chainData.2.2, by decide +kernel⟩⟩

/-- States and operands that meet the hypotheses of SignedRequestsActWhenTheyVerify, clause by clause. -/
theorem witness_SignedRequestsActWhenTheyVerify :
    (∃ (s : State) (r : Req) (data : List Byte), BytesPass s r K.sreqSignedRequest (overwrite data 4 (leBytes 1 1)) {} ∧
      StoreReady s) ∧
    (∃ (s : State) (r : Req) (data : List Byte), BytesPass s r K.sreqSignedRequest (overwrite data 4 (leBytes 1 2)) {} ∧
      StoreReady s) ∧
    (∃ (s : State) (r : Req) (data : List Byte), BytesPass s r K.sreqSignedRequest (overwrite data 4 (leBytes 1 3)) {} ∧
      StoreReady s) ∧
    (∃ (s : State) (r : Req) (data : List Byte), BytesPass s r K.sreqSignedRequest (overwrite data 4 (leBytes 1 4)) {} ∧
      StoreReady s) ∧
    (∃ (s : State) (r : Req) (data : List Byte), BytesPass s r K.sreqSignedRequest (overwrite data 4 (leBytes 1 5)) {} ∧
      StoreReady s) ∧
    (∃ (s : State) (r : Req) (data : List Byte), BytesPass s r K.sreqSignedRequest (overwrite data 4 (leBytes 1 5)) {} ∧
      StoreReady s ∧ s.reg K.islandState = 4 ∧ (s.reg K.islFaultCause = 3 ∨ s.reg K.islFaultCause = 4)) :=
  ⟨⟨up, rq, [], bytesNow (by decide), by decide⟩,
   ⟨up, rq, [], bytesNow (by decide), by decide⟩,
   ⟨up, rq, [], bytesNow (by decide), by decide⟩,
   ⟨up, rq, [], bytesNow (by decide), by decide⟩,
   ⟨up, rq, [], bytesNow (by decide), by decide⟩,
   ⟨st [(K.islandState, 4), (K.islFaultCause, 4)], rq, [], bytesNow (by decide), by decide, by decide, by decide⟩⟩

set_option maxRecDepth 100000 in
/-- States and operands that meet the hypotheses of JobsMeasureAndEnd, clause by clause. -/
theorem witness_JobsMeasureAndEnd :
    (∃ (s : State) (r : Req), Passes s r K.jobCommand 1 {} ∧ s.reg K.islandState = 2 ∧ s.isl.job = none ∧ islUnsealed s < 2048
      ∧ (islInput s).2.2 = true ∧ (ownParam s 8 ≠ 1 ∨ s.reg K.rtcValid ≠ 0) ∧ 128 ≤ s.regN K.logFree) ∧
    (∃ (s : State) (r : Req), Passes s r K.jobCommand 2 {}) ∧
    (∃ (s : State) (r : Req) (j : IslJob), Passes s r K.jobCommand 2 {} ∧ s.isl.job = some j ∧ j.mode ≠ 0) ∧
    (∃ (s : State) (r : Req) (j : IslJob), Passes s r K.jobCommand 2 {} ∧ s.isl.job = some j ∧ j.mode = 0) ∧
    (∃ (s : State) (k : Channel) (rising : Bool) (at' : Nat) (interp : Int) (j : IslJob), s.isl.job = some j ∧ j.mode = 1 ∧
      ownParam s 5 = (k.val + (if rising then 0 else 0x80) : Nat) ∧ islUnsealed s + 1 < 2048) ∧
    (∃ (s : State) (k : Channel) (rising : Bool) (at' : Nat) (interp : Int), (∀ j, s.isl.job = some j → j.mode ≠ 1 ∨ ownParam s
      5 ≠ (k.val + (if rising then 0 else 0x80) : Nat))) ∧
    (∃ (s : State) (k : Channel) (rising : Bool) (at' : Nat) (interp : Int) (j : IslJob), s.isl.job = some j ∧ j.mode = 1 ∧
      ownParam s 5 = (k.val + (if rising then 0 else 0x80) : Nat) ∧ 2048 ≤ islUnsealed s) ∧
    (∃ s : State, ((∀ j, s.isl.job = some j → j.mode ≠ 0 ∧ j.piece = none))) ∧
    (∃ (s : State) (j : IslJob) (v0 : Int), s.isl.job = some j ∧ (if j.mode = 0 then some j.start else j.piece) = some v0) :=
  ⟨⟨(isl0 fun f => { f with am0 := {} }).setRegs [(K.islandState, 2), (K.logFree, 128), (K.rtcValid, 1)], rq, passesNow
     (by decide), by decide, by decide, by decide, by decide, by decide, by decide⟩,
   ⟨up, rq, passesNow (by decide)⟩,
   ⟨isl0 fun f => { f with job := some job0 }, rq, job0, passesNow (by decide), by decide, by decide⟩,
   ⟨isl0 fun f => { f with job := some { job0 with mode := 0 } }, rq, { job0 with mode := 0 }, passesNow (by decide),
     by decide, by decide⟩,
   ⟨isl0 fun f => { f with job := some job0, params := [(5, 31)] }, 31, true, 0, 0, job0, by decide⟩,
   ⟨up, 0, false, 0, 0, by decide⟩,
   ⟨isl0 fun f => { f with job := some job0, params := [(5, 31)], recs := List.replicate 2048 ⟨1, [], 0⟩ }, 31, true, 0, 0,
     job0, by decide +kernel⟩,
   ⟨up, by decide⟩,
   ⟨isl0 fun f => { f with job := some { job0 with piece := some 3 } }, { job0 with piece := some 3 }, 3, by decide⟩⟩

/-- States and operands that meet the hypotheses of RecordsAreSealedReadAndAcknowledged, clause by clause. -/
theorem witness_RecordsAreSealedReadAndAcknowledged :
    (∃ s : State, s.isl.recs ≠ [] ∧ LogReady s) ∧
    (∃ s : State, s.isl.recs ≠ [] ∧ s.isl.recs.length ≤ 4 ∧ LogReady s) ∧
    (∃ s : State, (s.isl.recs = [] ∨ s.reg K.logFree = 0 ∨ flashServes s = false)) ∧
    (∃ s : State, (∀ p rest, s.isl.prog = p :: rest → p.done = false)) ∧
    (∃ (s : State) (p : IslPage) (rest : List IslPage) (rs : List IslRec) (x : IslRec), s.isl.prog = p :: rest ∧ p.done = true
      ∧ p.recs = rs ++ [x]) ∧
    (∃ (s : State) (p : IslPage) (rest : List IslPage) (rs : List IslRec) (x : IslRec), s.isl.prog = p :: rest ∧ p.done = true
      ∧ p.recs = rs ++ [x] ∧ byteOf x.data 4 = 3) ∧
    (∃ (s : State) (r : Req) (data : List Byte), BytesPass s r K.logExportAck data {} ∧ s.isl.pos / 512 ≤ s.isl.tail) ∧
    (∃ (s : State) (r : Req), Takes s r) :=
  ⟨⟨(isl0 fun f => { f with recs := [⟨1, [], 0⟩] }).setRegs [(K.logFree, 18)], by decide⟩,
   ⟨(isl0 fun f => { f with recs := [⟨1, [], 0⟩] }).setRegs [(K.logFree, 18)], by decide⟩,
   ⟨up, by decide⟩,
   ⟨up, nofun⟩,
   ⟨isl0 fun f => { f with prog := [{ page := 0, recs := [⟨1, [], 0⟩], done := true }] },
     { page := 0, recs := [⟨1, [], 0⟩], done := true }, [], [], ⟨1, [], 0⟩, by decide⟩,
   ⟨isl0 fun f => { f with prog := [{ page := 0, recs := [⟨1, zeros 4 ++ [3] ++ zeros 123, 0⟩], done := true }] },
     { page := 0, recs := [⟨1, zeros 4 ++ [3] ++ zeros 123, 0⟩], done := true }, [], [], ⟨1, zeros 4 ++ [3] ++ zeros 123, 0⟩,
     by decide⟩,
   ⟨up, rq, zeros 36, bytesNow (by decide +kernel), by decide +kernel⟩,
   ⟨up, rq, takesNow (by decide)⟩⟩

/-- States and operands that meet the hypotheses of IslandStartsAndItsSeal, clause by clause. -/
theorem witness_IslandStartsAndItsSeal :
    (∃ (s : State) (r : Req) (off : BitVec 32) (data : List Byte), BytesPass s r K.sreqFwImage data {} ∧ s.reg K.islAseal ≠ 0 ∧
      0 < data.length ∧ data.length % 512 = 0 ∧ off.toNat + data.length ≤ 786432) :=
  ⟨awake (st [(K.islAseal, 1)]), rq, 0, zeros 512, bytesNow (by decide +kernel), by decide +kernel, by decide +kernel,
    by decide +kernel, by decide +kernel⟩

/-- States and operands that meet the hypotheses of CrystalsAndPllsFollowTheirClocks, clause by clause. -/
theorem witness_CrystalsAndPllsFollowTheirClocks :
    (∃ (s : State) (x : Fin 2), crystalGood s x = true) ∧
    (∃ (s : State) (x : Fin 2), crystalGood s x = true ∧ s.reg K.xoInUse = (x.val : Int) ∧ crystalGood s (1 - x.val) = true) ∧
    (∃ s : State, s.mode = .run ∧ s.clock.lost = false ∧ s.power.low = 0 ∧ s.reg K.xoInUse ≠ 2) ∧
    (∃ (s : State) (waited : Bool), s.mode = .run ∧ s.clock.lost = true ∧ (waited || !anyGroupMoves s) = true) ∧
    (∃ (s : State) (r : Req) (v : BitVec 8), Passes s r K.xoSelect v.toNat {} ∧ (v.toNat < 2 → crystalGood s v.toNat = true)) ∧
    (∃ (s : State) (r : Req) (v : BitVec 8), Passes s r K.xoSelect v.toNat {} ∧ (v.toNat < 2 → crystalGood s v.toNat = true) ∧
      s.reg K.xoInUse = v.toNat) ∧
    (∃ (s : State) (x : Fin 2), crystalGood s x = false) ∧
    (∃ s : State, (s.mode ≠ .run ∨ s.clock.lost = true ∨ s.power.low ≠ 0 ∨ s.reg K.xoInUse = 2)) ∧
    (∃ (s : State) (waited : Bool), ((s.mode ≠ .run ∨ s.clock.lost = false ∨ (waited = false ∧ anyGroupMoves s = true)))) ∧
    (∃ (s : State) (p : Fin 8) (temp : Int) (band : Nat), (s.reg (K.pllState p) = 3 ∨ s.power.low ≠ 0)) ∧
    (∃ (s : State) (p : Fin 8) (again : Bool), s.reg (K.pllState p) ≠ 3) ∧
    (∃ (s : State) (r : Req) (p : Fin 8) (e : PllField) (o : Fin 7) (v : BitVec 16), Passes s r (pllKey p e o) v.toNat {} ∧
      (sysOuts p).length ≤ o.val ∧ outServes s (8 * p.val + o.val) 16 = false ∧ outAwaited s (8 * p.val + o.val) = false) ∧
    (∃ (s : State) (p : Fin 8) (temp : Int) (band : Nat), s.reg (K.pllState p) ≠ 3 ∧ s.power.low = 0) ∧
    (∃ (s : State) (p : Fin 8) (again : Bool), s.reg (K.pllState p) = 3 ∧ (again = false ∨ sysOuts p = [] ∨ s.mode = .safe)) ∧
    (∃ (s : State) (p : Fin 8), s.reg (K.pllState p) = 3 ∧ sysOuts p ≠ [] ∧ s.mode ≠ .safe) :=
  ⟨⟨st [(K.xoHealth, 3)], 1, by decide⟩,
   ⟨st [(K.xoHealth, 3), (K.xoInUse, 1)], 1, by decide⟩,
   ⟨up, by decide⟩,
   ⟨{ up with clock := { up.clock with lost := true } }, false, by decide⟩,
   ⟨st [(K.xoHealth, 2)], rq, 1, passesNow (by decide), by decide⟩,
   ⟨st [(K.xoHealth, 2), (K.xoInUse, 1)], rq, 1, passesNow (by decide), by decide, by decide⟩,
   ⟨st [(K.xoHealth, 0)], 1, by decide⟩,
   ⟨st [(K.xoInUse, 2)], by decide⟩,
   ⟨up, false, by decide⟩,
   ⟨st [(K.pllState 0, 3)], 0, 0, 0, by decide⟩,
   ⟨up, 0, false, by decide⟩,
   ⟨up, rq, 0, .div, 1, 16, passesNow (by decide), by decide, by decide, by decide⟩,
   ⟨up, 0, 0, 0, by decide⟩,
   ⟨st [(K.pllState 0, 3)], 0, false, by decide⟩,
   ⟨st [(K.pllState 7, 3)], 7, by decide⟩⟩

/-- States and operands that meet the hypotheses of RtcCountsAndIsSet, clause by clause. -/
theorem witness_RtcCountsAndIsSet :
    (∃ (s : State) (r : Req) (v : BitVec 64), Passes s r K.rtcSeconds v.toNat {} ∧ v.toNat ≤ rtcLast) ∧
    (∃ (s : State) (r : Req) (v : BitVec 64), Passes s r K.rtcSeconds v.toNat {} ∧ v.toNat ≤ rtcLast ∧ islSealed s = true) ∧
    (∃ (s : State) (r : Req) (data : List Byte) (n : Nat), BytesPass s r K.rtcCalendar data {} ∧ data.getD 7 0 = 0 ∧
      calendarSeconds data = some n) ∧
    (∃ s : State, s.regN K.rtcSeconds < rtcLast) ∧
    (∃ s : State, rtcLast ≤ s.regN K.rtcSeconds ∧ s.reg K.rtcValid = 1) ∧
    (∃ s : State, rtcLast ≤ s.regN K.rtcSeconds ∧ s.reg K.rtcValid ≠ 1) :=
  ⟨⟨up, rq, BitVec.ofNat 64 rtcLast, passesNow (by decide), by decide⟩,
   ⟨st [(K.islandState, 2)], rq, BitVec.ofNat 64 rtcLast, passesNow (by decide), by decide, by decide⟩,
   ⟨up, rq, leBytes 2 2000 ++ [1, 1, 0, 0, 0, 0], 0, bytesNow (by decide), by decide, by decide⟩,
   ⟨st [(K.rtcSeconds, rtcLast - 1)], by decide⟩,
   ⟨st [(K.rtcSeconds, rtcLast), (K.rtcValid, 1)], by decide⟩,
   ⟨st [(K.rtcSeconds, rtcLast), (K.rtcValid, 0)], by decide⟩⟩

/-- States and operands that meet the hypotheses of SelfTestAndServiceHours, clause by clause. -/
theorem witness_SelfTestAndServiceHours :
    (∃ (s : State) (found : List Finding) (time : BitVec 32), s.test.late = true ∧ (∀ k : Fin 8, (0x1B, k.val) ∉ s.bad) ∧ (∀ f
      ∈ found, lateBlock (entryOf f) = false)) ∧
    (∃ (s : State) (u : Fin 8) (index : BitVec 16) (time : BitVec 32), s.test.late = true ∧ (∀ k : Fin 8, (0x1B, k.val) ∉
      s.bad) ∧ 2 ≤ u.val) ∧
    (∃ (s : State) (u : Fin 8) (index : BitVec 16) (time : BitVec 32), s.test.late = true ∧ (∀ k : Fin 8, (0x1B, k.val) ∉
      s.bad) ∧ 2 ≤ u.val ∧ s.reg (K.ckState u) = 1) ∧
    (∃ (s : State) (found : List Finding) (time : BitVec 32), s.test.late = false) ∧
    (∃ (s : State) (r : Req) (v : BitVec 8), Passes s r K.wrapNext v.toNat {}) ∧
    (∃ (s : State) (r : Req), Passes s r K.safeStSafeReset 1 {}) ∧
    (∃ s : State, sysOn s = true) ∧
    (∃ s : State, sysOn s = false) :=
  ⟨⟨{ up with test := { up.test with late := true } }, [], 0, by decide⟩,
   ⟨{ up with test := { up.test with late := true } }, 2, 0, 0, by decide⟩,
   ⟨({ up with test := { up.test with late := true } }).setReg (K.ckState 2) 1, 2, 0, 0, by decide⟩,
   ⟨up, [], 0, by decide⟩,
   ⟨up, rq, 0, passesNow (by decide)⟩,
   ⟨up, rq, passesNow (by decide)⟩,
   ⟨up, by decide⟩,
   ⟨{ up with power := { up.power with low := 3 } }, by decide⟩⟩

/-- States and operands that meet the hypotheses of TransitionsBlowTheirFuses, clause by clause. -/
theorem witness_TransitionsBlowTheirFuses :
    (∃ (s : State) (r : Req) (data : List Byte) (margin : Fin 32), Takes s r) ∧
    (∃ s : State, s.life.trans = true) ∧
    (∃ s : State, s.life.trans = false) :=
  ⟨⟨up, rq, [], 0, takesNow (by decide)⟩,
   ⟨{ up with life := { up.life with trans := true } }, by decide⟩,
   ⟨up, by decide⟩⟩

/-- States and operands that meet the hypotheses of DebugBackupKeyAndTamper, clause by clause. -/
theorem witness_DebugBackupKeyAndTamper :
    (∃ (s : State) (r : Req), Takes s r) ∧
    (∃ (s : State) (r : Req) (d : List Byte), Takes s r ∧ (((lifeState s ≠ 3 ∧ lifeState s ≠ 4 ∧ lifeState s ≠ 5) ∨ (BytesPass
      s r K.dbgDebugGrant d {} ∧ keyWorkCode s = none)))) ∧
    (∃ (s : State) (r : Req), Passes s r K.dbgDebugClose 1 {}) ∧
    (∃ (s : State) (r : Req) (data : List Byte), BytesPass s r K.bkRecord data {} ∧ lifeState s = 4 ∧ keyWorkCode s = none ∧
      s.cip.bk = none ∧ zeroRun data 0 4 = true) ∧
    (∃ (s : State) (r : Req), Passes s r K.bkClear 1 {}) ∧
    (∃ (s : State), sysOn s = true ∧ s.power.low = 0) ∧
    (∃ (s : State), sysOn s = false) ∧
    (∃ (s : State) (r : Req) (high : Bool), Passes s r K.tamperClear 1 {}) ∧
    (∃ (s : State) (r : Req) (high : Bool), Passes s r K.tamperClear 1 {} ∧ s.reg K.tamperState ≠ 0 ∧ (high = false ∨ s.reg
      K.tamperState = 1)) :=
  ⟨⟨up, rq, takesNow (by decide)⟩,
   ⟨{ up with life := { up.life with log := [0x2D] } }, rq, zeros 352, takesNow (by decide), .inl (by decide)⟩,
   ⟨up, rq, passesNow (by decide)⟩,
   ⟨{ up with life := { up.life with log := [0x2D, 0x3C, 0x4B] } }, rq, zeros 64, bytesNow (by decide +kernel),
     by decide +kernel, by decide +kernel, by decide +kernel, by decide +kernel⟩,
   ⟨up, rq, passesNow (by decide)⟩,
   ⟨up, by decide⟩,
   ⟨{ up with power := { up.power with low := 3 } }, by decide⟩,
   ⟨up, rq, false, passesNow (by decide)⟩,
   ⟨st [(K.tamperState, 1)], rq, false, passesNow (by decide), by decide, by decide⟩⟩

/-- States and operands that meet the hypotheses of FirmwareIsStagedTriedAndConfirmed, clause by clause. -/
theorem witness_FirmwareIsStagedTriedAndConfirmed :
    (∃ (s : State) (r : Req), Passes s r K.fwCommand 1 {} ∧ (s.fw.owner = 0 ∨ s.fw.owner = pathNo r.path) ∧ s.fw.due = false ∧
      awaited s .fwOpen = false ∧ BankIdle s (fwOther s)) ∧
    (∃ (s : State) (r : Req) (off : BitVec 32) (data : List Byte), let a := 0x40000 * fwBlock (fwOther s) + s.fw.written;
      BytesPass s r K.fwData data {} ∧ s.fw.owner = pathNo r.path ∧ s.reg K.fwOtherState = 1 ∧ awaited s .fwOpen = false ∧
      (r.org = .sdo ∨ off.toNat = s.fw.written) ∧ 0 < data.length ∧ data.length % 512 = 0 ∧ s.fw.written + data.length ≤
      0x400000 ∧ BankIdle s (fwOther s) ∧ FlashRuns s ∧ (s.flBlock (a / 0x40000)).incomplete = false ∧ (s.flBlock (a /
      0x40000)).top ≤ a % 0x40000 / 512) ∧
    (∃ (s : State) (r : Req) (off : BitVec 32), BytesPass s r K.fwData [] {} ∧ s.fw.owner = pathNo r.path ∧ s.reg
      K.fwOtherState = 1 ∧ fwBusy s = false ∧ awaited s .fwOpen = false ∧ (r.org = .sdo ∨ off.toNat = s.fw.written) ∧
      s.fw.written ≤ 0x400000) ∧
    (∃ (s : State) (r : Req), Passes s r K.fwCommand 2 {} ∧ s.fw.owner = pathNo r.path ∧ fwBusy s = false) ∧
    (∃ (s : State) (r : Req), Passes s r K.fwCommand 3 {} ∧ s.fw.owner = pathNo r.path ∧ BankIdle s (fwOther s) ∧ awaited s
      .fwOpen = false) ∧
    (∃ (s : State) (r : Req), Passes s r K.fwCommand 3 {} ∧ s.fw.owner = pathNo r.path) ∧
    (∃ (s : State) (r : Req), Passes s r K.fwCommand 4 {} ∧ s.mode = .run ∧ s.reg K.fwOtherState = 2 ∧ s.regN K.cellLevel <
      fwMinCell (fwHeader s (fwOther s))) ∧
    (∃ (s : State) (r : Req), Passes s r K.fwCommand 4 {} ∧ s.reg K.fwOtherState = 2 ∧ fwMinCell (fwHeader s (fwOther s)) ≤
      s.regN K.cellLevel ∧ powerBusy s = false ∧ s.fw.due = false ∧ moving s = false) ∧
    (∃ (s : State) (r : Req), Passes s r K.fwCommand 5 {}) ∧
    (∃ (s : State) (r : Req) (v : BitVec 32), Passes s r K.fwFloorCommit v.toNat {} ∧ s.reg K.fwTrial ≠ 1 ∧ v.toNat ≤
      fwRollback (fwHeader s (s.regN K.fwRunning))) ∧
    (∃ s : State, s.fw.due = true) ∧
    (∃ s : State, s.fw.due = false) ∧
    (∃ s : State, (s.reg K.fwTrial ≠ 1 ∨ fwMayRestart s = false)) ∧
    (∃ s : State, s.reg K.fwTrial = 1 ∧ fwMayRestart s = true) :=
  ⟨⟨up, rq, passesNow (by decide), by decide, by decide, by decide, by decide⟩,
   ⟨((awake up).modFw fun f => { f with owner := pathNo .fn }).setRegs [(K.fwOtherState, 1)], rq, 0, zeros 512, bytesNow
     (by decide +kernel), by decide +kernel, by decide +kernel, by decide +kernel, by decide +kernel, by decide +kernel,
     by decide +kernel, by decide +kernel, by decide +kernel, by decide +kernel, by decide +kernel, by decide +kernel⟩,
   ⟨((awake up).modFw fun f => { f with owner := pathNo .fn }).setRegs [(K.fwOtherState, 1)], rq, 0, bytesNow
     (by decide +kernel), by decide +kernel, by decide +kernel, by decide +kernel, by decide +kernel, by decide +kernel,
     by decide +kernel⟩,
   ⟨(awake up).modFw fun f => { f with owner := pathNo .fn }, rq, passesNow (by decide), by decide, by decide⟩,
   ⟨(awake up).modFw fun f => { f with owner := pathNo .fn }, rq, passesNow (by decide), by decide, by decide, by decide⟩,
   ⟨(awake up).modFw fun f => { f with owner := pathNo .fn }, rq, passesNow (by decide), by decide⟩,
   ⟨putArray (st [(K.fwOtherState, 2), (K.cellLevel, 0)]) 0 [], rq, passesNow (by decide +kernel), by decide +kernel,
     by decide +kernel, by decide +kernel⟩,
   ⟨putArray (st [(K.fwOtherState, 2), (K.cellLevel, 100)]) 0 [], rq, passesNow (by decide +kernel), by decide +kernel,
     by decide +kernel, by decide +kernel, by decide +kernel, by decide +kernel⟩,
   ⟨up, rq, passesNow (by decide)⟩,
   ⟨up, rq, 0, passesNow (by decide +kernel), by decide +kernel, by decide +kernel⟩,
   ⟨up.modFw fun f => { f with due := true }, by decide⟩,
   ⟨up, by decide⟩,
   ⟨up, by decide⟩,
   ⟨st [(K.fwTrial, 1)], by decide⟩⟩

/-- States and operands that meet the hypotheses of TemperatureAndBridge, clause by clause. -/
theorem witness_TemperatureAndBridge :
    (∃ (s : State) (xs : List Int), xs.length = 22) ∧
    (∃ (s : State) (xs : List Int), xs.length ≠ 22) ∧
    (∃ s : State, (s.fe.replays < 17 ∨ s.fe.bridgeDown = true)) ∧
    (∃ s : State, 17 ≤ s.fe.replays ∧ s.fe.bridgeDown = false ∧ s.mode = .safe) ∧
    (∃ s : State, 17 ≤ s.fe.replays ∧ s.fe.bridgeDown = false ∧ s.mode ≠ .safe) :=
  ⟨⟨up, List.replicate 22 25, by decide⟩,
   ⟨up, [], by decide⟩,
   ⟨up, by decide⟩,
   ⟨{ up with mode := .safe, fe := { up.fe with replays := 17 } }, by decide⟩,
   ⟨{ up with fe := { up.fe with replays := 17 } }, by decide⟩⟩

/-- States and operands that meet the hypotheses of TestAndDebugStayInTheirBounds, clause by clause. -/
theorem witness_TestAndDebugStayInTheirBounds :
    (∃ (s : State), (lifeState s = 1 ∨ lifeState s = 2)) ∧
    (∃ (s : State), (lifeState s = 3 ∨ lifeState s = 4 ∨ lifeState s = 5)) ∧
    (∃ (s : State), (lifeState s = 0 ∨ 6 ≤ lifeState s)) ∧
    (∃ (s : State) (addr : Nat) (data : List Byte), scopeOpen s .memory = false) ∧
    (∃ (s : State) (addr : Nat) (data : List Byte), blocked s addr data.length = true) ∧
    (∃ s : State, s.life.halted.testBit 3 = true) ∧
    (∃ (s : State) (key op : Nat), answers s .test key op = true) ∧
    (∃ (s : State) (key op : Nat), s.host.testUp = true ∧ lifeState s = 2) ∧
    (∃ (s : State) (b : TestBlock), s.test.handed.Nodup) :=
  ⟨⟨{ up with life := { up.life with log := [0x2D] } }, by decide⟩,
   ⟨{ up with life := { up.life with log := [0x2D, 0x3C] } }, by decide⟩,
   ⟨{ up with life := { up.life with log := [0x2D, 0x3C, 0x4B, 0x5A, 0x69] } }, by decide⟩,
   ⟨up, 0, [], by decide⟩,
   ⟨up, 0, [1], by decide⟩,
   ⟨{ up with life := { up.life with halted := 8 } }, by decide⟩,
   ⟨{ up with host := { up.host with testUp := true } , life := { up.life with log := [0x2D] } }, 0, 0, by decide⟩,
   ⟨{ up with host := { up.host with testUp := true } , life := { up.life with log := [0x2D] } }, 0, 0, by decide⟩,
   ⟨up, .engine 0, by decide⟩⟩

/-- States and operands that meet the hypotheses of LowerStatesAreEnteredAndLeft, clause by clause. -/
theorem witness_LowerStatesAreEnteredAndLeft :
    (∃ (s : State) (r : Req), powerBusy s = false ∧ moving s = false) ∧
    (∃ s : State, (s.power.target = 0 ∨ s.power.step ≠ 0)) ∧
    (∃ s : State, (s.power.target = 0 ∨ s.power.step ≠ 1 ∨ entryDrained s = false)) ∧
    (∃ s : State, s.power.target ≠ 0 ∧ s.power.step = 0) ∧
    (∃ s : State, s.power.target ≠ 0 ∧ s.power.step = 1 ∧ entryDrained s = true ∧ s.power.wakes = 0) ∧
    (∃ s : State, s.power.target ≠ 0 ∧ s.power.step = 1 ∧ entryDrained s = true ∧ s.power.wakes = 0 ∧ s.power.target = 2) ∧
    (∃ s : State, s.power.target ≠ 0 ∧ s.power.step = 1 ∧ entryDrained s = true ∧ s.power.wakes = 0 ∧ s.power.target = 3) ∧
    (∃ s : State, s.power.target ≠ 0 ∧ s.power.step = 1 ∧ entryDrained s = true ∧ s.power.wakes = 0 ∧ s.power.target = 4 ∧
      (wrapDue s = false ∨ s.power.down = true)) ∧
    (∃ (s : State) (src : WakeSource), wakeAdmitted s src = true) ∧
    (∃ (s : State) (src : WakeSource), wakeAdmitted s src = true ∧ s.power.low ≠ 0) ∧
    (∃ (s : State) (src : WakeSource), wakeAdmitted s src = true ∧ s.power.low = 0 ∧ s.power.target ≠ 0) ∧
    (∃ (s : State) (src : WakeSource), wakeAdmitted s src = false) ∧
    (∃ s : State, (s.reg K.rtcValid ≠ 1 ∨ s.reg K.wakeAlarm = 0 ∨ s.reg K.rtcSeconds < s.reg K.wakeAlarm ∨ s.regBit
      K.wakeEnable 1 = false)) ∧
    (∃ s : State, s.reg K.rtcValid = 1 ∧ s.reg K.wakeAlarm ≠ 0 ∧ s.reg K.wakeAlarm ≤ s.reg K.rtcSeconds ∧ s.regBit K.wakeEnable
      1 = true ∧ s.power.low ≠ 0) :=
  ⟨⟨up, rq, by decide⟩,
   ⟨up, by decide⟩,
   ⟨up, by decide⟩,
   ⟨{ up with power := { up.power with target := 2 } }, by decide⟩,
   ⟨{ up with power := { up.power with target := 4, step := 1 } }, by decide⟩,
   ⟨{ up with power := { up.power with target := 2, step := 1 } }, by decide⟩,
   ⟨{ up with power := { up.power with target := 3, step := 1 } }, by decide⟩,
   ⟨({ up with power := { up.power with target := 4, step := 1 } }).setRegs [(K.wrapAtOff, 0)], by decide⟩,
   ⟨up, .pin, by decide⟩,
   ⟨{ up with power := { up.power with low := 2 } }, .pin, by decide⟩,
   ⟨{ up with power := { up.power with target := 2 } }, .pin, by decide⟩,
   ⟨{ up with power := { up.power with low := 4 } }, .hpi, by decide⟩,
   ⟨up, by decide⟩,
   ⟨({ up with power := { up.power with low := 3 } }).setRegs [(K.rtcValid, 1), (K.wakeAlarm, 5), (K.rtcSeconds, 5),
     (K.wakeEnable, 2)], by decide⟩⟩

/-- States and operands that meet the hypotheses of StartsGoThroughTheirStages, clause by clause. -/
theorem witness_StartsGoThroughTheirStages :
    (∃ (s : State) (w : WakeStage), s.fe.safe.resetTaken = true) ∧
    (∃ s : State, s.fe.safe.resetTaken = true) ∧
    (∃ s : State, s.fe.safe.resetTaken = false ∧ s.power.stage = 1) ∧
    (∃ s : State, s.fe.safe.resetTaken = false ∧ s.power.stage = 2) ∧
    (∃ (s : State) (xa xb : Bool), s.fe.safe.resetTaken = false ∧ s.power.stage = 3 ∧ (xa || xb) = true ∧ (∀ p < 8, s.reg
      (K.pllState p) = 3)) ∧
    (∃ (s : State) (time : BitVec 32), s.fe.safe.resetTaken = false ∧ s.power.stage = 4 ∧ s.power.wokeFrom = 2 ∧ s.mode = .run) ∧
    (∃ (s : State) (time : BitVec 32), s.fe.safe.resetTaken = false ∧ s.power.stage = 4 ∧ s.power.wokeFrom ≠ 2 ∧ repairMap s =
      []) ∧
    (∃ s : State, s.fe.safe.resetTaken = false ∧ s.power.stage = 2 ∧ s.power.wokeFrom ≠ 2) ∧
    (∃ s : State, s.fe.safe.resetTaken = false ∧ s.power.stage = 2 ∧ s.power.wokeFrom ≠ 2 ∧ 3 ≤ s.power.attempts) ∧
    (∃ s : State, s.fe.safe.resetTaken = false ∧ s.power.stage = 2 ∧ s.power.wokeFrom = 2) ∧
    (∃ s : State, s.fe.safe.resetTaken = false ∧ s.power.stage = 2 ∧ s.power.wokeFrom = 2 ∧ 3 ≤ s.power.attempts) ∧
    (∃ s : State, s.fe.safe.resetTaken = false ∧ s.power.stage = 3) ∧
    (∃ s : State, s.fe.safe.resetTaken = false ∧ s.power.stage = 4 ∧ s.mode ≠ .safe) ∧
    (∃ (s : State) (r : Req), Passes s r K.pfaultFaultClear 1 {}) :=
  ⟨⟨up.modSafe fun x => { x with resetTaken := true }, .aon, by decide⟩,
   ⟨up.modSafe fun x => { x with resetTaken := true }, by decide⟩,
   ⟨{ up with power := { up.power with stage := 1 } }, by decide⟩,
   ⟨{ up with power := { up.power with stage := 2 } }, by decide⟩,
   ⟨up.setRegs ((List.range 8).map fun p => (K.pllState p, 3)), true, false, rfl, rfl, rfl, by decide⟩,
   ⟨{ up with power := { up.power with stage := 4, wokeFrom := 2 } }, 0, by decide⟩,
   ⟨{ up with power := { up.power with stage := 4 } }, 0, by decide⟩,
   ⟨{ up with power := { up.power with stage := 2 } }, by decide⟩,
   ⟨{ up with power := { up.power with stage := 2, attempts := 3 } }, by decide⟩,
   ⟨{ up with power := { up.power with stage := 2, wokeFrom := 2 } }, by decide⟩,
   ⟨{ up with power := { up.power with stage := 2, wokeFrom := 2, attempts := 3 } }, by decide⟩,
   ⟨up, by decide⟩,
   ⟨{ up with power := { up.power with stage := 4 } }, by decide⟩,
   ⟨up, rq, passesNow (by decide)⟩⟩

/-- States and operands that meet the hypotheses of ResetAndSuppliesAct, clause by clause. -/
theorem witness_ResetAndSuppliesAct :
    (∃ (s : State) (dt : Nat), s.fe.safe.resetLow = true ∧ s.fe.safe.resetTaken = false) ∧
    (∃ (s : State) (dt : Nat), s.fe.safe.resetLow = true ∧ s.fe.safe.resetTaken = false ∧ (s.power.low = 3 ∨ s.power.low = 4)) ∧
    (∃ (s : State) (dt : Nat), (s.fe.safe.resetLow = false ∨ s.fe.safe.resetTaken = true)) ∧
    (∃ s : State, s.power.down = false) ∧
    (∃ s : State, s.power.down = false ∧ s.power.low ≠ 0) ∧
    (∃ s : State, s.power.down = false ∧ s.power.low = 0 ∧ s.power.stage = 0 ∧ s.power.wrapping = false ∧ anyGroupMoves s =
      false ∧ islSealed s = false) ∧
    (∃ s : State, s.power.down = true) ∧
    (∃ (s : State) (i : Fin 6), ((s.power.pg.testBit i = false ∨ s.power.low ≠ 0 ∨ (s.power.stage ≠ 0 ∧ s.power.stage ≠ 5)))) ∧
    (∃ (s : State) (i : Fin 6), s.power.pg.testBit i = true ∧ s.power.low = 0 ∧ (s.power.stage = 0 ∨ s.power.stage = 5)) ∧
    (∃ (s : State) (i : Fin 6), s.power.pg.testBit i = true ∧ s.power.low = 0 ∧ (s.power.stage = 0 ∨ s.power.stage = 5) ∧
      (i.val = 1 ∨ i.val = 4)) :=
  ⟨⟨up.modSafe fun x => { x with resetLow := true }, 0, by decide⟩,
   ⟨{ (up.modSafe fun x => { x with resetLow := true }) with power := { up.power with low := 3 } }, 0, by decide⟩,
   ⟨up, 0, by decide⟩,
   ⟨up, by decide⟩,
   ⟨{ up with power := { up.power with low := 2 } }, by decide⟩,
   ⟨awake up, by decide⟩,
   ⟨{ up with power := { up.power with down := true } }, by decide⟩,
   ⟨up, 5, by decide⟩,
   ⟨awake up, 5, by decide⟩,
   ⟨awake up, 4, by decide⟩⟩

/-- States and operands that meet the hypotheses of PmbusSetsAndWatchesTheRails, clause by clause. -/
theorem witness_PmbusSetsAndWatchesTheRails :
    (∃ (s : State) (rail : Fin 12) (addr : BitVec 7) (losses : Fin 9) (how : PmbResult), mapped s rail.val = true ∧ mapOf s
      rail.val % 128 = addr.toNat) ∧
    (∃ (s : State) (rail : Fin 12) (addr : BitVec 7), mapped s rail.val = true ∧ mapOf s rail.val % 128 = addr.toNat) ∧
    (∃ (s : State) (rail : Fin 12) (status mv : BitVec 16), s.power.stage = 2 ∧ mapped s rail.val = true ∧ statusGood
      status.toNat = true) ∧
    (∃ (s : State) (rail : Fin 12) (status mv : BitVec 16) (q : Nat), s.power.stage ≠ 2 ∧ railAsked s rail.val = some q ∧
      NoLoad s ∧ statusGood status.toNat = true ∧ ((mv.toNat : Int) - ((s.rail q).target : Int)).natAbs ≤ 15) ∧
    (∃ (s : State) (rail : Fin 12) (status mv : BitVec 16) (q : Nat), s.power.stage ≠ 2 ∧ railAsked s rail.val = some q ∧
      NoLoad s ∧ status.toNat.testBit 11 = false ∧ 15 < ((mv.toNat : Int) - ((s.rail q).target : Int)).natAbs) ∧
    (∃ (s : State) (rail : Fin 12) (status mv : BitVec 16) (q : Nat), s.power.stage ≠ 2 ∧ railAsked s rail.val = some q ∧
      NoLoad s ∧ status.toNat.testBit 11 = false ∧ 15 < ((mv.toNat : Int) - ((s.rail q).target : Int)).natAbs ∧ 2 ≤ (s.rail
      q).odd) ∧
    (∃ (s : State) (rail : Fin 12), s.power.stage = 2 ∧ mapped s rail.val = true ∧ s.power.acked.testBit rail.val = false) ∧
    (∃ (s : State) (rail : Fin 12) (q : Nat), s.power.stage ≠ 2 ∧ railAsked s rail.val = some q ∧ NoLoad s) ∧
    (∃ (s : State) (rail : Fin 12) (addr : BitVec 7) (losses : Fin 9) (how : PmbResult), (mapped s rail.val = false ∨ mapOf s
      rail.val % 128 ≠ addr.toNat)) ∧
    (∃ (s : State) (r : Req) (q : Fin 4) (mv : BitVec 16), Passes s r (K.railVccq0Set + q.val) mv.toNat {} ∧ s.fab.load = none
      ∧ s.power.target = 0 ∧ s.fab.slate = []) ∧
    (∃ (s : State) (r : Req) (q : Fin 4) (mv : BitVec 16), Passes s r (K.railVccq0Set + q.val) mv.toNat {} ∧ s.fab.load = none
      ∧ s.power.target = 0 ∧ s.fab.slate = [] ∧ railPresent s q.val = true) :=
  ⟨⟨{ up with power := { up.power with railMap := [(10, 0x8077)] } }, 11, 0x77, 0, .good, by decide⟩,
   ⟨{ up with power := { up.power with railMap := [(10, 0x8077)] } }, 11, 0x77, by decide⟩,
   ⟨{ up with power := { up.power with railMap := [(10, 0x8077)], stage := 2 } }, 11, 0, 0, by decide⟩,
   ⟨(up.modRail 3 fun x => { x with target := 850, sent := true }), 4, 0, 865, 3, by decide⟩,
   ⟨(up.modRail 3 fun x => { x with target := 850, sent := true }), 4, 0, 866, 3, by decide⟩,
   ⟨(up.modRail 3 fun x => { x with target := 850, sent := true, odd := 2 }), 4, 0, 866, 3, by decide⟩,
   ⟨{ up with power := { up.power with railMap := [(10, 0x8077)], stage := 2 } }, 11, by decide⟩,
   ⟨(up.modRail 3 fun x => { x with target := 850, sent := true }), 4, 3, by decide⟩,
   ⟨up, 11, 0x77, 0, .good, by decide⟩,
   ⟨up, rq, 3, 850, passesNow (by decide), by decide, by decide, by decide⟩,
   ⟨{ up with power := { up.power with railMap := [(3, 0x8001)] } }, rq, 3, 850, passesNow (by decide), by decide, by decide,
     by decide, by decide⟩⟩

/-- States and operands that meet the hypotheses of BackupSupplyAndWrapTest, clause by clause. -/
theorem witness_BackupSupplyAndWrapTest :
    (∃ (s : State) (toAon ok : Bool), s.reg K.batSupplyInUse ≠ b2i toAon ∧ (toAon = true → ok = true)) ∧
    (∃ (s : State) (toAon ok : Bool), s.reg K.batSupplyInUse ≠ b2i toAon ∧ (toAon = true → ok = true) ∧ toAon = true) ∧
    (∃ s : State, s.reg K.batSupplyInUse ≠ 1) ∧
    (∃ (s : State) (toAon ok : Bool), s.reg K.batSupplyInUse = b2i toAon) ∧
    (∃ (s : State) (ms : BitVec 32), s.power.wrapping = true ∧ s.power.wakes = 0) ∧
    (∃ (s : State) (found : List Finding) (margins : List (Fin 256 × Fin 256)), s.power.wrapping = true ∧ s.power.wakes = 0) ∧
    (∃ (s : State) (found : List Finding) (margins : List (Fin 256 × Fin 256)) (ms : BitVec 32), s.power.wrapping = false) :=
  ⟨⟨up, false, false, by decide⟩,
   ⟨st [(K.batSupplyInUse, 0)], true, true, by decide⟩,
   ⟨st [(K.batSupplyInUse, 0)], by decide⟩,
   ⟨st [(K.batSupplyInUse, 0)], false, false, by decide⟩,
   ⟨{ up with power := { up.power with wrapping := true } }, 0, by decide⟩,
   ⟨{ up with power := { up.power with wrapping := true } }, [], [], by decide⟩,
   ⟨up, [], [], 0, by decide⟩⟩

/-- States and operands that meet the hypotheses of TickSourcesAreJoinedAndLost, clause by clause. -/
theorem witness_TickSourcesAreJoinedAndLost :
    (∃ (s : State) (r : Req) (v : BitVec 8), Passes s r K.tickSource v.toNat {} ∧ moving s = false) ∧
    (∃ s : State, s.reg K.tickState = 2 ∧ s.reg K.tickSource ≠ 0 ∧ moving s = false ∧ (s.reg K.tickSource = 2 ∨ linkLocked s =
      true)) ∧
    (∃ s : State, ((s.reg K.tickState ≠ 2 ∨ s.reg K.tickSource = 0 ∨ moving s = true ∨ (s.reg K.tickSource ≠ 2 ∧ linkLocked s =
      false)))) ∧
    (∃ s : State, s.reg K.tickSource ≠ 0 ∧ s.reg K.tickState = 0) ∧
    (∃ s : State, s.reg K.tickSource ≠ 0 ∧ s.reg K.tickState = 0 ∧ s.reg K.tickSource = 1 ∧ s.reg K.linkState ≠ 0) ∧
    (∃ s : State, (s.reg K.tickSource = 0 ∨ s.reg K.tickState ≠ 0)) :=
  ⟨⟨up, rq, 0, passesNow (by decide), by decide⟩,
   ⟨st [(K.tickState, 2), (K.tickSource, 2)], by decide⟩,
   ⟨up, by decide⟩,
   ⟨st [(K.tickSource, 1)], by decide⟩,
   ⟨st [(K.tickSource, 1), (K.linkState, 2)], by decide⟩,
   ⟨st [(K.tickSource, 1), (K.tickState, 1)], by decide⟩⟩

/-- States and operands that meet the hypotheses of ClapperFramesAreTaken, clause by clause. -/
theorem witness_ClapperFramesAreTaken :
    (∃ (s : State) (seq : BitVec 8), let n := if s.link.tickSeq.all fun q => (q + 1) % 256 == seq.toNat then min 16 (s.link.inOrder + 1) else 1; let u := s.modLink fun l => { l with tickSeq := some seq.toNat, inOrder := n };
      linkOn s = true ∧ s.regN K.cellTimeSource ≠ 0xFF ∧ s.regN K.cellTimeSource ≠ cellId s ∧ s.link.tickSeq ≠ some seq.toNat) ∧
    (∃ (s : State) (seq : BitVec 8), (linkOn s = false ∨ s.regN K.cellTimeSource = 0xFF ∨ s.regN K.cellTimeSource = cellId s ∨
      s.link.tickSeq = some seq.toNat)) ∧
    (∃ (s : State) (time : BitVec 64) (w : Option (BitVec 64 × BitVec 32)) (m : StatusFrame) (src : Fin 8) (es : List
      AxisEntry) (xs : List (Fin 8 × Axis)) (late : Bool) (side : Fin 2) (ns path : BitVec 16), linkOn s = false) ∧
    (∃ (s : State) (time : BitVec 64), linkOn s = true ∧ linkLocked s = true ∧ s.regN K.cellTimeSource ≠ cellId s) ∧
    (∃ (s : State) (time at' : BitVec 64) (period : BitVec 32), linkOn s = true ∧ s.reg K.wakeCellWake = 1) ∧
    (∃ (s : State) (m : StatusFrame), linkOn s = true ∧ m.id.val ≠ cellId s ∧ ¬((s.member m.id.val).heard = true ∧
      memberPresent s m.id.val = true ∧ (s.member m.id.val).seq = m.seq.toNat)) ∧
    (∃ (s : State) (m : StatusFrame), linkOn s = true ∧ m.id.val = cellId s ∧ m.uid.toNat < leAt (unitUid s) 0 4 ∧ s.link.dup =
      false) ∧
    (∃ (s : State) (src : Fin 8) (e : AxisEntry), linkOn s = true ∧ linkLocked s = true ∧ src.val ≠ cellId s ∧ e.servo = true) ∧
    (∃ (s : State) (src : Fin 8) (es : List AxisEntry) (xs : List (Fin 8 × Axis)) (late : Bool), linkOn s = true ∧ (linkLocked
      s = false ∨ src.val = cellId s)) ∧
    (∃ (s : State) (src : Fin 8) (es : List AxisEntry), linkOn s = true ∧ linkLocked s = true ∧ src.val ≠ cellId s) ∧
    (∃ (s : State) (side : Fin 2) (ns path : BitVec 16), linkOn s = true) ∧
    (∃ (s : State) (side : Fin 2) (ns path : BitVec 16), linkOn s = true ∧ 100 < ns.toNat) ∧
    (∃ (s : State) (m : Fin 8), (m.val = cellId s ∨ memberPresent s m.val = false)) ∧
    (∃ (s : State) (m : Fin 8), m.val ≠ cellId s ∧ memberPresent s m.val = true) :=
  ⟨⟨(awake up).setRegs [(K.linkEnable, 1), (K.cellTimeSource, 5)], 0, by decide⟩,
   ⟨up, 0, by decide⟩,
   ⟨up, 0, none, dfltStatus, 0, [], [], false, 0, 0, 0, by decide⟩,
   ⟨(awake up).setRegs [(K.linkEnable, 1), (K.linkState, 3), (K.cellTimeSource, 5)], 0, by decide⟩,
   ⟨(awake up).setRegs [(K.linkEnable, 1), (K.wakeCellWake, 1)], 0, 0, 0, by decide⟩,
   ⟨(awake up).setRegs [(K.linkEnable, 1)], dfltStatus, by decide⟩,
   ⟨((awake up).setRegs [(K.linkEnable, 1), (K.cfgId, 1)]).setBlob K.unitUid [2, 0, 0, 0], dfltStatus, by decide⟩,
   ⟨(awake up).setRegs [(K.linkEnable, 1), (K.linkState, 3)], 1, ⟨0, true, 0⟩, by decide⟩,
   ⟨(awake up).setRegs [(K.linkEnable, 1)], 0, [], [], false, by decide⟩,
   ⟨(awake up).setRegs [(K.linkEnable, 1), (K.linkState, 3)], 1, [], by decide⟩,
   ⟨(awake up).setRegs [(K.linkEnable, 1)], 0, 0, 0, by decide⟩,
   ⟨(awake up).setRegs [(K.linkEnable, 1)], 0, 101, 0, by decide⟩,
   ⟨up, 7, by decide⟩,
   ⟨(awake up).setRegs [(K.linkEnable, 1), (K.cellPresent, 0x80)], 7, by decide⟩⟩

/-- States and operands that meet the hypotheses of RingsBreakAndSourcesAreElected, clause by clause. -/
theorem witness_RingsBreakAndSourcesAreElected :
    (∃ (s : State) (side : Fin 2), linkOn s = true ∧ s.regBit K.linkFlags side.val = true) ∧
    (∃ (s : State) (side : Fin 2), linkOn s = true) ∧
    (∃ (s : State) (side : Fin 2), linkOn s = true ∧ s.regBit K.linkFlags (1 - side.val) = true) ∧
    (∃ (s : State) (side : Fin 2), (linkOn s = false ∨ s.regBit K.linkFlags side.val = false)) ∧
    (∃ (s : State) (side : Fin 2), linkOn s = false) ∧
    (∃ s : State, linkOn s = true) :=
  ⟨⟨(awake up).setRegs [(K.linkEnable, 1), (K.linkFlags, 3)], 0, by decide⟩,
   ⟨(awake up).setRegs [(K.linkEnable, 1)], 0, by decide⟩,
   ⟨(awake up).setRegs [(K.linkEnable, 1), (K.linkFlags, 3)], 0, by decide⟩,
   ⟨up, 0, by decide⟩,
   ⟨up, 0, by decide⟩,
   ⟨(awake up).setRegs [(K.linkEnable, 1)], by decide⟩⟩

/-- States and operands that meet the hypotheses of SleepingPartnersWake, clause by clause. -/
theorem witness_SleepingPartnersWake :
    (∃ (s : State) (w : Fin 4), s.power.low ≠ 0 ∧ s.reg K.linkWakeAt ≠ 0 ∧ s.reg K.linkEnable ≠ 0) ∧
    (∃ (s : State) (w : Fin 4), s.power.low ≠ 0 ∧ s.reg K.linkWakeAt ≠ 0 ∧ s.reg K.linkEnable ≠ 0 ∧ s.regN K.cellTimeSource =
      cellId s) ∧
    (∃ s : State, 1 ≤ s.link.window ∧ s.link.window ≤ 3 ∧ s.power.low ≠ 0) ∧
    (∃ (s : State) (time own : BitVec 64) (period : BitVec 32), s.link.window ≠ 0 ∧ s.power.low ≠ 0) ∧
    (∃ (s : State) (time own : BitVec 64) (period : BitVec 32), s.link.window ≠ 0 ∧ s.power.low ≠ 0) ∧
    (∃ s : State, s.link.window = 4 ∧ s.power.low ≠ 0) :=
  ⟨⟨{ (up.modLink fun l => { l with window := 0 }).setRegs [(K.linkWakeAt, 9), (K.linkEnable, 1)] with power := { up.power with low := 2 } },
     0, by decide⟩,
   ⟨({ (up.modLink fun l => { l with window := 0 }).setRegs [(K.linkWakeAt, 9), (K.linkEnable, 1)] with power := { up.power with low := 2 } }).setReg
     K.cellTimeSource 0, 0, by decide⟩,
   ⟨{ (up.modLink fun l => { l with window := 3 }) with power := { up.power with low := 2 } }, by decide⟩,
   ⟨{ (up.modLink fun l => { l with window := 1 }) with power := { up.power with low := 2 } }, 0, 0, 0, by decide⟩,
   ⟨{ (up.modLink fun l => { l with window := 1 }) with power := { up.power with low := 2 } }, 0, 0, 0, by decide⟩,
   ⟨{ (up.modLink fun l => { l with window := 4 }) with power := { up.power with low := 2 } }, by decide⟩⟩

/-- States and operands that meet the hypotheses of BackupVoltageIsWatched, clause by clause. -/
theorem witness_BackupVoltageIsWatched :
    (∃ (s : State) (mv : BitVec 16), s.reg K.batSupplyInUse = 1) ∧
    (∃ (s : State) (mv : BitVec 16), s.reg K.batSupplyInUse = 1 ∧ (2200 ≤ mv.toNat ∨ s.regBit K.batBackupStatus 0 = true)) ∧
    (∃ (s : State) (mv : BitVec 16), s.reg K.batSupplyInUse ≠ 1) :=
  ⟨⟨st [(K.batSupplyInUse, 1)], 0, by decide⟩,
   ⟨st [(K.batSupplyInUse, 1)], 2200, by decide⟩,
   ⟨st [(K.batSupplyInUse, 0)], 0, by decide⟩⟩

/-- States and operands that meet the hypotheses of CommandsKeepTheOtherParts, clause by clause. -/
theorem witness_CommandsKeepTheOtherParts :
    (∃ (c : Instr) (s t : State), (touched c).length ≤ 5 ∧ exec c s = .next t) :=
  ⟨.clrResetSeen, up, after (.clrResetSeen) up, by decide, rfl⟩

/-- States and operands that meet the hypotheses of WideCommandsKeepTheOtherParts, clause by clause. -/
theorem witness_WideCommandsKeepTheOtherParts :
    (∃ (c : Instr) (s t : State), 5 < (touched c).length ∧ exec c s = .next t) :=
  ⟨.programDone 0 true, up, after (.programDone 0 true) up, by decide, rfl⟩

/-- States and operands that meet the hypotheses of MemoriesChangeByTheirCommandsOnly, clause by clause. -/
theorem witness_MemoriesChangeByTheirCommandsOnly :
    (∃ (c : Instr) (s t : State), exec c s = .next t) :=
  ⟨.servoTick 5, up, after (.servoTick 5) up, rfl⟩
end

section
/-! SUPPORT. Reading entries after writes, and what repeated operations leave alone. -/

namespace Sys2Proof.Machine

/-! ### Entries after a write -/

@[simp] theorem State.setReg_regN_self (s : State) (k : Nat) (v : Int) : (s.setReg k v).regN k = v.toNat := by
  simp [State.regN]

theorem State.setReg_regN_ne (s : State) (k j : Nat) (v : Int) (h : j ≠ k) : (s.setReg k v).regN j = s.regN j := by
  simp [State.regN, State.setReg_reg_ne s k j v h]

theorem State.setReg_regBit_ne (s : State) (k j i : Nat) (v : Int) (h : j ≠ k) : (s.setReg k v).regBit j i = s.regBit j i := by
  simp [State.regBit, State.setReg_regN_ne s k j v h]

theorem State.setBit_reg_ne (s : State) (k i j : Nat) (b : Bool) (h : j ≠ k) : (s.setBit k i b).reg j = s.reg j :=
  State.setReg_reg_ne s k j _ h

@[simp] theorem State.setBit_regBit_self (s : State) (k i : Nat) (b : Bool) : (s.setBit k i b).regBit k i = b := by
  simp [State.setBit, State.regBit, testBit_setBitTo_self]

theorem State.setBit_regBit_other (s : State) (k i j : Nat) (b : Bool) (h : j ≠ i) :
    (s.setBit k i b).regBit k j = s.regBit k j := by
  simp [State.setBit, State.regBit, testBit_setBitTo_ne _ _ _ _ h]

@[simp] theorem State.bump_reg_self (s : State) (k w : Nat) : (s.bump k w).reg k = ((s.regN k + 1) % 2 ^ w : Nat) :=
  State.setReg_reg_self s k _

theorem State.bump_reg_ne (s : State) (k w j : Nat) (h : j ≠ k) : (s.bump k w).reg j = s.reg j := State.setReg_reg_ne s k j _ h

@[simp] theorem State.setRegs_nil (s : State) : s.setRegs [] = s := rfl

@[simp] theorem State.setRegs_cons (s : State) (k : Nat) (v : Int) (l : List (Nat × Int)) :
    s.setRegs ((k, v) :: l) = (s.setReg k v).setRegs l := rfl

theorem emcy_regN (s : State) (code bit unit detail k : Nat) (h1 : k ≠ K.errRegErrorRegister) (h2 : k ≠ K.tagEmcyOverflow) :
    (emcy s code bit unit detail).regN k = s.regN k := by simp [State.regN, emcy_reg s code bit unit detail k h1 h2]

theorem emcy_regBit (s : State) (code bit unit detail k i : Nat) (h1 : k ≠ K.errRegErrorRegister) (h2 : k ≠ K.tagEmcyOverflow) :
    (emcy s code bit unit detail).regBit k i = s.regBit k i := by
  simp [State.regBit, emcy_regN s code bit unit detail k h1 h2]

/-- An emergency sets its own bit of the error register (02 R75). -/
theorem emcy_errorBit (s : State) (code bit unit detail : Nat) :
    (emcy s code bit unit detail).regBit K.errRegErrorRegister bit = true := by
  simp [State.regBit, State.regN, emcy_errorRegister, testBit_setBitTo_self]

/-! ### What a repeated operation leaves alone -/

/-- What each step of a fold leaves alone, the fold leaves alone. -/
theorem foldl_view {α β : Type} (v : State → α) (f : State → β → State) (l : List β) (s : State)
    (h : ∀ s x, v (f s x) = v s) : v (l.foldl f s) = v s :=
  foldl_keeps (fun t => v t = v s) f l s rfl fun t x _ ht => (h t x).trans ht

/-- What each repetition leaves alone, all of them leave alone. -/
theorem forN_view {α : Type} (v : State → α) (n : Nat) (f : State → Nat → State) (s : State)
    (h : ∀ s i, v (f s i) = v s) : v (forN n f s) = v s := foldl_view v f _ s h

/-! ### Frames of entries -/

theorem onlyRegs_refl (ks : List Nat) (s : State) : OnlyRegs ks s s := ⟨rfl, fun _ _ => rfl⟩

theorem onlyRegs_setReg {ks : List Nat} {s t : State} (h : OnlyRegs ks s t) (k : Nat) (v : Int) (hk : k ∈ ks) :
    OnlyRegs ks s (t.setReg k v) :=
  ⟨h.1, fun j hj => (State.setReg_reg_ne t k j v fun e => hj (e ▸ hk)).trans (h.2 j hj)⟩

theorem onlyRegs_setBit {ks : List Nat} {s t : State} (h : OnlyRegs ks s t) (k i : Nat) (b : Bool) (hk : k ∈ ks) :
    OnlyRegs ks s (t.setBit k i b) := onlyRegs_setReg h k _ hk

theorem onlyRegs_emcy {ks : List Nat} {s t : State} (h : OnlyRegs ks s t) (code bit unit detail : Nat)
    (h1 : K.errRegErrorRegister ∈ ks) (h2 : K.tagEmcyOverflow ∈ ks) : OnlyRegs ks s (emcy t code bit unit detail) := by
  refine ⟨?_, fun j hj => (emcy_reg t _ _ _ _ j (fun e => hj (e ▸ h1)) fun e => hj (e ▸ h2)).trans (h.2 j hj)⟩
  rw [← h.1]
  simp

theorem onlyRegs_ok {ks : List Nat} {s t : State} (h : OnlyRegs ks s t) (r : Req) : OnlyRegs ks s (ok t r) := by
  refine ⟨?_, fun j hj => (ok_reg t r j).trans (h.2 j hj)⟩
  rw [← h.1]
  simp

/-- A part behind the entries set to the same value on both sides. -/
theorem onlyRegs_withFe {ks : List Nat} {s t : State} (h : OnlyRegs ks s t) (f : FeSt) :
    OnlyRegs ks { s with fe := f } { t with fe := f } :=
  ⟨congrArg (fun u : State => { u with fe := f }) h.1, h.2⟩

theorem register_sameButHost (s : State) (r : Req) (key op : Nat) : SameButHost s (register s r key op) := by
  unfold register; split <;> rfl

theorem onlyRegs_register (ks : List Nat) (s : State) (r : Req) (key op : Nat) : OnlyRegs ks s (register s r key op) :=
  ⟨by rw [← register_regs s r key op]; exact register_sameButHost s r key op, fun k _ => register_reg s r key op k⟩

/-! ### Writes that pass their checks -/

/-- A write that SC0 takes and that passes its checks has its effect, on the state with the request in flight. -/
theorem request_writeEntry (s : State) (r : Req) (key op : Nat) (v : Int) (o : State → Own) (eff : State → State)
    (ht : Takes s r) (h : writeCode s r key v (o (register s r key op)) = none) :
    request s r key op (fun s => writeEntry s r key v (o s) eff) = eff (register s r key op) := by
  rw [request_of_takes s r key op _ ht, writeEntry_passes _ _ _ _ _ _ (by simpa using h)]

end Sys2Proof.Machine
end

section
/-! SUPPORT. The source of the tick, the ring and the election of the time source (01 R18, R20, R699; 15 R566; 19 R655 to R658). -/

namespace Sys2Proof.Machine
open Claims

/-! ### The source of the tick -/

/-- The effect of a write of TICK_SOURCE on the entries and the tick (01 R18, R699). -/
def tickSourceSet (s : State) (v : Nat) : State :=
  let s := { s.setReg K.tickSource v with fe := { s.fe with srcPend := decide (v = 0) } }
  if v = 0 then s else s.setReg K.tickState 2

theorem exec_tickSourceWrite (s : State) (r : Req) (v : BitVec 8) (hp : Passes s r K.tickSource v.toNat {}) (hm : moving s = false) :
    exec (.tickSourceWrite r v) s = .next (ok (tickSourceSet (register s r K.tickSource 2) v.toNat) r) := by
  obtain ⟨ht, hw⟩ := hp
  exact congrArg Host.Outcome.next (request_writeEntry s r K.tickSource 2 v.toNat
    (fun s => { move := whenCode (moving s) 0x0F000001 }) _ ht (by simpa [whenCode, hm] using hw))

theorem tickSourceSet_tickSource (s : State) (v : Nat) : (tickSourceSet s v).reg K.tickSource = v := by
  unfold tickSourceSet
  split
  · exact State.setReg_reg_self s _ _
  · exact (State.setReg_reg_ne _ _ _ _ (by decide)).trans (State.setReg_reg_self s _ _)

theorem tickSourceSet_tickState (s : State) (v : Nat) :
    (tickSourceSet s v).reg K.tickState = if v = 0 then s.reg K.tickState else 2 := by
  unfold tickSourceSet
  split
  · exact State.setReg_reg_ne s _ _ _ (by decide)
  · exact State.setReg_reg_self _ _ _

theorem tickSourceSet_fe (s : State) (v : Nat) : (tickSourceSet s v).fe = { s.fe with srcPend := decide (v = 0) } := by
  unfold tickSourceSet; split <;> rfl

theorem tickSourceSet_host (s : State) (v : Nat) : (tickSourceSet s v).host = s.host := by
  unfold tickSourceSet; split <;> rfl

theorem tickSourceSet_frame {s t : State} (h : OnlyRegs [K.tickSource, K.tickState] s t) (v : Nat) :
    OnlyRegs [K.tickSource, K.tickState] { s with fe := { t.fe with srcPend := decide (v = 0) } } (tickSourceSet t v) := by
  have hs := onlyRegs_withFe (onlyRegs_setReg h K.tickSource v (by simp)) { t.fe with srcPend := decide (v = 0) }
  unfold tickSourceSet
  split
  · exact hs
  · exact onlyRegs_setReg hs K.tickState 2 (by simp)

/-- A source that is lost leaves the unit in holdover, with an emergency (01 R20). -/
theorem holdover_of_joined (s : State) (h : s.reg K.tickSource ≠ 0) (hj : s.reg K.tickState = 0) :
    holdover s = emcy ((if s.regN K.tickSource = 1 ∧ s.reg K.linkState ≠ 0 then
        (s.setReg K.linkState 4).modLink fun l => { l with inOrder := 0 } else s).setReg K.tickState 1)
      0xFF01 4 0xFF (s.regN K.tickSource) := by
  simp only [holdover, h, hj, ne_eq, not_false_eq_true, and_self, if_true]

theorem holdover_of_not_joined (s : State) (h : s.reg K.tickSource = 0 ∨ s.reg K.tickState ≠ 0) : holdover s = s := by
  unfold holdover
  rw [if_neg fun hh => h.elim hh.1 fun h2 => h2 hh.2]

/-- Holdover touches the state of the tick and of the link, and what an emergency touches. -/
theorem holdover_reg (s : State) (k : Nat) (hk : k ∉ [K.tickState, K.linkState, K.errRegErrorRegister, K.tagEmcyOverflow]) :
    (holdover s).reg k = s.reg k := by
  simp only [List.mem_cons, List.not_mem_nil, or_false, not_or] at hk
  obtain ⟨h1, h2, h3, h4⟩ := hk
  by_cases h : s.reg K.tickSource ≠ 0 ∧ s.reg K.tickState = 0
  · rw [holdover_of_joined s h.1 h.2, emcy_reg _ _ _ _ _ _ h3 h4, State.setReg_reg_ne _ _ _ _ h1]
    split
    · rw [State.modLink_reg, State.setReg_reg_ne s _ _ _ h2]
    · rfl
  · rw [holdover_of_not_joined s ?_]
    by_cases hs : s.reg K.tickSource = 0
    · exact .inl hs
    · exact .inr fun hj => h ⟨hs, hj⟩

theorem tickSourcesAreJoinedAndLost : TickSourcesAreJoinedAndLost := by
  refine ⟨fun s r v hp hm => ?_, fun s h1 h2 hm h3 => ?_, fun s h => ?_, fun s h hj => ?_, fun s h => ⟨_, rfl, ?_⟩⟩
  · refine ⟨_, exec_tickSourceWrite s r v hp hm, ?_, ?_, ?_, ?_, ?_⟩
    · rw [ok_reg, tickSourceSet_tickSource]
    · exact reply_answers s _ r 2 K.tickSource 0 [] hp.1.2.1 (by simp [State.path, tickSourceSet_host])
    · rw [ok_fe, tickSourceSet_fe, register_fe]
    · rw [ok_reg, tickSourceSet_tickState, register_reg]
    · rw [ok_fe, tickSourceSet_fe]
      exact onlyRegs_ok (tickSourceSet_frame (onlyRegs_register _ s r _ _) v.toNat) r
  · refine ⟨s.setReg K.tickState 0, ?_, State.setReg_reg_self _ _ _, onlyRegs_setReg (onlyRegs_refl _ s) _ _ (by simp)⟩
    exact congrArg Host.Outcome.next (if_pos ⟨h1, h2, hm, h3⟩)
  · refine congrArg Host.Outcome.next (if_neg fun ⟨h1, h2, h3, h4⟩ => ?_)
    rcases h with h | h | h | ⟨ha, hb⟩
    · exact h h1
    · exact h2 h
    · exact Bool.noConfusion (h3.symm.trans h)
    · exact h4.elim ha fun h4 => Bool.noConfusion (hb.symm.trans h4)
  · refine ⟨holdover s, rfl, ?_, ?_, fun h1 h2 => ⟨?_, ?_⟩, holdover_reg s⟩
    · rw [holdover_of_joined s h hj, emcy_reg _ _ _ _ _ _ (by decide) (by decide), State.setReg_reg_self]
    · rw [holdover_of_joined s h hj, emcy_errorBit]
    · rw [holdover_of_joined s h hj, emcy_reg _ _ _ _ _ _ (by decide) (by decide), State.setReg_reg_ne _ _ _ _ (by decide),
        if_pos ⟨by simp [State.regN, h1], h2⟩, State.modLink_reg, State.setReg_reg_self]
    · rw [holdover_of_joined s h hj, if_pos ⟨by simp [State.regN, h1], h2⟩]
      simp
  · exact holdover_of_not_joined s h

/-! ### The ring -/

/-- The link state of a member whose ring breaks (15 R566). -/
def ringToChain (s : State) : State := if s.reg K.linkState = 2 then s.setReg K.linkState 3 else s

/-- The link state of a member whose chain is a ring again (15 R566). -/
def chainToRing (s : State) : State := if s.reg K.linkState = 3 then s.setReg K.linkState 2 else s

theorem ringToChain_linkState (s : State) :
    (ringToChain s).reg K.linkState = if s.reg K.linkState = 2 then 3 else s.reg K.linkState := by
  unfold ringToChain; split <;> simp

theorem chainToRing_linkState (s : State) :
    (chainToRing s).reg K.linkState = if s.reg K.linkState = 3 then 2 else s.reg K.linkState := by
  unfold chainToRing; split <;> simp

theorem ringToChain_regBit (s : State) (k i : Nat) (h : k ≠ K.linkState) : (ringToChain s).regBit k i = s.regBit k i := by
  unfold ringToChain
  split
  · exact State.setReg_regBit_ne s _ _ _ _ h
  · rfl

theorem chainToRing_regBit (s : State) (k i : Nat) (h : k ≠ K.linkState) : (chainToRing s).regBit k i = s.regBit k i := by
  unfold chainToRing
  split
  · exact State.setReg_regBit_ne s _ _ _ _ h
  · rfl

theorem onlyRegs_ringToChain {ks : List Nat} {s t : State} (h : OnlyRegs ks s t) (hk : K.linkState ∈ ks) :
    OnlyRegs ks s (ringToChain t) := by
  unfold ringToChain
  split
  · exact onlyRegs_setReg h _ _ hk
  · exact h

theorem onlyRegs_chainToRing {ks : List Nat} {s t : State} (h : OnlyRegs ks s t) (hk : K.linkState ∈ ks) :
    OnlyRegs ks s (chainToRing t) := by
  unfold chainToRing
  split
  · exact onlyRegs_setReg h _ _ hk
  · exact h

theorem exec_ringBroken (s : State) (side : Fin 2) (h : linkOn s = true) (hb : s.regBit K.linkFlags side.val = true) :
    exec (.ringBroken side) s = .next (emcy
      (ringToChain ((s.setBit K.linkFlags side.val false).setBit K.linkFlags 2 true)) 0xFF76 4 0xFF side.val) :=
  congrArg Host.Outcome.next (if_pos (by simp [h, hb]))

theorem exec_neighbourLinkRestored (s : State) (side : Fin 2) (h : linkOn s = true) :
    exec (.neighbourLinkRestored side) s = .next (if s.regBit K.linkFlags (1 - side.val) = true then
      chainToRing ((s.setBit K.linkFlags side.val true).setBit K.linkFlags 2 false) else s.setBit K.linkFlags side.val true) := by
  have both : ((s.setBit K.linkFlags side.val true).regBit K.linkFlags 0 && (s.setBit K.linkFlags side.val true).regBit K.linkFlags 1)
      = s.regBit K.linkFlags (1 - side.val) := by
    match side with
    | 0 => simp [State.setBit_regBit_other]
    | 1 => simp [State.setBit_regBit_other]
  refine congrArg Host.Outcome.next ((if_pos h).trans ?_)
  rw [← both]
  rfl

theorem ringBroken_makes_a_chain (s : State) (side : Fin 2) (h : linkOn s = true) (hb : s.regBit K.linkFlags side.val = true) :
    ∃ t, exec (.ringBroken side) s = .next t ∧ t.regBit K.linkFlags side.val = false ∧ t.regBit K.linkFlags 2 = true
      ∧ t.reg K.linkState = (if s.reg K.linkState = 2 then 3 else s.reg K.linkState)
      ∧ OnlyRegs [K.linkFlags, K.linkState, K.errRegErrorRegister, K.tagEmcyOverflow] s t := by
  refine ⟨_, exec_ringBroken s side h hb, ?_, ?_, ?_, ?_⟩
  · rw [emcy_regBit _ _ _ _ _ _ _ (by decide) (by decide), ringToChain_regBit _ _ _ (by decide),
      State.setBit_regBit_other _ _ _ _ _ (by omega), State.setBit_regBit_self]
  · rw [emcy_regBit _ _ _ _ _ _ _ (by decide) (by decide), ringToChain_regBit _ _ _ (by decide), State.setBit_regBit_self]
  · rw [emcy_reg _ _ _ _ _ _ (by decide) (by decide), ringToChain_linkState, State.setBit_reg_ne _ _ _ _ _ (by decide),
      State.setBit_reg_ne _ _ _ _ _ (by decide)]
  · refine onlyRegs_emcy (onlyRegs_ringToChain ?_ (by simp)) _ _ _ _ (by simp) (by simp)
    exact onlyRegs_setBit (onlyRegs_setBit (onlyRegs_refl _ s) _ _ _ (by simp)) _ _ _ (by simp)

theorem neighbourLinkRestored_mends (s : State) (side : Fin 2) (h : linkOn s = true) :
    ∃ t, exec (.neighbourLinkRestored side) s = .next t ∧ t.regBit K.linkFlags side.val = true ∧ OnlyRegs [K.linkFlags, K.linkState] s t
      ∧ (s.regBit K.linkFlags (1 - side.val) = true → t.regBit K.linkFlags 2 = false
          ∧ t.reg K.linkState = (if s.reg K.linkState = 3 then 2 else s.reg K.linkState))
      ∧ (s.regBit K.linkFlags (1 - side.val) = false → t.regBit K.linkFlags 2 = s.regBit K.linkFlags 2
          ∧ t.reg K.linkState = s.reg K.linkState) := by
  have hs : OnlyRegs [K.linkFlags, K.linkState] s (s.setBit K.linkFlags side.val true) :=
    onlyRegs_setBit (onlyRegs_refl _ s) _ _ _ (by simp)
  refine ⟨_, exec_neighbourLinkRestored s side h, ?_⟩
  by_cases ho : s.regBit K.linkFlags (1 - side.val) = true
  · rw [if_pos ho]
    refine ⟨?_, onlyRegs_chainToRing (onlyRegs_setBit hs _ _ _ (by simp)) (by simp), fun _ => ⟨?_, ?_⟩, by simp [ho]⟩
    · rw [chainToRing_regBit _ _ _ (by decide), State.setBit_regBit_other _ _ _ _ _ (by omega), State.setBit_regBit_self]
    · rw [chainToRing_regBit _ _ _ (by decide), State.setBit_regBit_self]
    · rw [chainToRing_linkState, State.setBit_reg_ne _ _ _ _ _ (by decide), State.setBit_reg_ne _ _ _ _ _ (by decide)]
  · rw [if_neg ho]
    refine ⟨State.setBit_regBit_self s _ _ _, hs, fun hh => absurd hh ho, fun _ => ⟨?_, ?_⟩⟩
    · exact State.setBit_regBit_other _ _ _ _ _ (by omega)
    · exact State.setBit_reg_ne _ _ _ _ _ (by decide)

/-! ### The election of the time source (19 R655 to R658) -/

/-- The better of the member found so far and member `i`: an eligible one of a higher priority (19 R656). -/
def preferMember (s : State) (b : Option Nat) (i : Nat) : Option Nat :=
  if eligibleMember s i then
    match b with
    | none => some i
    | some j => if priorityOf s j < priorityOf s i then some i else some j
  else b

theorem bestMember_eq (s : State) : bestMember s = (List.range 8).foldl (preferMember s) none := rfl

/-- Among the members below `n`, member `i` is eligible and of the highest priority, and of the lowest CFG_ID among equals. -/
structure BestBelow (s : State) (n i : Nat) : Prop where
  below : i < n
  eligible : eligibleMember s i = true
  best : ∀ j < n, eligibleMember s j = true → priorityOf s j < priorityOf s i ∨ (priorityOf s j = priorityOf s i ∧ i ≤ j)

theorem BestBelow.unique {s : State} {n i j : Nat} (hi : BestBelow s n i) (hj : BestBelow s n j) : i = j := by
  have h1 := hi.best j hj.below hj.eligible
  have h2 := hj.best i hi.below hi.eligible
  omega

/-- Member `n` joins the comparison. -/
theorem BestBelow.prefer {s : State} {n i : Nat} (h : BestBelow s n i) :
    ∃ j, preferMember s (some i) n = some j ∧ BestBelow s (n + 1) j := by
  obtain ⟨hlt, hel, hbest⟩ := h
  unfold preferMember
  by_cases he : eligibleMember s n = true
  · by_cases hp : priorityOf s i < priorityOf s n
    · refine ⟨n, by simp [he, hp], by omega, he, fun j hj hje => ?_⟩
      rcases Nat.lt_succ_iff_lt_or_eq.mp hj with hj | rfl
      · have := hbest j hj hje; omega
      · exact .inr ⟨rfl, Nat.le_refl _⟩
    · refine ⟨i, by simp [he, hp], by omega, hel, fun j hj hje => ?_⟩
      rcases Nat.lt_succ_iff_lt_or_eq.mp hj with hj | rfl
      · exact hbest j hj hje
      · omega
  · refine ⟨i, by simp [he], by omega, hel, fun j hj hje => ?_⟩
    rcases Nat.lt_succ_iff_lt_or_eq.mp hj with hj | rfl
    · exact hbest j hj hje
    · exact absurd hje he

/-- The comparison finds no member where none is eligible, and otherwise the best one. -/
theorem preferMember_fold (s : State) (n : Nat) :
    ((List.range n).foldl (preferMember s) none = none ∧ ∀ i < n, eligibleMember s i = false)
      ∨ ∃ i, (List.range n).foldl (preferMember s) none = some i ∧ BestBelow s n i := by
  induction n with
  | zero => exact .inl ⟨rfl, by simp⟩
  | succ n ih =>
    simp only [List.range_succ, List.foldl_append, List.foldl_cons, List.foldl_nil]
    rcases ih with ⟨hnone, hall⟩ | ⟨i, hsome, hi⟩
    · rw [hnone]
      by_cases he : eligibleMember s n = true
      · refine .inr ⟨n, by simp [preferMember, he], by omega, he, fun j hj hje => ?_⟩
        rcases Nat.lt_succ_iff_lt_or_eq.mp hj with hj | rfl
        · simp [hall j hj] at hje
        · exact .inr ⟨rfl, Nat.le_refl _⟩
      · refine .inl ⟨by simp [preferMember, he], fun i hi => ?_⟩
        rcases Nat.lt_succ_iff_lt_or_eq.mp hi with hi | rfl
        · exact hall i hi
        · simpa using he
    · rw [hsome]
      exact .inr hi.prefer

theorem bestMember_of_best {s : State} {i : Nat} (h : BestBelow s 8 i) : bestMember s = some i := by
  rw [bestMember_eq]
  rcases preferMember_fold s 8 with ⟨_, hall⟩ | ⟨j, hj, hb⟩
  · have := hall i h.below
    simp [h.eligible] at this
  · rw [hj, hb.unique h]

theorem bestMember_of_none {s : State} (h : ∀ i < 8, eligibleMember s i = false) : bestMember s = none := by
  rw [bestMember_eq]
  rcases preferMember_fold s 8 with ⟨hn, _⟩ | ⟨j, _, hb⟩
  · exact hn
  · have := h j hb.below
    simp [hb.eligible] at this

/-- The time source that an election chooses; 0xFF for none. -/
def electedSource (s : State) : Nat :=
  if s.regN K.cellTimeSource < 8 ∧ eligibleMember s (s.regN K.cellTimeSource) = true then s.regN K.cellTimeSource
  else (bestMember s).getD 0xFF

/-- The choice is recorded, and a new source is counted in from its first tick. -/
def recordElection (s : State) (new : Nat) : State :=
  let t := (s.bump K.cellElections 32).setReg K.cellTimeSource new
  if new = s.regN K.cellTimeSource then t else t.modLink fun l => { l with inOrder := 0, tickSeq := none }

/-- What the choice means for this member: its own generator, a wait for a lock, or holdover (19 R657, R658). -/
def takeRole (s : State) (was new : Nat) : State :=
  if new = 0xFF then holdover s
  else if new = cellId s then s.setRegs [(K.linkState, if s.regBit K.linkFlags 2 then 3 else 2), (K.tickState, 0)]
  else if was = cellId s then s.setRegs [(K.linkState, 1), (K.tickState, if s.reg K.tickSource = 1 then 2 else s.reg K.tickState)]
  else if new = was then s
  else holdover s

/-- The state after an election, but for the emergency that tells of it. -/
def heldElection (s : State) : State :=
  takeRole (recordElection s (electedSource s)) (s.regN K.cellTimeSource) (electedSource s)

theorem exec_timeSourceElection (s : State) (h : linkOn s = true) :
    exec .timeSourceElection s = .next (if s.reg K.cellElections == 0 then heldElection s
      else emcy (heldElection s) 0xFF79 4 (cellId (heldElection s)) (electedSource s)) :=
  congrArg Host.Outcome.next (if_neg (by simp [h]))

theorem recordElection_reg (s : State) (new k : Nat) (h1 : k ≠ K.cellElections) (h2 : k ≠ K.cellTimeSource) :
    (recordElection s new).reg k = s.reg k := by
  have h : ((s.bump K.cellElections 32).setReg K.cellTimeSource new).reg k = s.reg k := by
    rw [State.setReg_reg_ne _ _ _ _ h2, State.bump_reg_ne _ _ _ _ h1]
  unfold recordElection
  split
  · exact h
  · rw [State.modLink_reg, h]

theorem recordElection_source (s : State) (new : Nat) : (recordElection s new).reg K.cellTimeSource = new := by
  unfold recordElection
  split
  · exact State.setReg_reg_self _ _ _
  · rw [State.modLink_reg, State.setReg_reg_self]

theorem recordElection_count (s : State) (new : Nat) :
    (recordElection s new).reg K.cellElections = ((s.regN K.cellElections + 1) % 2 ^ 32 : Nat) := by
  have h : ((s.bump K.cellElections 32).setReg K.cellTimeSource new).reg K.cellElections
      = ((s.regN K.cellElections + 1) % 2 ^ 32 : Nat) := by
    rw [State.setReg_reg_ne _ _ _ _ (by decide), State.bump_reg_self]
  unfold recordElection
  split
  · exact h
  · rw [State.modLink_reg, h]

theorem recordElection_link_same (s : State) : (recordElection s (s.regN K.cellTimeSource)).link = s.link := by
  rw [recordElection, if_pos rfl]
  rfl

theorem recordElection_cellId (s : State) (new : Nat) : cellId (recordElection s new) = cellId s := by
  simp [cellId, State.regN, recordElection_reg s new K.cfgId (by decide) (by decide)]

/-- The role touches the state of the link and of the tick, and what an emergency touches. -/
theorem takeRole_reg (s : State) (was new k : Nat)
    (hk : k ∉ [K.tickState, K.linkState, K.errRegErrorRegister, K.tagEmcyOverflow]) : (takeRole s was new).reg k = s.reg k := by
  have hsets : ∀ a b : Int, (s.setRegs [(K.linkState, a), (K.tickState, b)]).reg k = s.reg k := fun a b => by
    simp only [List.mem_cons, not_or] at hk
    obtain ⟨h1, h2, -⟩ := hk
    simp [State.setReg_reg_ne _ _ _ _ h1, State.setReg_reg_ne _ _ _ _ h2]
  unfold takeRole
  split
  · exact holdover_reg s k hk
  · split
    · exact hsets _ _
    · split
      · exact hsets _ _
      · split
        · rfl
        · exact holdover_reg s k hk

theorem takeRole_own (s : State) (was : Nat) (h : cellId s ≠ 0xFF) :
    takeRole s was (cellId s) = s.setRegs [(K.linkState, if s.regBit K.linkFlags 2 then 3 else 2), (K.tickState, 0)] := by
  rw [takeRole, if_neg h, if_pos rfl]

theorem takeRole_resign (s : State) (new : Nat) (h : new ≠ 0xFF) (hn : new ≠ cellId s) :
    takeRole s (cellId s) new
      = s.setRegs [(K.linkState, 1), (K.tickState, if s.reg K.tickSource = 1 then 2 else s.reg K.tickState)] := by
  rw [takeRole, if_neg h, if_neg hn, if_pos rfl]

theorem takeRole_same (s : State) (was : Nat) (h : was ≠ 0xFF) (hn : was ≠ cellId s) : takeRole s was was = s := by
  rw [takeRole, if_neg h, if_neg hn, if_neg hn, if_pos rfl]

/-- What an election leaves in an entry that no emergency touches. -/
theorem election_reg (s t : State) (h : linkOn s = true) (ht : exec .timeSourceElection s = .next t) (k : Nat)
    (h1 : k ≠ K.errRegErrorRegister) (h2 : k ≠ K.tagEmcyOverflow) : t.reg k = (heldElection s).reg k := by
  rw [exec_timeSourceElection s h] at ht
  injection ht with ht
  rw [← ht]
  split
  · rfl
  · exact emcy_reg _ _ _ _ _ _ h1 h2

theorem election_link (s t : State) (h : linkOn s = true) (ht : exec .timeSourceElection s = .next t) :
    t.link = (heldElection s).link := by
  rw [exec_timeSourceElection s h] at ht
  injection ht with ht
  rw [← ht]
  split
  · rfl
  · exact emcy_link _ _ _ _ _

theorem heldElection_count (s : State) :
    (heldElection s).reg K.cellElections = ((s.regN K.cellElections + 1) % 2 ^ 32 : Nat) := by
  rw [heldElection, takeRole_reg _ _ _ _ (by decide), recordElection_count]

theorem heldElection_source (s : State) : (heldElection s).reg K.cellTimeSource = electedSource s := by
  rw [heldElection, takeRole_reg _ _ _ _ (by decide), recordElection_source]

theorem electedSource_of_eligible (s : State) (h8 : s.regN K.cellTimeSource < 8)
    (he : eligibleMember s (s.regN K.cellTimeSource) = true) : electedSource s = s.regN K.cellTimeSource := if_pos ⟨h8, he⟩

theorem electedSource_of_best (s : State) (i : Nat) (hw : eligibleMember s (s.regN K.cellTimeSource) = false)
    (hi : BestBelow s 8 i) : electedSource s = i := by
  rw [electedSource, if_neg (by simp [hw]), bestMember_of_best hi]
  rfl

theorem electedSource_of_none (s : State) (h : ∀ i < 8, eligibleMember s i = false) : electedSource s = 0xFF := by
  rw [electedSource, if_neg fun hh => by simp [h _ hh.1] at hh, bestMember_of_none h]
  rfl

/-- A source that keeps its role leaves a member that follows it as it is. -/
theorem heldElection_same (s : State) (h8 : s.regN K.cellTimeSource < 8)
    (he : eligibleMember s (s.regN K.cellTimeSource) = true) (hn : s.regN K.cellTimeSource ≠ cellId s) :
    heldElection s = recordElection s (s.regN K.cellTimeSource) := by
  rw [heldElection, electedSource_of_eligible s h8 he]
  exact takeRole_same _ _ (by omega) (by rwa [recordElection_cellId])

theorem heldElection_resign (s : State) (hn : electedSource s ≠ 0xFF) (hi : electedSource s ≠ cellId s)
    (hw : s.regN K.cellTimeSource = cellId s) : (heldElection s).reg K.linkState = 1 := by
  rw [heldElection, hw, ← recordElection_cellId s (electedSource s),
    takeRole_resign _ _ hn (by rwa [recordElection_cellId])]
  simp [State.setReg_reg_ne, show K.linkState ≠ K.tickState by decide]

theorem heldElection_own (s : State) (hn : electedSource s ≠ 0xFF) (hi : electedSource s = cellId s) :
    (heldElection s).reg K.tickState = 0
      ∧ (heldElection s).reg K.linkState = if s.regBit K.linkFlags 2 then 3 else 2 := by
  have hf : (recordElection s (cellId s)).regBit K.linkFlags 2 = s.regBit K.linkFlags 2 := by
    simp [State.regBit, State.regN, recordElection_reg s _ K.linkFlags (by decide) (by decide)]
  have hr : heldElection s = (recordElection s (cellId s)).setRegs
      [(K.linkState, if s.regBit K.linkFlags 2 then 3 else 2), (K.tickState, 0)] := by
    rw [heldElection, hi, ← hf]
    have := takeRole_own (recordElection s (cellId s)) (s.regN K.cellTimeSource) (by rwa [recordElection_cellId, ← hi])
    rwa [recordElection_cellId] at this
  rw [hr]
  simp [State.setReg_reg_ne, show K.linkState ≠ K.tickState by decide]

theorem ringsBreakAndSourcesAreElected : RingsBreakAndSourcesAreElected := by
  refine ⟨ringBroken_makes_a_chain, neighbourLinkRestored_mends, fun s side h => ?_, fun s side h => ⟨?_, ?_⟩, fun s h => ?_⟩
  · refine congrArg Host.Outcome.next (if_neg ?_)
    rcases h with h | h <;> simp [h]
  · exact congrArg Host.Outcome.next (if_neg (by simp [h]))
  · exact congrArg Host.Outcome.next (if_pos h)
  · intro was
    obtain ⟨t, ht⟩ : ∃ t, exec .timeSourceElection s = .next t := ⟨_, rfl⟩
    have hreg := fun k => election_reg s t h ht k
    refine ⟨t, ht, ?_, fun h8 he => ?_, fun h8 he hn => ⟨?_, ?_⟩, fun i hi hw he hbest => ?_, fun hnone => ?_⟩
    · rw [hreg _ (by decide) (by decide), heldElection_count]
    · rw [hreg _ (by decide) (by decide), heldElection_source, electedSource_of_eligible s h8 he]
    · rw [election_link s t h ht, heldElection_same s h8 he hn, recordElection_link_same]
    · rw [hreg _ (by decide) (by decide), heldElection_same s h8 he hn, recordElection_reg _ _ _ (by decide) (by decide)]
    · have hnew := electedSource_of_best s i hw ⟨hi, he, hbest⟩
      have hff : electedSource s ≠ 0xFF := by omega
      refine ⟨?_, fun hic hwc => ?_, fun hic => ?_⟩
      · rw [hreg _ (by decide) (by decide), heldElection_source, hnew]
      · rw [hreg _ (by decide) (by decide), heldElection_resign s hff (by omega) hwc]
      · rw [hreg _ (by decide) (by decide), hreg _ (by decide) (by decide)]
        exact heldElection_own s hff (by omega)
    · rw [hreg _ (by decide) (by decide), heldElection_source, electedSource_of_none s hnone]
      rfl

end Sys2Proof.Machine
end

section
/-! SUPPORT. What a wake from a lower state leaves (16 R580, R581; 18 R651), and the windows of sleeping partners (15 R568). -/

namespace Sys2Proof.Machine
open Claims

/-! ### A reset leaves no request waiting and no lower state -/

/-- The requests that wait, and the power state. -/
def waitsAndPower (s : State) : List (WaitFor × Req) × PowerSt := (s.host.waits, s.power)

theorem host_waits_of_view {s t : State} (h : waitsAndPower s = waitsAndPower t) : s.host.waits = t.host.waits :=
  congrArg Prod.fst h

theorem power_of_view {s t : State} (h : waitsAndPower s = waitsAndPower t) : s.power = t.power := congrArg Prod.snd h

theorem waitsAndPower_setReg (s : State) (k : Nat) (v : Int) : waitsAndPower (s.setReg k v) = waitsAndPower s := rfl

theorem waitsAndPower_setRegs (s : State) (l : List (Nat × Int)) : waitsAndPower (s.setRegs l) = waitsAndPower s :=
  foldl_view waitsAndPower _ l s fun s x => waitsAndPower_setReg s x.1 x.2

theorem waitsAndPower_emcy (s : State) (code bit unit detail : Nat) :
    waitsAndPower (emcy s code bit unit detail) = waitsAndPower s := by simp [waitsAndPower]

theorem waitsAndPower_showReserve (s : State) : waitsAndPower (showReserve s) = waitsAndPower s := by
  have hfig : waitsAndPower (showFigures s) = waitsAndPower s := by
    rw [showFigures, waitsAndPower_setRegs, foldl_view waitsAndPower _ _ _ fun _ _ => waitsAndPower_setReg _ _ _]
  rw [showReserve, foldl_view waitsAndPower _ _ _ fun _ _ => ?_, hfig]
  exact foldl_view waitsAndPower _ _ _ fun _ _ => waitsAndPower_emcy _ _ _ _ _

theorem waitsAndPower_fwRun (s : State) (c : Nat) : waitsAndPower (fwRun s c) = waitsAndPower s :=
  waitsAndPower_setRegs s _

theorem waitsAndPower_fwTrialEnds (s : State) : waitsAndPower (fwTrialEnds s) = waitsAndPower s := by
  rw [fwTrialEnds, waitsAndPower_emcy, waitsAndPower_setRegs, waitsAndPower_fwRun]

theorem waitsAndPower_fwReset (s : State) : waitsAndPower (fwReset s) = waitsAndPower s := by
  have h : ∀ u : State, waitsAndPower (if u.reg K.fwTrial = 1 then fwTrialEnds u else u) = waitsAndPower u := fun u => by
    split
    · exact waitsAndPower_fwTrialEnds u
    · rfl
  rw [fwReset, h]
  split <;> rfl

theorem waitsAndPower_islEvent (s : State) (code : Nat) (detail : List Byte) :
    waitsAndPower (islEvent s code detail) = waitsAndPower s := by
  unfold islEvent
  split <;> rfl

theorem waitsAndPower_settleTamper (s : State) : waitsAndPower (settleTamper s) = waitsAndPower s := by
  unfold settleTamper
  split
  · rw [tamperDone, waitsAndPower_islEvent, waitsAndPower_emcy]
    rfl
  · rfl

theorem waitsAndPower_startFilters (s : State) (n : Nat) : waitsAndPower (startFilters s n) = waitsAndPower s := by
  unfold startFilters
  rw [waitsAndPower_setRegs]
  split <;> rfl

theorem planPlls_host_waits (s : State) : (planPlls s).host.waits = s.host.waits :=
  forN_view (fun s => s.host.waits) 8 _ s fun _ _ => foldl_view (fun s => s.host.waits) _ _ _ fun _ _ => rfl

theorem resetSlots_host_waits (s : State) : (resetSlots s).host.waits = s.host.waits :=
  forN_view (fun s => s.host.waits) 3 _ s fun s i => by dsimp only; split <;> rfl

theorem resetHost_no_waits (cold : Bool) (s : State) : (countIncomplete (resetFrontEnd cold (resetHost s))).host.waits = [] := rfl

/-- The functions that act after the power state is reset. -/
theorem waitsAndPower_resetTail (s : State) :
    waitsAndPower (showReserve (fwReset (settleTamper (forN 48 startFilters (forN 48 showFlt s))))) = waitsAndPower s := by
  rw [waitsAndPower_showReserve, waitsAndPower_fwReset, waitsAndPower_settleTamper,
    forN_view waitsAndPower 48 _ _ waitsAndPower_startFilters, forN_view waitsAndPower 48 showFlt _ fun _ _ => rfl]

theorem takeSettings_host (s : State) : (takeSettings s).host = s.host := rfl

theorem resetTail_host_waits (s : State) :
    (showReserve (fwReset (settleTamper (forN 48 startFilters (forN 48 showFlt s))))).host.waits = s.host.waits :=
  host_waits_of_view (waitsAndPower_resetTail s)

theorem resetTail_power (s : State) :
    (showReserve (fwReset (settleTamper (forN 48 startFilters (forN 48 showFlt s))))).power = s.power :=
  power_of_view (waitsAndPower_resetTail s)

theorem deviceReset_power_low (cold wake : Bool) (kept : Nat) (s : State) : (deviceReset cold wake kept s).power.low = 0 := by
  unfold deviceReset
  extract_lets
  rw [resetTail_power]

/-- After a reset no request waits: what follows the reset of the host paths lets none wait. -/
theorem deviceReset_host_waits (cold wake : Bool) (kept : Nat) (s : State) : (deviceReset cold wake kept s).host.waits = [] := by
  unfold deviceReset
  extract_lets _ _ _ _ _ _ _ _ _ settings
  rw [resetTail_host_waits]
  change settings.host.waits = []
  rw [takeSettings_host, planPlls_host_waits, resetSlots_host_waits, resetHost_no_waits]

/-- A wake notes its cause and the state that it leaves (16 R581). -/
def noteWake (s : State) (bits low : Nat) : State := s.setRegs [(K.powLastWake, bits), (K.powLastState, low)]

theorem noteWake_wake (s : State) (bits low : Nat) : (noteWake s bits low).reg K.powLastWake = bits := by
  simp (disch := decide) only [noteWake, State.setRegs_cons, State.setRegs_nil, State.setReg_reg_ne, State.setReg_reg_self]

theorem noteWake_state (s : State) (bits low : Nat) : (noteWake s bits low).reg K.powLastState = low := by
  simp only [noteWake, State.setRegs_cons, State.setRegs_nil, State.setReg_reg_self]

/-- The wake from SLEEP, which loses nothing (16 R580). -/
theorem wake_from_sleep (s : State) (bits : Nat) (h : s.power.low = 2) :
    wake s bits = { noteWake s bits 2 with
      power := { s.power with low := 0, stage := 2, wokeFrom := 2, wakes := 0, target := 0, step := 0, acked := 0 } } :=
  if_pos h

/-- The banks that a wake from DEEP SLEEP finds kept (11 R432). -/
def keptBanks (s : State) : Nat :=
  if s.power.low = 3 then (List.range 16).foldl (fun m b => if s.reg (K.bankRetain b) = 1 then m + 2 ^ b else m) 0 else 0

/-- The start from step 1 with the rails down (16 R580). -/
def beginStart (s : State) (low : Nat) : State :=
  { s with power := { s.power with stage := 1, wokeFrom := low, pg := 0, acked := 0 } }

/-- The wake from DEEP SLEEP or OFF follows a reset (16 R580, R581). The reset's result is named before the two sides are
compared, so that the comparison does not unfold it. -/
theorem wake_from_off (s : State) (bits : Nat) (h : s.power.low ≠ 2) :
    wake s bits = beginStart (noteWake (deviceReset true true (keptBanks s) s) bits s.power.low) s.power.low := by
  unfold wake
  rw [if_neg h]
  extract_lets kept t noted
  have ht : deviceReset true true (keptBanks s) s = t := rfl
  have hn : noteWake t bits s.power.low = noted := rfl
  rw [ht, hn]
  clear_value noted
  rfl

/-- A wake out of a lower state (16 R580, R581). -/
theorem wake_woken (s : State) (bits : Nat) : Woken s (wake s bits) bits := by
  by_cases h2 : s.power.low = 2
  · rw [wake_from_sleep s bits h2]
    refine ⟨noteWake_wake s bits 2, rfl, ?_, h2.symm, fun _ => rfl, fun h => absurd h2 h⟩
    rw [h2]
    exact noteWake_state s bits 2
  · have hlow := deviceReset_power_low true true (keptBanks s) s
    have hwaits := deviceReset_host_waits true true (keptBanks s) s
    rw [wake_from_off s bits h2]
    generalize deviceReset true true (keptBanks s) s = t at hlow hwaits
    exact ⟨noteWake_wake t bits _, hlow, noteWake_state t bits _, rfl, fun h => absurd h h2, fun _ => ⟨rfl, hwaits⟩⟩

/-- What a command does after a wake keeps it a wake, where it leaves LAST_WAKE, LAST_STATE, the power state and the waits alone. -/
theorem woken_of_kept {s t u : State} {bits : Nat} (h : Woken s t bits) (hr : u.reg K.powLastWake = t.reg K.powLastWake)
    (hs : u.reg K.powLastState = t.reg K.powLastState) (hv : waitsAndPower u = waitsAndPower t) : Woken s u bits := by
  obtain ⟨h1, h2, h3, h4, h5, h6⟩ := h
  have hw := host_waits_of_view hv
  have hp := power_of_view hv
  refine ⟨hr.trans h1, ?_, hs.trans h3, ?_, ?_, ?_⟩
  · rw [hp]; exact h2
  · rw [hp]; exact h4
  · rw [hp]; exact h5
  · rw [hp, hw]; exact h6

/-! ### Windows, beacons and bursts -/

/-- What a beacon sets once the member is awake (15 R568 step 5). -/
def beaconSet (t : State) (w : Nat) (time own : BitVec 64) (period : BitVec 32) : State :=
  (t.setRegs [(K.linkWakeResult, w),
    (K.linkWakeError, toSigned 32 (ofSigned 32 (((own.toNat : Int) - (time.toNat : Int)) / 1000000))),
    (K.linkCellTime, time.toNat), (K.linkBurstPeriod, period.toNat), (K.linkState, 1)]).modLink
    fun l => { l with window := 0, base := time.toNat, timed := true }

theorem exec_clapperBeacon_good (s : State) (time own : BitVec 64) (period : BitVec 32) (hw : s.link.window ≠ 0)
    (hl : s.power.low ≠ 0) :
    exec (.clapperBeacon true time period own) s = .next (beaconSet (wake s 0x08) s.link.window time own period) :=
  congrArg Host.Outcome.next (if_neg fun h => h.elim hw hl)

theorem exec_clapperBeacon_bad (s : State) (time own : BitVec 64) (period : BitVec 32) (hw : s.link.window ≠ 0)
    (hl : s.power.low ≠ 0) : exec (.clapperBeacon false time period own) s = .next (s.bump K.linkCrcErrors 32) :=
  congrArg Host.Outcome.next (if_neg fun h => h.elim hw hl)

/-- What a search that has timed out sets once the member is awake (15 R568 step 6). -/
def searchEnd (t : State) : State :=
  (t.setRegs [(K.linkWakeResult, 5), (K.linkState, 1)]).modLink fun l => { l with window := 0 }

theorem exec_wakeSearchTimeout (s : State) (hw : s.link.window = 4) (hl : s.power.low ≠ 0) :
    exec .wakeSearchTimeout s = .next (emcy (searchEnd (wake s 0x08)) 0xFF72 4 0xFF (s.link.sleep / 1000000000)) :=
  congrArg Host.Outcome.next (if_neg fun h => h.elim (fun h => h hw) hl)

theorem beaconSet_woken {s t : State} (h : Woken s t 0x08) (w : Nat) (time own : BitVec 64) (period : BitVec 32) :
    Woken s (beaconSet t w time own period) 0x08 := by
  refine woken_of_kept h ?_ ?_ ?_
  · simp (disch := decide) only [beaconSet, State.modLink_reg, State.setRegs_cons, State.setRegs_nil, State.setReg_reg_ne]
  · simp (disch := decide) only [beaconSet, State.modLink_reg, State.setRegs_cons, State.setRegs_nil, State.setReg_reg_ne]
  · exact waitsAndPower_setRegs t _

theorem searchEnd_woken {s t : State} (h : Woken s t 0x08) (code bit unit detail : Nat) :
    Woken s (emcy (searchEnd t) code bit unit detail) 0x08 := by
  refine woken_of_kept h ?_ ?_ ((waitsAndPower_emcy _ _ _ _ _).trans (waitsAndPower_setRegs t _))
  · simp (disch := decide) only [emcy_reg, searchEnd, State.modLink_reg, State.setRegs_cons, State.setRegs_nil, State.setReg_reg_ne]
  · simp (disch := decide) only [emcy_reg, searchEnd, State.modLink_reg, State.setRegs_cons, State.setRegs_nil, State.setReg_reg_ne]

theorem sleepingPartnersWake : SleepingPartnersWake := by
  refine ⟨fun s w hl ha he => ?_, fun s h1 h3 hl => ⟨_, congrArg Host.Outcome.next (if_pos ⟨h1, h3, hl⟩), rfl⟩,
    fun s time own period hw hl => ⟨_, exec_clapperBeacon_good s time own period hw hl, beaconSet_woken (wake_woken s _) _ _ _ _, ?_⟩,
    fun s time own period hw hl => ⟨_, exec_clapperBeacon_bad s time own period hw hl, State.bump_reg_self _ _ _, ?_⟩,
    fun s hw hl => ⟨_, exec_wakeSearchTimeout s hw hl, searchEnd_woken (wake_woken s _) _ _ _ _, ?_⟩,
    fun s w good time own period => ⟨fun h => ?_, fun h => ?_, fun h => ?_, fun h => ?_⟩, fun s => ?_⟩
  · have hopen : ¬(s.power.low = 0 ∨ s.reg K.linkWakeAt = 0 ∨ s.reg K.linkEnable = 0) := by simp [hl, ha, he]
    refine ⟨_, congrArg Host.Outcome.next (if_neg hopen), fun hs => ?_, fun hs => if_neg hs⟩
    rw [if_pos hs]
    exact wake_woken s 0x08
  · simp (disch := decide) only [beaconSet, State.modLink_reg, State.modLink_link, State.setRegs_cons, State.setRegs_nil,
      State.setReg_reg_ne, State.setReg_reg_self, and_self]
  · exact onlyRegs_setReg (onlyRegs_refl _ s) _ _ (by simp)
  · simp (disch := decide) only [emcy_reg, emcy_link, searchEnd, State.modLink_reg, State.modLink_link, State.setRegs_cons,
      State.setRegs_nil, State.setReg_reg_ne, State.setReg_reg_self, and_self]
  · exact congrArg Host.Outcome.next (if_pos h)
  · exact congrArg Host.Outcome.next (if_neg (by omega))
  · exact congrArg Host.Outcome.next (if_pos h.symm)
  · exact congrArg Host.Outcome.next (if_pos h.symm)
  · exact ⟨_, rfl, fun h => if_neg h, fun h => if_pos h⟩

/-- Settles O56: the tick source, the ring with its elections, and the windows of sleeping partners. -/
theorem ticksRingsAndSleepingPartners : Obligations.TicksRingsAndSleepingPartners :=
  ⟨tickSourcesAreJoinedAndLost, ringsBreakAndSourcesAreElected, sleepingPartnersWake⟩

end Sys2Proof.Machine
end

section
/-! SUPPORT. The entry to SAFE state leaves the operating mode, the die bridge and the load in progress to the entry itself (18 R640):
none of the operations that stop ports, groups and the fabric touches them. -/

namespace Sys2Proof.Machine

/-- The mode of the device, whether the die bridge is down, and the load and the stream in progress. -/
def safeView (s : State) : RunMode × Bool × Option LoadSt × Option FcpSt := (s.mode, s.fe.bridgeDown, s.fab.load, s.fab.fcp)

/-! ### Shared operations -/

@[simp] theorem safeView_setReg (s : State) (k : Nat) (v : Int) : safeView (s.setReg k v) = safeView s := rfl
@[simp] theorem safeView_setBit (s : State) (k i : Nat) (b : Bool) : safeView (s.setBit k i b) = safeView s := rfl
@[simp] theorem safeView_bump (s : State) (k w : Nat) : safeView (s.bump k w) = safeView s := rfl
@[simp] theorem safeView_modCm (s : State) (n : Nat) (f : CmPort → CmPort) : safeView (s.modCm n f) = safeView s := rfl
@[simp] theorem safeView_modFb (s : State) (n : Nat) (f : FbPort → FbPort) : safeView (s.modFb n f) = safeView s := rfl
@[simp] theorem safeView_modEv (s : State) (n : Nat) (f : EvChan → EvChan) : safeView (s.modEv n f) = safeView s := rfl
@[simp] theorem safeView_modEng (s : State) (n : Nat) (f : Eng → Eng) : safeView (s.modEng n f) = safeView s := rfl
@[simp] theorem safeView_modGrp (s : State) (n : Nat) (f : Grp → Grp) : safeView (s.modGrp n f) = safeView s := rfl
@[simp] theorem safeView_modBank (s : State) (n : Nat) (f : BankSt → BankSt) : safeView (s.modBank n f) = safeView s := rfl
@[simp] theorem safeView_modPort (s : State) (n : Nat) (f : FabPort → FabPort) : safeView (s.modPort n f) = safeView s := rfl
@[simp] theorem safeView_modSeam (s : State) (n : Nat) (f : SeamDir → SeamDir) : safeView (s.modSeam n f) = safeView s := rfl
@[simp] theorem safeView_cmBit (s : State) (n i : Nat) (b : Bool) : safeView (cmBit s n i b) = safeView s := rfl
@[simp] theorem safeView_gstBit (s : State) (n i : Nat) (b : Bool) : safeView (gstBit s n i b) = safeView s := rfl
@[simp] theorem safeView_engStatusBit (s : State) (n i : Nat) (b : Bool) : safeView (engStatusBit s n i b) = safeView s := rfl
@[simp] theorem safeView_await (s : State) (w : WaitFor) (r : Req) : safeView (await s w r) = safeView s := rfl

@[simp] theorem safeView_setRegs (s : State) (l : List (Nat × Int)) : safeView (s.setRegs l) = safeView s :=
  foldl_view safeView _ l s fun _ _ => rfl

@[simp] theorem safeView_refuse (s : State) (r : Req) (c : Nat) : safeView (refuse s r c) = safeView s := by simp [safeView]

@[simp] theorem safeView_ok (s : State) (r : Req) : safeView (ok s r) = safeView s := by simp [safeView]

@[simp] theorem safeView_completeAll (s : State) (w : WaitFor) (c : Nat) (d : List Byte) :
    safeView (completeAll s w c d) = safeView s := by simp [safeView]

@[simp] theorem safeView_emcy (s : State) (code bit unit detail : Nat) : safeView (emcy s code bit unit detail) = safeView s := by
  simp [safeView]

/-! ### Groups -/

@[simp] theorem safeView_setGroupState (s : State) (g v : Nat) : safeView (setGroupState s g v) = safeView s := by
  unfold setGroupState; split <;> rfl

@[simp] theorem safeView_queueShow (s : State) (g : Nat) : safeView (queueShow s g) = safeView s := safeView_setRegs s _

@[simp] theorem safeView_flushGroup (s : State) (g status cause : Nat) : safeView (flushGroup s g status cause) = safeView s := by
  simp [flushGroup]

@[simp] theorem safeView_releaseBank (s : State) (g : Nat) : safeView (releaseBank s g) = safeView s := by
  simp [releaseBank, startHandover, apply_ite safeView]

@[simp] theorem safeView_groupOff (s : State) (g : Nat) (hg : g < 8) : safeView (groupOff s g hg) = safeView s := by
  simp [groupOff]

@[simp] theorem safeView_endStop (s : State) (g : Nat) : safeView (endStop s g) = safeView s := by
  unfold endStop
  split
  · rfl
  · simp [apply_ite safeView, apply_dite safeView]

@[simp] theorem safeView_stopGroup (s : State) (g : Nat) (quick byStop2 : Bool) (cause : Nat) :
    safeView (stopGroup s g quick byStop2 cause) = safeView s := by
  unfold stopGroup
  dsimp only
  split
  · rfl
  · split
    · split
      · rfl
      · split
        · rfl
        · split <;> rfl
    · split <;> simp

@[simp] theorem safeView_endFull (s : State) (g code : Nat) : safeView (endFull s g code) = safeView s := by
  rw [endFull, foldl_view safeView _ _ _ fun _ _ => safeView_refuse _ _ _, safeView_modGrp]

@[simp] theorem safeView_dmaOff (s : State) (g : Nat) : safeView (dmaOff s g) = safeView s := by
  unfold dmaOff
  split <;> simp

@[simp] theorem safeView_safeGroup (s : State) (g : Nat) : safeView (safeGroup s g) = safeView s := by
  simp [safeGroup, apply_ite safeView, apply_dite safeView]

/-! ### Ports and event channels -/

@[simp] theorem safeView_engineOff (s : State) (n : Nat) (hn : n < 48) (c : Nat) : safeView (engineOff s n hn c) = safeView s := by
  simp [engineOff]

@[simp] theorem safeView_memberLost (s : State) (n cause : Nat) : safeView (memberLost s n cause) = safeView s := by
  unfold memberLost
  split
  · split <;> simp
  · rfl

@[simp] theorem safeView_disableNow (s : State) (n cause : Nat) : safeView (disableNow s n cause) = safeView s := by
  unfold disableNow
  split
  · split <;> simp
  · rfl

@[simp] theorem safeView_startRange (s : State) (n v : Nat) (r : Req) : safeView (startRange s n v r) = safeView s := by
  unfold startRange
  dsimp only
  split <;> rfl

@[simp] theorem safeView_endRange (s : State) (n : Nat) : safeView (endRange s n) = safeView s := by
  unfold endRange
  dsimp only
  split
  · simp
  · split <;> simp

@[simp] theorem safeView_closeClamp (s : State) (n cause dt : Nat) : safeView (closeClamp s n cause dt) = safeView s := by
  unfold closeClamp
  dsimp only
  split
  · rfl
  · split
    · rfl
    · split <;> split <;> simp

@[simp] theorem safeView_clampPort (s : State) (n cause dt f : Nat) : safeView (clampPort s n cause dt f) = safeView s := by
  simp [clampPort]

@[simp] theorem safeView_meetWaits (s : State) (p : Seg → Bool) : safeView (meetWaits s p) = safeView s :=
  forN_view safeView 8 _ s fun _ _ => by simp [apply_ite safeView]

@[simp] theorem safeView_debounced (s : State) (k : Nat) (lv : Bool) : safeView (debounced s k lv) = safeView s := by
  unfold debounced
  split
  · rfl
  · refine (forN_view safeView 48 _ _ fun _ _ => ?_).trans (by simp)
    simp [apply_ite safeView]

@[simp] theorem safeView_evFollow (s : State) (k : Nat) : safeView (evFollow s k) = safeView s := by
  simp [evFollow, apply_ite safeView]

@[simp] theorem safeView_evShow (s : State) (k : Nat) : safeView (evShow s k) = safeView s := by simp [evShow]

@[simp] theorem safeView_endPulse (s : State) (k : Nat) : safeView (endPulse s k) = safeView s := by
  rw [endPulse, safeView_evShow, dropPulseLevels, foldl_view safeView cmpShowLevel _ _ fun _ _ => rfl, safeView_modEv]

@[simp] theorem safeView_gateEvents (s : State) : safeView (gateEvents s) = safeView s :=
  forN_view safeView 32 _ s fun _ _ => by simp [apply_ite safeView]

@[simp] theorem safeView_clampAll (s : State) (cause dt : Nat) : safeView (clampAll s cause dt) = safeView s := by
  rw [clampAll, safeView_gateEvents, forN_view safeView 48 _ _ fun _ _ => safeView_clampPort _ _ _ _ _]

/-! ### The fabric -/

@[simp] theorem safeView_portOff (s : State) (p : Nat) : safeView (portOff s p) = safeView s := by
  unfold portOff
  dsimp only
  split
  · rw [safeView_completeAll]; rfl
  · rfl

@[simp] theorem safeView_endObjs (s : State) (p code : Nat) : safeView (endObjs s p code) = safeView s := by
  rw [endObjs, foldl_view safeView _ _ _ fun _ _ => safeView_refuse _ _ _, safeView_modPort]

@[simp] theorem safeView_portAbort (s : State) (p : Nat) : safeView (portAbort s p) = safeView s := by
  unfold portAbort portCheck
  split
  · rfl
  · split <;> simp

@[simp] theorem safeView_startUnload (s : State) (m : Nat) : safeView (startUnload s m) = safeView s :=
  foldl_view safeView portAbort _ s safeView_portAbort

@[simp] theorem safeView_showSeams (s : State) : safeView (showSeams s) = safeView s :=
  forN_view safeView 24 _ s fun s k => by unfold showSeam; dsimp only; split <;> rfl

@[simp] theorem safeView_emptySeams (s : State) (m : Nat) : safeView (emptySeams s m) = safeView s :=
  forN_view safeView 48 _ s fun _ _ => by dsimp only; split <;> rfl

@[simp] theorem safeView_dropRegions (s : State) (m : Nat) : safeView (dropRegions s m) = safeView s := by
  rw [dropRegions, safeView_showSeams, showLoaded, safeView_setReg, foldl_view safeView showPort _ _ fun _ _ => rfl,
    safeView_emptySeams]
  exact foldl_view safeView _ _ _ fun _ _ => rfl

/-- With no load and no stream in progress, the regions to be dropped are all that is taken up. -/
theorem safeView_pumpLoad (s : State) (hl : s.fab.load = none) (hf : s.fab.fcp = none) : safeView (pumpLoad s) = safeView s := by
  unfold pumpLoad
  extract_lets dropped step
  have hd : safeView dropped = safeView s := by
    unfold dropped
    split
    · rw [safeView_dropRegions]
      rfl
    · rfl
  obtain ⟨-, -, hdl, hdf⟩ : dropped.mode = s.mode ∧ dropped.fe.bridgeDown = s.fe.bridgeDown ∧ dropped.fab.load = s.fab.load
      ∧ dropped.fab.fcp = s.fab.fcp := by simpa [safeView] using hd
  have hadv : fcpAdvance dropped = dropped := by simp [fcpAdvance, hdf, hf]
  have hstep : step dropped = dropped := by simp [step, hdl, hl]
  rw [hadv, hstep, hadv, hstep, hd]

/-- What SAFE state does to the fabric leaves the mode and the bridge alone, and nothing is loaded any more. -/
theorem safeFabric_mode_bridge (s : State) :
    (safeFabric s).mode = s.mode ∧ (safeFabric s).fe.bridgeDown = s.fe.bridgeDown := by
  suffices h : safeView (safeFabric s) = (s.mode, s.fe.bridgeDown, none, none) by
    simp only [safeView, Prod.mk.injEq] at h
    exact ⟨h.1, h.2.1⟩
  unfold safeFabric
  extract_lets m cut ended idle
  have hcut : safeView cut = safeView s := by
    unfold cut
    split <;> rfl
  have hidle : safeView idle = (s.mode, s.fe.bridgeDown, none, none) := by
    have hend : safeView ended = safeView s := by simp [ended, hcut]
    simp only [safeView, Prod.mk.injEq] at hend
    simp [safeView, idle, hend]
  have hun : safeView (startUnload (idle.setReg K.fcpState 0) m) = (s.mode, s.fe.bridgeDown, none, none) := by
    rw [safeView_startUnload, safeView_setReg, hidle]
  obtain ⟨-, -, hl, hf⟩ := by simpa [safeView] using hun
  rw [safeView_pumpLoad _ hl hf, hun]

/-! ### The entry to SAFE state (18 R640, R642) -/

/-- What has stopped when the entry is recorded: ports, groups, fabric and field network. -/
def safeStopped (s : State) : State :=
  (safeFabric (forN 8 safeGroup (clampAll { s with mode := .safe } 6 0))).modFn fun f => { f with al := .init }

/-- The record of an entry. -/
def safeRecorded (s : State) (cls unit : Nat) : State :=
  (s.bump K.safeStSafeCount 32).setRegs [(K.powerState, 3), (K.safeStSafeCause, cls), (K.safeStSafeUnit, unit),
    (K.safeStSafeTime, rtcTime s)]

/-- The entry for a block that does not keep the dictionary from being served. -/
theorem safeEntry_served (s : State) (cls unit : Nat) (h : s.mode ≠ .safe) (h9 : cls ≠ 9) (h6 : cls ≠ 6) :
    safeEntry s cls unit = emcy (safeRecorded (safeStopped s) cls unit) 0xFF82 0 unit cls := by
  unfold safeEntry
  rw [if_neg h]
  extract_lets _ _ _ stopped
  have hs : safeStopped s = stopped := rfl
  rw [hs, safeServes, if_neg (by simp [h9, h6])]
  rfl

theorem safeStopped_mode_bridge (s : State) :
    (safeStopped s).mode = .safe ∧ (safeStopped s).fe.bridgeDown = s.fe.bridgeDown := by
  have h : safeView (forN 8 safeGroup (clampAll { s with mode := .safe } 6 0)) = (.safe, s.fe.bridgeDown, s.fab.load, s.fab.fcp) := by
    rw [forN_view safeView 8 safeGroup _ safeView_safeGroup, safeView_clampAll]
    rfl
  obtain ⟨hm, hb, -, -⟩ := by simpa only [safeView, Prod.mk.injEq] using h
  obtain ⟨hm', hb'⟩ := safeFabric_mode_bridge (forN 8 safeGroup (clampAll { s with mode := .safe } 6 0))
  exact ⟨hm'.trans hm, hb'.trans hb⟩

/-- BRIDGE_DOWN: the bridge is down and the device in SAFE state, with class 2 as the cause (01 R12). -/
theorem bridgeDown_enters_safe (s : State) (hr : 17 ≤ s.fe.replays) (hb : s.fe.bridgeDown = false) (hm : s.mode ≠ .safe) :
    ∃ t, exec .bridgeDown s = .next t ∧ t.mode = .safe ∧ t.fe.bridgeDown = true ∧ t.reg K.safeStSafeCause = 2
      ∧ t.reg K.safeStSafeUnit = 0xFF ∧ t.reg K.powerState = 3 := by
  have hexec : exec .bridgeDown s = .next (safeEntry { s with fe := { s.fe with bridgeDown := true } } 2 0xFF) :=
    congrArg Host.Outcome.next (if_pos ⟨hr, hb⟩)
  have hview := safeStopped_mode_bridge { s with fe := { s.fe with bridgeDown := true } }
  rw [safeEntry_served { s with fe := { s.fe with bridgeDown := true } } 2 0xFF hm (by decide) (by decide)] at hexec
  refine ⟨_, hexec, (emcy_mode _ _ _ _ _).trans hview.1, ?_, ?_, ?_, ?_⟩
  · rw [emcy_fe]
    exact hview.2
  all_goals
    simp (disch := decide) only [emcy_reg, safeRecorded, State.setRegs_cons, State.setRegs_nil, State.setReg_reg_ne,
      State.setReg_reg_self]
  all_goals rfl

end Sys2Proof.Machine
end

section
/-! SUPPORT. Service hours, the late part of a roll check, and temperature (18 R631, R634 to R637, R642, R649; 20 R682). -/

namespace Sys2Proof.Machine
open Claims

/-! ### The reserve's reports -/

/-- The entries of RESERVE that follow the spares (18 R649). -/
def reserveKeys : List Nat :=
  [K.resvReserveFigure, K.resvLeft1, K.resvLeft2, K.resvLeft3, K.resvLeft4, K.resvLeft5, K.resvLeft6, K.resvLeft7, K.resvYearsLeft]

/-- Classes of the reserve are numbered 1 to 7 (18 R647). -/
theorem classes_number (s : State) (x : Nat × Nat × Nat) (h : x ∈ classes s) : 1 ≤ x.1 ∧ x.1 < 8 := by
  simp only [classes, List.mem_filterMap, List.mem_range, Option.map_eq_some_iff] at h
  obtain ⟨c, hc, a, ha, rfl⟩ := h
  refine ⟨Nat.one_le_iff_ne_zero.mpr fun h0 => ?_, hc⟩
  simp only at h0
  simp [h0, spares] at ha

theorem resvLeft_mem : ∀ c < 8, 1 ≤ c → K.resvLeft1 + c - 1 ∈ reserveKeys := by decide

theorem showFigures_reg (s : State) (k : Nat) (hk : k ∉ reserveKeys) : (showFigures s).reg k = s.reg k := by
  have hfig : k ≠ K.resvReserveFigure := fun e => hk (e ▸ by decide)
  have hyears : k ≠ K.resvYearsLeft := fun e => hk (e ▸ by decide)
  simp only [showFigures, State.setRegs_cons, State.setRegs_nil, State.setReg_reg_ne _ _ _ _ hyears,
    State.setReg_reg_ne _ _ _ _ hfig]
  refine foldl_keeps (fun t => t.reg k = s.reg k) _ _ s rfl fun t x hx ht => ?_
  obtain ⟨h1, h8⟩ := classes_number s x hx
  have hne : k ≠ K.resvLeft1 + x.1 - 1 := fun e => hk (e ▸ resvLeft_mem x.1 h8 h1)
  exact (State.setReg_reg_ne _ _ _ _ hne).trans ht

/-- The reports touch the entries of RESERVE, and what an emergency touches. -/
theorem showReserve_reg (s : State) (k : Nat) (hk : k ∉ reserveKeys) (h1 : k ≠ K.errRegErrorRegister) (h2 : k ≠ K.tagEmcyOverflow) :
    (showReserve s).reg k = s.reg k := by
  refine (foldl_view (fun t => t.reg k) _ _ _ fun t x => ?_).trans (showFigures_reg s k hk)
  exact foldl_view (fun t => t.reg k) _ _ _ fun _ _ => emcy_reg _ _ _ _ _ _ h1 h2

/-! ### Service hours -/

/-- An hour of service: the count, the running mean of the temperature, the hot hours (18 R649; 20 R682). -/
def countHour (s : State) : State :=
  let u := (s.bump K.resvServiceHours 32).setReg K.thermTjAverage
    ((s.reg K.thermTjAverage * (s.regN K.resvServiceHours : Int) + s.reg K.thermTjNow) / ((s.regN K.resvServiceHours : Int) + 1))
  if 1000 < s.reg K.thermTjNow then u.bump K.thermHoursHot 32 else u

theorem exec_serviceHour (s : State) (h : sysOn s = true) : exec .serviceHour s = .next (showReserve (countHour s)) := by
  have hoff : (!sysOn s) ≠ true := by simp [h]
  refine congrArg Host.Outcome.next ((if_neg hoff).trans ?_)
  simp only [countHour, State.bump_reg_ne s K.resvServiceHours 32 K.thermTjNow (by decide),
    State.bump_reg_ne s K.resvServiceHours 32 K.thermTjAverage (by decide)]

theorem countHour_hours (s : State) : (countHour s).reg K.resvServiceHours = ((s.regN K.resvServiceHours + 1) % 2 ^ 32 : Nat) := by
  unfold countHour
  dsimp only
  split
  · rw [State.bump_reg_ne _ _ _ _ (by decide), State.setReg_reg_ne _ _ _ _ (by decide), State.bump_reg_self]
  · rw [State.setReg_reg_ne _ _ _ _ (by decide), State.bump_reg_self]

theorem countHour_average (s : State) : (countHour s).reg K.thermTjAverage
    = (s.reg K.thermTjAverage * (s.regN K.resvServiceHours : Int) + s.reg K.thermTjNow) / ((s.regN K.resvServiceHours : Int) + 1) := by
  unfold countHour
  dsimp only
  split
  · rw [State.bump_reg_ne _ _ _ _ (by decide), State.setReg_reg_self]
  · rw [State.setReg_reg_self]

theorem countHour_hot (s : State) : (countHour s).reg K.thermHoursHot
    = if 1000 < s.reg K.thermTjNow then (((s.regN K.thermHoursHot + 1) % 2 ^ 32 : Nat) : Int) else s.reg K.thermHoursHot := by
  have hu : ∀ v : Int, ((s.bump K.resvServiceHours 32).setReg K.thermTjAverage v).reg K.thermHoursHot = s.reg K.thermHoursHot :=
    fun v => by rw [State.setReg_reg_ne _ _ _ _ (by decide), State.bump_reg_ne _ _ _ _ (by decide)]
  unfold countHour
  dsimp only
  split
  · rw [State.bump_reg_self, State.regN, hu]
    rfl
  · exact hu _

theorem serviceHour_counts (s : State) (h : sysOn s = true) :
    ∃ t, exec .serviceHour s = .next t ∧ t.reg K.resvServiceHours = ((s.regN K.resvServiceHours + 1) % 2 ^ 32 : Nat)
      ∧ t.reg K.thermTjAverage = (s.reg K.thermTjAverage * (s.regN K.resvServiceHours : Int) + s.reg K.thermTjNow)
          / ((s.regN K.resvServiceHours : Int) + 1)
      ∧ t.reg K.thermHoursHot = (if 1000 < s.reg K.thermTjNow then (((s.regN K.thermHoursHot + 1) % 2 ^ 32 : Nat) : Int)
          else s.reg K.thermHoursHot) := by
  refine ⟨_, exec_serviceHour s h, ?_, ?_, ?_⟩
  · rw [showReserve_reg _ _ (by decide) (by decide) (by decide), countHour_hours]
  · rw [showReserve_reg _ _ (by decide) (by decide) (by decide), countHour_average]
  · rw [showReserve_reg _ _ (by decide) (by decide) (by decide), countHour_hot]

/-! ### The late part of a roll check (18 R634, R635) -/

/-- A chain that runs on an engine found failed ends with an error. -/
def endBadChain (s : State) (k : Fin 8) : State :=
  if s.bad.contains (0x1B, k.val) ∧ s.reg (K.ckState k) = 1 then ckEnd s k 2 0x06060000 else s

/-- The late part has ended: its time and the failures so far. -/
def lateShown (s : State) (n : Nat) (time : BitVec 32) : State :=
  { s with test := { s.test with late := false } }.setRegs
    [(K.wrapRollTime, time.toNat), (K.wrapRollFailures, ((s.regN K.wrapRollFailures + n) % 65536 : Nat))]

/-- What the late part takes up of its findings. -/
def lateFindings (found : List Finding) : List (Nat × Nat × Nat) := (found.map entryOf).filter lateBlock

theorem exec_rollCheckLateDone (s : State) (found : List Finding) (time : BitVec 32) (h : s.test.late = true) :
    exec (.rollCheckLateDone found time) s = .next ((List.finRange 8).foldl endBadChain
      (appendRepair (repairAll (lateShown s (lateFindings found).length time) ((lateFindings found).map fun e => (true, e)))
        ((lateFindings found).filter fun e => decide (0x10 ≤ e.1)))) :=
  congrArg Host.Outcome.next (if_pos h)

theorem lateFindings_none (found : List Finding) (h : ∀ f ∈ found, lateBlock (entryOf f) = false) : lateFindings found = [] := by
  simpa [lateFindings] using h

theorem lateShown_rollTime (s : State) (n : Nat) (time : BitVec 32) : (lateShown s n time).reg K.wrapRollTime = time.toNat := by
  simp (disch := decide) only [lateShown, State.setRegs_cons, State.setRegs_nil, State.setReg_reg_ne, State.setReg_reg_self]

theorem lateShown_rollFailures (s : State) (n : Nat) (time : BitVec 32) :
    (lateShown s n time).reg K.wrapRollFailures = ((s.regN K.wrapRollFailures + n) % 65536 : Nat) := by
  simp only [lateShown, State.setRegs_cons, State.setRegs_nil, State.setReg_reg_self]

theorem lateShown_frame (s : State) (n : Nat) (time : BitVec 32) :
    OnlyRegs [K.wrapRollTime, K.wrapRollFailures] { s with test := { s.test with late := false } } (lateShown s n time) :=
  onlyRegs_setReg (onlyRegs_setReg (onlyRegs_refl _ _) _ _ (by simp)) _ _ (by simp)

theorem repairAll_nil (s : State) : repairAll s [] = s := rfl

theorem appendRepair_nil (s : State) : appendRepair s [] = s := rfl

@[simp] theorem appendRepair_regs (s : State) (found : List (Nat × Nat × Nat)) : (appendRepair s found).regs = s.regs := by
  simp [appendRepair, appendS4, apply_ite State.regs]

@[simp] theorem appendRepair_reg (s : State) (found : List (Nat × Nat × Nat)) (k : Nat) : (appendRepair s found).reg k = s.reg k := by
  simp [State.reg]

@[simp] theorem appendRepair_bad (s : State) (found : List (Nat × Nat × Nat)) : (appendRepair s found).bad = s.bad := by
  simp [appendRepair, appendS4, apply_ite State.bad]

@[simp] theorem appendRepair_late (s : State) (found : List (Nat × Nat × Nat)) :
    (appendRepair s found).test.late = s.test.late := by
  unfold appendRepair
  dsimp only
  split <;> rfl

theorem endBadChain_good (s : State) (k : Fin 8) (h : (0x1B, k.val) ∉ s.bad) : endBadChain s k = s :=
  if_neg fun hh => h (by simpa using hh.1)

/-- With no failed engine no chain ends. -/
theorem endBadChains_good (l : List (Fin 8)) (s : State) (h : ∀ k : Fin 8, (0x1B, k.val) ∉ s.bad) : l.foldl endBadChain s = s :=
  foldl_keeps (fun t => t = s) _ l s rfl fun t k _ ht => by rw [ht, endBadChain_good s k (h k)]

@[simp] theorem ckEnd_bad (s : State) (k : Fin 8) (state code : Nat) : (ckEnd s k state code).bad = s.bad := by
  simp [ckEnd, apply_ite State.bad]

@[simp] theorem ckEnd_test (s : State) (k : Fin 8) (state code : Nat) : (ckEnd s k state code).test = s.test := by
  simp [ckEnd, apply_ite State.test]

/-- The end of a chain touches CK_STATE and CK_ENABLE of its engine. -/
theorem ckEnd_reg (s : State) (k : Fin 8) (state code j : Nat) (h1 : j ≠ K.ckState k) (h2 : j ≠ K.ckEnable k) :
    (ckEnd s k state code).reg j = s.reg j := by
  unfold ckEnd
  dsimp only
  split
  · rw [completeAll_reg, State.setReg_reg_ne _ _ _ _ h2, completeAll_reg, State.setReg_reg_ne _ _ _ _ h1]
  · rw [completeAll_reg, State.setReg_reg_ne _ _ _ _ h1]

theorem ckEnd_state (s : State) (k : Fin 8) (state code : Nat) : (ckEnd s k state code).reg (K.ckState k) = state := by
  have hne : K.ckState k ≠ K.ckEnable k := by unfold K.ckState K.ckEnable; omega
  unfold ckEnd
  dsimp only
  split
  · rw [completeAll_reg, State.setReg_reg_ne _ _ _ _ hne, completeAll_reg, State.setReg_reg_self]
  · rw [completeAll_reg, State.setReg_reg_self]

/-- Nobody waits for a chain that has ended. -/
theorem ckEnd_not_awaited (s : State) (k : Fin 8) (state code : Nat) : awaited (ckEnd s k state code) (.chain k) = false := by
  unfold ckEnd
  dsimp only
  split
  · simp [awaited]
  · exact completeAll_not_awaited _ _ _ _

@[simp] theorem endBadChain_bad (s : State) (k : Fin 8) : (endBadChain s k).bad = s.bad := by
  simp [endBadChain, apply_ite State.bad]

@[simp] theorem endBadChain_test (s : State) (k : Fin 8) : (endBadChain s k).test = s.test := by
  simp [endBadChain, apply_ite State.test]

/-- Where one engine alone has failed, its chain alone can end. -/
theorem endBadChains_one (u : Fin 8) (s : State) (h : ∀ k : Fin 8, k ≠ u → (0x1B, k.val) ∉ s.bad) :
    (List.finRange 8).foldl endBadChain s = endBadChain s u := by
  obtain ⟨l, m, hl⟩ := List.append_of_mem (List.mem_finRange u)
  have hnd : (l ++ u :: m).Nodup := hl ▸ List.nodup_finRange 8
  have skip : ∀ (l : List (Fin 8)) (t : State), t.bad = s.bad → u ∉ l → l.foldl endBadChain t = t := fun l t ht hu =>
    foldl_keeps (fun x => x = t) _ l t rfl fun x k hk hx => by
      rw [hx, endBadChain_good t k (ht ▸ h k fun e => hu (e ▸ hk))]
  obtain ⟨-, hm, hdis⟩ := List.nodup_append.mp hnd
  rw [hl, List.foldl_append, List.foldl_cons, skip l s rfl fun hu => hdis u hu u (by simp) rfl,
    skip m _ (endBadChain_bad s u) (List.nodup_cons.mp hm).1]

theorem repairAll_one (s : State) (e : Bool × Nat × Nat × Nat) : repairAll s [e] = repairOne s e.1 e.2 := by
  unfold repairAll
  extract_lets late
  cases h : late e <;> simp [h]

/-- A computing check engine, CK2 to CK7, that the late part finds failed is marked (18 R637, R639). -/
theorem repairOne_check (s : State) (u index : Nat) (h2 : 2 ≤ u) : repairOne s true (0x1B, u, index) = markBad s 0x1B u := by
  have hu : ¬u < 2 := by omega
  simp [repairOne, hu]

theorem markBad_new (s : State) (cls unit : Nat) (h : (cls, unit) ∉ s.bad) :
    markBad s cls unit = emcy { s with bad := s.bad ++ [(cls, unit)] } 0xFF81 7 unit cls := by
  unfold markBad
  rw [if_neg (by simpa using h)]

theorem lateFindings_check (u : Fin 8) (index : BitVec 16) (h2 : 2 ≤ u.val) :
    lateFindings [⟨0x1B, u.val, index⟩] = [(0x1B, u.val, index.toNat)] := by
  have hu : (u.val : BitVec 8).toNat = u.val := by
    rw [BitVec.natCast_eq_ofNat, BitVec.toNat_ofNat]
    omega
  have hf : lateBlock (0x1B, u.val, index.toNat) = true := by simp [lateBlock, h2]
  unfold lateFindings entryOf
  simp only [List.map_cons, List.map_nil, hu]
  exact List.filter_cons_of_pos hf

/-- The state in which the late part leaves a device of which it has found check engine `u` failed, before chains end. -/
def lateMarked (s : State) (u index : Nat) (time : BitVec 32) : State :=
  appendRepair (markBad (lateShown s 1 time) 0x1B u) [(0x1B, u, index)]

theorem lateMarked_bad (s : State) (u index : Nat) (time : BitVec 32) (h : (0x1B, u) ∉ s.bad) :
    (lateMarked s u index time).bad = s.bad ++ [(0x1B, u)] := by
  rw [lateMarked, appendRepair_bad, markBad_new (lateShown s 1 time) 0x1B u h, emcy_bad]
  rfl

theorem lateMarked_late (s : State) (u index : Nat) (time : BitVec 32) (h : (0x1B, u) ∉ s.bad) :
    (lateMarked s u index time).test.late = false := by
  rw [lateMarked, appendRepair_late, markBad_new (lateShown s 1 time) 0x1B u h, emcy_test]
  rfl

theorem lateMarked_reg (s : State) (u index : Nat) (time : BitVec 32) (h : (0x1B, u) ∉ s.bad) (k : Nat)
    (h1 : k ≠ K.errRegErrorRegister) (h2 : k ≠ K.tagEmcyOverflow) :
    (lateMarked s u index time).reg k = (lateShown s 1 time).reg k := by
  rw [lateMarked, appendRepair_reg, markBad_new (lateShown s 1 time) 0x1B u h]
  exact emcy_reg _ _ _ _ _ _ h1 h2

/-- The late part that finds one check engine failed marks it, and ends its chain alone. -/
theorem exec_late_check (s : State) (u : Fin 8) (index : BitVec 16) (time : BitVec 32) (h : s.test.late = true)
    (hb : ∀ k : Fin 8, (0x1B, k.val) ∉ s.bad) (h2 : 2 ≤ u.val) :
    exec (.rollCheckLateDone [⟨0x1B, u.val, index⟩] time) s = .next (endBadChain (lateMarked s u index.toNat time) u) := by
  have hmarked : lateMarked s u index.toNat time = appendRepair (repairAll (lateShown s 1 time) [(true, 0x1B, u.val, index.toNat)])
      [(0x1B, u.val, index.toNat)] := by
    rw [repairAll_one, repairOne_check _ _ _ h2]
    rfl
  have hothers : ∀ k : Fin 8, k ≠ u → (0x1B, k.val) ∉ (lateMarked s u index.toNat time).bad := fun k hk => by
    rw [lateMarked_bad s u _ time (hb u)]
    simpa [hb k] using fun e => hk (Fin.ext e)
  rw [exec_rollCheckLateDone s _ time h, lateFindings_check u index h2, ← endBadChains_one u _ hothers, hmarked]
  rfl

theorem endBadChain_reg (s : State) (k : Fin 8) (j : Nat) (h1 : j ≠ K.ckState k) (h2 : j ≠ K.ckEnable k) :
    (endBadChain s k).reg j = s.reg j := by
  unfold endBadChain
  split
  · exact ckEnd_reg s k _ _ j h1 h2
  · rfl

theorem late_check_marks_and_ends (s : State) (u : Fin 8) (index : BitVec 16) (time : BitVec 32) (h : s.test.late = true)
    (hb : ∀ k : Fin 8, (0x1B, k.val) ∉ s.bad) (h2 : 2 ≤ u.val) :
    ∃ t, exec (.rollCheckLateDone [⟨0x1B, u.val, index⟩] time) s = .next t ∧ t.bad = s.bad ++ [(0x1B, u.val)] ∧ t.test.late = false
      ∧ t.reg K.wrapRollFailures = ((s.regN K.wrapRollFailures + 1) % 65536 : Nat) ∧ t.reg K.wrapRollTime = time.toNat
      ∧ (s.reg (K.ckState u) = 1 → t.reg (K.ckState u) = 2 ∧ awaited t (.chain u) = false) := by
  have hmark := lateMarked_bad s u index.toNat time (hb u)
  have hreg := lateMarked_reg s u index.toNat time (hb u)
  have hu := u.isLt
  refine ⟨_, exec_late_check s u index time h hb h2, ?_, ?_, ?_, ?_, fun hs => ?_⟩
  · rw [endBadChain_bad, hmark]
  · rw [endBadChain_test, lateMarked_late s u _ time (hb u)]
  · rw [endBadChain_reg _ _ _ (by unfold K.wrapRollFailures K.ckState; omega) (by unfold K.wrapRollFailures K.ckEnable; omega),
      hreg _ (by decide) (by decide), lateShown_rollFailures]
  · rw [endBadChain_reg _ _ _ (by unfold K.wrapRollTime K.ckState; omega) (by unfold K.wrapRollTime K.ckEnable; omega),
      hreg _ (by decide) (by decide), lateShown_rollTime]
  · have hstate : (lateMarked s u index.toNat time).reg (K.ckState u) = 1 := by
      rw [hreg _ (by unfold K.ckState K.errRegErrorRegister; omega) (by unfold K.ckState K.tagEmcyOverflow; omega), ← hs]
      simp only [lateShown, State.setRegs_cons, State.setRegs_nil]
      rw [State.setReg_reg_ne _ _ _ _ (by unfold K.ckState K.wrapRollFailures; omega),
        State.setReg_reg_ne _ _ _ _ (by unfold K.ckState K.wrapRollTime; omega)]
      rfl
    rw [endBadChain, if_pos ⟨by simp [hmark], hstate⟩]
    exact ⟨ckEnd_state _ u _ _, ckEnd_not_awaited _ u _ _⟩

/-! ### Requests of the self test -/

/-- The state with another self-test state. -/
def State.withTest (s : State) (x : SelfSt) : State := { s with test := x }

/-- A request that acts on the self test alone is answered, and changes nothing else behind the host paths. -/
theorem answered_withTest (s : State) (r : Req) (key : Nat) (x : SelfSt) (ht : Takes s r) :
    (ok ((register s r key 2).withTest x) r).test = x
      ∧ Answered r 2 key 0 [] (ok ((register s r key 2).withTest x) r)
      ∧ SameButHost { s with test := (ok ((register s r key 2).withTest x) r).test } (ok ((register s r key 2).withTest x) r) := by
  have htest : (ok ((register s r key 2).withTest x) r).test = x := ok_test _ _
  refine ⟨htest, reply_answers s _ r 2 key 0 [] ht.2.1 rfl, ?_⟩
  rw [htest]
  simp [SameButHost, State.withTest]

/-- WRAP_NEXT is recorded (18 R635). -/
theorem exec_wrapNext (s : State) (r : Req) (v : BitVec 8) (hp : Passes s r K.wrapNext v.toNat {}) :
    exec (.wrapNext r v) s = .next (ok ((register s r K.wrapNext 2).withTest { s.test with wrapNext := v == 1 }) r) := by
  rw [← register_test s r K.wrapNext 2]
  exact congrArg Host.Outcome.next (request_writeEntry s r K.wrapNext 2 v.toNat (fun _ => {}) _ hp.1 hp.2)

/-- SAFE_RESET is recorded (18 R642). -/
theorem exec_safeReset (s : State) (r : Req) (hp : Passes s r K.safeStSafeReset 1 {}) :
    exec (.safeReset r) s = .next (ok ((register s r K.safeStSafeReset 2).withTest { s.test with resetDue := true }) r) := by
  rw [← register_test s r K.safeStSafeReset 2]
  exact congrArg Host.Outcome.next (request_writeEntry s r K.safeStSafeReset 2 1 (fun _ => {}) _ hp.1 hp.2)

theorem selfTestAndServiceHours : SelfTestAndServiceHours := by
  refine ⟨fun s found time h hb hf => ?_, late_check_marks_and_ends, fun s found time h => ?_, fun s r v hp => ?_, fun s r hp => ?_,
    serviceHour_counts, fun s h => ⟨s, congrArg Host.Outcome.next (if_pos (by simp [h])), rfl⟩⟩
  · refine ⟨lateShown s 0 time, ?_, lateShown_rollTime s 0 time, rfl, lateShown_rollFailures s 0 time, lateShown_frame s 0 time⟩
    rw [exec_rollCheckLateDone s found time h, lateFindings_none found hf, List.map_nil, List.filter_nil, repairAll_nil,
      appendRepair_nil]
    exact congrArg Host.Outcome.next (endBadChains_good _ (lateShown s 0 time) hb)
  · exact congrArg Host.Outcome.next (if_neg (by simp [h]))
  · obtain ⟨htest, hrest⟩ := answered_withTest s r K.wrapNext { s.test with wrapNext := v == 1 } hp.1
    exact ⟨_, exec_wrapNext s r v hp, by rw [htest], hrest⟩
  · obtain ⟨htest, hrest⟩ := answered_withTest s r K.safeStSafeReset { s.test with resetDue := true } hp.1
    exact ⟨_, exec_safeReset s r hp, by rw [htest], hrest⟩

/-! ### Temperature (20 R682) -/

/-- The highest of the readings is one of them. -/
theorem hottest_cons (x : Int) (xs : List Int) (i : Nat) :
    ∃ j v, hottest (x :: xs) i = some (j, v) ∧ v ∈ x :: xs ∧ ∀ y ∈ x :: xs, y ≤ v := by
  induction xs generalizing x i with
  | nil => exact ⟨i, x, rfl, by simp, by simp⟩
  | cons z zs ih =>
    obtain ⟨j, v, hv, hmem, hmax⟩ := ih z (i + 1)
    rw [hottest, hv]
    by_cases hx : x < v
    · refine ⟨j, v, by simp [hx], List.mem_cons_of_mem _ hmem, fun y hy => ?_⟩
      rcases List.mem_cons.mp hy with rfl | hy
      · exact Int.le_of_lt hx
      · exact hmax y hy
    · refine ⟨i, x, by simp [hx], by simp, fun y hy => ?_⟩
      rcases List.mem_cons.mp hy with rfl | hy
      · exact Int.le_refl _
      · exact Int.le_trans (hmax y hy) (Int.not_lt.mp hx)

/-- Every region shows its reading. -/
theorem regionTemperatures_shown (s : State) (xs : List Int) (n r : Nat) (h : r < n) :
    (forN n (fun s r => s.setReg (K.regionTemperature r) (xs.getD r 0)) s).reg (K.regionTemperature r) = xs.getD r 0 := by
  induction n with
  | zero => omega
  | succ n ih =>
    rw [forN_succ]
    by_cases hr : r = n
    · rw [hr, State.setReg_reg_self]
    · rw [State.setReg_reg_ne _ _ _ _ (by unfold K.regionTemperature; omega), ih (by omega)]

theorem regionTemperatures_other (s : State) (xs : List Int) (n k : Nat) (h : ∀ r < n, k ≠ K.regionTemperature r) :
    (forN n (fun s r => s.setReg (K.regionTemperature r) (xs.getD r 0)) s).reg k = s.reg k :=
  forN_keeps (fun t => t.reg k = s.reg k) n _ s rfl fun _ r hr ht => (State.setReg_reg_ne _ _ _ _ (h r hr)).trans ht

/-- The seams' gradients touch their own entries, and what an emergency touches. -/
theorem gradients_reg (s : State) (k : Nat) (hg : ∀ i < 24, k ≠ K.seamGradientNow i) (hf : ∀ i < 24, k ≠ K.seamFlags i)
    (h1 : k ≠ K.errRegErrorRegister) (h2 : k ≠ K.tagEmcyOverflow) : (gradients s).reg k = s.reg k := by
  refine forN_keeps (fun t => t.reg k = s.reg k) 24 _ s rfl fun t i hi ht => ?_
  have hd : ∀ d : Int, (t.setReg (K.seamGradientNow i) d).reg k = s.reg k := fun d =>
    (State.setReg_reg_ne _ _ _ _ (hg i hi)).trans ht
  dsimp only
  split
  · split
    · exact (State.setBit_reg_ne _ _ _ _ _ (hf i hi)).trans (hd _)
    · exact hd _
  · split
    · rw [emcy_reg _ _ _ _ _ _ h1 h2, State.setBit_reg_ne _ _ _ _ _ (hf i hi), hd]
    · exact hd _

theorem thermLimits_reg (s : State) (unit k : Nat) (h1 : k ≠ K.errRegErrorRegister) (h2 : k ≠ K.tagEmcyOverflow) :
    (thermLimits s unit).reg k = s.reg k := by
  have hset : ∀ (u : State) (x : ThermSt), { u with therm := x }.reg k = u.reg k := fun _ _ => rfl
  simp [thermLimits, apply_ite (fun u : State => u.reg k), emcy_reg _ _ _ _ _ k h1 h2, hset]

/-- A sample: the regions' readings and the gradients of their seams, then TJ_NOW and TJ_PEAK. -/
def sampleShown (s : State) (xs : List Int) (v : Int) : State :=
  let u := gradients (forN 16 (fun s r => s.setReg (K.regionTemperature r) (xs.getD r 0)) s)
  u.setRegs [(K.thermTjNow, v), (K.thermTjPeak, max (u.reg K.thermTjPeak) v)]

theorem exec_temperatureSample (s : State) (xs : List Int) (i : Nat) (v : Int) (hl : xs.length = 22) (hv : hottest xs 0 = some (i, v)) :
    exec (.temperatureSample xs) s = .next (thermLimits (sampleShown s xs v) i) := by
  show execTemperatureSample xs s = _
  simp only [execTemperatureSample, hl, hv]
  rfl

theorem sampleShown_now (s : State) (xs : List Int) (v : Int) : (sampleShown s xs v).reg K.thermTjNow = v := by
  simp (disch := decide) only [sampleShown, State.setRegs_cons, State.setRegs_nil, State.setReg_reg_ne, State.setReg_reg_self]

theorem sampleShown_peak (s : State) (xs : List Int) (v : Int) :
    (sampleShown s xs v).reg K.thermTjPeak = max (s.reg K.thermTjPeak) v := by
  simp only [sampleShown, State.setRegs_cons, State.setRegs_nil, State.setReg_reg_self]
  rw [gradients_reg _ _ (by decide) (by decide) (by decide) (by decide), regionTemperatures_other _ _ _ _ (by decide)]

theorem sampleShown_region (s : State) (xs : List Int) (v : Int) (r : Nat) (h : r < 16) :
    (sampleShown s xs v).reg (K.regionTemperature r) = xs.getD r 0 := by
  simp only [sampleShown, State.setRegs_cons, State.setRegs_nil]
  rw [State.setReg_reg_ne _ _ _ _ (by unfold K.regionTemperature K.thermTjPeak; omega),
    State.setReg_reg_ne _ _ _ _ (by unfold K.regionTemperature K.thermTjNow; omega),
    gradients_reg _ _ (fun i _ => by unfold K.regionTemperature K.seamGradientNow; omega)
      (fun i _ => by unfold K.regionTemperature K.seamFlags; omega) (by unfold K.regionTemperature K.errRegErrorRegister; omega)
      (by unfold K.regionTemperature K.tagEmcyOverflow; omega),
    regionTemperatures_shown s xs 16 r h]

theorem temperatureSample_shows (s : State) (xs : List Int) (h : xs.length = 22) :
    ∃ t, exec (.temperatureSample xs) s = .next t ∧ (∀ r < 16, t.reg (K.regionTemperature r) = xs.getD r 0)
      ∧ t.reg K.thermTjNow ∈ xs ∧ (∀ x ∈ xs, x ≤ t.reg K.thermTjNow) ∧ t.reg K.thermTjPeak = max (s.reg K.thermTjPeak) (t.reg K.thermTjNow) := by
  obtain ⟨i, v, hv, hmem, hmax⟩ : ∃ i v, hottest xs 0 = some (i, v) ∧ v ∈ xs ∧ ∀ y ∈ xs, y ≤ v := by
    cases xs with
    | nil => simp at h
    | cons x xs => exact hottest_cons x xs 0
  have hnow : (thermLimits (sampleShown s xs v) i).reg K.thermTjNow = v := by
    rw [thermLimits_reg _ _ _ (by decide) (by decide), sampleShown_now]
  refine ⟨_, exec_temperatureSample s xs i v h hv, fun r hr => ?_, ?_, ?_, ?_⟩
  · rw [thermLimits_reg _ _ _ (by unfold K.regionTemperature K.errRegErrorRegister; omega)
      (by unfold K.regionTemperature K.tagEmcyOverflow; omega), sampleShown_region s xs v r hr]
  · rwa [hnow]
  · rwa [hnow]
  · rw [hnow, thermLimits_reg _ _ _ (by decide) (by decide), sampleShown_peak]

theorem temperatureAndBridge : TemperatureAndBridge := by
  refine ⟨temperatureSample_shows, fun s xs h => ?_, fun s h => ?_, fun s hr hb hm => ?_, fun s => ⟨⟨_, rfl, rfl⟩, ⟨_, rfl, rfl⟩⟩,
    bridgeDown_enters_safe⟩
  · show execTemperatureSample xs s = _
    have hl : (xs.length == 22) = false := by simpa using h
    simp only [execTemperatureSample, hl]
  · refine congrArg Host.Outcome.next (if_neg fun ⟨hr, hb⟩ => ?_)
    rcases h with h | h
    · omega
    · exact Bool.noConfusion (h.symm.trans hb)
  · refine ⟨_, congrArg Host.Outcome.next (if_pos ⟨hr, hb⟩), ?_⟩
    exact if_pos hm

/-- Settles O47: the late part of a roll check, service hours, temperature and the die bridge. -/
theorem selfTestServiceAndBridge : Obligations.SelfTestServiceAndBridge := ⟨selfTestAndServiceHours, temperatureAndBridge⟩

end Sys2Proof.Machine
end
